-- ==== Sys2Proof/Word.lean ====
section
/-! DEFINITION. The word types of the part: bytes and the 32- and 64-bit words that registers, commands and
ports hold (00 R9, R13; 08 R239). -/

namespace Sys2Proof

/-- A byte (00 R9). -/
abbrev Byte := BitVec 8

/-- A 32-bit register or field. -/
abbrev W32 := BitVec 32

/-- A 64-bit register, port value or operand (00 R13). -/
abbrev W64 := BitVec 64

end Sys2Proof
end

