-- ==== Sys2Proof/Syntax.lean ====
section
/-! DEFINITION. The commands of the block (Instr) and the shapes of their operands. A command is one step of the
part or one arrival from outside; its operands are what the outside supplies with it: which instance is meant,
what a read returned, at what device time a time limit passed. -/

namespace Sys2Proof

/-- How one access can fail (Table 10.4, values 0x01 to 0x10, and the NVMe rows of Table 03.4). -/
inductive AccFail where
  | ats | hostAbort | hostTimeout | poisoned | uncorrectable | extent | unpopulated | farInvalid | farRight | key
  | farUr | farCa | memError | unavailable | farTimeout | fifo | media | nvmeStatus | nvmeTimeout
deriving DecidableEq, Repr

/-- What the writes of records that a command causes meet: a completion record write and a status record write
(06 R206, R212). `none` is a write that succeeds. -/
structure Wr where
  comp : Option AccFail := none
  status : Option AccFail := none
deriving DecidableEq, Repr

/-- What a poll or chase read returned (06 R198). Of a ring in local placement the byte is the HBM's. -/
inductive ReadByte where
  | ok (b : Byte)
  | fail (why : AccFail)
deriving DecidableEq, Repr

/-- What an entry read returned (06 R198). Of a ring in local placement the bytes are the HBM's. -/
inductive ReadBytes where
  | ok (bs : List Byte)
  | fail (why : AccFail)
deriving DecidableEq, Repr

/-- What a read of a context record, or of a translation leaf, found (05 R156, 12 R362). -/
inductive RecordRead where
  | good                -- no error
  | bad                 -- an uncorrectable error; the other copy is good
  | shadowBad           -- an uncorrectable error in the shadow entry alone
  | lost (owned : Bool) -- both copies are uncorrectable; `owned`: the lodge names the owner
deriving DecidableEq, Repr

/-- What an admin command's own memory accesses met (07 R219 ADDRESS): the HOST bytes it read, or a failure. -/
structure AdminRead where
  host : List Byte := []
  fail : Bool := false
deriving DecidableEq, Repr

/-- What the NVMe controller answered to the Identify commands of ATTACH-NAMESPACE (07 R233, 12 R368). -/
inductive IdentifyAnswer where
  | silent
  | inactive
  | ok (blocks blockSize metadata : Nat) (conventional : Bool)
deriving DecidableEq, Repr

/-- The tag of a context's request: the context and the bib it had (05 R162, R175). -/
structure CtxTag where
  ctx : Nat
  bib : Byte
deriving DecidableEq, Repr

/-- A write of a function's power register: the state, and PME_En (06 R214). -/
structure PowerWrite where
  d0 : Bool
  pmeEn : Bool
deriving DecidableEq, Repr

/-- The answer to one outstanding access: data, or a failure of a read or of a write (03 R86); a translation may let a command
read and not write. -/
inductive Answer where
  | data (bs : List Byte)
  | fail (why : AccFail) (write : Bool)
deriving DecidableEq, Repr

/-- Who has requests outstanding: a context's command, a ring channel or a register channel of a mover. -/
inductive Requester where
  | ctx (n : Nat)
  | ring (blk m c : Nat)
  | reg (blk m j : Nat)
deriving DecidableEq, Repr

/-- One register access: by the host in the control window of a function (06 R185), or by a supervisor core at an
address of the supervisor data address map (Table 09.3). -/
inductive RegAccess where
  | host (fn off width : Nat) (v : W64)
  | supervisor (addr width : Nat) (v : W64)
deriving DecidableEq, Repr

/-- An access through the local memory window (06 R192, Table 06.1). -/
inductive LmwOp where
  | read (n : Nat)
  | write (bs : List Byte)
  | fetchAdd (size : Nat) (v : Nat)
  | swap (size : Nat) (v : Nat)
  | cas (size : Nat) (cmp new : Nat)
deriving DecidableEq, Repr

/-- Which mask the host cleared, or that it set MSI-X Enable (06 R213). -/
inductive MaskClear where
  | vector (v : Nat)
  | function
  | enable
deriving DecidableEq, Repr

/-- Why a context with a program migrates (05 R172). -/
inductive MigrateWhy where
  | balance | retirement | substitution
deriving DecidableEq, Repr

/-- One issued Yaquelux word: the instruction word and the two words after it, as the fetch returned them
(08 R239 to R242). `fetched` is false when the fetch met an uncorrectable error (13 R381). -/
structure IWord where
  word : W64
  lit0 : W64 := 0
  lit1 : W64 := 0
  fetched : Bool := true
deriving DecidableEq, Repr

/-- A consumer of deliveries (Table 11.6): a view bit, or a register channel. Views: of block `blk`, view index
0 to 5 (11 R343); of RS[i] of a region; of CS[j]. -/
inductive Consumer where
  | blkView (blk i b : Nat)
  | rsView (region i b : Nat)
  | csView (j b : Nat)
  | rc (blk m j : Nat)
deriving DecidableEq, Repr

/-- What training found on a link (12 R358, R359, Tables 12.3 to 12.5). -/
structure Training where
  partnerCxl : Bool
  rate : Nat
  width : Nat
  retimers : Nat := 0
  vendor : BitVec 16 := 0
  device : BitVec 16 := 0
  kind : Nat
  dcd : Bool := false
  mld : Bool := false
  mh : Bool := false
  flit256 : Bool := false
  pMaxRate : Nat := 7
  pMaxWidth : Nat := 8
  loss : Byte := 0
  ctrls : List (Nat × Nat × Nat) := []  -- NVMe controllers found: routing id, largest transfer in bytes, queue pairs
deriving DecidableEq, Repr

/-- The AER message kinds of a fabric link (Table 13.8, FABRIC-ERROR). -/
inductive AerKind where
  | cor | nonfatal | fatal
deriving DecidableEq, Repr

/-- The status of an NVMe completion (Table 03.4). `code` is the whole status field. -/
inductive NvmeStatus where
  | success
  | media (code : BitVec 16)
  | other (code : BitVec 16)
deriving DecidableEq, Repr

/-- Why a controller stops serving (12 R368). -/
inductive CtrlFail where
  | fatal | notReady | removed
deriving DecidableEq, Repr

/-- What reached the downstream completion timeout (12 R369). -/
inductive Downstream where
  | far (ctx : Nat) (bib : Byte) (addr len : Nat)
  | piece (ctrl cid : Nat)
deriving DecidableEq, Repr

/-- A domain message (Table 12.11). -/
structure DomMsg where
  type : Nat
  sender : Nat
  dest : Nat
  epoch : W32 := 0
  askId : Nat := 0
  members : W32 := 0
deriving DecidableEq, Repr

/-- A first-error capture (Table 13.1): of cell `k` of active slot `slot`, of a block, of a region, of the chip. -/
inductive CapId where
  | cell (region slot k : Nat)
  | block (region slot : Nat)
  | region (r : Nat)
  | chip
deriving DecidableEq, Repr

/-- The error codes of Table 13.8. -/
inductive ErrCode where
  | access | eccCorrected | descBad | fifoReset | fifoMisuse | doubleTrap | sramUncorrectable | hbmUncorrectable
  | ctxRecovered | ctxLost | stuckSource | fttLeaf | cellFault | blockFault | pchRetired | freeze | supervisorFault
  | deviceFault | escalationFatal | fabricCor | fabricUncor
deriving DecidableEq, Repr

/-- One error as it arrives at a capture (13 R375 to R378). -/
structure ErrIn where
  code : ErrCode
  source : Nat
  fn : Option Nat := none
  ctx : Option Nat := none
  space : Nat := 0
  addr : W64 := 0
deriving DecidableEq, Repr

/-- How a management command is carried (14 R398): in plain MCTP, or in an SPDM session. -/
inductive Carrier where
  | mctp
  | session (id : Nat)
  | other
deriving DecidableEq, Repr

/-- The steps of a PLDM type 5 firmware update as the device sees them (07 R237, 14 R404, R418). -/
inductive PldmFw where
  | begin
  | chunk (off : Nat) (bs : List Byte)
  | activate (len : Nat) (authentic : Bool) (version : W32)
  | cancel
deriving DecidableEq, Repr

/-- The sensors that PLDM publishes (12 R358, 15 R440, 13 R391). -/
inductive SensorId where
  | temp (i : Nat) | rail (j : Nat) | link (l : Nat) | health | deviceState | powerFault | clock
deriving DecidableEq, Repr

/-- A debug access port request after its frame is received (Table 15.11): address, data, whether parity was good
and whether a reserved bit was set. -/
structure DapFrame where
  addr : Nat := 0
  data : W64 := 0
  parityGood : Bool := true
  reservedZero : Bool := true
deriving DecidableEq, Repr

/-- What brings the device out of Coast or Park (14 R410, R411). -/
inductive WakeTrigger where
  | entry | adminContext | supervisorContext | firing | management | functionD0
deriving DecidableEq, Repr

/-- What begins a cold reset (Table 15.3). -/
inductive ColdWhy where
  | pwrGood | sysRst | recoveryUpdate
deriving DecidableEq, Repr

/-- What a start of the device finds (15 R433, 14 R403): the strap samples, which banks authenticate and with
which versions, the valid copies of the store, reserves that fail their self-test. -/
structure StartUp where
  fpbif : List Nat := []           -- for each FPBIF ball the number of samples, of 16, that read 1
  smbAddr : List Nat := []         -- the same for SMB_ADDR[0..1]
  bankA : Bool := true
  bankB : Bool := false
  versionA : W32 := 0
  versionB : W32 := 0
  badLedgerSlots : List Nat := []  -- ledger slots whose CRC fails
  headerBad : Bool := false        -- the ledger header's CRC fails
  lostReserves : List Nat := []    -- regions whose reserve fails its self-test
deriving DecidableEq, Repr

/-- The regulator's answer to an AVSBus read-back (15 R426). -/
inductive AvsAnswer where
  | ok (mv : Nat)
  | fault
  | silent
deriving DecidableEq, Repr


/-- The commands of the block: one constructor per row of the table of operations and events, in the table's order. -/
inductive Instr where
  /-- START (R37): A START entry taken on an I/O queue starts a program in the named context, or completes with a fault. -/
  | start (fn q slot : Nat) (w : Wr)
  /-- RESUME (R52): A RESUME entry refetches and rechecks the held command of a HELD context and continues the program. -/
  | resume (fn q slot : Nat) (w : Wr)
  /-- HALT (R63): A HALT entry ends the program at the next command boundary with ATTENTION, or at once from QUEUED or HELD. -/
  | halt (fn q slot : Nat) (w : Wr)
  /-- HALT_SUSPEND (R63): A HALT entry with the SUSPEND kind flag makes the context HELD with qualifier 0x11 at the next command boundary. -/
  | haltSuspend (fn q slot : Nat) (w : Wr)
  /-- CLEAR (R65): A CLEAR entry abandons the program at once through the CLEAR sequence and writes both completions. -/
  | clear (fn q slot : Nat) (w : Wr)
  /-- SENSE (R64): A SENSE entry copies the context status word into its completion record. -/
  | sense (fn q slot : Nat) (w : Wr)
  /-- WRAP (R199): A WRAP entry fills the ring to its end and completes at once. -/
  | wrap (fn q slot : Nat) (w : Wr)
  /-- ENTRY_NOP (R195): A NOP entry does nothing and completes. -/
  | entryNop (fn q slot : Nat) (w : Wr)
  /-- QUEUE_POLL (R201): The poll interval of a queue expires and the groomer reads the 64-byte block that holds slot f. -/
  | queuePoll (fn q t : Nat)
  /-- POLL_READ_COMPLETE (R198): A poll or chase read returns; if byte 0 shows OWN 1 and the expected parity the groomer reads the whole entry, and a failed read freezes the function. -/
  | pollReadComplete (fn q : Nat) (r : ReadByte)
  /-- ENTRY_READ_COMPLETE (R198): The entry read returns; the groomer checks its structure, advances the fetch index and forwards the entry in ring order. -/
  | entryReadComplete (fn q : Nat) (r : ReadBytes) (w : Wr)
  /-- FREEZE_FINISH (R209): After the last FROZEN record the device posts FUNCTION-ERROR to status ring 0 and sends the FN_ERR_VEC message. -/
  | freezeFinish (fn : Nat) (w : Wr)
  /-- DISPATCH_TURN (R168): The sequencer gives a dispatch turn to a ready context under the two-class round robin. -/
  | dispatchTurn (blk : Nat)
  /-- LODGE_FILL_COMPLETE (R158): A mover register channel finishes reading a context record into the lodge and the context can be dispatched. -/
  | lodgeFillComplete (ctx : Nat) (r : RecordRead) (w : Wr)
  /-- DEMAND_FETCH_COMPLETE (R39): A 32-byte command fetch returns; the sequencer checks the command and its joins and executes it, suspends on HOLD, or ends the program on failure. -/
  | demandFetchComplete (ctx : Nat) (w : Wr)
  /-- READ_AHEAD_COMPLETE (R39): A read-ahead of up to 8 commands returns; a failed read-ahead has no effect. -/
  | readAheadComplete (ctx n : Nat)
  /-- DESCRIPTOR_READ_COMPLETE (R80): The descriptor of a CONT chain head is read once and checked before any request for A or B. -/
  | descriptorReadComplete (ctx : Nat) (w : Wr)
  /-- MOVE (R89): MOVE copies COUNT bytes from A to B over the schuss path. -/
  | move (ctx : Nat) (w : Wr)
  /-- FILL (R90): FILL writes COUNT bytes at B repeating a pattern of w bytes from C. -/
  | fill (ctx : Nat) (w : Wr)
  /-- COMPARE (R91): COMPARE compares bytes of A with B or with C and sets CMP_EQ, stopping at the first difference. -/
  | compare (ctx : Nat) (w : Wr)
  /-- DIGEST (R93): DIGEST computes CRC-32C, CRC-64 or TH64 over A, writes it at B and may set DIGEST_MATCH. -/
  | digest (ctx : Nat) (w : Wr)
  /-- SIEVE (R94): SIEVE streams the records of A through a sieve program and delivers survivors to B in the selected form. -/
  | sieve (ctx : Nat) (w : Wr)
  /-- SIEVE_MAP (R98): SIEVE-MAP decides each run from its piste map entry and sieves only the runs it reads. -/
  | sieveMap (ctx : Nat) (w : Wr)
  /-- SHRED (R99): SHRED splits the rows of A into the column arrays of a column area. -/
  | shred (ctx : Nat) (w : Wr)
  /-- WEAVE (R99): WEAVE joins column arrays into rows at B. -/
  | weave (ctx : Nat) (w : Wr)
  /-- SLICE (R100): SLICE transposes integers into bit-planes. -/
  | slice (ctx : Nat) (w : Wr)
  /-- UNSLICE (R100): UNSLICE transposes bit-planes back into integer containers. -/
  | unslice (ctx : Nat) (w : Wr)
  /-- FOLD (R102): FOLD partitions records into 2^b buckets through bucket buffers and flushes them to bucket regions. -/
  | fold (ctx : Nat) (w : Wr)
  /-- ATOMIC_CAS (R104): ATOMIC CAS replaces A with OPERAND2 when A equals OPERAND1 and returns the old value. -/
  | atomicCas (ctx : Nat) (w : Wr)
  /-- ATOMIC_FETCH_ADD (R104): ATOMIC FETCH-ADD adds OPERAND2 to A and returns the old value. -/
  | atomicFetchAdd (ctx : Nat) (w : Wr)
  /-- ATOMIC_SWAP (R104): ATOMIC SWAP sets A to OPERAND2 and returns the old value. -/
  | atomicSwap (ctx : Nat) (w : Wr)
  /-- NVM_READ (R107): NVM-READ reads COUNT logical blocks of a namespace into B. -/
  | nvmRead (ctx : Nat) (w : Wr)
  /-- NVM_WRITE (R107): NVM-WRITE WRITE writes COUNT logical blocks from A to the namespace. -/
  | nvmWrite (ctx : Nat) (w : Wr)
  /-- NVM_WRITE_FUA (R107): NVM-WRITE WRITE-FUA writes blocks with Force Unit Access. -/
  | nvmWriteFua (ctx : Nat) (w : Wr)
  /-- NVM_FLUSH (R107): NVM-WRITE FLUSH flushes the namespace. -/
  | nvmFlush (ctx : Nat) (w : Wr)
  /-- NVM_DEALLOCATE (R107): NVM-WRITE DEALLOCATE deallocates COUNT blocks from B. -/
  | nvmDeallocate (ctx : Nat) (w : Wr)
  /-- NVM_PASS (R110): NVM-PASS sends a caller-built NVMe command and writes back its CQE. -/
  | nvmPass (ctx : Nat) (w : Wr)
  /-- JUMP (R111): JUMP checks its target and passes control to A when its condition holds. -/
  | jump (ctx : Nat) (w : Wr)
  /-- CALL (R57): CALL pushes its return address and passes control to A. -/
  | call (ctx : Nat) (w : Wr)
  /-- RETURN (R57): RETURN pops the call stack and passes control to the popped address. -/
  | ret (ctx : Nat) (w : Wr)
  /-- WAIT (R114): WAIT samples an event flag and waits for it or for a time. -/
  | wait (ctx : Nat) (w : Wr)
  /-- WAIT_TIMEOUT (R114): The time of a timed WAIT expires and the WAIT ends. -/
  | waitTimeout (ctx t : Nat) (w : Wr)
  /-- SIGNAL (R115): SIGNAL fires an event channel once every earlier write has arrived. -/
  | signal (ctx : Nat) (w : Wr)
  /-- POST (R116): POST posts a POST record with a value and tag to a status ring. -/
  | post (ctx : Nat) (w : Wr)
  /-- FENCE (R117): FENCE completes when every earlier write has arrived. -/
  | fence (ctx : Nat) (w : Wr)
  /-- FINISH (R373): FINISH takes the snapshot of writes tagged E or earlier and sends ASK to the domain. -/
  | finish (ctx : Nat) (w : Wr)
  /-- FINISH_COMPLETE (R373): When the snapshot writes have arrived and the waiting set is empty FINISH completes with DONE or MEMBER-LOST and EC may advance. -/
  | finishComplete (ctx : Nat) (w : Wr)
  /-- EPOCH (R118): EPOCH sets the context's epoch tag for later FAR writes. -/
  | epoch (ctx : Nat) (w : Wr)
  /-- NOP (R121): The NOP channel command does nothing. -/
  | nop (ctx : Nat) (w : Wr)
  /-- CREATE_QUEUE (R224): Admin CREATE-QUEUE creates an I/O queue and returns its index and chip-wide id. -/
  | createQueue (fn slot : Nat) (w : Wr)
  /-- SET_QUEUE_INTERVAL (R225): Admin SET-QUEUE-INTERVAL changes a queue's poll interval under the poll budget. -/
  | setQueueInterval (fn slot : Nat) (w : Wr)
  /-- DESTROY_QUEUE (R226): Admin DESTROY-QUEUE forgets an idle queue or is refused with BUSY. -/
  | destroyQueue (fn slot : Nat) (w : Wr)
  /-- CREATE_STATUS_RING (R224): Admin CREATE-STATUS-RING creates a status ring and returns its index. -/
  | createStatusRing (fn slot : Nat) (w : Wr)
  /-- DESTROY_STATUS_RING (R226): Admin DESTROY-STATUS-RING destroys an unbound status ring. -/
  | destroyStatusRing (fn slot : Nat) (w : Wr)
  /-- ALLOT_CONTEXTS (R163): Admin ALLOT-CONTEXTS allots a range of FREE contexts to a function. -/
  | allotContexts (fn slot : Nat) (w : Wr)
  /-- RELEASE_CONTEXTS (R163): Admin RELEASE-CONTEXTS returns IDLE contexts to FREE. -/
  | releaseContexts (fn slot : Nat) (w : Wr)
  /-- PIN_CONTEXT (R167): Admin PIN-CONTEXT sets an IDLE context's home and PINNED. -/
  | pinContext (fn slot : Nat) (w : Wr)
  /-- UNPIN_CONTEXT (R167): Admin UNPIN-CONTEXT clears PINNED. -/
  | unpinContext (fn slot : Nat) (w : Wr)
  /-- SET_BUDGET (R227): Admin SET-BUDGET sets a context's runaway budget. -/
  | setBudget (fn slot : Nat) (w : Wr)
  /-- SET_KEYS (R227): Admin SET-KEYS sets the 16 keys of an IDLE context. -/
  | setKeys (fn slot : Nat) (w : Wr)
  /-- QUERY_CONTEXT (R228): Admin QUERY-CONTEXT returns the status word and record fields of a context. -/
  | queryContext (fn slot : Nat) (w : Wr)
  /-- LOAD_SIEVE (R229): Admin LOAD-SIEVE reads, verifies and installs a sieve program image and returns a handle. -/
  | loadSieve (fn slot : Nat) (r : AdminRead) (w : Wr)
  /-- UNLOAD_SIEVE (R229): Admin UNLOAD-SIEVE makes every later HANDLE check of the handle fail. -/
  | unloadSieve (fn slot : Nat) (w : Wr)
  /-- UNLOAD_SIEVE_COMPLETE (R229): When no command with the handle remains in flight UNLOAD-SIEVE completes and frees the handle. -/
  | unloadSieveComplete (fn slot : Nat) (w : Wr)
  /-- SET_EXTENT (R230): Admin SET-EXTENT sets a function's local extent. -/
  | setExtent (fn slot : Nat) (w : Wr)
  /-- WRITE_FTT (R231): Admin WRITE-FTT writes far translation entries and completes after invalidation and drain. -/
  | writeFtt (fn slot : Nat) (r : AdminRead) (w : Wr)
  /-- SET_INTERLEAVE (R230): Admin SET-INTERLEAVE defines or removes an interleave set. -/
  | setInterleave (fn slot : Nat) (w : Wr)
  /-- SET_FAR_TIMEOUT (R230): Admin SET-FAR-TIMEOUT sets the downstream completion timeout. -/
  | setFarTimeout (fn slot : Nat) (w : Wr)
  /-- GRANT_EVENTS (R232): Admin GRANT-EVENTS makes a function the owner of event channels. -/
  | grantEvents (fn slot : Nat) (w : Wr)
  /-- REVOKE_EVENTS (R232): Admin REVOKE-EVENTS returns event channels to FN[0]. -/
  | revokeEvents (fn slot : Nat) (w : Wr)
  /-- BIND_EVENT (R232): Admin BIND-EVENT routes a channel to a channel or a vector. -/
  | bindEvent (fn slot : Nat) (w : Wr)
  /-- UNBIND_EVENT (R232): Admin UNBIND-EVENT removes a binding. -/
  | unbindEvent (fn slot : Nat) (w : Wr)
  /-- SET_MODERATION (R232): Admin SET-MODERATION writes a vector's hold-off and threshold. -/
  | setModeration (fn slot : Nat) (w : Wr)
  /-- SET_VF_VECTORS (R232): Admin SET-VF-VECTORS sets a virtual function's vector count while VF Enable is 0. -/
  | setVfVectors (fn slot : Nat) (w : Wr)
  /-- RESET_VF (R215): Admin RESET-VF runs the FLR sequence for a virtual function. -/
  | resetVf (fn slot : Nat) (w : Wr)
  /-- ATTACH_NAMESPACE (R233): Admin ATTACH-NAMESPACE attaches an NVMe namespace and returns a handle, size and block size. -/
  | attachNamespace (fn slot : Nat) (r : IdentifyAnswer) (w : Wr)
  /-- DETACH_NAMESPACE (R233): Admin DETACH-NAMESPACE makes later NVM-NS checks of the handle fail. -/
  | detachNamespace (fn slot : Nat) (w : Wr)
  /-- DETACH_NAMESPACE_COMPLETE (R233): When no command naming the handle remains in flight DETACH-NAMESPACE completes. -/
  | detachNamespaceComplete (fn slot : Nat) (w : Wr)
  /-- SET_NVM_POLICY (R233): Admin SET-NVM-POLICY writes a function's NVM-PASS opcode mask. -/
  | setNvmPolicy (fn slot : Nat) (w : Wr)
  /-- SET_DOMAIN (R234): Admin SET-DOMAIN joins, reconfigures or leaves the domain. -/
  | setDomain (fn slot : Nat) (w : Wr)
  /-- IDENTIFY (R235): Admin IDENTIFY writes the 4,096-byte identity structure. -/
  | identify (fn slot : Nat) (r : AdminRead) (w : Wr)
  /-- GET_HEALTH (R236): Admin GET-HEALTH returns HEALTH and the retirement, repair and ledger counts. -/
  | getHealth (fn slot : Nat) (w : Wr)
  /-- FW_STAGE (R237): Admin FW-STAGE writes a chunk of firmware into the inactive bank. -/
  | fwStage (fn slot : Nat) (r : AdminRead) (w : Wr)
  /-- FW_COMMIT (R237): Admin FW-COMMIT authenticates the inactive bank and marks it to boot. -/
  | fwCommit (fn slot : Nat) (authentic : Bool) (version : W32) (w : Wr)
  /-- AQ_CREATE (R188): A write of AQ_CTRL.CREATE creates the admin queue and reports the result in AQ_STATUS. -/
  | aqCreate (fn : Nat) (v : W32)
  /-- SR_HEAD_WRITE (R189): A write of SR_HEAD returns status records to the device, or is refused. -/
  | srHeadWrite (fn n : Nat) (v : W32)
  /-- REGISTER_WRITE (R10): A write to a register without a row of its own stores the value or is refused and logged. -/
  | registerWrite (a : RegAccess)
  /-- LMW_ACCESS (R192): A host access through the local memory window reads, writes or performs an AtomicOp on LOCAL space, or is denied. -/
  | lmwAccess (off : Nat) (op : LmwOp)
  /-- LMW_DENIED_READ (R187): A read of LMW_DENIED returns and clears the denied count. -/
  | lmwDeniedRead
  /-- BAR_RESIZE (R187): A resize of BAR index 2 of FN[0] sets LMW_BASE to 0. -/
  | barResize (logGiB : Nat)
  /-- FLR (R215): Function level reset runs the FLR sequence on a function. -/
  | flr (fn : Nat)
  /-- VF_ENABLE_CLEAR (R182): Clearing VF Enable takes every virtual function through the FLR sequence. -/
  | vfEnableClear
  /-- VF_ENABLE_SET (R182): Setting VF Enable creates the virtual functions and restores their kept grants. -/
  | vfEnableSet (numVfs : Nat)
  /-- D_STATE_CHANGE (R180): A function's power state changes; entering D0 releases waiting requests, writes and messages. -/
  | dStateChange (fn : Nat) (pm : PowerWrite) (w : Wr)
  /-- BUS_MASTER_ENABLE_CHANGE (R180): A change of Bus Master Enable stops or releases the function's host requests. -/
  | busMasterEnableChange (fn : Nat) (on : Bool) (w : Wr)
  /-- MSIX_MASK_CLEAR (R213): Clearing a vector mask, function mask or setting MSI-X Enable sends the pending messages. -/
  | msixMaskClear (fn : Nat) (which : MaskClear)
  /-- PME_STATUS_CLEAR (R214): The host clears PME_Status while messages wait and the device sends PM_PME again. -/
  | pmeStatusClear (fn : Nat)
  /-- PME_TIMEOUT (R214): The PME timeout passes with PME_Status still 1 and PM_PME is sent again. -/
  | pmeTimeout (fn : Nat)
  /-- MODERATION_HOLDOFF_EXPIRY (R213): A vector's hold-off timer expires and its message becomes due. -/
  | moderationHoldoffExpiry (fn v t : Nat)
  /-- HOST_COMPLETION_TIMEOUT (R62): A non-posted host link request reaches its completion timeout and the access ends with TIMEOUT. -/
  | hostCompletionTimeout (tag : CtxTag) (addr len : Nat)
  /-- HOST_COMPLETION (R86): A host link completion arrives for a device read, possibly with UR, CA or poison. -/
  | hostCompletion (tag : CtxTag) (addr : Nat) (r : Answer)
  /-- ATS_INVALIDATE (R179): An ATS invalidate request from the host is received and answered. -/
  | atsInvalidate (fn : Nat)
  /-- TDISP_LOCK_INTERFACE (R396): LOCK_INTERFACE locks a TDI or is refused by life-cycle state and debug level. -/
  | tdispLockInterface (fn : Nat)
  /-- TDISP_STOP_INTERFACE (R179): STOP_INTERFACE acts on the function as an FLR. -/
  | tdispStopInterface (fn : Nat)
  /-- TDI_ERROR (R179): A TDI entering ERROR or its IDE stream becoming Insecure freezes the function with TDI-ERROR. -/
  | tdiError (fn : Nat)
  /-- GET_MEASUREMENTS (R401): SPDM GET_MEASUREMENTS returns the measurement blocks. -/
  | getMeasurements (session : Nat) (signed : Bool)
  /-- GET_CERTIFICATE (R400): SPDM GET_CERTIFICATE returns slot 0, or an error in BLANK and RETIRED. -/
  | getCertificate (session slot : Nat)
  /-- CHALLENGE (R400): SPDM CHALLENGE is answered with an Alias-key signature. -/
  | challenge (session slot : Nat)
  /-- KEY_EXCHANGE (R400): SPDM KEY_EXCHANGE opens a secured session. -/
  | keyExchange (session : Nat) (mgmt : Bool)
  /-- DESCRIPTOR_NOTICE (R305): A mover reads the slot named by a sequencer notice and queues or acts on the descriptor. -/
  | descriptorNotice (blk m c slot : Nat)
  /-- MOVER_UNIT_START (R307): At a completion point the mover chooses and starts the next descriptor or register-channel unit. -/
  | moverUnitStart (blk m : Nat)
  /-- COPY (R316): A COPY descriptor copies bytes over the schuss path. -/
  | copy (blk m c : Nat)
  /-- DEAL (R318): A DEAL descriptor deals source elements into k lanes. -/
  | deal (blk m c : Nat)
  /-- MERGE (R318): A MERGE descriptor merges k lanes into one sequence. -/
  | merge (blk m c : Nat)
  /-- PLANES (R318): A PLANES descriptor writes integer bits into bit-planes. -/
  | planes (blk m c : Nat)
  /-- UNPLANES (R318): An UNPLANES descriptor rebuilds integer containers from bit-planes. -/
  | unplanes (blk m c : Nat)
  /-- DESC_FILL (R303): A FILL descriptor writes a repeated pattern. -/
  | descFill (blk m c : Nat)
  /-- DESC_READ (R303): A READ descriptor reads bytes without writing. -/
  | descRead (blk m c : Nat)
  /-- BIND (R304): A BIND descriptor binds the ring channel to a context. -/
  | bindChan (blk m c : Nat)
  /-- STOP (R309): A STOP descriptor discards unstarted descriptors at the next boundary. -/
  | stopChan (blk m c slot : Nat)
  /-- CUT (R310): A CUT descriptor stops the running descriptor and lets outstanding requests complete. -/
  | cutChan (blk m c slot : Nat)
  /-- ABORT (R310): An ABORT descriptor stops the running descriptor and abandons its reads. -/
  | abortChan (blk m c slot : Nat)
  /-- MOVER_READ_RESPONSE (R311): A read response reaches a mover; its data is delivered, or a failure or stale bib ends or discards it. -/
  | moverReadResponse (who : Requester) (bib : Byte) (addr : Nat) (r : Answer)
  /-- READ_BACK_COMPLETE (R321): A read-back of the last address written completes and establishes arrival. -/
  | readBackComplete (who : Requester) (fail : Option AccFail) (w : Wr)
  /-- RC_START (R324): A write of RC_CTRL.START starts a register-channel transfer. -/
  | rcStart (blk m j : Nat) (v : W64)
  /-- RC_STOP (R325): A write of RC_CTRL.STOP stops a register channel at its next boundary. -/
  | rcStop (blk m j : Nat)
  /-- RC_TRANSFER_END (R324): A register-channel transfer ends, writes RC_STATUS and may fire DONE_EV. -/
  | rcTransferEnd (blk m j : Nat) (fail : Option AccFail)
  /-- RCH_STAT_READ (R327): A read of RCH_STAT returns and clears ABANDONED. -/
  | rchStatRead (blk m c : Nat)
  /-- FIFO_ITEM_WRITE (R329): A producer writes a word into a stream or control FIFO, or overruns it. -/
  | fifoItemWrite (blk f : Nat) (data : List Byte) (last : Bool)
  /-- FIFO_ITEM_READ (R329): A consumer reads committed words from a FIFO, or underruns it. -/
  | fifoItemRead (blk f n : Nat)
  /-- FIFO_POINTER_MISMATCH (R331): Duplicated FIFO pointers disagree and the FIFO is reset with CONTROL-CHECK endings. -/
  | fifoPointerMismatch (blk f : Nat) (w : Wr)
  /-- FH_STAT_READ (R332): A register read of FH_STAT returns and clears CROSSINGS. -/
  | fhStatRead (blk f : Nat)
  /-- SIEVE_INIT (R292): The SV arbiter resets the core, opens windows and issues INIT of a sieve program. -/
  | sieveInit (core handle : Nat) (param : BitVec 16)
  /-- RECORD_PRESENT (R292): The SV arbiter restores the record start state and issues RECORD for the next record. -/
  | recordPresent (core : Nat) (ordinal : Nat) (budget : Nat) (data : List Byte)
  /-- SV_BUDGET_TRAP (R127): A record reaches its cycle budget without a verdict and traps with BUDGET. -/
  | svBudgetTrap (core : Nat)
  /-- IMAGE_LOAD_COMPLETE (R299): An SV cell finishes loading a sieve image into an image slot. -/
  | imageLoadComplete (core handle : Nat)
  /-- MAP_ENTRY_READ_COMPLETE (R135): A piste map entry arrives and the run is decided READ or SKIP. -/
  | mapEntryReadComplete (ctx : Nat)
  /-- FTT_WALK_COMPLETE (R362): A far translation cache walk of a leaf returns and the translation is checked. -/
  | fttWalkComplete (region fn : Nat) (page1g : Bool) (page : Nat) (r : RecordRead)
  /-- LOAD_BALANCE_SAMPLE (R177): Every 1 ms Scepica samples block loads and moves unpinned contexts. -/
  | loadBalanceSample (region t : Nat)
  /-- MIGRATION_POINT (R173): A migrating context reaches its migration point and the old placement drains and writes the record. -/
  | migrationPoint (ctx : Nat) (region slot : Nat) (why : MigrateWhy)
  /-- MIGRATION_ARRIVAL (R173): The new sequencer lodges the migrated context and restarts it. -/
  | migrationArrival (ctx : Nat) (w : Wr)
  /-- SUBSTITUTION_TIMEOUT (R172): 1 ms after a substitution starts, contexts without a boundary take an interrupting migration. -/
  | substitutionTimeout (region t : Nat)
  /-- SUBSTITUTION_END (R178): The replaced block holds no context and is powered down. -/
  | substitutionEnd (region : Nat)
  /-- PC_JUMP (R263): A move to PC.t_jump jumps. -/
  | pcJump (core : Nat) (i : IWord)
  /-- PC_CALL (R263): A move to PC.t_call pushes the return address and jumps. -/
  | pcCall (core : Nat) (i : IWord)
  /-- PC_RET (R263): A move to PC.t_ret jumps to a CODE value. -/
  | pcRet (core : Nat) (i : IWord)
  /-- PC_RTI (R273): A move to PC.t_rti leaves a handler by RETRY, NEXT or EMULATE, or tail-chains. -/
  | pcRti (core : Nat) (i : IWord)
  /-- FLG_NZCV (R244): A write of FLG.nzcv sets the four flags. -/
  | flgNzcv (core : Nat) (i : IWord)
  /-- FLG_TEST (R246): A write of FLG.t_test sets N and Z from the value. -/
  | flgTest (core : Nat) (i : IWord)
  /-- TRAP_SOFT (R246): A write of TRAP.t_soft traps with cause SOFT. -/
  | trapSoft (core : Nat) (i : IWord)
  /-- CTL_WAIT (R280): A write of CTL.t_wait puts the core to sleep. -/
  | ctlWait (core : Nat) (i : IWord)
  /-- TAG_GET (R246): A write of TAG.t_get places the value's tag number in TAG.out. -/
  | tagGet (core : Nat) (i : IWord)
  /-- TAG_SET (R251): A write of TAG.t_set gives the value the tag in TAG.sel. -/
  | tagSet (core : Nat) (i : IWord)
  /-- LSU_LOAD (R261): A write of LSU.t_ld loads through a window. -/
  | lsuLoad (core : Nat) (i : IWord)
  /-- LSU_STORE (R261): A write of LSU.t_st stores through a window. -/
  | lsuStore (core : Nat) (i : IWord)
  /-- BND_CHECK (R264): A write of BND.t_check checks the value against BND.limit. -/
  | bndCheck (core : Nat) (i : IWord)
  /-- DS_PUSH (R265): A write of DS.push pushes onto the data stack. -/
  | dsPush (core : Nat) (i : IWord)
  /-- DS_POP (R265): A read of DS.pop pops the data stack. -/
  | dsPop (core : Nat) (i : IWord)
  /-- RET_PUSH (R266): A write of RET.push pushes onto the return stack. -/
  | retPush (core : Nat) (i : IWord)
  /-- RET_POP (R266): A read of RET.pop pops the return stack. -/
  | retPop (core : Nat) (i : IWord)
  /-- RET_BOTTOM (R266): A read of RET.bottom removes the oldest hardware entry. -/
  | retBottom (core : Nat) (i : IWord)
  /-- RET_T_FILL (R266): A write of RET.t_fill inserts an entry below the oldest hardware entry. -/
  | retTFill (core : Nat) (i : IWord)
  /-- WIN_OPEN (R259): A write of WIN.t_open opens a window with the staged base, length and attributes. -/
  | winOpen (core : Nat) (i : IWord)
  /-- WIN_CLOSE (R259): A write of WIN.t_close closes a window. -/
  | winClose (core : Nat) (i : IWord)
  /-- ALU_ADD (R254): ALU t_add adds A and B. -/
  | aluAdd (core : Nat) (i : IWord)
  /-- ALU_SUB (R254): ALU t_sub subtracts B from A. -/
  | aluSub (core : Nat) (i : IWord)
  /-- ALU_CMP (R254): ALU t_cmp sets the flags of A minus B. -/
  | aluCmp (core : Nat) (i : IWord)
  /-- ALU_NEG (R254): ALU t_neg negates B. -/
  | aluNeg (core : Nat) (i : IWord)
  /-- ALU_AND (R254): ALU t_and computes A AND B. -/
  | aluAnd (core : Nat) (i : IWord)
  /-- ALU_OR (R254): ALU t_or computes A OR B. -/
  | aluOr (core : Nat) (i : IWord)
  /-- ALU_XOR (R254): ALU t_xor computes A XOR B. -/
  | aluXor (core : Nat) (i : IWord)
  /-- ALU_NOT (R254): ALU t_not computes NOT B. -/
  | aluNot (core : Nat) (i : IWord)
  /-- ALU_SHL (R256): ALU t_shl shifts A left by B. -/
  | aluShl (core : Nat) (i : IWord)
  /-- ALU_SHR (R256): ALU t_shr shifts A right logically by B. -/
  | aluShr (core : Nat) (i : IWord)
  /-- ALU_SAR (R256): ALU t_sar shifts A right arithmetically by B. -/
  | aluSar (core : Nat) (i : IWord)
  /-- ALU_ROL (R256): ALU t_rol rotates A left. -/
  | aluRol (core : Nat) (i : IWord)
  /-- ALU_ROR (R256): ALU t_ror rotates A right. -/
  | aluRor (core : Nat) (i : IWord)
  /-- ALU_MULU (R254): ALU t_mulu forms the unsigned 128-bit product. -/
  | aluMulu (core : Nat) (i : IWord)
  /-- ALU_MULS (R254): ALU t_muls forms the signed 128-bit product. -/
  | aluMuls (core : Nat) (i : IWord)
  /-- ALU_DIVU (R257): ALU t_divu divides unsigned. -/
  | aluDivu (core : Nat) (i : IWord)
  /-- ALU_DIVS (R257): ALU t_divs divides signed. -/
  | aluDivs (core : Nat) (i : IWord)
  /-- ALU_SEQ (R254): ALU t_seq tests A equal to B. -/
  | aluSeq (core : Nat) (i : IWord)
  /-- ALU_SLTU (R254): ALU t_sltu tests A below B unsigned. -/
  | aluSltu (core : Nat) (i : IWord)
  /-- ALU_SLTS (R254): ALU t_slts tests A below B signed. -/
  | aluSlts (core : Nat) (i : IWord)
  /-- YQ_PORT_WRITE (R248): A move to a port or register without a row of its own copies the value and tag. -/
  | yqPortWrite (core : Nat) (i : IWord)
  /-- RESULT_LAND (R249): A triggered unit's result lands L issued words after its trigger. -/
  | resultLand (core : Nat)
  /-- INTERRUPT_ENTRY (R277): A presented request above LEVEL is taken at a word boundary and its handler entered. -/
  | interruptEntry (core : Nat) (late : Option Nat)
  /-- SLEEP_DEADLINE (R280): The deadline of a timed sleep passes and the core wakes. -/
  | sleepDeadline (core t : Nat)
  /-- CORE_WAKE (R281): A request or a selected view bit wakes a sleeping core. -/
  | coreWake (core : Nat)
  /-- CELL_BOOT_GO (R290): A write of GO to CELL_BOOT, RS_BOOT or CS_BOOT starts a core at START. -/
  | cellBootGo (a : RegAccess)
  /-- CTX_READ (R288): SQ CTX.t_rd reads a word of a lodged record. -/
  | ctxRead (core : Nat) (i : IWord)
  /-- CTX_WRITE (R288): SQ CTX.t_wr writes a word of a lodged record. -/
  | ctxWrite (core : Nat) (i : IWord)
  /-- CMD_DECODE (R288): SQ CMD.t_dec decodes the last fetched command and gives its check qualifier. -/
  | cmdDecode (core : Nat) (i : IWord)
  /-- FCH_FETCH (R288): SQ FCH.t_fetch issues a demand fetch. -/
  | fchFetch (core : Nat) (i : IWord)
  /-- DSC_POST (R305): SQ DSC.t_post writes a descriptor into a ring and sends a notice. -/
  | dscPost (core : Nat) (i : IWord)
  /-- EVQ_POP (R288): SQ EVQ.pop removes the next control FIFO item. -/
  | evqPop (core : Nat) (i : IWord)
  /-- BEV_FIRE (R335): SQ BEV.t_fire fires an event channel with attribute S. -/
  | bevFire (core : Nat) (i : IWord)
  /-- EVR_SUBSCRIBE (R343): GT EVR.t_sub subscribes a view bit to a channel. -/
  | evrSubscribe (core : Nat) (i : IWord)
  /-- EVR_CLEAR (R342): GT EVR.t_clr clears view bits. -/
  | evrClear (core : Nat) (i : IWord)
  /-- EVR_FIRE (R335): GT EVR.t_fire fires an event channel. -/
  | evrFire (core : Nat) (i : IWord)
  /-- TMR_ARM (R288): GT TMR.t_arm arms a timer. -/
  | tmrArm (core : Nat) (i : IWord)
  /-- TMR_CANCEL (R288): GT TMR.t_cancel disarms a timer. -/
  | tmrCancel (core : Nat) (i : IWord)
  /-- FH_FLUSH (R330): GT FH.t_flush discards a FIFO's contents. -/
  | fhFlush (core : Nat) (i : IWord)
  /-- IRQ_CLAIM_PORT (R350): Supervisor IRQ.claim claims a source as a CLAIM read does. -/
  | irqClaimPort (core : Nat) (i : IWord)
  /-- IRQ_DONE_PORT (R351): Supervisor IRQ.t_done completes a source as a DONE write does. -/
  | irqDonePort (core : Nat) (i : IWord)
  /-- MBX_SEND (R288): Supervisor MBX.t_send appends a value to a mailbox. -/
  | mbxSend (core : Nat) (i : IWord)
  /-- MBX_POP (R288): Supervisor MBX.pop removes the oldest mailbox value. -/
  | mbxPop (core : Nat) (i : IWord)
  /-- LOCK_ACQUIRE (R288): Supervisor LOCK.t_acq tries to take a chip lock. -/
  | lockAcquire (core : Nat) (i : IWord)
  /-- LOCK_RELEASE (R288): Supervisor LOCK.t_rel releases a chip lock. -/
  | lockRelease (core : Nat) (i : IWord)
  /-- REC_WORD (R288): SV REC.t_word loads a 32-byte record word. -/
  | recWord (core : Nat) (i : IWord)
  /-- WCMP_EQ (R288): SV WCMP.t_eq compares a record word with a masked pattern. -/
  | wcmpEq (core : Nat) (i : IWord)
  /-- RNG_U (R288): SV RNG.t_u tests an unsigned key range. -/
  | rngU (core : Nat) (i : IWord)
  /-- RNG_S (R288): SV RNG.t_s tests a signed key range. -/
  | rngS (core : Nat) (i : IWord)
  /-- HSH_MIX (R288): SV HSH.t_mix performs one TH64 loop step. -/
  | hshMix (core : Nat) (i : IWord)
  /-- HSH_FIN (R288): SV HSH.t_fin performs the TH64 final steps. -/
  | hshFin (core : Nat) (i : IWord)
  /-- EMT_PUT (R288): SV EMT.t_put appends bytes to the record's emitted bytes. -/
  | emtPut (core : Nat) (i : IWord)
  /-- EMT_COPY (R288): SV EMT.t_copy appends record data bytes to the emitted bytes. -/
  | emtCopy (core : Nat) (i : IWord)
  /-- VRD_VERDICT (R292): SV VRD.t_v gives the record's verdict and ends the record. -/
  | vrdVerdict (core : Nat) (i : IWord)
  /-- VRD_READY (R292): SV VRD.t_ready ends INIT and fixes the record start state. -/
  | vrdReady (core : Nat) (i : IWord)
  /-- A7_FETCH (R298): Emulated AD7100 port A7.t_fetch fetches a 16-byte word. -/
  | a7Fetch (core : Nat) (i : IWord)
  /-- A7_KEEP (R298): Emulated A7.t_keep gives verdict KEEP. -/
  | a7Keep (core : Nat) (i : IWord)
  /-- A7_DROP (R298): Emulated A7.t_drop gives verdict DROP. -/
  | a7Drop (core : Nat) (i : IWord)
  /-- A7_CRC (R298): Emulated A7.t_crc runs 8 bytes through the CRC-32C step. -/
  | a7Crc (core : Nat) (i : IWord)
  /-- EVENT_FIRING_ARRIVAL (R336): A firing arrives at a channel, sets FLAG, ends WAITs, delivers and forwards. -/
  | eventFiringArrival (c k : Nat) (w : Wr)
  /-- VECTOR_FIRING_ARRIVAL (R339): A forwarded firing arrives at an MSI-X vector and counts on its moderation. -/
  | vectorFiringArrival (fn v k : Nat)
  /-- CONSUMER_DELIVERY (R340): A delivery reaches a view bit or register channel, which acts or ignores it as busy. -/
  | consumerDelivery (c : Nat) (who : Consumer)
  /-- BLK_EVT_FIRE (R335): A write of BLK_EVT_FIRE fires a channel with attribute S. -/
  | blkEvtFire (blk : Nat) (v : W32)
  /-- GT_TIMER_EXPIRY (R335): An armed GT timer expires and fires its channel. -/
  | gtTimerExpiry (blk k t : Nat)
  /-- FLAG_CLEAR (R336): A W1C of EVT_CH.FLAG clears the event flag. -/
  | flagClear (c : Nat)
  /-- EVT_BIND_WRITE (R338): A write of EVT_BIND sets a binding or is refused. -/
  | evtBindWrite (c i : Nat) (v : W64)
  /-- EVT_CH_READ (R334): A read of EVT_CH returns and clears its counters. -/
  | evtChRead (c : Nat)
  /-- EVT_CTL_READ (R337): A read of EVT_CTL returns and clears LOOP and COAL. -/
  | evtCtlRead
  /-- SOURCE_EDGE (R345): A controller source input changes and sets PENDING or EXTRA. -/
  | sourceEdge (ctl s : Nat) (level : Bool) (samples t : Nat)
  /-- GROUP_HOLDOFF_EXPIRY (R346): A source group's hold-off ends and its pending sources become eligible. -/
  | groupHoldoffExpiry (ctl g t : Nat)
  /-- STUCK_SOURCE (R347): A LEVEL7100 source high beyond its limit is disabled and marked STUCK. -/
  | stuckSource (ctl s t : Nat)
  /-- CLAIM (R350): A read of CLAIM claims the highest-priority assigned source and pushes it. -/
  | claimRead (ctl tgt : Nat)
  /-- DONE (R351): A write of DONE completes the top source or faults the stack. -/
  | doneWrite (ctl tgt : Nat) (v : W32)
  /-- PEND_SET (R352): A write of PEND_SET sets PENDING by software. -/
  | pendSet (ctl word : Nat) (v : W32)
  /-- PEND_CLR (R352): A write of PEND_CLR clears PENDING and withdraws the assignment. -/
  | pendClr (ctl word : Nat) (v : W32)
  /-- ENABLE_SET (R352): A write of ENABLE_SET enables sources. -/
  | enableSet (ctl word : Nat) (v : W32)
  /-- ENABLE_CLR (R352): A write of ENABLE_CLR disables sources. -/
  | enableClr (ctl word : Nat) (v : W32)
  /-- STACK_FAULT_CLEAR (R351): A W1C of TGT_STACK.FAULT completes every stacked source. -/
  | stackFaultClear (ctl tgt : Nat)
  /-- SRC_CFG_READ (R352): A read of SRC_CFG returns and clears EXTRA. -/
  | srcCfgRead (ctl s : Nat)
  /-- LINK_UP (R365): A fabric link trains up in PCIe or CXL mode and Scepica brings up its devices. -/
  | linkUp (l : Nat) (tr : Training)
  /-- LINK_DOWN (R358): A fabric link goes down and its outstanding requests end UNAVAILABLE. -/
  | linkDown (l : Nat)
  /-- LINK_RETRAIN_TIMER (R358): Every 100 ms a down link retrains. -/
  | linkRetrainTimer (l t : Nat)
  /-- PRESENCE_CHANGE (R434): A filtered FPRSNT_N change asserts the link's presence source. -/
  | presenceChange (l : Nat) (present : Bool)
  /-- FL_STAT_READ (R358): A read of FL_STAT returns and clears its counters. -/
  | flStatRead (l : Nat)
  /-- FL_LANE_READ (R359): A read of FL_LANE returns and clears CORR. -/
  | flLaneRead (l i : Nat)
  /-- FABRIC_ERROR (R377): An AER message received on a fabric link is recorded as FABRIC-ERROR. -/
  | fabricError (l : Nat) (k : AerKind)
  /-- FAR_RESPONSE (R86): A CXL.mem or downstream response arrives, possibly with poison or an error. -/
  | farResponse (tag : CtxTag) (addr : Nat) (r : Answer)
  /-- CXL_EVENT_LOG (R365): A device signals event records, which are posted as ATTENTION records and cleared. -/
  | cxlEventLog (l : Nat) (rid : BitVec 16) (log : Nat) (data : W32) (addr : W64) (w : Wr)
  /-- DC_ADD (R366): A dynamic capacity add event is accepted. -/
  | dcAdd (l : Nat) (rid : BitVec 16) (base len2m : Nat) (w : Wr)
  /-- DC_RELEASE_REQUEST (R366): A dynamic capacity release request is honoured at once or when unmapped. -/
  | dcReleaseRequest (l : Nat) (rid : BitVec 16) (base len2m : Nat) (w : Wr)
  /-- DC_FORCED_RELEASE (R366): A forced release withdraws an extent and its accesses end UNAVAILABLE. -/
  | dcForcedRelease (l : Nat) (rid : BitVec 16) (base len2m : Nat) (w : Wr)
  /-- NVME_ASYNC_EVENT (R367): An NVMe Asynchronous Event completion is posted as an ATTENTION record. -/
  | nvmeAsyncEvent (ctrl : Nat) (data : W32) (w : Wr)
  /-- NVME_COMPLETION (R108): An NVMe completion entry for a command piece arrives. -/
  | nvmeCompletion (ctrl cid : Nat) (status : NvmeStatus) (data : List Byte) (w : Wr)
  /-- NVME_CONTROLLER_FAIL (R368): A controller becomes fatal, not ready or removed; its commands end UNAVAILABLE and it is reset. -/
  | nvmeControllerFail (ctrl : Nat) (why : CtrlFail) (w : Wr)
  /-- DOWNSTREAM_TIMEOUT (R369): A downstream request or NVMe piece reaches its completion timeout and ends with TIMEOUT. -/
  | downstreamTimeout (who : Downstream) (t : Nat) (w : Wr)
  /-- LATE_RESPONSE (R369): A response after expiry is discarded and counted in FL_STAT.LATE. -/
  | lateResponse (l : Nat)
  /-- HELLO_TIMER (R371): Every 1 ms a joined device sends HELLO. -/
  | helloTimer (t : Nat)
  /-- HELLO (R371): A received HELLO makes its sender present or is discarded. -/
  | hello (msg : DomMsg)
  /-- ASK (R373): A received ASK takes a snapshot of own FAR writes tagged E or earlier. -/
  | ask (msg : DomMsg)
  /-- ASK_REPLY_SEND (R373): When the snapshot writes have arrived the member sends REPLY. -/
  | askReplySend (sender askId : Nat)
  /-- REPLY (R373): A received REPLY removes its sender from the waiting set or counts as LATE. -/
  | reply (msg : DomMsg)
  /-- LEAVE (R371): A received LEAVE makes its sender absent. -/
  | leave (msg : DomMsg)
  /-- DOMAIN_TIMEOUT (R371): A member unheard for the domain timeout, or unanswering an ask, becomes absent. -/
  | domainTimeout (member : Nat) (t : Nat)
  /-- DOM_CNT_READ (R374): A read of DOM_CNT returns and clears its counters. -/
  | domCntRead
  /-- ERROR_ARRIVAL (R378): An error arrives at a first-error capture, is recorded or counted, and may escalate. -/
  | errorArrival (at_ : CapId) (errs : List ErrIn)
  /-- ERR_ACK (R378): A W1C of ERR_CAP.VALID acknowledges the captured error. -/
  | errAck (at_ : CapId)
  /-- ERR_CNT_READ (R375): A read of ERR_CNT returns and clears its counts. -/
  | errCntRead (at_ : CapId)
  /-- ROW_REPAIR (R384): Scepica repairs an HBM row with hard post-package repair. -/
  | rowRepair (pch row : Nat) (spare : Bool)
  /-- PCH_RETIREMENT (R384): A failing pseudo-channel is retired and copied into spare capacity. -/
  | pchRetirement (pch : Nat)
  /-- PCH_STAT_READ (R384): A read of PCH_STAT returns and clears CORR and UNCORR. -/
  | pchStatRead (pch : Nat)
  /-- REG_STALE_READ (R385): A read of REG_STALE returns and clears the region's stale count. -/
  | regStaleRead (region : Nat)
  /-- PATROL_SCRUB (R383): The 24 h patrol scrub reads and rewrites every LOCAL word. -/
  | patrolScrub (corrected uncorrectable : List Nat)
  /-- LODGE_SCRUB (R383): Every 10 s sequencers scrub their lodges and GT cells their FIFO storage. -/
  | lodgeScrub (blk : Nat)
  /-- AGING_MEASUREMENT (R392): Every 60 s Scepica measures aging margins and requests a core voltage. -/
  | agingMeasurement (freqs : List (Nat × Nat)) (used : List W32) (mv t : Nat) (w : Wr)
  /-- LEDGER_RETRY (R395): Every 100 ms a queued ledger record is tried again. -/
  | ledgerRetry (t : Nat)
  /-- STORE_COMPLETE (R418): An MRAM store ends and CIC source 963 asserts. -/
  | storeComplete
  /-- STORE_RETRY (R418): Every 100 ms a refused configuration, counter or map store is tried again. -/
  | storeRetry (t : Nat)
  /-- GET_STATE (R398): Management GET-STATE returns SEC_STATE and PWR_STAT. -/
  | getState (carrier : Carrier)
  /-- SET_DEBUG (R406): Management SET-DEBUG sets or lowers the debug level. -/
  | setDebug (carrier : Carrier) (level : Nat)
  /-- PROVISION (R398): Management PROVISION draws and stores the unique device secret. -/
  | provision (carrier : Carrier) (secret publicKey : Nat)
  /-- INSTALL_CERT (R397): Management INSTALL-CERT stores the DeviceID chain and moves to OPEN. -/
  | installCert (carrier : Carrier) (chain : List Byte)
  /-- LOCK (R397): Management LOCK moves the device to LOCKED. -/
  | lockDevice (carrier : Carrier)
  /-- READ_LEDGER (R398): Management READ-LEDGER returns ledger slots. -/
  | readLedger (carrier : Carrier) (slot n : Nat)
  /-- UNLOCK_CHALLENGE (R407): UNLOCK-CHALLENGE returns a nonce for a purpose. -/
  | unlockChallenge (carrier : Carrier) (purpose nonce t : Nat)
  /-- UNLOCK_RESPONSE (R407): UNLOCK-RESPONSE checks the signature and raises the debug level through zeroisation. -/
  | unlockResponse (carrier : Carrier) (nonce : Nat) (sigGood : Bool) (t : Nat)
  /-- RETIRE (R397): Management RETIRE zeroises, erases the identity and moves to RETIRED. -/
  | retire (carrier : Carrier) (nonce : Nat) (sigGood : Bool) (t : Nat)
  /-- ZEROISATION (R408): After every function's contexts have stopped the device erases keys and the tenant area and sets ZEROISED. -/
  | zeroisation
  /-- NONCE_EXPIRY (R407): An unlock nonce expires after 60 s. -/
  | nonceExpiry (nonce t : Nat)
  /-- PLDM_FIRMWARE_UPDATE (R404): A PLDM type 5 update writes firmware into a bank. -/
  | pldmFirmwareUpdate (req : PldmFw)
  /-- PLDM_SENSOR_READ (R440): A PLDM type 2 request returns sensor values. -/
  | pldmSensorRead (id : SensorId)
  /-- MCTP_REASSEMBLY_TIMEOUT (R435): An MCTP message not reassembled within 100 ms is discarded. -/
  | mctpReassemblyTimeout (t : Nat)
  /-- SMBUS_CLOCK_TIMEOUT (R434): SMBus clock low over 25 ms releases the bus and discards the packet. -/
  | smbusClockTimeout (t : Nat)
  /-- DAP_READ (R436): A debug access port READ frame reads a register or memory, or is denied. -/
  | dapRead (f : DapFrame)
  /-- DAP_WRITE (R436): A debug access port WRITE frame writes, or is denied. -/
  | dapWrite (f : DapFrame)
  /-- DAP_STATUS (R436): A debug access port STATUS frame returns SEC_STATE. -/
  | dapStatus (f : DapFrame)
  /-- DAP_FRAME_TIMEOUT (R434): A debug frame not complete within 1 ms is discarded. -/
  | dapFrameTimeout (t : Nat)
  /-- IDCODE (R409): JTAG IDCODE returns 0x1940_0553. -/
  | idcode
  /-- BYPASS (R409): JTAG BYPASS, also for unlisted instructions. -/
  | bypass (code : W32)
  /-- SAMPLE_PRELOAD (R409): JTAG SAMPLE/PRELOAD samples the boundary. -/
  | samplePreload (boundary : Nat)
  /-- EXTEST (R409): JTAG EXTEST acts only under SYS_RST_N, otherwise BYPASS and EXTEST_BLOCKED. -/
  | extest
  /-- CLAMP (R409): JTAG CLAMP acts only under SYS_RST_N. -/
  | clamp
  /-- HIGHZ (R409): JTAG HIGHZ acts only under SYS_RST_N. -/
  | highz
  /-- INTERNAL_SCAN (R405): Private JTAG internal scan acts at debug level FULL only. -/
  | internalScan
  /-- MEMORY_BIST (R405): Private JTAG memory built-in self-test acts at debug level FULL only. -/
  | memoryBist
  /-- GLIDE_ENTRY (R410): A cell island idle for 1 µs gates its clock. -/
  | glideEntry (island t : Nat)
  /-- GLIDE_EXIT (R410): Work for a gated island ungates it. -/
  | glideExit (island : Nat)
  /-- COAST_ENTRY (R412): The Coast conditions held for COAST_IDLE ms evict contexts and power-gate cells, or the entry is refused. -/
  | coastEntry (t : Nat)
  /-- PARK_ENTRY (R412): Park conditions held for 1 ms put HBM in self-refresh and supervisors asleep, or the entry is refused. -/
  | parkEntry (t : Nat)
  /-- COAST_PARK_EXIT (R412): A trigger brings the device out of Coast or Park and delivers held entries. -/
  | coastParkExit (why : WakeTrigger)
  /-- PWR_STAT_READ (R414): A read of PWR_STAT returns and clears REFUSALS. -/
  | pwrStatRead
  /-- COLD_RESET (R427): PWR_GOOD or SYS_RST_N low begins a cold reset. -/
  | coldReset (why : ColdWhy)
  /-- COLD_RESET_RELEASE (R403): Release of cold reset samples straps and runs the start sequence. -/
  | coldResetRelease (st : StartUp)
  /-- WARM_RESET (R427): PERST_N low begins a warm reset. -/
  | warmReset
  /-- WARM_RESET_RELEASE (R427): PERST_N release restarts the device from the committed bank. -/
  | warmResetRelease (st : StartUp)
  /-- POWER_ORDER_BREACH (R423): A rail up out of order makes the device refuse to leave cold reset and assert ALERT_N. -/
  | powerOrderBreach (rail : Nat)
  /-- RAIL_SAMPLE (R425): Every 1 µs rails are sampled; low margins alert and excursions count. -/
  | railSample (rail mv : Nat)
  /-- RAIL_UNDERVOLTAGE (R425): A rail below range over 10 µs with PWR_GOOD 1 is DEVICE-FATAL. -/
  | railUndervoltage (rail : Nat)
  /-- RAIL_MON_READ (R440): A read of RAIL_MON returns and clears UNDER. -/
  | railMonRead (rail : Nat)
  /-- AVS_READBACK (R426): 200 µs after a request the output voltage is read back and checked. -/
  | avsReadback (r : AvsAnswer) (t : Nat)
  /-- AVS_RETRY (R426): After an AVSBus fault the request is retried every 100 ms. -/
  | avsRetry (t : Nat)
  /-- REFCLK_LOSS (R430): REFCLK absent over 1 µs is DEVICE-FATAL. -/
  | refclkLoss
  /-- MCLK_LOSS (R430): MCLK absent over 10 µs switches to the internal oscillator. -/
  | mclkLoss
  /-- MCLK_RESTORE (R430): MCLK stable for 100 µs is used again. -/
  | mclkRestore
  /-- TEMP_WARNING (R438): A sensor at its warning threshold alerts and caps commands in flight. -/
  | tempWarning (i : Nat) (eighths : Int)
  /-- TEMP_HARD (R438): A sensor at its hard threshold halves island clocks. -/
  | tempHard (i : Nat) (eighths : Int)
  /-- THERMTRIP (R437): A trip threshold drives THERMTRIP_N low and is DEVICE-FATAL. -/
  | thermtrip (i : Nat) (eighths : Int)
  /-- TEMP_READ (R440): A read of TEMP returns and clears ALARMS. -/
  | tempRead (i : Nat)
  /-- TEMP_THRESHOLD_CLEAR (R438): A sensor falls 3 °C below a warning or hard threshold, and the command cap or the clock halving is lifted. -/
  | tempThresholdClear (i : Nat) (hard : Bool) (eighths : Int)
  /-- TDISP_START_INTERFACE (R179): TDISP START_INTERFACE moves a locked TDI from CONFIG_LOCKED to RUN. -/
  | tdispStartInterface (fn : Nat)
  /-- SPDM_SESSION_END (R407): An SPDM secured session ends by END_SESSION, heartbeat expiry or three failed unlock signatures, and its live nonces die with it. -/
  | spdmSessionEnd (session : Nat)
  /-- NVME_CONTROLLER_READY (R368): A reset NVMe controller becomes ready again, and Scepica recreates its queues so that its namespaces serve commands again. -/
  | nvmeControllerReady (ctrl : Nat)
  /-- LOCAL_WRITE_ACKNOWLEDGED (R321): An HBM controller acknowledges a LOCAL write of a mover, allowing the channel's read-back to issue. -/
  | localWriteAcknowledged (who : Requester)
  /-- TEST_LOGIC_RESET (R409): TRST_N or TMS drives the test access port into test logic reset, and IDCODE becomes the selected instruction. -/
  | testLogicReset
deriving DecidableEq, Repr

end Sys2Proof
end

