-- ==== Sys2Proof/Config.lean ====
section
/-! DEFINITION. What an implementation fixes and the spec leaves open: free values. None has a body, so nothing can
be proved of its value; each is named in the assumption log. -/

namespace Sys2Proof.Config

/-- A byte that the spec says holds "either its earlier value or a written one" (02 R47, R65; 10 R312), and the words of
TRANSFER, whose layout is internal to the device (05 R153). Drawn with the state's counter. -/
opaque freeByte : Nat → BitVec 8

/-- A 64-bit value the spec leaves open, drawn with the state's counter. -/
opaque freeWord : Nat → BitVec 64

/-- Which of the values that a byte of HOST memory has had an access meets when no FENCE stands between it and an earlier command's
write (02 R68): a counter of the state and the byte's address give a number. -/
opaque hostPick : Nat → Nat → Nat

/-- The SHA-384 digests of the measurement blocks 1 to 4 (14 R401), by index and by image: 384 bits. -/
opaque digest384 : Nat → Nat → Nat

/-- What the boot ROM's key derivation and signature primitives return (14 R399, R400), by purpose and operand. -/
opaque keyMaterial : Nat → Nat → Nat

end Sys2Proof.Config
end

