-- ==== Sys2Proof/Machine/State.lean ====
section
/-! DEFINITION. The state of the block as plain data, the reasons a command can stop, and the state after reset. -/

namespace Sys2Proof.Machine

/-- Why a command stops. Raised by a command that reports an event which cannot occur in the present state (an entry
that was not taken, a completion that nobody waits for, a device time that has passed). Safe: nothing is proved
about such a command. -/
inductive Fault where
  /-- Raised by no meaning: a command whose event does not take place leaves the state as it is (log 1). Safe. -/
  | notEnabled (why : String)
deriving DecidableEq, Repr

/-- Why a command has no meaning. -/
inductive Refusal where
  /-- Raised by the arms of `exec` that have no meaning yet. Safe. -/
  | notModelled (mnemonic : String)
deriving DecidableEq, Repr

/-- A byte map in canonical form: addresses strictly rising, no byte equal to 0, which an unlisted address reads as. -/
abbrev Mem := List (Nat × Byte)

/-- A map in canonical form: keys strictly rising, no entry equal to what an unlisted key holds. -/
abbrev Table (α : Type) := List (Nat × α)

/-! ### Outputs -/

/-- What the device sends outwards. -/
inductive Out where
  | msix (fn v : Nat) (addr : W64) (data : W32)
  | pmPme (fn : Nat)
  | requestRetry                                     -- a configuration request completed with Request Retry Status (15 R428)
  | completerAbort                                   -- a memory request to a BAR in the device-fatal state (13 R379)
  | aer (uncorrectable : Bool)                       -- on FN[0] (13 R376, R379)
  | domain (m : DomMsg) (links : List Nat)           -- 12 R370
  | nvmeSubmit (ctrl cid : Nat) (sqe data : List Byte) -- 12 R367; the bytes staged for the controller to read
  | nvmeAbort (ctrl cid : Nat)                       -- 12 R369
  | ctrlReset (ctrl : Nat)                           -- 12 R368
  | eventCleared (link : Nat)                        -- 12 R365
  | dcAnswer (link type base len2m : Nat)            -- 12 R366
  | value (v : W64)                                  -- what a register read or a port read returned
  | lmw (bs : List Byte) (poisoned : Bool)           -- the completion of a window read or AtomicOp
  | avs (mv : Nat)                                   -- an AVSBus request (15 R426)
  | reply (code : Nat) (data : List Nat)             -- a management, SPDM, DAP or JTAG answer
  | silent                                           -- a frame or request that gets no answer
  | lastGasp (why : Nat)                             -- THERMTRIP_N and the like driven
deriving DecidableEq, Repr

/-! ### Functions (06) -/

/-- One MSI-X vector: table entry, PBA bit and moderation (06 R185, R190, R213, R214). -/
structure Vec where
  addr : W64 := 0
  data : W32 := 0
  masked : Bool := true
  pba : Bool := false
  pending : Nat := 0              -- MOD.PENDING, 16 bits
  thresh : Nat := 0               -- MOD.THRESH, 16 bits
  holdoff : Nat := 0              -- MOD.HOLDOFF, 16 bits
  since : Option Nat := none      -- the hold-off timer runs since this device time
  held : Bool := false            -- a due message held under R214
  err : Bool := false             -- FN_ERR_VEC: its message is the one that a frozen function still sends (Table 06.28 step 5)
deriving DecidableEq, Repr

/-- Where the groomer stands with a queue (06 R198, R201, R202). -/
inductive PollStage where
  | due (t : Nat)              -- no read outstanding; the next poll may issue from device time t
  | reading (chasing : Bool)   -- a poll or chase read is outstanding
  | entry (b0 : Byte)          -- the entry read is outstanding; byte 0 as the poll saw it
deriving DecidableEq, Repr

/-- A queue (06 R193). -/
structure Queue where
  base : Nat
  logSize : Nat
  loc : Bool                   -- local placement
  pollK : Nat
  vec : Option Nat := none
  ring : Option Nat := none    -- bound status ring
  chipId : Option Nat := none  -- none for the admin queue
  f : Nat := 0                 -- fetch index
  e : Bool := true             -- expected parity
  chased : Nat := 0            -- slots taken since the poll
  polled : Nat := 0            -- device time of the latest poll or chase read
  stage : PollStage
deriving DecidableEq, Repr

/-- A status ring (06 R189, R211). -/
structure StatusRing where
  base : Nat
  logSize : Nat
  loc : Bool
  vec : Option Nat := none
  head : Nat := 0
  headPass : Bool := true
  tail : Nat := 0
  tailPass : Bool := true
  lost : Nat := 0
deriving DecidableEq, Repr

/-- How far an entry that was taken has come. -/
inductive TakenStage where
  | waiting      -- taken; its effect has not begun
  | acting       -- its effect has begun: the START's program runs, a HALT waits for its boundary, an admin command drains
deriving DecidableEq, Repr

/-- An entry taken and not completed (06 R198). -/
structure Taken where
  q : Nat
  slot : Nat
  bytes : List Byte
  seq : Nat := 0                  -- order in which the groomer took it (07 R221)
  stage : TakenStage := .waiting
deriving DecidableEq, Repr

/-- A host record write that waits while R180 stops the function (06 R180, R214 step 1). -/
inductive HeldWrite where
  | completion (t : Taken) (body : List Byte) (vec : Option Nat) (ctx : Option Nat)
  | status (ring : Nat) (rec : List Byte)
deriving DecidableEq, Repr

/-- The TDI state of a virtual function (06 R179). -/
inductive Tdi where
  | configUnlocked | configLocked | run | error
deriving DecidableEq, Repr

/-- A function FN[n] with its control window, its configuration space bits, queues and rings (06). -/
structure Fn where
  state : Nat := 0                -- FN_STATE.STATE (Table 06.2)
  resetAt : Nat := 0              -- while RESETTING: when the FLR began (06 R215)
  freezeCause : Nat := 0
  freezeAt : W64 := 0
  errVecEn : Bool := false
  errVec : Nat := 0
  pasidEn : Bool := false
  pasid : Nat := 0
  lmwBase : Nat := 0              -- FN[0] only, GiB
  lmwDenied : Nat := 0            -- FN[0] only
  lmwLog : Nat := 4               -- FN[0] only: window size 2^lmwLog GiB
  aqBase : W64 := 0
  aqCfg : W32 := 0
  aqResult : Nat := 0
  vecCount : Nat := 120
  vecs : Table Vec := []
  queues : Table (Option Queue) := []
  rings : Table (Option StatusRing) := []
  taken : List Taken := []
  freezing : Bool := false        -- steps 4 and 5 of Table 06.28 are still to come
  errPosted : Bool := false       -- step 4 has posted its record, and only step 5 is to come
  held : List HeldWrite := []
  busMaster : Bool := false
  d0 : Bool := true
  pmeEn : Bool := false
  pmeStatus : Bool := false
  msixEn : Bool := false
  fnMask : Bool := false
  pasidCfg : Bool := false        -- PASID Enable in configuration space
  tdi : Tdi := .configUnlocked
  ideSecure : Bool := false
  extBase : Nat := 0              -- local extent, bytes
  extLen : Nat := 0
  nvmPolicy : BitVec 256 := 0
  ftt2m : Table W64 := []         -- far translation entries of 2 MiB pages, by page number
  ftt1g : Table W64 := []         -- of 1 GiB pages
deriving DecidableEq, Repr

/-! ### Contexts (02, 05) -/

/-- The context record (Table 05.2) with its status word (Table 02.11). -/
structure CtxRec where
  dev : Byte := 0
  chan : Byte := 0
  qual : Byte := 0
  state : Byte := 0
  residual : W32 := 0
  survivors : W64 := 0
  lastCmd : W64 := 0
  bib : Byte := 0
  lastSpace : BitVec 2 := 0
  callDepth : BitVec 3 := 0
  operand : BitVec 3 := 0
  cmpEq : Bool := false
  digestMatch : Bool := false
  noprog : W32 := 0
  ownerFn : Byte := 0
  supervisor : Bool := false
  pinned : Bool := false
  region : BitVec 3 := 0
  slot : BitVec 3 := 0
  budget : W32 := 65536
  keys : W64 := 0
  epochTag : W32 := 0
  queue : BitVec 16 := 0
  slotIndex : BitVec 16 := 0
  hostTag : BitVec 16 := 0
  startSpace : BitVec 2 := 0
  stackSpaces : Byte := 0
  stale : BitVec 16 := 0
  startAddr : W64 := 0
  stack0 : W64 := 0
  stack1 : W64 := 0
  stack2 : W64 := 0
  stack3 : W64 := 0
  transfer : List W64 := []       -- 19 words; a word that is not listed is 0
deriving DecidableEq, Repr

/-- A channel command (Table 03.1). -/
structure Cmd where
  op : Byte := 0
  flags : Byte := 0
  spaces : Byte := 0
  modifier : Byte := 0
  count : W32 := 0
  a : W64 := 0
  b : W64 := 0
  c : W64 := 0
deriving DecidableEq, Repr

/-- A member of a CONT chain: its address and its command. -/
structure Member where
  addr : W64
  cmd : Cmd
deriving DecidableEq, Repr

/-- An ending recorded for a program (02 R66, R73 to R75). -/
structure Ending where
  dev : Byte
  qual : Byte
  lastCmd : W64
  lastSpace : BitVec 2
  operand : BitVec 3 := 0
  residual : Option W32 := none   -- none: RESIDUAL keeps its value
  inCont : Bool := false
  inGroup : Bool := false
  skipped : Option Bool := none   -- SKIP of the failing data command; none: SKIPPED keeps its value
deriving DecidableEq, Repr

/-- Where a context's program stands. -/
inductive Phase where
  | none       -- no program, or the program is held or ended
  | ready      -- at a boundary; the next command waits for its turn
  | lodging    -- dispatched; the record is on its way into the lodge
  | fetch      -- the demand fetch of the command at `pc` is outstanding
  | desc       -- the read of step 6 of R85 is outstanding
  | exec       -- checked; the command's own row comes next
  | nvm        -- NVMe pieces are outstanding
  | arrive     -- the read-back of the command's writes is outstanding
  | ringWait   -- a MARK or POST record waits for a free record (R53)
  | waiting    -- a WAIT waits
  | signal     -- the firing of a SIGNAL is on its way
  | finishing  -- a FINISH waits
  | paused     -- HELD with qualifier 0x12 (R144)
  | migrating  -- between step 7 and step 9 of Table 05.6
deriving DecidableEq, Repr

/-- A pending HALT: none, an end, or a suspension (02 R63, R64). -/
inductive HaltPend where
  | none | suspend | stop
deriving DecidableEq, Repr

/-- What happens when the context's writes have arrived. -/
inductive Goal where
  | none       -- nothing waits: the read-back is for arrival alone
  | member (progress : Bool) -- the units of a data member are read back before they complete (10 R322); whether it made progress
  | advance    -- BAR: go on with the next command
  | mark       -- post the MARK records, then go on
  | post       -- the POST command posts its record
  | complete   -- FENCE, SIGNAL: the control command completes
  | finish     -- the program ends with the recorded ending
  | freeze     -- the context stops for the freeze of its function
  | recover    -- the program ends with CONTROL-CHECK, then the record is rebuilt (05 R156)
  | overflow   -- the FOLD suspension (Table 04.13 steps 4 to 6)
  | clear      -- the CLEAR sequence (Table 02.8 steps 5 to 8)
deriving DecidableEq, Repr

/-- A bucket of a running FOLD (Table 04.12). -/
structure Bucket where
  base : Nat
  cap : Nat
  fill : Nat
  records : Nat := 0
deriving DecidableEq, Repr

/-- A record that FOLD placed in bucket `bucket`, at `addr` of the bucket's region; `member` and `off` say where its first byte stands
in the chain, and `kept` says that it has left its bucket buffer (04 R142, R143). -/
structure Placed where
  ord : Nat
  bucket : Nat
  addr : Nat
  bytes : List Byte
  member : Nat
  off : Nat
  kept : Bool
deriving DecidableEq, Repr

/-- The decision on one run of a SIEVE-MAP (04 R135). -/
structure RunDec where
  entry : List Byte
  read : Bool
deriving DecidableEq, Repr

/-- A running logical transfer: the CONT chain and what it keeps between members (05 R170). -/
structure Xfer where
  members : List Member := []     -- members of the chain begun so far, head first
  off : Nat := 0                  -- units of the current member done before a restart
  part : List Byte := []          -- bytes of a unit begun and not complete
  partMember : Nat := 0           -- member that holds the partial unit's first byte
  partOff : Nat := 0              -- offset of that byte in its member
  ordinal : Nat := 0              -- units taken
  outPos : Nat := 0               -- output bytes written at B
  surv : Nat := 0                 -- survivors of the chain
  bits : Nat := 0                 -- SIEVE: the BITMAP byte being filled
  planes : List Byte := []        -- SLICE: the byte of each plane being filled
  octMember : Nat := 0            -- SLICE: member and offset of the first integer of those bytes
  octOff : Nat := 0
  dig : W64 := 0                  -- the running digest
  digLen : Nat := 0               -- bytes digested
  begun : Bool := false           -- a member without SKIP and with a non-zero count has begun
  desc : List Byte := []          -- the descriptor copy (R80)
  maph : List Byte := []          -- SIEVE-MAP: the map header
  buckets : List Bucket := []     -- FOLD
  placing : List Placed := []     -- FOLD: the bucket buffers: the records placed since the oldest one that still stands in one
  runs : List RunDec := []        -- SIEVE-MAP: decided runs, first run first
  mapFail : Option AccFail := none  -- SIEVE-MAP: the read of the next run's entry failed
  disagree : Nat := 0             -- MAPCHECK: disagreements found, and records written
  written : Nat := 0
  condCmp : Option Bool := none   -- CMP_EQ and DIGEST_MATCH as they become when the chain ends
  condDig : Option Bool := none
  expect : Option Cmd := none     -- the FOLD member that suspended (04 R145)
  rr : Nat := 0                   -- the member that is fetched again for a partial unit
  cut : Option (Nat × Byte × Nat) := none -- member, qualifier and RESIDUAL of a mismatch whose chain is still being checked (02 R50)
  quiet : Bool := false           -- the member is closed without being executed (02 R50, R54)
  was : List (Nat × Nat × Byte) := []  -- bytes that a transform has written: space, address, value before (04 R149)
  fd : Nat := 0                   -- FOLD: its fold cell, 0 or 1 (04 R143)
deriving DecidableEq, Repr

/-- The MARK of a producer's member: where its output begins and ends in the stream, and the record, due when all of that output is
taken (02 R49, R53). -/
structure ProdMark where
  from_ : Nat
  upto : Nat
  r : CtxRec
deriving DecidableEq, Repr

/-- A stream group (02 R48, R49): the output of the previous command on its way to the next one. -/
structure Grp where
  count : Nat := 0                  -- commands begun
  data : List Byte := []            -- the previous command's output, not yet taken
  ends : List Nat := []             -- positions in that output at which a survivor ends
  pos : Nat := 0                    -- bytes of it taken
  marks : List ProdMark := []       -- MARKs of its members
  out : List Byte := []             -- output of the present command, when it is a producer too
  outEnds : List Nat := []
  outFrom : Nat := 0                -- where the present member's output begins
  outMarks : List ProdMark := []
  sieves : Bool := false            -- the previous command is SIEVE or SIEVE-MAP
  lastSurv : Option Nat := none     -- survivors of the latest SIEVE of the group before it
  failed : Option Ending := none    -- the failure of a producer of the group
  failedAt : Nat := 0               -- position in the stream at which that producer stopped
deriving DecidableEq, Repr

/-- What remains of a chain is fetched and checked without being executed (02 R50, R54, R92), or fetched again (05 R170). -/
inductive Rest where
  | none
  | addCounts     -- their counts are added to RESIDUAL, and the program goes on after the chain
  | failed        -- the chain has failed; the group goes on with what it produced
  | dry           -- the stream has ended at the end of a member: whether that is a mismatch is to be seen (R50)
  | short         -- the stream has ended with a mismatch: the program ends with LENGTH when the rest has been checked (R50)
  | reread        -- the members that hold a partial unit are fetched again
deriving DecidableEq, Repr

/-- A waiting WAIT (03 R114). -/
structure Waiting where
  chan : Option Nat
  clear : Bool
  began : Nat
  deadline : Option Nat
deriving DecidableEq, Repr

/-- One piece of an NVMe command (03 R108). -/
structure Piece where
  ctrl : Nat
  cid : Nat
  first : Nat     -- first block of the piece, relative to the command
  blocks : Nat
  bytes : Nat
  issued : Nat := 0    -- device time of its doorbell
  limit : Nat := 10000 -- its completion timeout, µs (07 R230)
  data : List Byte := []   -- what an NVM-READ's piece returned, for the stream
  failed : Bool := false
  done : Bool := false
deriving DecidableEq, Repr

/-- A failure of an outstanding access, as a response or a timeout reported it: space code, first byte, bytes, and whether the access is
a write; a timeout may be of either. -/
structure AccessFail where
  space : Nat
  addr : Nat
  len : Nat
  why : AccFail
  write : Option Bool := none
deriving DecidableEq, Repr

/-- A context: its record, the copy in HBM while it is lodged, and the place of its program. -/
structure Ctx where
  r : CtxRec := {}
  hbmCopy : Option CtxRec := none    -- the out-of-date copy in HBM while lodged (05, The lodge)
  lodged : Bool := false
  lodgeSlot : Nat := 0               -- the lodge slot that holds the record while lodged
  lastTurn : Nat := 0                -- order of the latest dispatch
  phase : Phase := .none
  pc : W64 := 0                      -- the command fetched next, or executing
  space : BitVec 2 := 0
  cmd : Cmd := {}
  next : Option (BitVec 2 × W64) := none  -- where control goes when the command completes; none: the program ends
  marks : List CtxRec := []          -- MARK records that wait for arrival or for ring space
  owed : List CtxRec := []           -- MARK records of FOLD suspensions that wait for ring space (04 R144)
  again : Bool := false              -- RESUME: the command is fetched again
  noHold : Bool := false             -- RESUME: the HOLD flag is ignored once
  halt : HaltPend := .none
  ended : Option Ending := none      -- the recorded ending
  goal : Goal := .none
  survZero : Bool := true            -- condition: the latest SIEVE had no survivors
  resZero : Bool := true             -- condition: residual zero
  chain : Bool := false              -- the next fetch is a CONT follower
  rest : Rest := .none
  join : Bool := false               -- the next fetch is the head of a consumer
  xfer : Xfer := {}
  grp : Grp := {}
  wait : Option Waiting := none
  ask : Option Nat := none           -- the ask of a FINISH
  snapshot : List Nat := []          -- contexts whose writes a FINISH waits for
  pieces : List Piece := []
  nvFail : Option (Byte × Byte × BitVec 3) := none  -- the first failure of a piece: DEVICE_STATUS, QUALIFIER, OPERAND
  dirty : List Nat := []             -- space codes with writes that have not arrived
  farTags : List W32 := []           -- epoch tags of FAR writes that have not arrived
  fails : List AccessFail := []
  readAhead : List (Nat × W64 × List Byte) := []   -- space, address, 32 bytes
  migrateTo : Option (Nat × Nat) := none  -- a migration is due, to this region and slot
  was : Phase := .none               -- while it migrates: the phase at the migration point
  moved : Bool := false              -- it has left the block that a substitution replaces
  handles : List Nat := []           -- sieve handles whose check the running command passed (07 R229)
  nvHandles : List Nat := []         -- namespace handles likewise (07 R233)
  heldCmd : Option Cmd := none       -- the command that its HOLD flag holds
  hostNew : List (Nat × Byte) := []  -- HOST bytes that the present command of a supervisor context wrote: address, value before
  hostOld : List (Nat × Byte) := []  -- the same of earlier commands, as long as no FENCE or read-back has followed (02 R68)
  frozenFn : Bool := false           -- the function froze and the program stops at its next boundary
  placed : Bool := false             -- its FOLD waits in its in-flight place for a fold cell (R169)
  step9 : Bool := false              -- it stands at step 9 of a migration, a command boundary (R176)
  late : List Byte := []             -- bibs that abandoned requests still carry (R162)
deriving DecidableEq, Repr

/-! ### Event fabric and interrupt controllers (11) -/

/-- EVT_CH[c] (Table 11.1). -/
structure Ech where
  from_ : Nat := 0
  hop : Nat := 0
  busy : Nat := 0
  loop : Nat := 0
  coal : Nat := 0
  merged : Nat := 0
  ownerFn : Nat := 0
  attrS : Bool := false
  supervisor : Bool := false
  flag : Bool := false
deriving DecidableEq, Repr

/-- EVT_BIND[c][i] (Table 11.3). -/
structure EvtBind where
  valid : Bool := false
  fn : Nat := 0
  toVector : Bool := false
  dest : Nat := 0
  maker : Option Nat := none   -- the function whose BIND-EVENT made it; none: a register write
deriving DecidableEq, Repr

/-- A firing on its way to a channel or a vector (11 R335 to R341). -/
structure Firing where
  toVector : Bool
  fn : Nat := 0
  dest : Nat
  origin : Nat
  hop : Nat
  attrS : Bool
  via : Option Nat := none     -- the forwarding channel
  ctx : Option Nat := none     -- the context whose SIGNAL it is
deriving DecidableEq, Repr

/-- A delivery on its way to a consumer (11 R336 step 3). -/
structure Delivery where
  chan : Nat
  who : Consumer
deriving DecidableEq, Repr

/-- A source of an interrupt controller (Table 11.11). -/
structure Src where
  active : Bool := false
  pending : Bool := false
  enabled : Bool := false
  input : Bool := false           -- as last sampled, filtered in LEVEL7100 mode
  stuck : Bool := false
  extra : Nat := 0
  targets : Nat := 0
  filter : Nat := 1
  sense : Nat := 0
  prio : Nat := 0
  raw : Bool := false             -- the raw input
  run : Nat := 0                  -- consecutive samples that differ from the filtered input
  since : Nat := 0                -- device time at which the (filtered) input rose
  target : Option Nat := none     -- assigned target
deriving DecidableEq, Repr

/-- A target of an interrupt controller (Tables 11.21, 11.22). -/
structure Tgt where
  en : Bool := false
  fault : Bool := false
  faultSrc : Nat := 0
  stack : List (Nat × Nat) := []  -- source and level, top first
deriving DecidableEq, Repr

/-- An interrupt controller: the RIC of a region, or the CIC (11 R344). -/
structure Ictl where
  srcs : Table Src := []
  tgts : Table Tgt := []
  holdoff : Table Nat := []       -- HOLDOFF[g].TIME
  until_ : Table Nat := []        -- group g is in hold-off until this device time; 0: it is not
  last : Option Nat := none       -- the target that received the previous assignment
deriving DecidableEq, Repr

/-! ### Errors, blocks and regions (13) -/

/-- A first-error capture (Tables 13.2 to 13.6). -/
structure Cap where
  valid : Bool := false
  overflow : Bool := false
  escalated : Bool := false
  severity : Nat := 0
  code : Nat := 0
  source : Nat := 0
  space : Nat := 0
  fn : Option Nat := none
  ctx : Option Nat := none
  addr : W64 := 0
  time : Nat := 0
  escOut : Nat := 0
  count : Nat := 0
deriving DecidableEq, Repr

/-- A ring channel of a mover (10 R301 to R315, Table 10.10). -/
structure RingChan where
  next : Nat := 0                 -- FETCH: the next slot in ring order
  bound : Bool := false
  sup : Bool := false
  ctx : Nat := 0
  fn : Nat := 0
  bib : Byte := 0
  key : Nat := 0
  epoch : W32 := 0
  lslot : Nat := 0
  running : Option Nat := none    -- slot of the running descriptor
  off : Nat := 0                  -- bytes that a COPY over a stream has moved
  ended : Option (Nat × Nat) := none -- REASON and residual of the running descriptor; its read-back is outstanding
  cutBy : Option Nat := none      -- the CUT or ABORT that stopped the running descriptor
  control : List Nat := []        -- slots of control descriptors that have been read and have not completed
  done : List Nat := []           -- slots from FETCH on whose descriptors have ended
  post : Nat := 0                 -- the slot that the sequencer posts next
  prevBad : Bool := false         -- the previous data descriptor ended BAD
  abandoned : Nat := 0
  lost : List Byte := []          -- abandoned reads whose responses are still to come: their bibs
  dirty : List Nat := []
  farTags : List W32 := []        -- epoch tags of FAR writes that have not arrived
  fails : List AccessFail := []
deriving DecidableEq, Repr

/-- A register channel of a mover (Tables 10.5 to 10.9). -/
structure RegChan where
  src : W64 := 0
  dst : W64 := 0
  count : Nat := 0
  ctrl : W64 := 0                 -- the RW fields of RC_CTRL
  residual : Nat := 0
  reason : Nat := 0
  bad : Bool := false
  done : Bool := false
  busy : Bool := false
  moved : Nat := 0                -- bytes done
  ready : Bool := false           -- the transfer, or a released chunk, is ready
  armed : Bool := false           -- waits for its trigger
  running : Bool := false         -- a unit runs
  stop : Bool := false
  lodge : Bool := false           -- held by the lodge controller (R326)
  ended : Option (Nat × Nat) := none -- REASON and residual of the running unit; its read-back has completed
  dirty : List Nat := []
  fails : List AccessFail := []
deriving DecidableEq, Repr

/-- A mover cell MV[m] (10 R301, R307). -/
structure Mover where
  rings : Table RingChan := []
  regs : Table RegChan := []
  lastRing : Nat := 7             -- the ring channel served last
  lastReg : Nat := 1              -- the register channel served last
  lastWasReg : Bool := false
  unit : Option Requester := none -- the unit that runs
deriving DecidableEq, Repr

/-- A FIFO of the hub (10 R328 to R332). -/
structure Fifo where
  words : List (List Byte × Bool) := []   -- oldest first, with the end mark
  last : List Byte := []                  -- the last word read
  mark : Nat := 48
  reset : Bool := false
  underrun : Bool := false
  overrun : Bool := false
  wm : Bool := false
  crossings : Nat := 0
  midItem : Bool := false                 -- the producer discards the rest of its item (R330)
  ctxs : List Nat := []                   -- contexts with an item in the FIFO, or whose group it carries
deriving DecidableEq, Repr

/-- A timer of a gate cell (09 Table 09.5). -/
structure Timer where
  armed : Bool := false
  chan : Nat := 0
  deadline : Nat := 0
deriving DecidableEq, Repr

/-- A subscription of a view bit (Table 11.7). -/
structure ViewSub where
  en : Bool := false
  chan : Nat := 0
deriving DecidableEq, Repr

/-- A block, by instance: key 9 × region + block (01 R14, 13 R385). -/
structure Block where
  sram : Mem := []
  retired : BitVec 16 := 0
  blockRetired : Bool := false
  caps : Table Cap := []            -- cells 0 to 15, and 16 for the block
  bootStart : Table W32 := []       -- CELL_BOOT[k].START
  movers : Table Mover := []
  fifos : Table Fifo := []
  timers : Table Timer := []
  viewSub : Table ViewSub := []     -- 64 i + b
  views : Table W64 := []
  lastFn : Nat := 0                 -- round robin among functions (05 R168)
  evWait : List (Nat × List Byte × Option Nat) := []  -- items that wait for the full control FIFO of the sequencer: mover, word, context
  asked : List Nat := []            -- contexts whose demand fetch FCH.t_fetch has asked for
  sramBad : List Nat := []          -- 8-byte words of block SRAM with an uncorrectable error (13 R381)
  sramErrors : Table (List Nat) := []  -- device times of SRAM errors of cell k, 16 the block's own (13 R381)
deriving DecidableEq, Repr

/-- A region (13 R385). -/
structure Region where
  slots : List Nat := [0, 1, 2, 3, 4, 5, 6, 7]   -- the block that fills slot s; 15 when empty
  reserve : Nat := 8                              -- 15 when spent or lost
  stale : Nat := 0
  cap : Cap := {}
  rsBoot : Table W32 := []
  subst : Option (Nat × Nat × Nat) := none        -- substitution: slot, replaced block, start time
  substLate : Bool := false                       -- 1 ms of it has passed (05 R172)
  sampled : Nat := 0                              -- device time of the latest load sample (05 R177)
  viewSub : Table ViewSub := []                   -- 64 i + b for RS[i]
  views : Table W64 := []
  ftc : List (Nat × Bool × Nat × W64) := []       -- far translation cache: function, 1 GiB page, page, entry
deriving DecidableEq, Repr

/-- PCH_STAT[n] (Table 13.11), and where retirement stands. -/
structure Pch where
  retired : Bool := false
  unrep : Nat := 0
  rows : Nat := 0
  uncorr : Nat := 0
  corr : Nat := 0
deriving DecidableEq, Repr

/-- The chip: fatal state, monitors, HEALTH as last published, windows of AER reports, double traps (13). -/
structure Chip where
  fatal : Bool := false
  cap : Cap := {}
  aerSecond : Option Nat := none          -- the second of the last corrected AER message
  csBoot : Table W32 := []
  viewSub : Table ViewSub := []
  views : Table W64 := []
  pch : Table Pch := []
  ageFreq : Table Nat := []               -- AGE_MON[i].FREQ
  ageMargin : Table Nat := []
  emUsed : Table W32 := []                -- EM_CNT[j].USED
  emMargin : Table Nat := []
  health : W64 := 0
  ledgerSecond : Option (Nat × Nat) := none   -- error records written in the present second (13 R394)
  doubleTraps : Table (List Nat) := []    -- device times, by core
  agingDue : Nat := 0
deriving DecidableEq, Repr

/-! ### Far memory, devices and the domain (12) -/

/-- A fabric link FL[l] (Tables 12.2 to 12.7). -/
structure Link where
  maxRate : Nat := 7
  allowCxl : Bool := true
  allowPcie : Bool := true
  en : Bool := true
  late : Nat := 0
  downs : Nat := 0
  retrains : Nat := 0
  lanesLost : Bool := false
  rate : Nat := 0
  width : Nat := 0
  retimers : Nat := 0
  mode : Nat := 0                 -- 0 DOWN, 1 PCIE, 2 CXL, 3 ABSENT
  vendor : BitVec 16 := 0
  device : BitVec 16 := 0
  kind : Nat := 0
  dcd : Bool := false
  mld : Bool := false
  mh : Bool := false
  flit256 : Bool := false
  pMaxRate : Nat := 0
  pMaxWidth : Nat := 0
  loss : Nat := 0
  corr : Table Nat := []          -- FL_LANE[i].CORR
  berExp : Table Nat := []
  memOn : Bool := false           -- CXL.mem is enabled (R365)
  present : Bool := false
  downAt : Nat := 0
deriving DecidableEq, Repr

/-- An interleave set (12 R363, 07 Table 07.9). -/
structure ISet where
  base : Nat
  size : Nat
  ways : Nat
  logGran : Nat
  links : List Nat
deriving DecidableEq, Repr

/-- A dynamic capacity extent (12 R366). -/
structure Extent where
  link : Nat
  rid : BitVec 16
  base : Nat
  len2m : Nat
  releasing : Bool := false
  withdrawn : Bool := false
deriving DecidableEq, Repr

/-- An NVMe controller (12 R367, R368). -/
structure NvmeCtrl where
  link : Nat
  rid : Nat
  mdts : Nat
  pairs : Nat
  ready : Bool := true
  removed : Bool := false
  nextCid : Nat := 0
  reserved : List Nat := []     -- command identifiers of timed-out pieces whose buffers stay reserved
  dropped : List Nat := []      -- command identifiers of pieces that a CLEAR abandoned
deriving DecidableEq, Repr

/-- A namespace handle (07 R233). -/
structure NvmHandle where
  holder : Nat
  ctrl : Nat
  nsid : Nat
  blocks : Nat
  blockSize : Nat
  detaching : Bool := false
deriving DecidableEq, Repr

/-- A sieve handle (09 R299). -/
structure SieveHandle where
  owner : Nat
  state : Nat                   -- Table 09.14
  serial : Nat := 0
  words : List W64 := []
deriving DecidableEq, Repr

/-- An ask of the finish line (12 R373). -/
structure Ask where
  epoch : W32
  waiting : List (Nat × Nat)    -- member and the device time at which its timeout expires
deriving DecidableEq, Repr

/-- The domain (12 R370 to R374, 07 R234). -/
structure Domain where
  joined : Bool := false
  member : Nat := 0
  members : W32 := 0
  timeout : Nat := 0            -- µs
  present : W32 := 0            -- other members
  silentAt : Table Nat := []    -- device time at which the timeout of each member expires
  ec : W32 := 1
  late : Nat := 0
  mismatch : Nat := 0
  own : Nat := 0
  asks : Table (Option Ask) := []
  nextAsk : Nat := 0
  answering : List (Nat × Nat × W32 × List Nat) := []  -- asker, ask number, epoch, contexts waited for
  helloDue : Nat := 0
deriving DecidableEq, Repr

/-! ### Yaquelux cores (08, 09) -/

/-- A Yaquelux value: 64 bits and a tag number (Table 08.6); at reset every port holds INT 0 (R284). -/
structure Val where
  v : W64 := 0
  tag : Nat := 1
deriving DecidableEq, Repr

/-- A result that has not landed (08 R249): the port it lands in, if any, its value, the flags it sets, and the issued words
left. -/
structure Pend where
  unit : Nat                      -- the unit that was triggered
  reg : Option (Nat × Val) := none
  flags : Option (BitVec 4) := none
  left : Nat
  div : Bool := false             -- a division: it occupies its ALU until it lands (09 R286)
deriving DecidableEq, Repr

/-- A window (08 R259). -/
structure Win where
  open_ : Bool := false
  base : Nat := 0
  len : Nat := 0
  read : Bool := false
  write : Bool := false
deriving DecidableEq, Repr

/-- A frame of trap or interrupt entry (08 R271). -/
structure Frame where
  pc : W64                        -- the address of the word to resume
  epc : W64                       -- TRAP.epc as the interrupted code sees it
  flags : BitVec 4
  imask : Bool
  level : Nat
  landed : Bool                   -- the results of the word to resume have landed
  trap : Bool                     -- a trap's frame, not an interrupt's
  regs : Table Val                -- result ports and operand registers of the units that a frame saves
  pending : List Pend
  subst : List (Nat × Val)        -- EMULATE substitutions of the word to resume
deriving DecidableEq, Repr

/-- The copy of an image in a slot of a sieve cell (09 R299). -/
structure SvImage where
  slot : Nat
  handle : Nat
  serial : Nat
  words : List W64
deriving DecidableEq, Repr

/-- The record a sieve core judges (09 R292 to R298). -/
structure Rec where
  data : List Byte := []
  ordinal : Nat := 0
  param : BitVec 16 := 0
  emitted : List Byte := []
  cycles : Nat := 0
  budget : Nat := 0
  touched : Nat := 0              -- H of R294: bytes delivered so far
  verdict : Option Nat := none    -- 0 DROP, 1 KEEP, 2 EMIT, 3 trap, 4 budget
deriving DecidableEq, Repr

/-- The record start state of a sieve program (09 R292). -/
structure SvStart where
  flags : BitVec 4 := 0
  regs : Table Val := []
  dstack : List Val := []
  rstack : List Val := []
  spill : List Val := []
  work : Mem := []
  a7 : List Byte := []
  a7crc : BitVec 32 := 0
deriving DecidableEq, Repr

/-- A Yaquelux core. `regs` holds every general register, operand register and result port by its port number. -/
structure Core where
  pc : W64 := 0
  flags : BitVec 4 := 0           -- N Z C V
  regs : Table Val := []
  dzTrap : Bool := false          -- CORE_CFG
  threadPriv : Bool := true
  frames : List Frame := []       -- innermost first
  inTrap : Bool := false          -- CORE_STATUS
  imask : Bool := true
  level : Nat := 0
  vbase : W64 := 0
  cause : Nat := 0
  detail : Nat := 0
  tvalue : Val := {}
  epc : W64 := 0
  dstack : List Val := []         -- top first
  dsLimit : Nat := 64
  rstack : List Val := []         -- the hardware entries, top first
  retLimit : Nat := 32
  retSpilled : Nat := 0
  spill : List Val := []          -- SV: entries the spill handler keeps (R297), newest first
  wins : Table Win := []
  pending : List Pend := []       -- in the order of their triggers
  landed : Bool := false          -- the results of the next word to issue have landed
  hold : Bool := false            -- no request is taken before the next word issues (08 R278, R279)
  subst : List (Nat × Val) := []  -- EMULATE substitutions: 0 and 1 the sources, 2 and 3 discarded destinations of the slots
  asleep : Bool := true
  deadline : Option Nat := none   -- in device time that counts its wraps
  stopped : Bool := false         -- by a double trap
  halted : Bool := false          -- by debug
  started : Bool := false         -- GO has started it
  code : Table (Option W64) := [] -- code words, as the fetches showed them (log 20)
  data : Mem := []                -- core data RAM; SV: firmware data RAM
  dataPoison : List Nat := []     -- its 8-byte words with an uncorrectable error
  work : Mem := []                -- SV: the work area
  mbx : List Val := []            -- supervisors: the mailbox, oldest first
  images : List SvImage := []     -- SV: the images in its slots, most recently used first
  starts : Table (Option SvStart) := []  -- SV: the record start states by slot, of the images that INIT has run
  phase : Nat := 0                -- SV: 0 no program runs, 1 INIT, 2 RECORD
  slot : Nat := 0                 -- SV: the image slot of the program that runs
  record : Rec := {}
  a7 : List Byte := []            -- SV: the latest AD7100 word (R298)
  a7crc : BitVec 32 := 0
deriving DecidableEq, Repr

/-! ### Store, security, power, sensors (13, 14, 15) -/

/-- A ledger record (Table 13.18). -/
abbrev LedgerRec := List Byte

/-- A store that waits to be tried again (14 R418). -/
structure StoreJob where
  area : Nat
  data : List Byte
deriving DecidableEq, Repr

/-- The MRAM store (14 R417). -/
structure Store where
  lifecycle : Nat := 0            -- Table 14.2
  secret : Option Nat := none     -- the unique device secret
  publicKey : Nat := 0            -- the DeviceID public key
  chain : List Byte := []         -- certificate chain of slot 0
  bootBank : Nat := 0
  bankA : Mem := []
  bankB : Mem := []
  validA : Bool := true
  validB : Bool := false
  versionA : W32 := 0
  versionB : W32 := 0
  minVersion : W32 := 0
  torn : List (Nat × Nat × Nat) := []   -- chunks that an FW-STAGE left partly stored: bank, offset, length
  config : Mem := []
  ledger : Table LedgerRec := []  -- slots 1 to 16,383
  nextSeq : Nat := 0
  dropped : Nat := 0
  boots : Nat := 0
  ledgerQueue : List LedgerRec := []
  jobs : List StoreJob := []      -- waiting retries
  emUsed : Table W32 := []
  pchMap : Table Pch := []
  cellMap : Table (BitVec 16) := []
  blockMap : List Nat := []
  reserveMap : Table Nat := []
  slotMap : Table (List Nat) := []
deriving DecidableEq, Repr

/-- An unlock nonce (14 R407). -/
structure Nonce where
  value : Nat
  session : Nat
  purpose : Nat
  born : Nat
deriving DecidableEq, Repr

/-- The security complex (14). -/
structure Security where
  debug : Nat := 2                           -- FULL: the store holds BLANK (Table 14.1, log 9)
  zeroised : Bool := false
  extestBlocked : Bool := false
  nonces : List Nonce := []
  sessions : List (Nat × Bool × Nat) := []   -- id, opened by the management side, failed signatures
  zeroising : Option (Nat × Nat) := none     -- purpose of the unlock that waits for zeroisation, and its session
  recovery : Bool := false
  bank : Nat := 0                            -- the running bank
  version : W32 := 0
  fwBusy : Option Nat := none                -- PLDM update: the bank being written
  ir : Nat := 1                              -- the JTAG instruction in effect, by the model's own number (log 36)
  boundary : Nat := 0                        -- the boundary register as last sampled
  measuredFw : Nat := 0                      -- what identifies the running image to the measurements
deriving DecidableEq, Repr

/-- Power states and registers (14 R410 to R414). -/
structure Power where
  ctl : W32 := 0x10A
  state : Nat := 0                -- 0 run, 1 Coast, 2 Park
  refusals : Nat := 0
  reason : Nat := 0
  refused : Bool := false
  gated : List Nat := []          -- clock-gated cell islands: 16 × block + cell
  coastTold : Bool := false       -- an entry to Coast has been refused since its conditions last became true (R414)
  parkTold : Bool := false        -- the same for Park
deriving DecidableEq, Repr

/-- A temperature sensor (15 R438, R440). -/
structure Temp where
  alarms : Nat := 0
  max : Int := 0
  now : Int := 0
  warn : Bool := false
  hard : Bool := false
deriving DecidableEq, Repr

/-- A rail monitor (15 R425, R440). -/
structure Rail where
  under : Nat := 0
  margin : Nat := 0
  mv : Nat := 0
  sampled : Bool := false         -- a sample has been taken (log 14)
deriving DecidableEq, Repr

/-- Board-side state: resets, rails, clocks, sensors, straps (15). -/
structure Board where
  cold : Bool := false            -- cold reset is in progress
  coldWhy : Nat := 0
  warm : Bool := false
  breach : Bool := false
  temps : Table Temp := []
  rails : Table Rail := []
  vddRequest : Nat := 800
  vddSeen : Nat := 800            -- VDD_CORE as last read back
  cap : Nat := 64                 -- data commands in flight in each block (05 R169, 15 R438)
  avsFault : Bool := false
  avsPendingAt : Option Nat := none
  thermtrip : Bool := false
  mclkLost : Bool := false
  fpbif : BitVec 12 := 0
  smbAddr : BitVec 2 := 0
deriving DecidableEq, Repr

/-! ### The whole state -/

/-- The state of the block. -/
structure State where
  pending : List Instr          -- waiting commands, first in first out
  out : List Out                -- what the device has sent outwards, oldest first
  free : Nat                    -- the model's own: free values are drawn with it
  time : Nat                    -- FN_TIME.TIME, 48 bits
  wraps : Nat                   -- wraps of device time (model only, log 161)
  hbm : Mem                     -- LOCAL space by absolute offset, but for the context store and the shadow entries
  poison : List Nat             -- HBM words (32 bytes) that hold the poison code, rising
  hostMem : Mem                 -- host memory as the device reads it: function × 2^64 + IOVA
  farMem : Mem                  -- far memory by far physical address
  farPoison : List Nat
  store : Store
  fns : Table Fn
  vfEnable : Bool
  numVfs : Nat
  ctxs : Table Ctx
  takes : Nat                   -- entries taken, the order of `Taken.seq`
  turns : Nat                   -- dispatches made, the order of `Ctx.lastTurn`
  sieves : Table (Option SieveHandle)
  nvms : Table (Option NvmHandle)
  ctrls : Table (Option NvmeCtrl)
  isets : Table (Option ISet)
  farTimeout : Nat              -- µs
  links : Table Link
  extents : List Extent
  domain : Domain
  echs : Table Ech
  binds : Table EvtBind         -- 4 c + i
  evtLoop : Nat
  evtCoal : Nat
  hopLimit : Nat
  firings : List Firing
  deliveries : List Delivery
  ringOrder : List Nat          -- contexts that wait for status ring space, in the order in which their records arose (06 R212)
  rehomed : List (Nat × Nat)    -- homes (8 × region + slot) of default contexts whose slot is empty, and the home in their place (R166)
  waitOrder : List (Nat × Nat)  -- channel and context of the WAITs with an event, first begun first
  ctls : Table Ictl             -- 0 to 7 the RICs, 8 the CIC
  blocks : Table Block
  regions : Table Region
  chip : Chip
  cores : Table Core            -- by core id: 6 × block + (0 SQ, 1 to 4 SV, 5 GT); 432 + 2 r + i RS; 448 + j CS
  locks : Table (Option Nat)    -- chip locks and their holders
  sec : Security
  power : Power
  board : Board
deriving DecidableEq, Repr

/-- The block right after cold reset: every register at the value the spec states, every other field as the
assumption log names it (6, 7, 8, 9, 11, 12, 13). The tables list nothing: an entry that a table does not list holds
the reset value of its kind (`Machine/Ops.lean`). -/
def State.reset : State where
  pending := []
  out := []
  free := 0
  time := 0
  wraps := 0
  hbm := []
  poison := []
  hostMem := []
  farMem := []
  farPoison := []
  store := {}
  fns := []
  vfEnable := false
  numVfs := 0
  ctxs := []
  takes := 0
  turns := 0
  ringOrder := []
  rehomed := []
  sieves := []
  nvms := []
  ctrls := []
  isets := []
  farTimeout := 10000
  links := []
  extents := []
  domain := {}
  echs := []
  binds := []
  evtLoop := 0
  evtCoal := 0
  hopLimit := 8
  firings := []
  deliveries := []
  waitOrder := []
  ctls := []
  blocks := []
  regions := []
  chip := {}
  cores := [(448, { asleep := false, started := true, dsLimit := 256 })]
  locks := []
  sec := {}
  power := {}
  board := {}

end Sys2Proof.Machine
end

