-- ==== Sys2Proof/Machine/Table.lean ====
section
/-! DEFINITION. Tables and byte maps in canonical form, and the bit and byte helpers every other file uses. -/

namespace Sys2Proof.Machine

/-- The outcome of a command. -/
abbrev Res := Host.Outcome State Fault Refusal

/-- The machine goes to `s'` when the event can occur in `s`. Otherwise nothing happens: the command asks for an event that does not
take place, and the state stays as it is (log 1); `_why` says what is missing. -/
def whenB (s : State) (c : Bool) (_why : String) (s' : State) : Res := .next (if c then s' else s)

/-- The event cannot occur in `s`: nothing happens (log 1). -/
def idleB (s : State) (_why : String) : Res := .next s

/-! ### Tables -/

/-- The value at key `k`; `d` gives the value of a key that is not listed. -/
def Table.get {α : Type} (d : Nat → α) : Table α → Nat → α
  | [], k => d k
  | (j, v) :: t, k => if j = k then v else Table.get d t k

/-- Remove key `k`. -/
def Table.erase {α : Type} : Table α → Nat → Table α
  | [], _ => []
  | (j, v) :: t, k => if j = k then Table.erase t k else (j, v) :: Table.erase t k

/-- Insert at key `k`, keys rising. -/
def Table.insert {α : Type} : Table α → Nat → α → Table α
  | [], k, v => [(k, v)]
  | (j, w) :: t, k, v =>
    if k < j then (k, v) :: (j, w) :: t else if k = j then (k, v) :: t else (j, w) :: Table.insert t k v

/-- Set key `k` to `v`, keeping the canonical form: an entry equal to the unlisted value is removed. -/
def Table.set {α : Type} [DecidableEq α] (d : Nat → α) (t : Table α) (k : Nat) (v : α) : Table α :=
  if v = d k then Table.erase t k else Table.insert t k v

/-- Change every listed value. -/
def Table.mapV {α β : Type} (f : α → β) (t : Table α) : Table β := t.map fun p => (p.1, f p.2)

/-- The listed keys. -/
def Table.keys {α : Type} (t : Table α) : List Nat := t.map fun p => p.1

/-- The form of a table: keys strictly rising from `lo`, no entry equal to the unlisted value. -/
def Table.wfFrom {α : Type} [DecidableEq α] (d : Nat → α) : Nat → Table α → Bool
  | _, [] => true
  | lo, (k, v) :: t => decide (lo ≤ k) && decide (v ≠ d k) && Table.wfFrom d (k + 1) t

/-- The canonical form of a table. -/
def Table.wf {α : Type} [DecidableEq α] (d : Nat → α) (t : Table α) : Bool := Table.wfFrom d 0 t

/-! ### Byte maps -/

/-- The byte at address `a`; an unlisted byte reads 0 (log 4, log 6). -/
def Mem.read (m : Mem) (a : Nat) : Byte := Table.get (fun _ => (0 : Byte)) m a

/-- Write one byte, keeping the canonical form. -/
def Mem.write (m : Mem) (a : Nat) (b : Byte) : Mem := Table.set (fun _ => (0 : Byte)) m a b

/-- `n` bytes from `a`. -/
def Mem.readN (m : Mem) (a : Nat) : Nat → List Byte
  | 0 => []
  | n + 1 => m.read a :: Mem.readN m (a + 1) n

/-- Write bytes from `a` upward. -/
def Mem.writeN (m : Mem) (a : Nat) : List Byte → Mem
  | [] => m
  | b :: bs => Mem.writeN (m.write a b) (a + 1) bs

/-- The canonical form of a byte map. -/
def Mem.wf (m : Mem) : Bool := Table.wf (fun _ => (0 : Byte)) m

/-- Drop the bytes of an address range, so that they read 0. -/
def Mem.clearRange (m : Mem) (lo hi : Nat) : Mem := m.filter fun p => !(decide (lo ≤ p.1) && decide (p.1 < hi))

/-! ### Bits and bytes -/

/-- Bits [lo + w - 1 : lo] of a number. -/
def bits (x lo w : Nat) : Nat := (x / 2 ^ lo) % 2 ^ w

/-- Bit `k` of a number. -/
def bit (x k : Nat) : Bool := bits x k 1 = 1

/-- 1 for true. -/
def b2n (b : Bool) : Nat := if b then 1 else 0

/-- Little-endian value of bytes (00 R9). -/
def leVal : List Byte → Nat
  | [] => 0
  | b :: bs => b.toNat + 256 * leVal bs

/-- The `n` little-endian bytes of a number (00 R9). -/
def leBytes : Nat → Nat → List Byte
  | 0, _ => []
  | n + 1, x => BitVec.ofNat 8 x :: leBytes n (x / 256)

/-- Byte `i` of a list, 0 beyond its end. -/
def byteAt (bs : List Byte) (i : Nat) : Nat := (bs.getD i 0).toNat

/-- The little-endian field of `n` bytes at offset `o`. -/
def field (bs : List Byte) (o n : Nat) : Nat := leVal ((bs.drop o).take n)

/-- Replace bytes from offset `o` on. -/
def patch (bs : List Byte) (o : Nat) (new : List Byte) : List Byte :=
  bs.take o ++ new ++ bs.drop (o + new.length)

/-- All bytes are 0. -/
def allZero (bs : List Byte) : Bool := bs.all (· == 0)

/-- Saturating increment. -/
def satInc (x lim : Nat) : Nat := if x < lim then x + 1 else lim

/-- Saturating addition. -/
def satAdd (x n lim : Nat) : Nat := if x + n < lim then x + n else lim

/-- The two's complement value of the low `w` bits. -/
def signedN (x w : Nat) : Int := if 2 ^ (w - 1) ≤ x % 2 ^ w then (x % 2 ^ w : Int) - 2 ^ w else (x % 2 ^ w : Int)

/-- Sign extension of the low `w` bits to `n` bits. -/
def signExtN (x w n : Nat) : Nat :=
  if w = 0 then 0 else if bit x (w - 1) then x % 2 ^ w + (2 ^ n - 2 ^ w) else x % 2 ^ w

/-- `n` zero bytes. -/
def zeros (n : Nat) : List Byte := List.replicate n 0

/-- Insert a number into a rising list without repeats. -/
def insertNat : Nat → List Nat → List Nat
  | k, [] => [k]
  | k, j :: t => if k < j then k :: j :: t else if k = j then j :: t else j :: insertNat k t

/-- The first index from `lo`, among `n`, that satisfies `p`. -/
def firstFrom (p : Nat → Bool) (lo : Nat) : Nat → Option Nat
  | 0 => none
  | n + 1 => if p lo then some lo else firstFrom p (lo + 1) n

/-- Apply a function `n` times. -/
def iterate {α : Type} (f : α → α) : Nat → α → α
  | 0, x => x
  | n + 1, x => iterate f n (f x)

/-- Elements whose predicate holds, their number. -/
def countP {α : Type} (p : α → Bool) (l : List α) : Nat := (l.filter p).length

end Sys2Proof.Machine
end

