-- ==== Sys2Proof/Machine/Hash.lean ====
section
/-! DEFINITION. The digests: CRC-32C, CRC-64/ECMA-182 and TH64 (04 R150 to R152). -/

namespace Sys2Proof.Machine

/-- One bit of a reflected CRC-32C. -/
def crc32cBit (c : BitVec 32) : BitVec 32 :=
  if c.getLsbD 0 then (c >>> 1) ^^^ 0x82F63B78#32 else c >>> 1

/-- One byte of CRC-32C, without the initial and final XOR (Table 04.18). -/
def crc32cStep (c : BitVec 32) (b : Byte) : BitVec 32 := iterate crc32cBit 8 (c ^^^ b.zeroExtend 32)

/-- CRC-32C of bytes (Table 04.18). -/
def crc32c (bs : List Byte) : BitVec 32 := (bs.foldl crc32cStep 0xFFFFFFFF#32) ^^^ 0xFFFFFFFF#32

/-- One bit of CRC-64/ECMA-182. -/
def crc64Bit (c : W64) : W64 := if c.getLsbD 63 then (c <<< 1) ^^^ 0x42F0E1EBA9EA3693#64 else c <<< 1

/-- One byte of CRC-64/ECMA-182 (Table 04.18). -/
def crc64Step (c : W64) (b : Byte) : W64 := iterate crc64Bit 8 (c ^^^ (b.zeroExtend 64 <<< 56))

/-- The start value of TH64 with seed 0 (R151). -/
def th64Init : W64 := 0x5D3A91C427E8B06F#64

/-- One loop step of TH64 (R151). -/
def th64Mix (h w : W64) : W64 := ((h ^^^ w) * 0x0000020000002001#64).rotateLeft 29

/-- The final steps of TH64 over `n` input bytes (R151). -/
def th64Fin (h n : W64) : W64 :=
  let h := h ^^^ n
  let h := h ^^^ (h >>> 31)
  let h := h * 0x0080000020000081#64
  let h := h ^^^ (h >>> 27)
  let h := h * 0x0000020000002001#64
  h ^^^ (h >>> 33)

/-- The loop of TH64 over at most `fuel` words of the input. -/
def th64Loop : Nat → W64 → List Byte → W64
  | 0, h, _ => h
  | _ + 1, h, [] => h
  | fuel + 1, h, bs => th64Loop fuel (th64Mix h (BitVec.ofNat 64 (leVal (bs.take 8)))) (bs.drop 8)

/-- TH64 (R151). -/
def th64 (bs : List Byte) (seed : W64) : W64 :=
  th64Fin (th64Loop bs.length (seed ^^^ th64Init) bs) (BitVec.ofNat 64 bs.length)

/-- The start value of a running digest of algorithm `alg` (Table 03.8). -/
def digestInit (alg : Nat) : W64 :=
  if alg = 0 then 0xFFFFFFFF#64 else if alg = 1 then 0 else th64Init

/-- Feed bytes to a running digest; answers the digest and the bytes that wait for a whole TH64 word. -/
def digestFeed (alg : Nat) (h : W64) (bs : List Byte) : W64 × List Byte :=
  if alg = 0 then ((bs.foldl crc32cStep (h.truncate 32)).zeroExtend 64, [])
  else if alg = 1 then (bs.foldl crc64Step h, [])
  else (th64Loop (bs.length / 8) h (bs.take (8 * (bs.length / 8))), bs.drop (8 * (bs.length / 8)))

/-- The digest of `n` bytes when the running digest and the waiting bytes are given. -/
def digestDone (alg : Nat) (h : W64) (rest : List Byte) (n : Nat) : W64 :=
  if alg = 0 then ((h.truncate 32) ^^^ 0xFFFFFFFF#32).zeroExtend 64
  else if alg = 1 then h
  else th64Fin (th64Loop 1 h rest) (BitVec.ofNat 64 n)

end Sys2Proof.Machine
end

