-- ==== Sys2Proof/Machine/Ops.lean ====
section
/-! DEFINITION. The named operations over the parts of the state, the reset value of every entry that a table does not
list, time, free values and outputs. -/

namespace Sys2Proof.Machine

/-! ### Reset values of table entries -/

/-- The home of context `n` (05 R165): region and slot in one 6-bit value. -/
def homeOf (n : Nat) : Nat := ((bits n 0 6 ^^^ bits n 6 6) ^^^ bits n 12 6) ^^^ bits n 18 2

/-- Whether `n` is a supervisor context (05 R164). -/
def isSupCtx (n : Nat) : Bool := 0xFF000 ≤ n

/-- Size of the tenant area (01 R28): 140 GiB. -/
def tenantSize : Nat := 0x2300000000

/-- The reset value of context `n` (05 R155, R164). -/
def ctxDef (n : Nat) : Ctx :=
  { r := { supervisor := isSupCtx n, region := BitVec.ofNat 3 (homeOf n / 8), slot := BitVec.ofNat 3 (homeOf n) } }

/-- The reset value of context `n` when some slots are empty: its home is the next filled slot of the region (05 R155, R166). -/
def ctxHomed (moved : List (Nat × Nat)) (n : Nat) : Ctx :=
  match moved.find? fun p => decide (p.1 = homeOf n) with
  | none => ctxDef n
  | some p => { ctxDef n with r := { (ctxDef n).r with slot := BitVec.ofNat 3 p.2 } }

/-- The reset value of function `n` (06 R183, 01 R29). -/
def fnDef (n : Nat) : Fn :=
  if n = 0 then { vecCount := 2048, extLen := tenantSize } else {}

/-- The reset value of an event channel (Table 11.1, 11 R333). -/
def echDef (c : Nat) : Ech := if 3072 ≤ c then { attrS := true, supervisor := true } else {}

/-- The reset value of FIFO `f` (Table 10.11). -/
def fifoDef (f : Nat) : Fifo := { mark := if f < 32 then 48 else 12 }

def vecDef (_ : Nat) : Vec := {}
def bindDef (_ : Nat) : EvtBind := {}
def srcDef (_ : Nat) : Src := {}
def tgtDef (_ : Nat) : Tgt := {}
def natDef (_ : Nat) : Nat := 0
def w64Def (_ : Nat) : W64 := 0
def w32Def (_ : Nat) : W32 := 0
def ctlDef (_ : Nat) : Ictl := {}
def capDef (_ : Nat) : Cap := {}
def ringDef (_ : Nat) : RingChan := {}
def regDef (_ : Nat) : RegChan := {}
def moverDef (_ : Nat) : Mover := {}
def timerDef (_ : Nat) : Timer := {}
def subDef (_ : Nat) : ViewSub := {}
def blockDef (_ : Nat) : Block := {}
def regionDef (_ : Nat) : Region := {}
def pchDef (_ : Nat) : Pch := {}
def linkDef (_ : Nat) : Link := {}
def tempDef (_ : Nat) : Temp := {}
def railDef (_ : Nat) : Rail := {}
/-- The reset value of a port: INT 0, and 3 in LSU.m (R260, R284). -/
def valDef (p : Nat) : Val := if p = 0x62 then ⟨3, 1⟩ else {}
def winDef (_ : Nat) : Win := {}
/-- The kinds of Yaquelux cores (Table 09.1). -/
inductive CoreKind where
  | sq | sv | gt | sup
deriving DecidableEq, Repr

/-- The kind of core `id`: six cores a block, then RS[0..1] of each region from 432, then CS[0..3] from 448. -/
def coreKind (id : Nat) : CoreKind :=
  if 432 ≤ id then .sup else if id % 6 = 0 then .sq else if id % 6 = 5 then .gt else .sv

/-- Data stack capacity of a kind (Table 09.1). -/
def dsCap : CoreKind → Nat
  | .sq => 64 | .sv => 16 | .gt => 32 | .sup => 256

/-- A core after reset of its cell (08 R284, 09 R285). -/
def coreDef (id : Nat) : Core := { dsLimit := dsCap (coreKind id) }
def noneDef {α : Type} (_ : Nat) : Option α := none

/-! ### Access to the parts of the state -/

def State.fn (s : State) (n : Nat) : Fn := Table.get fnDef s.fns n
def State.setFn (s : State) (n : Nat) (f : Fn) : State := { s with fns := Table.set fnDef s.fns n f }
def State.modFn (s : State) (n : Nat) (g : Fn → Fn) : State := s.setFn n (g (s.fn n))
def State.ctx (s : State) (n : Nat) : Ctx := Table.get (ctxHomed s.rehomed) s.ctxs n
def State.setCtx (s : State) (n : Nat) (c : Ctx) : State := { s with ctxs := Table.set (ctxHomed s.rehomed) s.ctxs n c }
def State.modCtx (s : State) (n : Nat) (g : Ctx → Ctx) : State := s.setCtx n (g (s.ctx n))
def Fn.vec (f : Fn) (v : Nat) : Vec := Table.get vecDef f.vecs v
def Fn.setVec (f : Fn) (v : Nat) (x : Vec) : Fn := { f with vecs := Table.set vecDef f.vecs v x }
def Fn.queue (f : Fn) (q : Nat) : Option Queue := Table.get noneDef f.queues q
def Fn.setQueue (f : Fn) (q : Nat) (x : Option Queue) : Fn := { f with queues := Table.set noneDef f.queues q x }
def Fn.ring (f : Fn) (n : Nat) : Option StatusRing := Table.get noneDef f.rings n
def Fn.setRing (f : Fn) (n : Nat) (x : Option StatusRing) : Fn := { f with rings := Table.set noneDef f.rings n x }
def State.ech (s : State) (c : Nat) : Ech := Table.get echDef s.echs c
def State.setEch (s : State) (c : Nat) (e : Ech) : State := { s with echs := Table.set echDef s.echs c e }
def State.bind (s : State) (c i : Nat) : EvtBind := Table.get bindDef s.binds (4 * c + i)
def State.setBind (s : State) (c i : Nat) (b : EvtBind) : State :=
  { s with binds := Table.set bindDef s.binds (4 * c + i) b }
def State.ctl (s : State) (k : Nat) : Ictl := Table.get ctlDef s.ctls k
def State.setCtl (s : State) (k : Nat) (c : Ictl) : State := { s with ctls := Table.set ctlDef s.ctls k c }
def Ictl.src (c : Ictl) (i : Nat) : Src := Table.get srcDef c.srcs i
def Ictl.setSrc (c : Ictl) (i : Nat) (x : Src) : Ictl := { c with srcs := Table.set srcDef c.srcs i x }
def Ictl.tgt (c : Ictl) (t : Nat) : Tgt := Table.get tgtDef c.tgts t
def Ictl.setTgt (c : Ictl) (t : Nat) (x : Tgt) : Ictl := { c with tgts := Table.set tgtDef c.tgts t x }
def State.block (s : State) (k : Nat) : Block := Table.get blockDef s.blocks k
def State.setBlock (s : State) (k : Nat) (b : Block) : State := { s with blocks := Table.set blockDef s.blocks k b }
def State.modBlock (s : State) (k : Nat) (g : Block → Block) : State := s.setBlock k (g (s.block k))
def Block.mover (b : Block) (m : Nat) : Mover := Table.get moverDef b.movers m
def Block.setMover (b : Block) (m : Nat) (x : Mover) : Block := { b with movers := Table.set moverDef b.movers m x }
def Mover.ring (m : Mover) (c : Nat) : RingChan := Table.get ringDef m.rings c
def Mover.setRing (m : Mover) (c : Nat) (x : RingChan) : Mover := { m with rings := Table.set ringDef m.rings c x }
def Mover.reg (m : Mover) (j : Nat) : RegChan := Table.get regDef m.regs j
def Mover.setReg (m : Mover) (j : Nat) (x : RegChan) : Mover := { m with regs := Table.set regDef m.regs j x }
def Block.fifo (b : Block) (f : Nat) : Fifo := Table.get fifoDef b.fifos f
def Block.setFifo (b : Block) (f : Nat) (x : Fifo) : Block := { b with fifos := Table.set fifoDef b.fifos f x }
def State.region (s : State) (r : Nat) : Region := Table.get regionDef s.regions r
def State.setRegion (s : State) (r : Nat) (x : Region) : State :=
  { s with regions := Table.set regionDef s.regions r x }
def State.link (s : State) (l : Nat) : Link := Table.get linkDef s.links l
def State.setLink (s : State) (l : Nat) (x : Link) : State := { s with links := Table.set linkDef s.links l x }
def State.iset (s : State) (k : Nat) : Option ISet := Table.get noneDef s.isets k
def State.core (s : State) (id : Nat) : Core := Table.get coreDef s.cores id
def State.setCore (s : State) (id : Nat) (c : Core) : State := { s with cores := Table.set coreDef s.cores id c }
def Core.reg (c : Core) (p : Nat) : Val := Table.get valDef c.regs p
def Core.setReg (c : Core) (p : Nat) (x : Val) : Core := { c with regs := Table.set valDef c.regs p x }
def Core.win (c : Core) (n : Nat) : Win := Table.get winDef c.wins n
def Core.setWin (c : Core) (n : Nat) (x : Win) : Core := { c with wins := Table.set winDef c.wins n x }
def State.sieve (s : State) (h : Nat) : Option SieveHandle := Table.get noneDef s.sieves h
def State.setSieve (s : State) (h : Nat) (x : Option SieveHandle) : State :=
  { s with sieves := Table.set noneDef s.sieves h x }
def State.nvm (s : State) (h : Nat) : Option NvmHandle := Table.get noneDef s.nvms h
def State.setNvm (s : State) (h : Nat) (x : Option NvmHandle) : State :=
  { s with nvms := Table.set noneDef s.nvms h x }
def State.ctrl (s : State) (k : Nat) : Option NvmeCtrl := Table.get noneDef s.ctrls k
def State.setCtrl (s : State) (k : Nat) (x : Option NvmeCtrl) : State :=
  { s with ctrls := Table.set noneDef s.ctrls k x }
def State.pch (s : State) (n : Nat) : Pch := Table.get pchDef s.chip.pch n
def State.setPch (s : State) (n : Nat) (x : Pch) : State :=
  { s with chip := { s.chip with pch := Table.set pchDef s.chip.pch n x } }

/-- The function exists (06 R181). -/
def State.fnExists (s : State) (n : Nat) : Bool :=
  n = 0 || (decide (n ≤ 255) && s.vfEnable && decide (n ≤ s.numVfs))

/-- The block instance key (9 × region + block) that fills active slot `t` of region `r` (01 R18, 13 R385). -/
def State.blockOf (s : State) (r t : Nat) : Option Nat :=
  let b := ((s.region r).slots.getD t 15)
  if b = 15 then none else some (9 * r + b)

/-- The block that serves context `n`: the one in its home slot, or the reserve that it has moved to in a substitution (05 R178). -/
def State.homeBlock (s : State) (n : Nat) : Option Nat :=
  let c := s.ctx n
  let r := c.r.region.toNat
  match (s.region r).subst with
  | none => s.blockOf r c.r.slot.toNat
  | some (t, _, _) =>
    if c.moved && decide (t = c.r.slot.toNat) then some (9 * r + (s.region r).reserve) else s.blockOf r c.r.slot.toNat

/-- The active slot that block `k` fills, if any. -/
def State.slotOf (s : State) (k : Nat) : Option Nat :=
  firstFrom (fun t => (s.region (k / 9)).slots.getD t 15 = k % 9) 0 8

/-- The block is active: it fills a slot, and it is not retired. -/
def State.blockActive (s : State) (k : Nat) : Bool :=
  decide (k < 72) && (s.slotOf k).isSome && !(s.block k).blockRetired

/-- The block runs: it is active, or it is the reserve that a running substitution brings in (01 R17, 05 R178). -/
def State.blockOn (s : State) (k : Nat) : Bool :=
  s.blockActive k || (decide (k < 72) && (s.region (k / 9)).subst.isSome && decide ((s.region (k / 9)).reserve = k % 9))

/-- The slot in the place of slot `t` of region `r`: the next filled one (05 R166). -/
def State.nextSlot (s : State) (r t : Nat) : Option Nat :=
  (firstFrom (fun k => (s.blockOf r (k % 8)).isSome) (t + 1) 7).map (· % 8)

/-- The homes of default contexts after a reset: those on an empty slot move on (05 R155, R166). -/
def State.freshHomes (s : State) : List (Nat × Nat) :=
  (List.range 64).filterMap fun h =>
    if (s.blockOf (h / 8) (h % 8)).isSome then none else (s.nextSlot (h / 8) (h % 8)).map fun k => (h, k)

/-- Bit 63 of a supervisor's view: its mailbox holds a value (11 R342). -/
def mailBit (c : Core) : W64 := if c.mbx.isEmpty then 0 else BitVec.ofNat 64 (2 ^ 63)

/-! ### FIFOs (10 R328 to R332) -/

/-- Words written and not yet read; words of whole items (10 R329). -/
def Fifo.level (f : Fifo) : Nat := f.words.length
def Fifo.committed (f : Fifo) : Nat :=
  f.words.length - ((f.words.reverse.takeWhile fun w => !w.2).length)

/-- Words of a FIFO: 64 for a stream FIFO, 16 for a control FIFO (10 R328). -/
def fifoCap (f : Nat) : Nat := if f < 32 then 64 else 16

/-- LEVEL rises to the mark: a crossing (10 R332). -/
def Fifo.crossed (x y : Fifo) : Fifo :=
  if x.level < x.mark && decide (x.mark ≤ y.level) then { y with wm := true, crossings := satInc y.crossings 0xFFFF } else y

/-- Write words, oldest first. -/
def Fifo.write (x : Fifo) (ws : List (List Byte × Bool)) (ctx : Option Nat) : Fifo :=
  x.crossed { x with words := x.words ++ ws, ctxs := match ctx with | none => x.ctxs | some n => insertNat n x.ctxs }

/-- The numbers of the control FIFOs that carry notices: from the sequencer to mover `m`, and the sequencer's own, which EVQ.pop reads
(10 R305, R306, log 64). -/
def toMover (m : Nat) : Nat := 32 + m
def toSeq : Nat := 40

/-- Take the oldest item of whole words. -/
def Fifo.takeItem (x : Fifo) : Option (List Byte) × Fifo :=
  if x.committed = 0 then (none, x)
  else
    let k := (x.words.takeWhile fun w => !w.2).length + 1
    (x.words.head?.map Prod.fst,
     { x with words := x.words.drop k, last := ((x.words[k - 1]?).map Prod.fst).getD x.last,
              ctxs := if k = x.words.length then [] else x.ctxs })

/-- Items that wait for room go into the sequencer's control FIFO, oldest first (10 R329). -/
def Block.drainEv : Nat → Block → Block
  | 0, b => b
  | fuel + 1, b =>
    match b.evWait with
    | [] => b
    | (_, w, n) :: l =>
      let x := b.fifo toSeq
      if fifoCap toSeq ≤ x.level then b
      else Block.drainEv fuel { b.setFifo toSeq (x.write [(w, true)] n) with evWait := l }

/-- Change a FIFO; what waits for room in the sequencer's follows. -/
def State.modFifo (s : State) (blk f : Nat) (g : Fifo → Fifo) : State :=
  s.modBlock blk fun b =>
    let b := b.setFifo f (g (b.fifo f))
    if f = toSeq then b.drainEv (b.evWait.length) else b

/-! ### Time, outputs, free values -/

/-- Device time wraps after 2^48 ns (Table 06.9). -/
def timeMod : Nat := 0x1000000000000

/-- Device time `t` has reached `d`: it lies at most half the range of device time beyond it (Table 06.9). -/
def reached (t d : Nat) : Bool := decide ((t + timeMod - d % timeMod) % timeMod < timeMod / 2)

/-- Device time `t` is not past. -/
def State.notBefore (s : State) (t : Nat) : Bool := reached t s.time

/-- The event occurs at device time `t`, which is not in the past (log 3). -/
def State.at_ (s : State) (t : Nat) : State :=
  { s with time := t % timeMod, wraps := s.wraps + b2n (decide (t % timeMod < s.time)) }

/-- Device time with its wraps counted (log 161). -/
def State.uptime (s : State) : Nat := s.wraps * timeMod + s.time

/-- The deadline that a timeout in ns gives, or a device time (08 R280): a device time that has been reached lies in the past. -/
def State.dueAt (s : State) (abs : Bool) (n : Nat) : Nat :=
  if abs then
    (if reached s.time n then s.uptime - (s.time + timeMod - n % timeMod) % timeMod
     else s.uptime + (n % timeMod + timeMod - s.time) % timeMod)
  else s.uptime + n

/-- When a domain timeout that starts now expires (07 R234). -/
def State.domainLimit (s : State) : Nat := s.time + s.domain.timeout * 1000

/-- Send something outwards. -/
def State.emit (s : State) (o : Out) : State := { s with out := s.out ++ [o] }

/-- Draw one free 64-bit value (log 7). -/
def State.drawWord (s : State) : W64 × State := (Config.freeWord s.free, { s with free := s.free + 1 })

/-- Draw `n` free bytes (log 7). -/
def State.drawBytes (s : State) (n : Nat) : List Byte × State :=
  ((List.range n).map fun i => Config.freeByte (s.free + i), { s with free := s.free + n })

/-- Work has begun that ends the Coast and Park conditions: their next entry that is refused counts anew (14 R414). -/
def State.stir (s : State) : State := { s with power := { s.power with coastTold := false, parkTold := false } }

/-- An item for the sequencer's control FIFO: bytes 0 to 7 are what EVQ.pop returns, whose layout is not given, free values; what it
names stands in the bytes after them (10 R306, log 64). The producer `who` waits while the FIFO is full (10 R329). -/
def State.tellSeq (s : State) (blk who : Nat) (names : List Nat) (ctx : Option Nat) : State :=
  let (v, s) := s.drawWord
  let w := leBytes 8 v.toNat ++ ((names ++ List.replicate (8 - names.length) 0).map fun k => BitVec.ofNat 8 k)
  s.modBlock blk fun b =>
    let b := { b with evWait := b.evWait ++ [(who, w, ctx)] }
    b.drainEv b.evWait.length

/-- An item of the sequencer's control FIFO says that a demand fetch has completed (11 R355). -/
def isFetchItem (w : List Byte) : Bool := decide (w.getD 8 0 = 1)

/-! ### Words of on-chip memory with an uncorrectable error (13 R381) -/

/-- The first byte of a range that lies in one of the 8-byte words listed. -/
def firstBad (l : List Nat) (o n : Nat) : Option Nat :=
  (l.find? fun w => decide (w * 8 < o + n) && decide (o < w * 8 + 8)).map fun w => max o (w * 8)

/-- The words that are still bad after a write: a word written whole is good again. -/
def mendWords (l : List Nat) (o n : Nat) : List Nat := l.filter fun w => !(decide (o ≤ w * 8) && decide (w * 8 + 8 ≤ o + n))

/-- A write to block SRAM. -/
def Block.sramPut (x : Block) (a : Nat) (bs : List Byte) : Block :=
  { x with sram := x.sram.writeN a bs, sramBad := mendWords x.sramBad a bs.length }

end Sys2Proof.Machine
end

