-- ==== Sys2Proof/Machine/Ports.lean ====
section
/-! DEFINITION. Yaquelux words: slots, immediates and literals, the port space of each core kind, guards and tags (08 R239 to
R253, 09 R288). -/

namespace Sys2Proof.Machine

/-! ### Slots (R240 to R242) -/

/-- A move slot (Table 08.2). -/
structure YSlot where
  guard : Nat
  imm : Bool
  dst : Nat
  src : Nat
  low : Nat
  imm18 : Nat
deriving DecidableEq, Repr

/-- The slot that 32 bits spell. -/
def yslot (x : Nat) : YSlot :=
  { guard := bits x 28 4, imm := bit x 27, dst := bits x 18 9, src := bits x 9 9, low := bits x 0 9, imm18 := bits x 0 18 }

/-- The two slots of a word, slot 0 first (Table 08.1). -/
def yslots (w : W64) : YSlot × YSlot := (yslot (w.toNat % 2 ^ 32), yslot (w.toNat / 2 ^ 32))

/-- The slot reads a literal. -/
def YSlot.limm (x : YSlot) : Bool := !x.imm && decide (x.src = 0x1FF)

/-- Literal words that follow the instruction word (R242). -/
def ylits (w : W64) : Nat := b2n (yslots w).1.limm + b2n (yslots w).2.limm

/-- The word holds a move to port `p` whose guard is not NV. -/
def writesPort (w : W64) (p : Nat) : Bool :=
  (decide ((yslots w).1.dst = p) && decide ((yslots w).1.guard ≠ 15)) ||
  (decide ((yslots w).2.dst = p) && decide ((yslots w).2.guard ≠ 15))

/-! ### The port space (R245, R246, Table 08.5, Tables 09.4 to 09.7) -/

/-- The Priv column: P, W. -/
inductive Priv where
  | no | both | write
deriving DecidableEq, Repr

/-- A row of a port table, for ports `lo` to `hi`: direction, privilege, the unit, whether it is a trigger port, whether a frame
saves the unit (R271), and the tags a write may carry. -/
structure PortRow where
  lo : Nat
  hi : Nat
  s : Bool
  d : Bool
  priv : Priv
  unit : Nat
  trig : Bool
  framed : Bool
  tags : List Nat
deriving DecidableEq, Repr

/-- Tags that a port accepts: INT and RAW; any. -/
def tNum : List Nat := [1, 0]
def tAny : List Nat := [0, 1, 2, 3, 4, 5, 6, 7]

/-- A port that is only read. -/
def rowS (p : Nat) (pr : Priv) (u : Nat) (fr : Bool) : PortRow := ⟨p, p, true, false, pr, u, false, fr, []⟩
/-- An operand port that is only written. -/
def rowD (p : Nat) (pr : Priv) (u : Nat) (fr : Bool) (tags : List Nat) : PortRow := ⟨p, p, false, true, pr, u, false, fr, tags⟩
/-- A port that is read and written. -/
def rowSD (p : Nat) (pr : Priv) (u : Nat) (fr : Bool) (tags : List Nat) : PortRow := ⟨p, p, true, true, pr, u, false, fr, tags⟩
/-- A trigger port. -/
def rowT (p : Nat) (pr : Priv) (u : Nat) (fr : Bool) (tags : List Nat) : PortRow := ⟨p, p, false, true, pr, u, true, fr, tags⟩

/-- Table 08.5: the control units. -/
def controlPorts : List PortRow :=
  [rowSD 0x000 .no 0x000 false tAny, rowT 0x001 .no 0x001 false [1, 0, 4], rowT 0x002 .no 0x001 false [1, 0, 4],
   rowT 0x003 .no 0x001 false [4], rowT 0x004 .both 0x001 false tNum, rowSD 0x008 .no 0x008 false tNum,
   rowT 0x009 .no 0x008 false [1, 0, 2], rowT 0x010 .no 0x010 false tNum, rowS 0x011 .both 0x010 false,
   rowS 0x012 .both 0x010 false, rowS 0x013 .both 0x010 false, rowSD 0x014 .both 0x010 false [4],
   rowD 0x015 .both 0x010 true tAny, rowT 0x018 .both 0x018 false [1, 0, 6], rowSD 0x019 .both 0x018 true tNum,
   rowS 0x01A .both 0x018 true, rowT 0x020 .no 0x020 false tAny, rowD 0x021 .both 0x020 true tNum,
   rowT 0x022 .both 0x020 false tAny, rowS 0x023 .no 0x020 true, ⟨0x040, 0x05F, true, true, .no, 0x040, false, false, tAny⟩]

/-- Table 08.5: LSU, BND, DS, RET, WIN and CFG. -/
def storePorts : List PortRow :=
  [rowSD 0x060 .no 0x060 true [3], rowD 0x061 .no 0x060 true tNum, rowD 0x062 .no 0x060 true tNum,
   rowT 0x063 .no 0x060 false [3], rowT 0x064 .no 0x060 false tAny, rowS 0x065 .no 0x060 true,
   rowD 0x070 .no 0x070 true tNum, rowT 0x071 .no 0x070 false tNum, rowS 0x072 .no 0x070 true,
   rowD 0x078 .no 0x078 false tAny, rowS 0x079 .no 0x078 false, rowS 0x07A .no 0x078 false, rowS 0x07B .no 0x078 false,
   rowSD 0x07C .write 0x078 false tNum, rowD 0x080 .no 0x080 false [4], rowS 0x081 .no 0x080 false,
   rowS 0x082 .no 0x080 false, rowSD 0x083 .write 0x080 false tNum, rowSD 0x084 .both 0x080 false tNum,
   rowS 0x085 .both 0x080 false, rowT 0x086 .both 0x080 false [4], ⟨0x088, 0x097, true, false, .no, 0x088, false, false, []⟩,
   rowD 0x098 .both 0x088 true tNum, rowD 0x099 .both 0x088 true tNum, rowD 0x09A .both 0x088 true tNum,
   rowD 0x09B .both 0x088 true tNum, rowT 0x09C .both 0x088 false tNum, rowT 0x09D .both 0x088 false tNum,
   rowSD 0x0C0 .both 0x0C0 false tNum, rowSD 0x0C1 .both 0x0C0 false tNum, rowSD 0x0C2 .both 0x0C0 false [4]]

/-- Number of ALU instances (Table 09.1). -/
def aluCount : CoreKind → Nat
  | .sq => 2 | .sv => 2 | .gt => 1 | .sup => 4

/-- Table 08.8: the ports of ALU `n`. The tags of the operands are checked together (Table 08.7). -/
def aluPorts (n : Nat) : List PortRow :=
  let b := 0x100 + 0x20 * n
  [rowD b .no b true tAny, ⟨b + 1, b + 0x14, false, true, .no, b, true, true, tAny⟩,
   ⟨b + 0x1E, b + 0x1F, true, false, .no, b, false, true, []⟩]

/-- Table 09.4: SQ. -/
def sqPorts : List PortRow :=
  [rowD 0x180 .both 0x180 true tNum, rowD 0x181 .both 0x180 true tNum, rowT 0x182 .both 0x180 true tNum,
   rowT 0x183 .both 0x180 true tNum, rowS 0x184 .both 0x180 true, rowT 0x188 .both 0x188 true tNum,
   ⟨0x189, 0x18D, true, false, .both, 0x188, false, true, []⟩, rowT 0x190 .both 0x190 false tNum,
   rowD 0x198 .both 0x198 true tNum, ⟨0x199, 0x19C, false, true, .both, 0x198, false, true, tNum⟩,
   rowT 0x19D .both 0x198 true tNum, rowS 0x19E .both 0x198 true, ⟨0x1A0, 0x1A1, true, false, .both, 0x1A0, false, false, []⟩,
   rowS 0x1B0 .no 0x1B0 false, rowT 0x1B8 .both 0x1B8 false tNum]

/-- Table 09.5: GT. -/
def gtPorts : List PortRow :=
  [rowS 0x180 .both 0x180 true, rowD 0x181 .both 0x180 true tNum, rowT 0x182 .both 0x180 true tNum,
   rowT 0x183 .both 0x180 true tNum, rowT 0x184 .both 0x180 false tNum, rowD 0x190 .both 0x190 true tNum,
   rowD 0x191 .both 0x190 true tNum, rowT 0x192 .both 0x190 false [1, 0, 6], rowT 0x193 .both 0x190 false tNum,
   rowD 0x1A0 .both 0x1A0 true tNum, rowS 0x1A1 .both 0x1A0 true, rowT 0x1A2 .both 0x1A0 false tNum,
   rowS 0x1B0 .no 0x1B0 false]

/-- Table 09.6: supervisors. -/
def supPorts : List PortRow :=
  [rowS 0x180 .both 0x180 false, rowT 0x181 .both 0x180 false tNum, rowD 0x188 .both 0x188 true tNum,
   rowT 0x189 .both 0x188 true tAny, ⟨0x18A, 0x18B, true, false, .both, 0x188, false, false, []⟩,
   rowT 0x190 .both 0x190 true tNum, rowT 0x191 .both 0x190 false tNum, rowS 0x192 .both 0x190 true,
   rowS 0x1B0 .no 0x1B0 false]

/-- Table 09.7: SV. -/
def svPorts : List PortRow :=
  [rowT 0x180 .no 0x180 true tNum, ⟨0x181, 0x184, true, false, .no, 0x180, false, true, []⟩,
   ⟨0x185, 0x187, true, false, .no, 0x180, false, false, []⟩, ⟨0x190, 0x194, false, true, .no, 0x190, false, true, tNum⟩,
   rowT 0x195 .no 0x190 true tNum, rowS 0x196 .no 0x190 true, ⟨0x1A0, 0x1A3, false, true, .no, 0x1A0, false, true, tNum⟩,
   rowT 0x1A4 .no 0x1A0 true tNum, rowT 0x1A5 .no 0x1A0 true tNum, rowS 0x1A7 .no 0x1A0 true,
   rowSD 0x1B0 .no 0x1B0 true tNum, rowT 0x1B1 .no 0x1B0 true tNum, rowT 0x1B2 .no 0x1B0 true tNum,
   ⟨0x1C0, 0x1C3, false, true, .no, 0x1C0, true, true, tNum⟩, rowD 0x1C4 .no 0x1C0 true tNum,
   rowT 0x1C5 .no 0x1C0 true tNum, rowS 0x1C6 .no 0x1C0 true, rowT 0x1D0 .no 0x1D0 false [1, 0, 2],
   rowT 0x1D1 .no 0x1D0 false tNum]

/-- Table 09.13: the emulated AD7100 ports of the SV core, in the directions it gives. The hardware does not assign them, so
no two of them conflict (R298). -/
def a7Ports : List PortRow :=
  [rowD 0x1E0 .no 0x1E0 false tNum, rowS 0x1E1 .no 0x1E1 false, rowS 0x1E2 .no 0x1E2 false, rowD 0x1E3 .no 0x1E3 false tNum,
   rowD 0x1E4 .no 0x1E4 false tNum, rowSD 0x1E5 .no 0x1E5 false tNum, rowD 0x1E6 .no 0x1E6 false tNum,
   rowS 0x1E7 .no 0x1E7 false]

/-- The kind-specific port table. -/
def kindPorts : CoreKind → List PortRow
  | .sq => sqPorts | .gt => gtPorts | .sup => supPorts | .sv => svPorts

/-- Every port that the hardware of a kind assigns. -/
def portTable (k : CoreKind) : List PortRow :=
  controlPorts ++ storePorts ++ ((List.range (aluCount k)).flatMap aluPorts) ++ kindPorts k

/-- The row of a port on a kind. -/
def portOf (k : CoreKind) (p : Nat) : Option PortRow :=
  (portTable k).find? fun r => decide (r.lo ≤ p) && decide (p ≤ r.hi)

/-- The port is an emulated AD7100 port. -/
def isA7 (p : Nat) : Bool := decide (0x1E0 ≤ p) && decide (p ≤ 0x1E7)

/-- The row of a port for code of a sieve image, as a source or as a destination: with the emulated ports, in the directions that are
emulated (R298). -/
def portFor (k : CoreKind) (image dst : Bool) (p : Nat) : Option PortRow :=
  if image && isA7 p then a7Ports.find? fun r => decide (r.lo = p) && (if dst then r.d else r.s) else portOf k p

/-! ### The encoding checks (R243) -/

/-- The two destinations conflict. -/
def dstConflict (k : CoreKind) (a b : Nat) : Bool :=
  let ra := portOf k a
  let rb := portOf k b
  (decide (a = b) && decide (a ≠ 0)) ||
  (match ra, rb with
   | some x, some y => decide (x.unit = y.unit) && ((x.trig && y.trig) || decide (x.unit = 1))
   | _, _ => false) ||
  (decide (a = 0x063) && decide (b = 0x060)) || (decide (a = 0x060) && decide (b = 0x063))

/-- The first encoding rule that a word breaks: subcode of UNASSIGNED-PORT, DIR, SLOT and PORT (Table 08.15). -/
def encodingTrap (k : CoreKind) (w : W64) : Option (Nat × Bool × Nat × Nat) :=
  let (a, b) := yslots w
  if !a.imm && decide (a.low ≠ 0) then some (3, false, 0, a.src)
  else if a.dst = 0x1FF then some (4, true, 0, a.dst)
  else if !b.imm && decide (b.low ≠ 0) then some (3, false, 1, b.src)
  else if b.dst = 0x1FF then some (4, true, 1, b.dst)
  else if dstConflict k a.dst b.dst then some (5, true, 1, b.dst)
  else none

/-! ### Guards (R244, Table 08.3) -/

/-- The flags. -/
def flagN (f : BitVec 4) : Bool := f.getLsbD 3
def flagZ (f : BitVec 4) : Bool := f.getLsbD 2
def flagC (f : BitVec 4) : Bool := f.getLsbD 1
def flagV (f : BitVec 4) : Bool := f.getLsbD 0

/-- N, Z, C and V in one value. -/
def nzcv (n z c v : Bool) : BitVec 4 := BitVec.ofNat 4 (8 * b2n n + 4 * b2n z + 2 * b2n c + b2n v)

/-- The guard holds. -/
def guardHolds (g : Nat) (f : BitVec 4) : Bool :=
  let n := flagN f
  let z := flagZ f
  let c := flagC f
  let v := flagV f
  match g with
  | 0 => true
  | 1 => z
  | 2 => !z
  | 3 => c
  | 4 => !c
  | 5 => n
  | 6 => !n
  | 7 => v
  | 8 => !v
  | 9 => c && !z
  | 10 => !c || z
  | 11 => n == v
  | 12 => n != v
  | 13 => !z && n == v
  | 14 => z || n != v
  | _ => false

/-! ### Values and tags (R242, R251, R252) -/

/-- Tag numbers (Table 08.6). -/
def tgRaw : Nat := 0
def tgInt : Nat := 1
def tgBool : Nat := 2
def tgHndl : Nat := 3
def tgCode : Nat := 4
def tgTime : Nat := 6
def tgPoison : Nat := 7

/-- An INT value. -/
def intVal (n : Nat) : Val := ⟨BitVec.ofNat 64 n, tgInt⟩

/-- The immediate of a slot, sign-extended from bit 17 (R242). -/
def YSlot.immVal (x : YSlot) : Val := ⟨(BitVec.ofNat 18 x.imm18).signExtend 64, tgInt⟩

/-- RAW counts as INT (R252). -/
def tagClass (t : Nat) : Nat := if t = tgRaw then tgInt else t

/-- The offset of a handle, and its window (Table 08.11). -/
def Val.offset (x : Val) : Nat := x.v.toNat % 2 ^ 48
def Val.window (x : Val) : Nat := x.v.toNat / 2 ^ 60

end Sys2Proof.Machine
end

