-- ==== Sys2Proof/Machine/Alu.lean ====
section
/-! DEFINITION. The ALU: the tags its triggers accept, results and flags (08 R252 to R258). -/

namespace Sys2Proof.Machine

/-- Offsets of the ALU triggers (Table 08.8). -/
def opAdd : Nat := 0x01
def opSub : Nat := 0x02
def opCmp : Nat := 0x03
def opNeg : Nat := 0x04
def opAnd : Nat := 0x05
def opOr : Nat := 0x06
def opXor : Nat := 0x07
def opNot : Nat := 0x08
def opShl : Nat := 0x09
def opShr : Nat := 0x0A
def opSar : Nat := 0x0B
def opRol : Nat := 0x0C
def opRor : Nat := 0x0D
def opMulu : Nat := 0x0E
def opMuls : Nat := 0x0F
def opDivu : Nat := 0x10
def opDivs : Nat := 0x11
def opSeq : Nat := 0x12
def opSltu : Nat := 0x13
def opSlts : Nat := 0x14

/-- The result tag of an operation on operand tags; none where the trigger traps (Table 08.7). -/
def aluTag (op ta tb : Nat) : Option Nat :=
  let a := tagClass ta
  let b := tagClass tb
  if op = 0x01 then
    (if a = 1 ∧ b = 1 then some 1 else if (a = 3 ∧ b = 1) ∨ (a = 1 ∧ b = 3) then some 3
     else if (a = 6 ∧ b = 1) ∨ (a = 1 ∧ b = 6) then some 6 else none)
  else if op = 0x02 ∨ op = 0x03 then
    (if a = 1 ∧ b = 1 then some 1 else if a = 3 ∧ b = 1 then some 3 else if a = 3 ∧ b = 3 then some 1
     else if a = 6 ∧ b = 1 then some 6 else if a = 6 ∧ b = 6 then some 1 else none)
  else if op = 0x04 then (if b = 1 then some 1 else none)
  else if op = 0x05 ∨ op = 0x06 ∨ op = 0x07 ∨ op = 0x08 then
    (if a = 1 ∧ b = 1 then some 1 else if a = 2 ∧ b = 2 then some 2 else none)
  else if op = 0x12 then (if a = b ∧ a ≠ 7 then some 2 else none)
  else if op = 0x13 ∨ op = 0x14 then (if a = 1 ∧ b = 1 then some 2 else none)
  else (if a = 1 ∧ b = 1 then some 1 else none)

/-- The trigger traps with cause TAG: the tags do not fit, or two handles name different windows (R252). -/
def aluTagTrap (op : Nat) (a b : Val) : Bool :=
  (aluTag op a.tag b.tag).isNone ||
  (decide (op = opSub ∨ op = opCmp ∨ op = opSeq) && decide (a.tag = tgHndl) && decide (b.tag = tgHndl) &&
    decide (a.window ≠ b.window))

/-- What an operation gives: out, out_hi where it changes them, the flags. -/
structure AluOut where
  out : Option Val
  hi : Option Val := none
  flags : BitVec 4
deriving DecidableEq, Repr

/-- N and Z of a 64-bit result, with C and V. -/
def flags64 (o : W64) (c v : Bool) : BitVec 4 := nzcv o.msb (o == 0) c v

/-- A 64-bit difference with the flags of Table 08.9. -/
def sub64 (a b : W64) : W64 × BitVec 4 :=
  let o := a - b
  (o, flags64 o (decide (b.toNat ≤ a.toNat)) ((a.msb != b.msb) && (a.msb != o.msb)))

/-- Handle arithmetic on the offset (R252): the handle with the new offset, and the flags. -/
def handleOut (h : Val) (off : Nat) (c : Bool) : Val × BitVec 4 :=
  (⟨BitVec.ofNat 64 (h.v.toNat / 2 ^ 48 * 2 ^ 48 + off), tgHndl⟩, nzcv (bit off 47) (decide (off = 0)) c false)

/-- The flags and the difference of two values as t_sub and t_cmp form them. -/
def subVal (a b : Val) : Val × BitVec 4 :=
  if a.tag = tgHndl then
    let x := a.offset
    let y := b.offset
    let off := (x + 2 ^ 48 - y) % 2 ^ 48
    let r := handleOut a off (decide (y ≤ x))
    if b.tag = tgHndl then (⟨BitVec.ofNat 64 (signExtN off 48 64), tgInt⟩, r.2) else r
  else
    let r := sub64 a.v b.v
    (⟨r.1, if a.tag = tgTime ∧ b.tag ≠ tgTime then tgTime else tgInt⟩, r.2)

/-- The sum of two values. -/
def addVal (a b : Val) : Val × BitVec 4 :=
  if a.tag = tgHndl ∨ b.tag = tgHndl then
    let h := if a.tag = tgHndl then a else b
    let sum := a.offset + b.offset
    handleOut h (sum % 2 ^ 48) (decide (2 ^ 48 ≤ sum))
  else
    let o := a.v + b.v
    (⟨o, if a.tag = tgTime ∨ b.tag = tgTime then tgTime else tgInt⟩,
     flags64 o (decide (2 ^ 64 ≤ a.v.toNat + b.v.toNat)) ((a.v.msb == b.v.msb) && (o.msb != a.v.msb)))

/-- A shift or rotate: result and C (R256). -/
def shiftOut (op : Nat) (a : W64) (n : Nat) : W64 × Bool :=
  if op = opRol then
    let k := n % 64
    if k = 0 then (a, false) else let o := a.rotateLeft k; (o, o.getLsbD 0)
  else if op = opRor then
    let k := n % 64
    if k = 0 then (a, false) else let o := a.rotateRight k; (o, o.msb)
  else if n = 0 then (a, false)
  else if op = opShl then
    (if n ≤ 63 then (a <<< n, a.getLsbD (64 - n)) else (0, decide (n = 64) && a.getLsbD 0))
  else if op = opShr then
    (if n ≤ 63 then (a >>> n, a.getLsbD (n - 1)) else (0, decide (n = 64) && a.msb))
  else if n ≤ 63 then (a.sshiftRight n, a.getLsbD (n - 1))
  else (a.sshiftRight 63, a.msb)

/-- The product of 128 bits with its flags (R255). -/
def mulOut (signed : Bool) (a b : W64) : AluOut :=
  let p : BitVec 128 := if signed then a.signExtend 128 * b.signExtend 128 else a.zeroExtend 128 * b.zeroExtend 128
  let lo : W64 := p.truncate 64
  let hi : W64 := (p >>> 64).truncate 64
  let fits := if signed then decide (hi = (if lo.msb then BitVec.allOnes 64 else 0)) else decide (hi = 0)
  { out := some ⟨lo, tgInt⟩, hi := some ⟨hi, tgInt⟩, flags := nzcv p.msb (p == 0) (!fits) (!fits) }

/-- The quotient and the remainder with the flags (R257). A divisor of 0 that traps does not come here. -/
def divOut (signed : Bool) (a b : W64) : AluOut :=
  if b = 0 then { out := some (intVal 0), hi := some ⟨a, tgInt⟩, flags := nzcv false true false true }
  else
    let q : W64 := if signed then BitVec.ofInt 64 (a.toInt.tdiv b.toInt) else a / b
    let r : W64 := if signed then BitVec.ofInt 64 (a.toInt.tmod b.toInt) else a % b
    let v := signed && decide (a = 0x8000000000000000#64) && decide (b = BitVec.allOnes 64)
    { out := some ⟨q, tgInt⟩, hi := some ⟨r, tgInt⟩, flags := flags64 q false v }

/-- BOOL of a truth value. -/
def boolVal (b : Bool) : Val := ⟨if b then 1 else 0, tgBool⟩

/-- Operation `op` on A and B (R254 to R258). -/
def aluOp (op : Nat) (a b : Val) : AluOut :=
  let t := (aluTag op a.tag b.tag).getD tgInt
  if op = opAdd then let r := addVal a b; { out := some r.1, flags := r.2 }
  else if op = opSub then let r := subVal a b; { out := some r.1, flags := r.2 }
  else if op = opCmp then { out := none, flags := (subVal a b).2 }
  else if op = opNeg then
    let o := 0 - b.v
    { out := some ⟨o, tgInt⟩, flags := flags64 o (b.v == 0) (b.v == 0x8000000000000000#64) }
  else if op = opAnd then { out := some ⟨a.v &&& b.v, t⟩, flags := flags64 (a.v &&& b.v) false false }
  else if op = opOr then { out := some ⟨a.v ||| b.v, t⟩, flags := flags64 (a.v ||| b.v) false false }
  else if op = opXor then { out := some ⟨a.v ^^^ b.v, t⟩, flags := flags64 (a.v ^^^ b.v) false false }
  else if op = opNot then
    let o := if t = tgBool then 1 - b.v else ~~~b.v
    { out := some ⟨o, t⟩, flags := flags64 o false false }
  else if op = opMulu then mulOut false a.v b.v
  else if op = opMuls then mulOut true a.v b.v
  else if op = opDivu then divOut false a.v b.v
  else if op = opDivs then divOut true a.v b.v
  else if op = opSeq then { out := some (boolVal (a.v == b.v)), flags := (subVal a b).2 }
  else if op = opSltu then { out := some (boolVal (decide (a.v.toNat < b.v.toNat))), flags := (subVal a b).2 }
  else if op = opSlts then { out := some (boolVal (decide (a.v.toInt < b.v.toInt))), flags := (subVal a b).2 }
  else let r := shiftOut op a.v b.v.toNat; { out := some ⟨r.1, tgInt⟩, flags := flags64 r.1 r.2 false }

/-- Latency (R249, Table 09.2). -/
def aluLatency (op : Nat) : Nat := if op = opMulu ∨ op = opMuls then 3 else if op = opDivu ∨ op = opDivs then 20 else 1

end Sys2Proof.Machine
end

