-- ==== Sys2Proof/Machine/Yq.lean ====
section
/-! DEFINITION. How a Yaquelux core executes a word: fetch checks, guards, source reads, destination checks, effects, pending results,
stacks, windows, traps, frames, interrupts and sleep (08 R248 to R283). What lies beyond the core (its memories and its
kind-specific units) is given by a `Bus`. -/

namespace Sys2Proof.Machine

/-! ### What lies beyond the core -/

/-- The parts of a core that depend on its kind: memories (09 R287), kind-specific units (09 R288), requests and views. -/
structure Bus where
  /-- The code word at an address lies in code memory that the core may fetch (R239, R297). -/
  fetch : State → Core → Nat → Bool
  /-- An access through window `n` traps with this cause and subcode before its range is checked. -/
  winTrap : Nat → Core → Option (Nat × Nat)
  /-- An access, a load when the first argument is true, at an address of a window traps with this cause and subcode. -/
  memTrap : Bool → Nat → Nat → Win → State → Core → Option (Nat × Nat)
  /-- Bytes, and whether one of them is poisoned or uncorrectable. -/
  load : Nat → Nat → State → Core → List Byte × Bool × State × Core
  store : Nat → List Byte → State → Core → State × Core
  /-- A read of a kind-specific source port: a value, or a UNIT subcode. -/
  read : Nat → State → Core → Except Nat (Val × State × Core)
  /-- A write of a kind-specific destination port traps with this UNIT subcode. -/
  unitTrap : Nat → Val → State → Core → Option Nat
  write : Nat → Val → State → Core → State × Core
  /-- The highest level of the request presented to the core (R276). -/
  request : State → Core → Option Nat
  /-- The cell's event flag view (R281). -/
  view : State → Core → W64
  /-- A refused write to a port (R10, R247). -/
  accessErr : State → State
  /-- The report of a double trap (R275). -/
  doubleTrap : State → State

/-- The core runs with privilege (R283). -/
def Core.priv (c : Core) : Bool := decide (0 < c.level) || c.inTrap || c.threadPriv

/-- A sieve core runs code of an image (R442). -/
def Core.inImage (k : CoreKind) (c : Core) : Bool := decide (k = .sv) && !c.priv

/-! ### Causes (Table 08.14) -/

def cUnassigned : Nat := 0x01
def cPrivileged : Nat := 0x02
def cTag : Nat := 0x03
def cPoison : Nat := 0x04
def cOperand : Nat := 0x05
def cBounds : Nat := 0x06
def cWindow : Nat := 0x07
def cDivZero : Nat := 0x08
def cDsOver : Nat := 0x09
def cDsUnder : Nat := 0x0A
def cRetSpill : Nat := 0x0B
def cRetFill : Nat := 0x0C
def cRetLimit : Nat := 0x0D
def cRetUnder : Nat := 0x0E
def cFetch : Nat := 0x0F
def cBudget : Nat := 0x10
def cUnit : Nat := 0x11
def cSoft : Nat := 0x12
def cDouble : Nat := 0x13

/-- A trap (Table 08.15). -/
structure Trap where
  cause : Nat
  sub : Nat := 0
  tag : Nat := 0
  dst : Bool := false
  slot : Nat := 0
  port : Nat := 0
  value : Val := {}
deriving DecidableEq, Repr

/-- TRAP.detail (Table 08.15). -/
def Trap.detail (t : Trap) : Nat := t.sub * 2 ^ 16 + t.tag * 2 ^ 11 + b2n t.dst * 2 ^ 10 + t.slot * 2 ^ 9 + t.port

/-! ### Pending results (R249, R250) -/

/-- A result lands. -/
def Core.landOne (c : Core) (p : Pend) : Core :=
  let c := match p.reg with | none => c | some (r, v) => c.setReg r v
  match p.flags with | none => c | some f => { c with flags := f }

/-- The start of an issued word: each pending result comes one word nearer, and those that are due land in the order of their
triggers. -/
def Core.landDue (c : Core) : Core :=
  let near := c.pending.map fun p => { p with left := p.left - 1 }
  let due := near.filter fun p => decide (p.left = 0)
  due.foldl Core.landOne { c with pending := near.filter fun p => decide (p.left ≠ 0) }

/-- The results that are due at the next word have landed. -/
def Core.landed! (c : Core) : Core := if c.landed then c else { c.landDue with landed := true }

/-- Every pending result lands, as if no-op words had issued (R280). -/
def Core.landAll (c : Core) : Core := iterate Core.landDue 20 c

/-- A triggered unit's result is on its way. Results of one unit land in the order of their triggers: it comes no earlier than those of the
unit's earlier triggers (R249, log 160). -/
def Core.await (c : Core) (p : Pend) : Core :=
  let mine := c.pending.filter fun q => decide (q.unit = p.unit)
  { c with pending := c.pending ++ [{ p with left := mine.foldl (fun m q => max m q.left) p.left }] }

/-- A unit's result that lands `left` words later, with the flags that come with it. -/
def Core.later (c : Core) (unit left : Nat) (reg : Option (Nat × Val)) (flags : Option (BitVec 4)) : Core :=
  c.await { unit := unit, reg := reg, flags := flags, left := left }

/-- A write to the flags in this word is later than every result that lands in the next word (R250). -/
def Core.flagsWritten (c : Core) (f : BitVec 4) : Core := { c with flags := f }

/-- Results that land in the next word leave the flags alone when this word wrote them. -/
def Core.flagsHeld (c : Core) : Core :=
  { c with pending := c.pending.map fun p => if p.left = 1 then { p with flags := none } else p }

/-! ### Code memory -/

/-- The code word that fetches have shown at an address. -/
def Core.known (c : Core) (a : Nat) : Option W64 := Table.get noneDef c.code a

/-- A code word: as the fetches showed it, or free (log 20). -/
def Core.codeWord (s : State) (c : Core) (a : Nat) : W64 × State × Core :=
  match c.known a with
  | some w => (w, s, c)
  | none =>
    let (w, s) := s.drawWord
    (w, s, { c with code := Table.set noneDef c.code a (some w) })

/-- The fetch agrees with what earlier fetches showed. -/
def Core.agrees (c : Core) (a : Nat) (w : W64) : Bool :=
  match c.known a with | none => true | some x => decide (x = w)

/-- The words of a fetch, by address. -/
def fetchWords (i : IWord) : List W64 := ([i.word, i.lit0, i.lit1]).take (1 + ylits i.word)

/-- The fetch shows code memory. -/
def Core.learn (c : Core) (a : Nat) (ws : List W64) : Core :=
  { c with code := (List.range ws.length).foldl (fun t k => Table.set noneDef t (a + k) (some (ws.getD k 0))) c.code }

/-! ### Traps, frames and the exit of handlers (R267 to R279) -/

/-- The port belongs to a unit that a frame saves. -/
def framedPort (k : CoreKind) (p : Nat) : Bool := match portOf k p with | none => false | some r => r.framed

/-- The frame of an entry (R271). -/
def Core.frame (k : CoreKind) (c : Core) (trap : Bool) : Frame :=
  { pc := c.pc, epc := c.epc, flags := c.flags, imask := c.imask, level := c.level, landed := c.landed, trap := trap,
    regs := c.regs.filter (fun p => framedPort k p.1), pending := c.pending, subst := c.subst }

/-- Save the frame; nothing is pending in the handler. -/
def Core.enter (k : CoreKind) (c : Core) (trap : Bool) : Core :=
  { c with frames := c.frame k trap :: c.frames, epc := c.pc, pending := [], subst := [], landed := false }

/-- Continue at the handler that an entry of the vector table names (R270). -/
def Core.vector (s : State) (c : Core) (e : Nat) : State × Core :=
  let (w, s, c) := c.codeWord s (c.vbase.toNat + e)
  (s, { c with pc := BitVec.ofNat 64 (w.toNat % 2 ^ 32) })

/-- A trap: entry of the handler (R272), or a double trap (R275). -/
def Core.trap (b : Bus) (k : CoreKind) (s : State) (c : Core) (t : Trap) : State × Core :=
  if c.inTrap then (b.doubleTrap s, { c with cause := cDouble, stopped := true })
  else
    Core.vector s { c.enter k true with cause := t.cause, detail := t.detail, tvalue := t.value, inTrap := true } t.cause

/-- The framed ports take their saved values again. -/
def restoreRegs (k : CoreKind) (now saved : Table Val) : Table Val :=
  saved.foldl (fun t p => Table.set valDef t p.1 p.2) (now.filter fun p => !framedPort k p.1)

/-- Restore a frame, continuing at `pc`. -/
def Core.restore (k : CoreKind) (c : Core) (f : Frame) (rest : List Frame) (pc : W64) (landed : Bool)
    (subst : List (Nat × Val)) : Core :=
  { c with frames := rest, pc := pc, epc := f.epc, flags := f.flags, imask := f.imask, level := f.level, inTrap := false,
           regs := restoreRegs k c.regs f.regs, pending := f.pending, landed := landed, subst := subst }

/-- The substitution that EMULATE adds for the slot in TRAP.detail (R274). -/
def Core.newSubst (c : Core) : Nat × Val :=
  (bits c.detail 9 1 + 2 * bits c.detail 10 1, c.reg 0x015)

/-- Where an exit continues, whether the results of that word have landed, and the substitutions in force there
(Table 08.16). NEXT passes the word at TRAP.epc, which is free when no fetch has shown it (log 20). -/
def Core.resume (s : State) (c : Core) (f : Frame) (mode : Nat) : (W64 × Bool × List (Nat × Val)) × State × Core :=
  if mode = 1 then
    let (w, s, c) := c.codeWord s c.epc.toNat
    ((c.epc + BitVec.ofNat 64 (1 + ylits w), false, []), s, c)
  else if mode = 2 then ((c.epc, f.landed, f.subst ++ [c.newSubst]), s, c)
  else ((c.epc, f.landed, if c.epc = f.pc then f.subst else []), s, c)

/-- A handler leaves by a mode that R273 allows: tail chain, or restore (R279, Table 08.18, log 91). No request is taken before the
next word issues. -/
def Core.leave (b : Bus) (k : CoreKind) (s : State) (c : Core) (mode : Nat) : State × Core :=
  match c.frames with
  | [] => (s, c)
  | f :: rest =>
    let ((pc, landed, subst), s, c) := c.resume s f mode
    let c := { c with hold := true }
    match b.request s c with
    | none => (s, c.restore k f rest pc landed subst)
    | some l =>
      if 1 ≤ l ∧ f.level ≤ l then
        let f := { f with pc := pc, landed := landed, subst := subst, trap := false }
        Core.vector s { c with frames := f :: rest, epc := pc, level := l, inTrap := false, pending := [], subst := [],
                               landed := false } (0x20 + l)
      else (s, c.restore k f rest pc landed subst)

/-- A request of level `l` may be taken at a word boundary (R276), but not before the first word of a handler, or of the code that an
exit resumes (R278, R279). -/
def Core.takes (c : Core) (l : Nat) : Bool := decide (c.level < l) && !c.imask && !c.inTrap && !c.hold

/-- The core takes the request presented to it before its next word issues (R268, R276). -/
def Core.mustTake (b : Bus) (s : State) (c : Core) : Bool :=
  !c.landed && (match b.request s c with | none => false | some l => c.takes l)

/-- Interrupt entry at level `l` (Table 08.17). -/
def Core.interrupt (k : CoreKind) (s : State) (c : Core) (l : Nat) : State × Core :=
  Core.vector s { c.enter k false with level := l, hold := true } (0x20 + l)

/-! ### Slots and sources -/

/-- A slot whose guard holds: its number, its fields, the row of its destination, none when the write is discarded, and the value it
moves. -/
structure Move where
  k : Nat
  y : YSlot
  row : Option PortRow
  val : Val := {}

/-- The substitution in force for a key. -/
def Core.substFor (c : Core) (key : Nat) : Option Val := (c.subst.find? fun p => decide (p.1 = key)).map Prod.snd

/-- The source of a slot traps. -/
def srcTrap (cause sub k : Nat) (y : YSlot) : Trap := { cause := cause, sub := sub, slot := k, port := y.src }

/-- The destination of a slot traps. -/
def dstTrap (cause sub tag : Nat) (m : Move) : Trap :=
  { cause := cause, sub := sub, tag := tag, dst := true, slot := m.k, port := m.y.dst, value := m.val }

/-- Assignment, then privilege, of one slot whose guard holds (R247, R268 step 3). -/
def Core.assign (k : CoreKind) (c : Core) (n : Nat) (y : YSlot) : Except Trap Move :=
  let img := c.inImage k
  let noSrc := y.imm || decide (y.src = 0x1FF) || (c.substFor n).isSome
  let noDst := (c.substFor (2 + n)).isSome
  let rs := portFor k img false y.src
  let rd := portFor k img true y.dst
  if !noSrc && rs.isNone then .error (srcTrap cUnassigned 1 n y)
  else if !noSrc && !(rs.map PortRow.s).getD false then .error (srcTrap cUnassigned 2 n y)
  else if !noDst && rd.isNone then .error { cause := cUnassigned, sub := 1, dst := true, slot := n, port := y.dst }
  else if !noDst && !(rd.map PortRow.d).getD false then .error { cause := cUnassigned, sub := 2, dst := true, slot := n, port := y.dst }
  else if !c.priv && !noSrc && decide ((rs.map PortRow.priv) = some .both) then .error (srcTrap cPrivileged 0 n y)
  else if !c.priv && !noDst && decide ((rd.map PortRow.priv) ≠ some .no) then
    .error { cause := cPrivileged, dst := true, slot := n, port := y.dst }
  else .ok { k := n, y := y, row := if noDst then none else rd }

/-- CORE_STATUS as a read returns it (Table 08.20). -/
def Core.statusBits (c : Core) : Nat :=
  c.frames.length * 256 + 64 * b2n c.priv + 32 * b2n c.inTrap + 16 * b2n c.imask + c.level

/-- A pop of the return stack (R266). -/
def Core.popRet (c : Core) (bottom : Bool) : Except Nat (Val × Core) :=
  match c.rstack with
  | [] => .error (if 0 < c.retSpilled then cRetFill else cRetUnder)
  | v :: rest =>
    if bottom then .ok (c.rstack.getLastD v, { c with rstack := c.rstack.dropLast }) else .ok (v, { c with rstack := rest })

/-- Read a common source port; pops take effect (R248 phase 3). The error is a cause and a subcode. -/
def Core.readCommon (c : Core) (p : Nat) : Except (Nat × Nat) (Val × Core) :=
  if p = 0x000 then .ok (intVal 0, c)
  else if p = 0x008 then .ok (intVal c.flags.toNat, c)
  else if p = 0x011 then .ok (intVal c.cause, c)
  else if p = 0x012 then .ok (intVal c.detail, c)
  else if p = 0x013 then .ok (c.tvalue, c)
  else if p = 0x014 then .ok (⟨c.epc, tgCode⟩, c)
  else if p = 0x079 then (match c.dstack with | [] => .error (cDsUnder, 0) | v :: r => .ok (v, { c with dstack := r }))
  else if p = 0x07A then (match c.dstack with | [] => .error (cDsUnder, 0) | v :: _ => .ok (v, c))
  else if p = 0x07B then .ok (intVal c.dstack.length, c)
  else if p = 0x07C then .ok (intVal c.dsLimit, c)
  else if p = 0x081 then (match c.popRet false with | .ok (v, c) => .ok (⟨v.v, tgCode⟩, c) | .error e => .error (e, 0))
  else if p = 0x082 then .ok (intVal (c.rstack.length + c.retSpilled), c)
  else if p = 0x083 then .ok (intVal c.retLimit, c)
  else if p = 0x084 then .ok (intVal c.retSpilled, c)
  else if p = 0x085 then (match c.popRet true with | .ok r => .ok r | .error e => .error (e, 0))
  else if 0x088 ≤ p ∧ p ≤ 0x097 then
    (if (c.win (p - 0x088)).open_ then .ok (⟨BitVec.ofNat 64 ((p - 0x088) * 2 ^ 60), tgHndl⟩, c) else .error (cWindow, 1))
  else if p = 0x0C0 then .ok (intVal (2 * b2n c.threadPriv + b2n c.dzTrap), c)
  else if p = 0x0C1 then .ok (intVal c.statusBits, c)
  else if p = 0x0C2 then .ok (⟨c.vbase, tgCode⟩, c)
  else .ok (c.reg p, c)

/-- The value a slot moves (R248 phase 3). `lit` is the literal of the slot. -/
def Core.source (b : Bus) (m : Move) (lit : W64) (s : State) (c : Core) : Except Trap (Move × State × Core) :=
  match c.substFor m.k with
  | some v => .ok ({ m with val := v }, s, c)
  | none =>
    if m.y.imm then .ok ({ m with val := m.y.immVal }, s, c)
    else if m.y.src = 0x1FF then .ok ({ m with val := ⟨lit, tgInt⟩ }, s, c)
    else if 0x180 ≤ m.y.src then
      match b.read m.y.src s c with
      | .ok (v, s, c) => .ok ({ m with val := v }, s, c)
      | .error sub => .error (srcTrap cUnit sub m.k m.y)
    else match c.readCommon m.y.src with
      | .ok (v, c) => .ok ({ m with val := v }, s, c)
      | .error (cause, sub) => .error (srcTrap cause sub m.k m.y)

/-- The value that slot `n` would write: INT 0 when a source before it traps (R269). -/
def Core.would (b : Bus) (ys : List (Nat × YSlot)) (lit : Nat → W64) (n : Nat) (s : State) (c : Core) : Val :=
  let step := fun (r : Except Trap (Val × State × Core)) (m : Nat × YSlot) => do
    let (v, s, c) ← r
    if n < m.1 then pure (v, s, c)
    else
      let (x, s, c) ← c.source b { k := m.1, y := m.2, row := none } (lit m.1) s
      pure (x.val, s, c)
  match ys.foldl step (.ok ({}, s, c)) with
  | .ok r => r.1
  | .error _ => {}

/-- A destination trap found before the sources are read names the value that the slot would have written (R269). -/
def Core.fillValue (b : Bus) (ys : List (Nat × YSlot)) (lit : Nat → W64) (s : State) (c : Core) (t : Trap) : Trap :=
  if t.dst then { t with value := c.would b ys lit t.slot s } else t

/-! ### Operand writes (R248 phase 4, first part) -/

/-- The write takes place in the first part of phase 4. FLG.t_test writes the flags there; the emulated ports act at the word's end
(R298). -/
def PortRow.early (r : PortRow) : Bool := (!r.trig || decide (r.lo = 0x009)) && !isA7 r.lo

/-- A refused configuration write. -/
def refuse (b : Bus) (s : State) (c : Core) : State × Core := (b.accessErr s, c)

/-- A write of a port whose effect is immediate: operand ports, general registers, flags, pushes and configuration. -/
def Core.writeEarly (b : Bus) (k : CoreKind) (p : Nat) (v : Val) (s : State) (c : Core) : State × Core :=
  let n := v.v.toNat
  if p = 0x000 then (s, c)
  else if p = 0x008 then (s, c.flagsWritten (BitVec.ofNat 4 n))
  else if p = 0x009 then (s, c.flagsWritten (nzcv v.v.msb (v.v == 0) false false))
  else if p = 0x014 then (s, { c with epc := v.v })
  else if p = 0x078 then (s, { c with dstack := v :: c.dstack })
  else if p = 0x07C then
    (if c.dstack.length ≤ n ∧ n ≤ dsCap k then (s, { c with dsLimit := n }) else refuse b s c)
  else if p = 0x080 then (s, { c with rstack := v :: c.rstack })
  else if p = 0x083 then
    (if c.rstack.length + c.retSpilled ≤ n ∧ 32 ≤ n ∧ n ≤ 65535 then (s, { c with retLimit := n }) else refuse b s c)
  else if p = 0x084 then (s, { c with retSpilled := n })
  else if p = 0x0C0 then
    (s, { c with dzTrap := bit n 0, threadPriv := bit n 1 })
  else if p = 0x0C1 then
    (s, { c with imask := bit n 4 })
  else if p = 0x0C2 then
    (if n % 64 = 0 ∧ n < 2 ^ 32 then (s, { c with vbase := v.v }) else refuse b s c)
  else if 0x180 ≤ p then b.write p v s c
  else (s, c.setReg p v)

/-- The writes of the first part of phase 4, slot 0 before slot 1. -/
def Core.early (b : Bus) (k : CoreKind) (ms : List Move) (s : State) (c : Core) : State × Core :=
  ms.foldl (fun (r : State × Core) m => match m.row with
    | none => r
    | some row => if row.early then Core.writeEarly b k m.y.dst m.val r.1 r.2 else r) (s, c)

/-! ### Stack limits (R265, R266) -/

/-- Depths and limits while the pushes of a word are checked in the order of their effects. -/
structure Depths where
  ds : Nat
  dsLimit : Nat
  hw : Nat
  total : Nat
  limit : Nat
  fails : List (Nat × Nat) := []   -- slot and cause

/-- One push onto the return stack. -/
def Depths.pushRet (d : Depths) (slot : Nat) : Depths :=
  if d.limit ≤ d.total then { d with fails := d.fails ++ [(slot, cRetLimit)] }
  else if 32 ≤ d.hw then { d with fails := d.fails ++ [(slot, cRetSpill)] }
  else { d with hw := d.hw + 1, total := d.total + 1 }

/-- One move of the first part of phase 4. -/
def Depths.early (k : CoreKind) (d : Depths) (m : Move) : Depths :=
  if m.row.isNone then d
  else if m.y.dst = 0x078 then
    (if d.dsLimit ≤ d.ds then { d with fails := d.fails ++ [(m.k, cDsOver)] } else { d with ds := d.ds + 1 })
  else if m.y.dst = 0x080 then d.pushRet m.k
  else if m.y.dst = 0x084 then { d with total := d.hw + m.val.v.toNat }
  else if m.y.dst = 0x07C then
    (if d.ds ≤ m.val.v.toNat ∧ m.val.v.toNat ≤ dsCap k then { d with dsLimit := m.val.v.toNat } else d)
  else if m.y.dst = 0x083 then
    (if d.total ≤ m.val.v.toNat ∧ 32 ≤ m.val.v.toNat ∧ m.val.v.toNat ≤ 65535 then { d with limit := m.val.v.toNat } else d)
  else d

/-- One trigger. -/
def Depths.late (d : Depths) (m : Move) : Depths := if m.row.isSome && decide (m.y.dst = 0x002) then d.pushRet m.k else d

/-- The slots whose push does not fit, with their causes. -/
def Core.overflows (k : CoreKind) (c : Core) (ms : List Move) : List (Nat × Nat) :=
  let d : Depths := { ds := c.dstack.length, dsLimit := c.dsLimit, hw := c.rstack.length,
                      total := c.rstack.length + c.retSpilled, limit := c.retLimit }
  (ms.foldl Depths.late (ms.foldl (Depths.early k) d)).fails

/-! ### Memory accesses (R259 to R262) -/

/-- A planned access: address in the data map, size, and LSU.a after it. -/
structure Access where
  addr : Nat
  size : Nat
  after : Val

/-- The effective offset, and the offset of LSU.a after the access (R261). -/
def lsuOffsets (mode : Nat) (a x : Val) : Int × Nat :=
  let size := 2 ^ bits mode 0 2
  let o := a.offset
  match bits mode 2 2 with
  | 0 => (o, o)
  | 1 => (o, (o + size) % 2 ^ 48)
  | 2 => ((o : Int) - size, (o + 2 ^ 48 - size) % 2 ^ 48)
  | _ => ((o : Int) + x.v.toInt * 2 ^ bits mode 4 2, o)

/-- The access of a load or a store through the handle `a`, or its trap: cause and subcode (R261). -/
def Core.plan (b : Bus) (ld : Bool) (a : Val) (s : State) (c : Core) : Except (Nat × Nat) Access :=
  let mode := (c.reg 0x062).v.toNat
  let size : Nat := 2 ^ bits mode 0 2
  let w := c.win a.window
  let (e, o) := lsuOffsets mode a (c.reg 0x061)
  if !w.open_ then .error (cWindow, 1)
  else if !(if ld then w.read else w.write) then .error (cWindow, 2)
  else match b.winTrap a.window c with
    | some t => .error t
    | none =>
      if e < 0 ∨ (w.len : Int) < e + (size : Int) then .error (cWindow, 3)
      else match b.memTrap ld (w.base + e.toNat) size w s c with
        | some t => .error t
        | none => .ok { addr := w.base + e.toNat, size := size,
                        after := ⟨BitVec.ofNat 64 (a.v.toNat / 2 ^ 48 * 2 ^ 48 + o), a.tag⟩ }

/-- The value a load returns: sign- or zero-extended, RAW, or POISON (R251, R260, R261). -/
def loadVal (mode : Nat) (bs : List Byte) (bad : Bool) : Val :=
  let n := leVal bs
  ⟨BitVec.ofNat 64 (if bit mode 6 then signExtN n (8 * bs.length) 64 else n), if bad then tgPoison else tgRaw⟩

/-! ### Destination checks (R268 step 5) -/

/-- Destinations to which a POISON value is no use (R253). -/
def poisonOk (p : Nat) : Bool :=
  (decide (0x040 ≤ p) && decide (p ≤ 0x05F)) || decide (p = 0x078) || decide (p = 0x000) || decide (p = 0x020) || decide (p = 0x022)

/-- The port is a trigger of an ALU. -/
def isAluTrig (p : Nat) : Bool := decide (0x100 ≤ p) && decide (p < 0x180) && decide (1 ≤ p % 32) && decide (p % 32 ≤ 0x14)

/-- Operand A of the ALU of a trigger. -/
def Core.aluA (c : Core) (p : Nat) : Val := c.reg (p / 32 * 32)

/-- The tag check. -/
def Core.tagBad (c : Core) (p : Nat) (tags : List Nat) (v : Val) : Bool :=
  if isAluTrig p then aluTagTrap (p % 32) (c.aluA p) v
  else !tags.contains v.tag || (decide (p = 0x064) && decide ((c.reg 0x060).tag ≠ tgHndl))

/-- Reserved bits in a value, or an exit mode that R273 refuses. -/
def Core.operandBad (c : Core) (p : Nat) (v : Val) : Bool :=
  let n := v.v.toNat
  (decide (p = 0x008) && decide (16 ≤ n)) || (decide (p = 0x062) && decide (128 ≤ n)) ||
  (decide (p = 0x021) && decide (8 ≤ n)) || (decide (p = 0x09B) && decide (4 ≤ n)) ||
  (decide (p = 0x004) && (decide (3 ≤ n) || (match c.frames with | [] => true | f :: _ => !f.trap && decide (n ≠ 0))))

/-- The unit's own check: cause and subcode. `c` holds the operands written by the word. -/
def Core.ownTrap (b : Bus) (p slot : Nat) (v : Val) (fails : List (Nat × Nat)) (s : State) (c : Core) : Option (Nat × Nat) :=
  match fails.find? fun f => decide (f.1 = slot) with
  | some f => some (f.2, 0)
  | none =>
    if p = 0x071 then (if (c.reg 0x070).v.toNat ≤ v.v.toNat then some (cBounds, 0) else none)
    else if p = 0x063 then (match c.plan b true v s with | .error e => some e | .ok _ => none)
    else if p = 0x064 then (match c.plan b false (c.reg 0x060) s with | .error e => some e | .ok _ => none)
    else if isAluTrig p then
      (if (p % 32 = opDivu ∨ p % 32 = opDivs) ∧ v.v = 0 ∧ c.dzTrap then some (cDivZero, 0) else none)
    else if p = 0x010 then some (cSoft, 0)
    else if 0x180 ≤ p then (b.unitTrap p v s c).map fun sub => (cUnit, sub)
    else none

/-- The checks of one slot's destination, in order. -/
def Core.destTrap (b : Bus) (m : Move) (fails : List (Nat × Nat)) (s : State) (c : Core) : Option Trap :=
  match m.row with
  | none => none
  | some row =>
    let p := m.y.dst
    if m.val.tag = tgPoison ∧ !poisonOk p then some (dstTrap cPoison 0 m.val.tag m)
    else if c.tagBad p row.tags m.val then some (dstTrap cTag 0 m.val.tag m)
    else if c.operandBad p m.val then some (dstTrap cOperand 0 0 m)
    else (Core.ownTrap b p m.k m.val fails s c).map fun e => dstTrap e.1 e.2 0 m

/-! ### Triggers (R248 phase 4, second part) -/

/-- What happens after a word: a jump, the exit of a handler, sleep. -/
structure After where
  jump : Option W64 := none
  exit : Option Nat := none
  sleep : Option Val := none

/-- The start of the running image in code memory: 0 for other code (R442). -/
def Core.codeBase (k : CoreKind) (c : Core) : Nat := if c.inImage k then 2048 * c.slot else 0

/-- A jump target (R263, R442). -/
def Core.target (k : CoreKind) (c : Core) (v : Val) : W64 :=
  if v.tag = tgCode then BitVec.ofNat 64 (v.v.toNat % 2 ^ 32 + c.codeBase k) else c.pc + v.v

/-- Window number WIN.sel; above 15 a free one (log 7). -/
def Core.selWin (s : State) (c : Core) : Nat × State :=
  let n := (c.reg 0x098).v.toNat
  if n < 16 then (n, s) else let (w, s) := s.drawWord; (w.toNat % 16, s)

/-- A trigger acts. `len` is the length of the instruction in words, and `c0` the core before the word's triggers, by which accesses are
checked. RET.t_fill into a full stack is lost or replaces the bottom entry, as a free value says (log 21). -/
def Core.trigger (b : Bus) (k : CoreKind) (len p : Nat) (v : Val) (c0 : Core) (s : State) (c : Core) : State × Core × After :=
  if p = 0x001 ∨ p = 0x003 then (s, c, { jump := some (c.target k v) })
  else if p = 0x002 then
    let back : Val := ⟨BitVec.ofNat 64 (c.pc.toNat + len - c.codeBase k), tgCode⟩
    (s, { c with rstack := back :: c.rstack }, { jump := some (c.target k v) })
  else if p = 0x004 then (s, c, { exit := some v.v.toNat })
  else if p = 0x018 then (s, c, { sleep := some v })
  else if p = 0x020 then (s, c.later 0x020 1 (some (0x023, intVal v.tag)) none, {})
  else if p = 0x022 then (s, c.later 0x020 1 (some (0x023, ⟨v.v, (c.reg 0x021).v.toNat⟩)) none, {})
  else if p = 0x063 then
    match c0.plan b true v s with
    | .error _ => (s, c, {})
    | .ok a =>
      let (bs, bad, s, c) := b.load a.addr a.size s c
      (s, (c.setReg 0x060 a.after).later 0x060 2 (some (0x065, loadVal (c.reg 0x062).v.toNat bs bad)) none, {})
  else if p = 0x064 then
    match c0.plan b false (c.reg 0x060) s with
    | .error _ => (s, c, {})
    | .ok a =>
      let (s, c) := b.store a.addr (leBytes a.size v.v.toNat) s c
      (s, c.setReg 0x060 a.after, {})
  else if p = 0x071 then (s, c.later 0x070 1 (some (0x072, v)) none, {})
  else if p = 0x086 then
    (if c.rstack.length < 32 then (s, { c with rstack := c.rstack ++ [v] }, {})
     else
       let (w, s) := s.drawWord
       (s, if w.getLsbD 0 then c else { c with rstack := c.rstack.dropLast ++ [v] }, {}))
  else if p = 0x09C then
    let (n, s) := c.selWin s
    let attr := (c.reg 0x09B).v.toNat
    (s, c.setWin n { open_ := true, base := (c.reg 0x099).v.toNat, len := (c.reg 0x09A).v.toNat, read := bit attr 0,
                     write := bit attr 1 }, {})
  else if p = 0x09D then let (n, s) := c.selWin s; (s, c.setWin n {}, {})
  else if isAluTrig p then
    let u := p / 32 * 32
    let r := aluOp (p % 32) (c.aluA p) v
    let l := aluLatency (p % 32)
    let q : Pend := { unit := u, reg := r.out.map fun x => (u + 0x1E, x), flags := some r.flags, left := l,
                      div := decide (p % 32 = opDivu) || decide (p % 32 = opDivs) }
    let c := c.await q
    (s, match r.hi with | none => c | some h => c.await { q with reg := some (u + 0x1F, h), flags := none }, {})
  else
    let (s, c) := b.write p v s c
    (s, c, {})

/-- The triggers of a word, slot 0 before slot 1; the emulated ports act last. -/
def Core.late (b : Bus) (k : CoreKind) (len : Nat) (ms : List Move) (s : State) (c : Core) : State × Core × After :=
  let act := fun (r : State × Core × After) (m : Move) =>
    let (s, c, a) := Core.trigger b k len m.y.dst m.val c r.1 r.2.1
    let z := r.2.2
    (s, c, { jump := a.jump <|> z.jump, exit := a.exit <|> z.exit, sleep := a.sleep <|> z.sleep })
  let trig := ms.filter fun m => match m.row with | none => false | some r => r.trig && !r.early
  let emul := ms.filter fun m => match m.row with | none => false | some r => isA7 r.lo
  emul.foldl act (trig.foldl act (s, c, {}))

/-! ### Sleep (R280, R281) -/

/-- The wake conditions that hold: REQUEST, EVENT, TIMEOUT. -/
def Core.wakeBits (b : Bus) (s : State) (c : Core) : Nat :=
  b2n (b.request s c).isSome + 2 * b2n (decide (b.view s c &&& (c.reg 0x019).v ≠ 0)) +
  4 * b2n (match c.deadline with | none => false | some d => decide (d ≤ s.uptime))

/-- The core sleeps, or goes on at once. -/
def Core.sleepNow (b : Bus) (s : State) (c : Core) (v : Val) : Core :=
  let n := v.v.toNat
  let c := c.landAll
  let c := { c with deadline := if v.tag ≠ tgTime ∧ n = 0 then none else some (s.dueAt (decide (v.tag = tgTime)) n) }
  let w := c.wakeBits b s
  if w = 0 then { c with asleep := true } else { c.setReg 0x01A (intVal (w + 8)) with deadline := none }

/-- The core wakes with these reasons. -/
def Core.wakeWith (c : Core) (w : Nat) : Core := { c.setReg 0x01A (intVal w) with asleep := false, deadline := none }

/-! ### One word (R248, R268) -/

/-- Division stalls: before the word issues, every ALU that it triggers lands its division. Answers the stall cycles (R286). -/
def Core.stallFor (c : Core) (ms : List (Nat × YSlot)) : Nat × Core :=
  ms.foldl (fun (r : Nat × Core) m =>
    let p := m.2.dst
    let u := p / 32 * 32
    let divs := r.2.pending.filter fun q => decide (q.unit = u) && q.div
    if isAluTrig p && !divs.isEmpty then
      let mine := r.2.pending.filter fun q => decide (q.unit = u)
      (divs.foldl (fun m q => max m q.left) r.1,
       mine.foldl Core.landOne { r.2 with pending := r.2.pending.filter fun q => decide (q.unit ≠ u) })
    else r) (0, c)

/-- The result of an attempt to issue a word: done, or a trap that has not been entered, with the state the trap leaves. -/
inductive Issue where
  | done (s : State) (c : Core)
  | trap (t : Trap) (c : Core)

/-- A word that has passed its checks: the moves whose guards hold with the values they move, the core at the start of the word, and the
state and the core after the source reads. -/
structure Ready where
  ms : List Move
  c : Core
  s1 : State
  c1 : Core

/-- The source reads of the moves of a word, in slot order (R248 phase 3). -/
def Core.readAll (b : Bus) (lit : Nat → W64) (ms : List Move) (s : State) (c : Core) :
    Except Trap (List Move × State × Core) :=
  ms.foldl (fun r m => do
    let (ms, s, c) ← r
    let (m, s, c) ← c.source b m (lit m.k) s
    pure (ms ++ [m], s, c)) (.ok ([], s, c))

/-- Phases 1 to 3 of a word and the checks of R268: the trap that it takes, with the core that the trap leaves, or the word ready to act.
-/
def Core.gather (b : Bus) (k : CoreKind) (i : IWord) (s : State) (c : Core) : Except (Trap × Core) Ready :=
  let c := c.landed!
  let len := 1 + ylits i.word
  if !i.fetched || !(List.range len).all (fun j => b.fetch s c (c.pc.toNat + j)) then .error ({ cause := cFetch }, c)
  else
    let c := c.learn c.pc.toNat (fetchWords i)
    let (y0, y1) := yslots i.word
    let lit := fun (n : Nat) => if n = 1 ∧ y0.limm then i.lit1 else i.lit0
    match encodingTrap k i.word with
    | some (sub, dst, slot, port) =>
      .error (c.fillValue b [(0, y0), (1, y1)] lit s
        { cause := cUnassigned, sub := sub, dst := dst, slot := slot, port := port }, c)
    | none =>
      let on := fun (c : Core) => [(0, y0), (1, y1)].filter fun m => guardHolds m.2.guard c.flags
      let (stall, c) := c.stallFor (on c)
      let c := { c with record := { c.record with cycles := c.record.cycles + stall } }
      match (on c).mapM (fun m => c.assign k m.1 m.2) with
      | .error t => .error (c.fillValue b (on c) lit s t, c)
      | .ok ms =>
        match Core.readAll b lit ms s c with
        | .error t => .error (t, c)
        | .ok (ms, s1, c1) =>
          let fails := c1.overflows k ms
          let (s2, c2) := Core.early b k ms s1 c1
          match ms.findSome? fun m => c2.destTrap b m fails s2 with
          | some t => .error (t, c)
          | none => .ok { ms := ms, c := c, s1 := s1, c1 := c1 }

/-- Phase 4 and the end of a word (R248, R263, R273, R280). -/
def Ready.act (r : Ready) (b : Bus) (k : CoreKind) (i : IWord) : State × Core :=
  let len := 1 + ylits i.word
  let (s2, c2) := Core.early b k r.ms r.s1 r.c1
  let (s3, c3, after) := Core.late b k len r.ms s2 c2
  let wrote := r.ms.any fun m => m.row.isSome && (decide (m.y.dst = 0x008) || decide (m.y.dst = 0x009))
  let c3 := if wrote then c3.flagsHeld else c3
  let c3 := { c3 with landed := false, hold := false, subst := [], pc := r.c.pc + BitVec.ofNat 64 len,
                      record := { c3.record with cycles := c3.record.cycles + 1 } }
  let c3 := { c3 with pc := after.jump.getD c3.pc }
  let (s4, c4) := match after.exit with | none => (s3, c3) | some mode => c3.leave b k s3 mode
  (s4, match after.sleep with | none => c4 | some v => c4.sleepNow b s4 v)

/-- Issue a word (R248). The core has landed what was due. -/
def Core.issue (b : Bus) (k : CoreKind) (i : IWord) (s : State) (c : Core) : Issue :=
  match c.gather b k i s with
  | .error (t, c) => .trap t c
  | .ok r => .done (r.act b k i).1 (r.act b k i).2

/-- A word runs: its effect, or the entry of its trap. -/
def Core.run (b : Bus) (k : CoreKind) (i : IWord) (s : State) (c : Core) : State × Core :=
  match c.issue b k i s with
  | .done s c => (s, c)
  | .trap t c => c.trap b k s t

end Sys2Proof.Machine
end

