-- ==== Sys2Proof/Machine/SieveCore.lean ====
section
/-! DEFINITION. The sieve core: its units, its memories, the record loop, budgets and the firmware behind its traps
(09 R288 to R299, R442, 04 R127). -/

namespace Sys2Proof.Machine

/-! ### Images (R291, R299) -/

/-- Header fields (Table 09.10). -/
def imgInit (ws : List W64) : Nat := bits (ws.getD 0 0).toNat 0 11
def imgRecord (ws : List W64) : Nat := bits (ws.getD 0 0).toNat 16 11
def imgNwin (ws : List W64) : Nat := bits (ws.getD 0 0).toNat 32 5
def imgCodeEnd (ws : List W64) : Nat := bits (ws.getD 0 0).toNat 48 11
/-- The first code word. -/
def imgFirst (ws : List W64) : Nat := 1 + imgNwin ws

/-- The image in a slot of a core. -/
def Core.imageIn (c : Core) (slot : Nat) : Option (List W64) := (c.images.find? fun x => decide (x.slot = slot)).map SvImage.words

/-- The bytes of image words. -/
def wordBytes (ws : List W64) : List Byte := ws.flatMap fun w => leBytes 8 w.toNat

/-! ### Code memory (Table 09.1, R297) -/

/-- Code words of a kind's code memory. -/
def codeHas (k : CoreKind) (a : Nat) : Bool :=
  match k with
  | .sq => decide (a < 0x2000)
  | .sv => decide (a < 0x4800)
  | .gt => decide (a < 0x1000)
  | .sup => decide (a < 0x20000)

/-- A sieve core may fetch a word: in image code only the code words of the running image (R297). -/
def svFetch (_ : State) (c : Core) (a : Nat) : Bool :=
  if c.inImage .sv then
    match c.imageIn c.slot with
    | none => false
    | some ws => decide (2048 * c.slot + imgFirst ws ≤ a) && decide (a < 2048 * c.slot + imgCodeEnd ws)
  else codeHas .sv a

/-! ### The record (R294) -/

/-- UNIT subcodes (Table 09.8). -/
def uRange : Nat := 1
def uRewound : Nat := 2
def uEmitFull : Nat := 3
def uVerdict : Nat := 4
def uPhase : Nat := 5
def uRingFull : Nat := 6
def uEmpty : Nat := 7
def uNotHeld : Nat := 8

/-- Bytes `lo` to `hi` - 1 of the data lie at or above the rewind limit. -/
def Rec.rewound (r : Rec) (lo : Nat) : Bool := decide (lo < r.touched - 8192)

/-- An access has touched the bytes below `hi`. -/
def Core.touch (c : Core) (hi : Nat) : Core :=
  { c with record := { c.record with touched := max c.record.touched hi } }

/-- `n` bytes of the data from `o`, 0 beyond its end. -/
def Rec.bytes (r : Rec) (o n : Nat) : List Byte := (((r.data.drop o).take n) ++ zeros n).take n

/-- A trigger that reads word `k` of `n` bytes of the data. -/
def Core.recTrap (c : Core) (n k : Nat) : Option Nat :=
  if c.record.data.length ≤ n * k then some uRange else if c.record.rewound (n * k) then some uRewound else none

/-! ### Units (Table 09.7, Table 09.13) -/

/-- Reads of kind-specific ports. -/
def svRead (p : Nat) (s : State) (c : Core) : Except Nat (Val × State × Core) :=
  let r := c.record
  if p = 0x185 ∨ p = 0x1E7 then (if c.phase = 2 then .ok (intVal r.data.length, s, c) else .error uPhase)
  else if p = 0x186 then (if c.phase = 2 then .ok (intVal r.ordinal, s, c) else .error uPhase)
  else if p = 0x187 then .ok (intVal r.param.toNat, s, c)
  else if p = 0x1E1 then .ok (⟨BitVec.ofNat 64 (field c.a7 0 8), tgRaw⟩, s, c)
  else if p = 0x1E2 then .ok (⟨BitVec.ofNat 64 (field c.a7 8 8), tgRaw⟩, s, c)
  else if p = 0x1E5 then .ok (intVal c.a7crc.toNat, s, c)
  else .ok (c.reg p, s, c)

/-- Bytes an EMT trigger appends. -/
def emtBytes (c : Core) (p n : Nat) : List Byte :=
  if p = 0x1C5 then c.record.bytes (c.reg 0x1C4).v.toNat n else leBytes (2 ^ (p - 0x1C0)) n

/-- Traps of kind-specific triggers. -/
def svUnitTrap (p : Nat) (v : Val) (_ : State) (c : Core) : Option Nat :=
  let n := v.v.toNat
  let r := c.record
  let late := decide (p = 0x180) || decide (p = 0x195) || (decide (0x1C0 ≤ p) && decide (p ≤ 0x1C3)) || decide (p = 0x1C5) ||
    decide (p = 0x1D0) || decide (p = 0x1E0) || decide (p = 0x1E3) || decide (p = 0x1E4)
  if late && decide (c.phase ≠ 2) then some uPhase
  else if p = 0x1D1 ∧ c.phase ≠ 1 then some uPhase
  else if p = 0x180 ∨ p = 0x195 then c.recTrap 32 n
  else if p = 0x1E0 then c.recTrap 16 n
  else if p = 0x1C5 then
    let o := (c.reg 0x1C4).v.toNat
    if r.data.length < o + n then some uRange
    else if n ≠ 0 ∧ r.rewound o then some uRewound
    else if r.data.length < r.emitted.length + n then some uEmitFull else none
  else if 0x1C0 ≤ p ∧ p ≤ 0x1C3 then
    (if r.data.length < r.emitted.length + 2 ^ (p - 0x1C0) then some uEmitFull else none)
  else if p = 0x1D0 then (if 2 < n then some uVerdict else none)
  else none

/-- A verdict ends the record (R292). -/
def Core.verdict (c : Core) (v : Nat) : Core := { c with record := { c.record with verdict := some v } }

/-- A result that sets Z to its truth value (R288). -/
def Core.laterBool (c : Core) (u left p : Nat) (b : Bool) : Core :=
  c.later u left (some (p, boolVal b)) (some (nzcv false b false false))

/-- The key of RNG, and its comparison (Table 09.7). -/
def rngTest (signed : Bool) (v lo hi sh mask : W64) : Bool :=
  let k := (v.toNat / 2 ^ (sh.toNat % 64)) &&& mask.toNat
  if signed then
    let w := if mask = 0 then 0 else Nat.log2 mask.toNat + 1
    let k : Int := if w = 0 then 0 else signedN k w
    decide (lo.toInt ≤ k) && decide (k ≤ hi.toInt)
  else decide (lo.toNat ≤ k) && decide (k ≤ hi.toNat)

/-- Bytes of a record word and of the pattern that the mask selects are equal. -/
def wcmp (w pat : List Byte) (mask : Nat) : Bool :=
  (List.range 32).all fun j => !bit mask j || decide (w.getD j 0 = pat.getD j 0)

/-- Append bytes to the emitted bytes (R295). -/
def Core.append (c : Core) (bs : List Byte) : Core :=
  let e := c.record.emitted ++ bs
  ({ c with record := { c.record with emitted := e } }).later 0x1C0 1 (some (0x1C6, intVal e.length)) none

/-- Writes of kind-specific ports. -/
def svWrite (p : Nat) (v : Val) (s : State) (c : Core) : State × Core :=
  let n := v.v.toNat
  let d := c.record.data.length
  if p = 0x180 then
    let w := c.record.bytes (32 * n) 32
    let c := c.touch (min (32 * n + 32) d)
    (s, (List.range 4).foldl (fun c j =>
      c.later 0x180 2 (some (0x181 + j, ⟨BitVec.ofNat 64 (field w (8 * j) 8), tgRaw⟩)) none) c)
  else if p = 0x195 then
    let w := c.record.bytes (32 * n) 32
    let pat := (List.range 4).flatMap fun j => leBytes 8 (c.reg (0x190 + j)).v.toNat
    (s, (c.touch (min (32 * n + 32) d)).laterBool 0x190 2 0x196 (wcmp w pat (c.reg 0x194).v.toNat))
  else if p = 0x1A4 ∨ p = 0x1A5 then
    (s, c.laterBool 0x1A0 1 0x1A7
      (rngTest (decide (p = 0x1A5)) v.v (c.reg 0x1A0).v (c.reg 0x1A1).v (c.reg 0x1A2).v (c.reg 0x1A3).v))
  else if p = 0x1B1 then (s, c.later 0x1B0 1 (some (0x1B0, ⟨th64Mix (c.reg 0x1B0).v v.v, tgInt⟩)) none)
  else if p = 0x1B2 then (s, c.later 0x1B0 3 (some (0x1B0, ⟨th64Fin (c.reg 0x1B0).v v.v, tgInt⟩)) none)
  else if 0x1C0 ≤ p ∧ p ≤ 0x1C3 then (s, c.append (emtBytes c p n))
  else if p = 0x1C5 then
    let c' := if n = 0 then c else c.touch ((c.reg 0x1C4).v.toNat + n)
    let c' := c'.append (emtBytes c p n)
    (s, { c' with record := { c'.record with cycles := c'.record.cycles + ((n + 31) / 32 - 1) } })
  else if p = 0x1D0 then (s, c.verdict n)
  else if p = 0x1D1 then (s, { c with phase := 3 })
  else if p = 0x1E0 then (s, { c.touch (min (16 * n + 16) d) with a7 := c.record.bytes (16 * n) 16 })
  else if p = 0x1E3 then (s, c.verdict 1)
  else if p = 0x1E4 then (s, c.verdict 0)
  else if p = 0x1E5 then (s, { c with a7crc := v.v.truncate 32 })
  else if p = 0x1E6 then (s, { c with a7crc := (leBytes 8 n).foldl crc32cStep c.a7crc })
  else (s, c.setReg p v)

/-! ### Memories (Table 09.3) -/

def svWork : Nat := 0x000100000000
def svImages : Nat := 0x000200000000
def svRam : Nat := 0x000300000000

/-- The window lies in listed addresses. -/
def svListed (c : Core) (w : Win) : Bool :=
  decide (w.base + w.len ≤ c.record.data.length) ||
  (decide (svWork ≤ w.base) && decide (w.base + w.len ≤ svWork + 1024)) ||
  (decide (svImages ≤ w.base) && decide (w.base + w.len ≤ svImages + 8 * 16384)) ||
  (decide (svRam ≤ w.base) && decide (w.base + w.len ≤ svRam + 16384))

/-- A load of the record aperture in INIT traps with PHASE (Table 09.8). -/
def svWinTrap (n : Nat) (c : Core) : Option (Nat × Nat) := if n = 0 ∧ c.phase = 1 then some (cUnit, uPhase) else none

/-- Traps of an access. -/
def svMemTrap (_ : Bool) (a _n : Nat) (w : Win) (_ : State) (c : Core) : Option (Nat × Nat) :=
  if !svListed c w then some (cWindow, 3)
  else if a < svWork ∧ c.record.rewound a then some (cUnit, uRewound) else none

/-- A load. -/
def svLoad (a n : Nat) (s : State) (c : Core) : List Byte × Bool × State × Core :=
  if a < svWork then (c.record.bytes a n, false, s, c.touch (a + n))
  else if a < svImages then (c.work.readN (a - svWork) n, false, s, c)
  else if a < svRam then
    let o := a - svImages
    let bs := match c.imageIn (o / 16384) with | none => zeros n | some ws => ((wordBytes ws).drop (o % 16384) ++ zeros n).take n
    (bs, false, s, c)
  else
    let o := a - svRam
    (c.data.readN o n, (firstBad c.dataPoison o n).isSome, s, c)

/-- A store. -/
def svStore (a : Nat) (bs : List Byte) (s : State) (c : Core) : State × Core :=
  if a < svWork then (s, c)
  else if a < svImages then (s, { c with work := c.work.writeN (a - svWork) bs })
  else if a < svRam then (s, c)
  else (s, { c with data := c.data.writeN (a - svRam) bs })

/-- What lies beyond a sieve core. It has no request input (Table 09.1). -/
def svBus (view : State → Core → W64) (accessErr doubleTrap : State → State) : Bus :=
  { fetch := svFetch, winTrap := svWinTrap, memTrap := svMemTrap, load := svLoad, store := svStore, read := svRead,
    unitTrap := svUnitTrap, write := svWrite, request := fun _ _ => none, view := view, accessErr := accessErr,
    doubleTrap := doubleTrap }

/-! ### Windows, INIT and RECORD (R292, R293) -/

/-- The windows that the arbiter opens for the image in a slot. -/
def svWindows (ws : List W64) (slot len : Nat) : Table Win :=
  [(0, ({ open_ := true, base := 0, len := len, read := true } : Win)),
   (1, { open_ := true, base := svWork, len := 1024, read := true, write := true })] ++
  (List.range (imgNwin ws)).map fun j =>
    let d := (ws.getD (1 + j) 0).toNat
    (2 + j, { open_ := true, base := svImages + 16384 * slot + 8 * bits d 0 11, len := 8 * bits d 16 11, read := true })

/-- The core begins INIT of the image in a slot: it is reset but for CFG.vbase, CORE_CFG, RET.limit and DS.limit (R292). -/
def Core.beginInit (c : Core) (ws : List W64) (slot : Nat) (param : BitVec 16) : Core :=
  { (coreDef 1) with
    pc := BitVec.ofNat 64 (2048 * slot + imgInit ws)
    vbase := c.vbase
    dzTrap := c.dzTrap
    threadPriv := c.threadPriv
    retLimit := c.retLimit
    dsLimit := c.dsLimit
    imask := c.imask
    wins := svWindows ws slot 0
    asleep := false
    stopped := c.stopped
    halted := c.halted
    started := c.started
    code := c.code
    data := c.data
    dataPoison := c.dataPoison
    images := c.images
    starts := c.starts
    phase := 1
    slot := slot
    record := { param := param, budget := 65536 } }

/-- The record start state at the end of INIT (R292): every pending result has landed. -/
def Core.startState (c : Core) : SvStart :=
  { flags := c.flags, regs := c.regs, dstack := c.dstack, rstack := c.rstack, spill := c.spill, work := c.work, a7 := c.a7,
    a7crc := c.a7crc }

/-- INIT has ended: the record start state of the slot is kept, and the core waits for a record. -/
def Core.initEnds (c : Core) : Core :=
  let c := c.landAll
  { c with phase := 0, asleep := true, starts := Table.set noneDef c.starts c.slot (some c.startState) }

/-- The arbiter restores the record start state and issues RECORD (R292). -/
def Core.beginRecord (c : Core) (ws : List W64) (slot : Nat) (x : SvStart) (r : Rec) : Core :=
  { c with
    pc := BitVec.ofNat 64 (2048 * slot + imgRecord ws)
    flags := x.flags
    regs := Table.erase x.regs 0x1C6
    dstack := x.dstack
    rstack := x.rstack
    retSpilled := x.spill.length
    spill := x.spill
    work := x.work
    a7 := x.a7
    a7crc := x.a7crc
    wins := svWindows ws slot r.data.length
    pending := []
    landed := false
    subst := []
    frames := []
    inTrap := false
    asleep := false
    phase := 2
    slot := slot
    record := { r with touched := min r.data.length 8192, emitted := [], cycles := 0, verdict := none } }

/-! ### The firmware behind the traps (R296 to R298) -/

/-- The charge of an access to an emulated port (Table 09.13). -/
def a7Cost (p : Nat) : Nat :=
  if p = 0x1E0 then 16 else if p = 0x1E3 ∨ p = 0x1E4 then 11 else if p = 0x1E6 then 20 else if isA7 p then 12 else 0

/-- The traps of one slot's emulated accesses, and whether the slot's ports pass the check of R268. -/
def Core.a7Slot (c : Core) (m : Nat × YSlot) : List Trap × Bool :=
  let src := if !m.2.imm && isA7 m.2.src then [srcTrap cUnassigned 1 m.1 m.2] else []
  let dst : List Trap := if isA7 m.2.dst then [{ cause := cUnassigned, sub := 1, dst := true, slot := m.1, port := m.2.dst }] else []
  match c.assign .sv m.1 m.2 with
  | .ok _ => (src ++ dst, true)
  | .error t => (if t.cause = cPrivileged then src ++ dst else if t.dst then src else [], false)

/-- The traps of a word's emulated accesses, in their order, up to a port that traps otherwise. -/
def Core.a7Traps (c : Core) : List (Nat × YSlot) → List Trap
  | [] => []
  | m :: ms => if (c.a7Slot m).2 then (c.a7Slot m).1 ++ c.a7Traps ms else (c.a7Slot m).1

/-- The moves of a word whose guards hold. -/
def Core.onSlots (c : Core) (w : W64) : List (Nat × YSlot) :=
  [(0, (yslots w).1), (1, (yslots w).2)].filter fun m => guardHolds m.2.guard c.flags

/-- The charge of a word's emulated accesses. -/
def Core.wordCost (c : Core) (w : W64) : Nat := ((c.a7Traps (c.onSlots w)).map fun t => a7Cost t.port).foldl (· + ·) 0

/-- Charge cycles to the record. -/
def Core.charge (c : Core) (n : Nat) : Core := { c with record := { c.record with cycles := c.record.cycles + n } }

/-- The cycle budget is spent (R127). -/
def Core.spent (c : Core) : Bool := decide (c.record.budget ≤ c.record.cycles)

/-- The core stops judging: the verdict stands, and the core waits for the arbiter. -/
def Core.judged (c : Core) : Core := { c with phase := 0, asleep := true }

/-- What TRAP.cause, TRAP.detail and TRAP.value hold after a trap that firmware has resolved (08 R272). -/
def Core.note (c : Core) (t : Trap) : Core := { c with cause := t.cause, detail := t.detail, tvalue := t.value }

/-- A trap of image code that ends the program: the trap's entry, whose handler gives the answer (08 R272, Table 09.12). -/
def Core.lost (b : Bus) (s : State) (c : Core) (t : Trap) : State × Core :=
  let r := c.trap b .sv s t
  (r.1, (r.2.verdict (if t.cause = cBudget then 4 else 3)).judged)

/-- A trap of image code as firmware answers it (Table 09.12). -/
def Core.answer (b : Bus) (s : State) (c : Core) (t : Trap) : State × Core :=
  if t.cause = cRetSpill then
    match c.rstack.getLast? with
    | none => (s, c)
    | some v => (s, ({ c.note t with rstack := c.rstack.dropLast, spill := v :: c.spill, retSpilled := c.retSpilled + 1 }).charge 14)
  else if t.cause = cRetFill then
    match c.spill with
    | [] => c.lost b s t
    | v :: rest => (s, ({ c.note t with rstack := c.rstack ++ [v], spill := rest, retSpilled := c.retSpilled - 1 }).charge 16)
  else c.lost b s t

/-- After a word of image code: INIT may have ended, or the record (R292, R296, R127). -/
def Core.settle (c : Core) : Core :=
  if c.phase = 3 then (if c.record.budget < c.record.cycles then (c.verdict 4).judged else c.initEnds)
  else match c.record.verdict with
    | none => c
    | some _ => if c.record.budget < c.record.cycles then (c.verdict 4).judged else c.judged

/-- A trap found before the emulated accesses of its word (08 R268 steps 1 and 2). -/
def Trap.first (t : Trap) : Bool := decide (t.cause = cFetch) || (decide (t.cause = cUnassigned) && decide (3 ≤ t.sub))

/-- A word of image code runs, or the budget trap comes first (08 R267, R296). The emulated accesses of a word trap one by one, and
the budget is looked at after each. -/
def Core.svWord (b : Bus) (i : IWord) (s : State) (c : Core) : State × Core :=
  let at_ := c.landed!
  let on := at_.onSlots i.word
  let traps := at_.a7Traps on
  let cost := at_.wordCost i.word
  let paid := c.charge cost
  let spent := decide (cost ≠ 0) && paid.spent
  if c.spent then c.lost b s { cause := cBudget }
  else match paid.issue b .sv i s with
    | .done s1 c1 =>
      if spent then paid.lost b s { cause := cBudget }
      else
        let lit := fun (n : Nat) => if n = 1 ∧ (yslots i.word).1.limm then i.lit1 else i.lit0
        let c1 := match traps.getLast? with | none => c1 | some t => c1.note (at_.fillValue b on lit s t)
        (s1, c1.settle)
    | .trap t c' =>
      if spent && !t.first then paid.lost b s { cause := cBudget }
      else ({ c' with record := { c'.record with cycles := c'.record.cycles - cost } }).answer b s t

/-! ### The record loop as a whole -/

/-- The fetch of image code at the core's program counter. -/
def fetchImage (ws : List W64) (slot : Nat) (pc : W64) : IWord :=
  let k := pc.toNat - 2048 * slot
  { word := ws.getD k 0, lit0 := ws.getD (k + 1) 0, lit1 := ws.getD (k + 2) 0 }

/-- Run image code until it ends; the fuel bounds the words, each of which costs a cycle. -/
def svRun (b : Bus) (ws : List W64) : Nat → State → Core → Core
  | 0, _, c => c
  | fuel + 1, s, c => if c.phase = 0 then c else svRun b ws fuel s (c.svWord b (fetchImage ws c.slot c.pc) s).2

/-- A sieve core as its firmware leaves it (R290). -/
def svReady : Core := { (coreDef 1) with threadPriv := false, retLimit := 64, dsLimit := 16, started := true }

/-- The bus of a program that is run as a whole: nothing beyond the core takes part. -/
def svPure : Bus := svBus (fun _ _ => 0) id id

/-- The result of INIT for a handle: the core with its record start state, or the verdict 3 (trap) or 4 (budget). -/
def State.runInit (s : State) (handle : Nat) (param : BitVec 16) : Except Nat Core :=
  match s.sieve handle with
  | none => .error 3
  | some x =>
    let c := ({ svReady with images := [⟨0, handle, x.serial, x.words⟩] }).beginInit x.words 0 param
    let c := svRun svPure x.words 65600 s c
    match c.record.verdict with
    | some v => .error v
    | none => .ok c

/-- Judge one record on a core that INIT has left: verdict and emitted bytes. -/
def State.judge (s : State) (handle : Nat) (c : Core) (ordinal budget : Nat) (data : List Byte) : Nat × List Byte :=
  match s.sieve handle, Table.get noneDef c.starts 0 with
  | some x, some st =>
    let r : Rec := { data := data, ordinal := ordinal, param := c.record.param, budget := budget }
    let c := svRun svPure x.words (budget + 64) s (c.beginRecord x.words 0 st r)
    (c.record.verdict.getD 4, c.record.emitted)
  | _, _ => (3, [])

end Sys2Proof.Machine
end

