-- ==== Sys2Proof/Machine/Irq.lean ====
section
/-! DEFINITION. The interrupt controllers' operations: sensing, assignment, presentation, claim and completion
(11 R344 to R354). -/

namespace Sys2Proof.Machine

/-- The number of targets of controller `k`: two for a RIC, four for the CIC (Table 11.9). -/
def ctlTargets (k : Nat) : Nat := if k < 8 then 2 else 4

/-- The number of sources (Table 11.9). -/
def ctlSources (k : Nat) : Nat := if k < 8 then 128 else 1024

/-- Group `g` is in hold-off at device time `now` (R346). -/
def Ictl.holding (c : Ictl) (now g : Nat) : Bool :=
  let u := Table.get natDef c.until_ g
  decide (u ≠ 0) && !reached now u

/-- The source is eligible for assignment (R348). -/
def Ictl.eligible (c : Ictl) (now i : Nat) : Bool :=
  let x := c.src i
  x.pending && x.enabled && !x.active && x.target.isNone && !c.holding now (i / 32)

/-- The target may take source `i` (R348). -/
def Ictl.accepts (c : Ictl) (i t : Nat) : Bool :=
  (c.tgt t).en && bit (c.src i).targets t && !(c.tgt t).fault

/-- The first target in rotation that may take source `i` (R348). -/
def Ictl.pick (c : Ictl) (n i : Nat) : Option Nat :=
  let first := match c.last with | none => 0 | some l => l + 1
  (firstFrom (fun j => c.accepts i (j % n)) first n).map (· % n)

/-- Assign one source when it is eligible and a target accepts it. -/
def Ictl.assign1 (n now : Nat) (c : Ictl) (i : Nat) : Ictl :=
  if c.eligible now i then
    match c.pick n i with
    | none => c
    | some t => { c.setSrc i { c.src i with target := some t } with last := some t }
  else c

/-- Assign every eligible source, in ascending source number (R348). -/
def Ictl.assign (n now : Nat) (c : Ictl) : Ictl :=
  (c.srcs.map Prod.fst).foldl (Ictl.assign1 n now) c

/-- Change controller `k` and assign what became eligible. -/
def State.modCtl (s : State) (k : Nat) (g : Ictl → Ictl) : State :=
  s.setCtl k (Ictl.assign (ctlTargets k) s.time (g (s.ctl k)))

/-- A rising edge at a source in EDGE mode (R345). -/
def Src.edge (x : Src) : Src :=
  if x.pending then { x with extra := satInc x.extra 255 } else { x with pending := true }

/-- A unit of the device asserts source `i` of controller `k` (R345, R354). A LEVEL7100 source takes the assertion as its
raw input, and `SOURCE_EDGE` reports its samples. -/
def State.raise (s : State) (k i : Nat) : State :=
  s.modCtl k fun c =>
    let x := c.src i
    c.setSrc i (if x.sense = 0 then x.edge else { x with raw := true })

/-- A source of the CIC asserts. -/
def State.cic (s : State) (i : Nat) : State := s.raise 8 i

/-- A change of a source's input, `level`, that held for `samples` samples up to device time `t` (R345). -/
def Src.sample (x : Src) (level : Bool) (samples t : Nat) : Src :=
  if x.sense = 0 then
    let y := if level && !x.input then x.edge else x
    { y with input := level, raw := level, run := 0, since := if level && !x.input then t else y.since }
  else
    let run := if level = x.input then 0 else if x.raw = level then x.run + samples else samples
    let flips := decide (level ≠ x.input) && decide (x.filter ≤ run)
    let y := { x with raw := level, run := if flips then 0 else run, input := if flips then level else x.input,
                      since := if flips && level then t else x.since }
    if y.input && !y.active then { y with pending := true } else y

/-- The level that the request line of target `t` presents (R349). -/
def Ictl.line (c : Ictl) (t : Nat) : Option Nat :=
  let g := c.tgt t
  let mine := c.srcs.filter fun p => decide (p.2.target = some t)
  let above := mine.filter fun p => match g.stack with | [] => true | top :: _ => decide (top.2 < p.2.prio)
  if g.fault then some 15
  else match above with
    | [] => if mine.isEmpty then none else some 0
    | _ => some (above.foldl (fun m p => max m p.2.prio) 0)

/-- The source a claim by target `t` returns: the highest priority, then the lowest number (R350). -/
def Ictl.best (c : Ictl) (t : Nat) : Option Nat :=
  let g := c.tgt t
  let mine := c.srcs.filter fun p => decide (p.2.target = some t) &&
    (match g.stack with | [] => true | top :: _ => decide (top.2 < p.2.prio))
  let top := mine.foldl (fun m p => max m p.2.prio) 0
  (mine.find? fun p => p.2.prio = top).map Prod.fst

/-- Start the hold-off of group `g` at device time `now` (R346). -/
def Ictl.holdGroup (c : Ictl) (now g : Nat) : Ictl :=
  let time := Table.get natDef c.holdoff g
  if time = 0 then c else { c with until_ := Table.set natDef c.until_ g (now + time * 100) }

/-- A claim by target `t`: the value the read returns and the controller after it (R350, Table 11.19). -/
def Ictl.claim (c : Ictl) (now t : Nat) : Nat × Ictl :=
  let g := c.tgt t
  if g.fault then (0xFFFFE, c)
  else match c.best t with
    | none => (0xFFFF, c)
    | some i =>
      let x := c.src i
      let c := c.setSrc i { x with pending := false, target := none, active := true }
      let c := c.setTgt t { g with stack := (i, x.prio) :: g.stack }
      (x.prio * 0x10000 + i, c.holdGroup now (i / 32))

/-- Completion of source `i`: ACTIVE clears, and a LEVEL7100 source is sampled again (R345, R351). -/
def Ictl.finish (c : Ictl) (i : Nat) : Ictl :=
  let x := c.src i
  c.setSrc i { x with active := false, pending := x.pending || (decide (x.sense = 1) && x.input) }

/-- Sources assigned to target `t` lose their assignment (R348). -/
def Ictl.withdraw (c : Ictl) (t : Nat) : Ictl :=
  { c with srcs := c.srcs.map fun p => if p.2.target = some t then (p.1, { p.2 with target := none }) else p }

/-- A write of `i` to DONE of target `t` (R351). Answers whether the stack faulted. -/
def Ictl.complete (c : Ictl) (t i : Nat) : Bool × Ictl :=
  let g := c.tgt t
  if g.fault then (false, c)
  else match g.stack with
    | (j, _) :: rest =>
      if j = i then (false, (c.setTgt t { g with stack := rest }).finish i)
      else (true, (c.setTgt t { g with fault := true, faultSrc := i }).withdraw t)
    | [] => (true, (c.setTgt t { g with fault := true, faultSrc := i }).withdraw t)

/-- A DONE write, with the CIC source of a RIC's stack fault (R351, Table 11.12). -/
def State.doneWrite (s : State) (k t i : Nat) : State :=
  let faulted := ((s.ctl k).complete t i).1
  let s := s.modCtl k fun c => (c.complete t i).2
  if faulted && decide (k < 8) then s.cic (64 * k + 9 + t) else s

/-- A W1C of TGT_STACK.FAULT: every stacked source completes, from the top down (R351). -/
def Ictl.clearFault (c : Ictl) (t : Nat) : Ictl :=
  let g := c.tgt t
  if g.fault then
    (g.stack.foldl (fun c p => c.finish p.1) c).setTgt t { g with fault := false, stack := [] }
  else c

/-- Apply `g` to every source of word `w` whose bit of `v` is 1. -/
def Ictl.onWord (c : Ictl) (w : Nat) (v : W32) (g : Src → Src) : Ictl :=
  (List.range 32).foldl (fun c j => if v.getLsbD j then c.setSrc (32 * w + j) (g (c.src (32 * w + j))) else c) c

end Sys2Proof.Machine
end

