-- ==== Sys2Proof/Machine/Errors.lean ====
section
/-! DEFINITION. First-error captures, escalation, the device-fatal state, the ledger and HEALTH (chapter 13). -/

namespace Sys2Proof.Machine

/-! ### The store's supply check and the ledger -/

/-- The rails of the supply check: VDD_CORE 0, VDD_IO 6, VDD_MRAM 7 (14 R418). A rail without a sample passes (log 14). -/
def State.supplyOk (s : State) : Bool :=
  [0, 6, 7].all fun j =>
    let r := Table.get railDef s.board.rails j
    !r.sampled || decide (12 ≤ r.margin)

/-- A store is made when the supply check passes (14 R418). A refused store asserts CIC source 964. -/
def State.refuseStore (s : State) : State := s.cic 964

/-- Complete a ledger record: its sequence number first, its CRC-32C last (Table 13.18). -/
def ledgerSeal (seq : Nat) (body : List Byte) : List Byte :=
  let bs := leBytes 4 seq ++ body
  bs ++ leBytes 4 (crc32c bs).toNat

/-- Write one ledger record into the ring (R394). -/
def Store.putLedger (st : Store) (rec : LedgerRec) : Store :=
  { st with ledger := Table.set (fun _ => ([] : LedgerRec)) st.ledger (1 + leVal (rec.take 4) % 16383) rec }

/-- Append a record: it is stored, or it waits in the queue of 64 (R395). -/
def State.ledgerAppend (s : State) (body : List Byte) : State :=
  let rec_ := ledgerSeal s.store.nextSeq body
  let st := { s.store with nextSeq := s.store.nextSeq + 1 }
  if s.supplyOk then { s with store := st.putLedger rec_ }
  else
    let full := decide (64 ≤ s.store.ledgerQueue.length)
    let q := (if full then st.ledgerQueue.drop 1 else st.ledgerQueue) ++ [rec_]
    ({ s with store := { st with ledgerQueue := q, dropped := st.dropped + b2n full } }).refuseStore

/-- The body of a ledger record, bytes 4 to 59 (Table 13.18). -/
def ledgerBody (boots time code sev level : Nat) (esc : Bool) (kind source region slot : Nat) (ctx fn : Option Nat)
    (count : Nat) (addr : W64) (space : Nat) (data : List Byte) : List Byte :=
  leBytes 2 (min boots 0xFFFF) ++ leBytes 6 time ++
  [BitVec.ofNat 8 code, BitVec.ofNat 8 sev, BitVec.ofNat 8 (level + 128 * b2n esc), BitVec.ofNat 8 kind] ++
  leBytes 2 source ++ [BitVec.ofNat 8 region, BitVec.ofNat 8 slot] ++
  leBytes 4 (match ctx with | none => 0 | some c => c + 0x80000000) ++
  [BitVec.ofNat 8 (fn.getD 0xFF), 0, 0, 0] ++ leBytes 4 count ++ leBytes 8 addr.toNat ++
  (if data.isEmpty then BitVec.ofNat 8 space :: zeros 15 else (data ++ zeros 16).take 16) ++ zeros 4

/-- A record of KIND 1 to 5 (Table 13.18). -/
def State.ledgerNote (s : State) (kind region slot : Nat) (data : List Byte) : State :=
  s.ledgerAppend (ledgerBody s.store.boots s.time 0 0 (if region < 8 then 2 else 3) false kind 0 region slot none none 0 0 0
    data)

/-- An error record: at most 16 in one second, the others are counted in DROPPED (R394). -/
def State.ledgerError (s : State) (body : List Byte) : State :=
  let sec := s.time / 1000000000
  let n := match s.chip.ledgerSecond with | some (t, n) => if t = sec then n else 0 | none => 0
  if n < 16 then
    ({ s with chip := { s.chip with ledgerSecond := some (sec, n + 1) } }).ledgerAppend body
  else { s with store := { s.store with dropped := s.store.dropped + 1 } }

/-! ### HEALTH -/

/-- The block has a retired cell. -/
def State.degraded (s : State) (k : Nat) : Bool := decide ((s.block k).retired ≠ 0)

/-- HEALTH as the present state gives it (Table 06.20, R390). -/
def State.healthNow (s : State) : W64 :=
  let slots := (List.range 64).filterMap fun i => (s.blockOf (i / 8) (i % 8))
  let deg := min (countP s.degraded slots) 255
  let spent := countP (fun r => decide ((s.region r).reserve = 15)) (List.range 8)
  let margins := (List.range 64).map (Table.get natDef s.chip.ageMargin) ++
    (List.range 32).map (Table.get natDef s.chip.emMargin)
  let margin := margins.foldl min 100
  let measured := decide (s.chip.ageMargin ≠ [] ∨ s.chip.emMargin ≠ [] ∨ s.chip.agingDue ≠ 0)
  let margin := if measured then margin else 0
  let pch := countP (fun n => (s.pch n).retired) (List.range 128)
  let lanes := (List.range 24).any fun l => (s.link l).lanesLost
  let low := measured && decide (margin < 10)
  let lim := decide (2 < pch)
  let resDeg := (List.range 8).any fun r => decide ((s.region r).reserve = 15) &&
    (List.range 8).any fun t => match s.blockOf r t with | none => true | some k => s.degraded k
  let rep := lanes || low || lim || resDeg
  BitVec.ofNat 64 (deg * 2 ^ 40 + spent * 2 ^ 32 + margin * 2 ^ 24 + pch * 2 ^ 16 +
    16 * b2n lanes + 8 * b2n low + 4 * b2n lim + 2 * b2n resDeg + b2n rep)

/-! ### Severities and codes -/

/-- CODE (Table 13.8). -/
def errNum : ErrCode → Nat
  | .access => 0x01 | .eccCorrected => 0x02 | .descBad => 0x03 | .fifoReset => 0x04 | .fifoMisuse => 0x05
  | .doubleTrap => 0x06 | .sramUncorrectable => 0x07 | .hbmUncorrectable => 0x08 | .ctxRecovered => 0x09
  | .ctxLost => 0x0A | .stuckSource => 0x0B | .fttLeaf => 0x0C | .cellFault => 0x0D | .blockFault => 0x0E
  | .pchRetired => 0x0F | .freeze => 0x10 | .supervisorFault => 0x11 | .deviceFault => 0x12
  | .escalationFatal => 0x13 | .fabricCor => 0x14 | .fabricUncor => 0x14

/-- SEVERITY of a code (Tables 13.7, 13.8). -/
def errSev : ErrCode → Nat
  | .access | .eccCorrected | .fabricCor => 1
  | .descBad | .fifoReset | .sramUncorrectable | .hbmUncorrectable | .ctxRecovered | .stuckSource | .fttLeaf
  | .fabricUncor => 2
  | .fifoMisuse | .doubleTrap | .cellFault | .blockFault | .pchRetired | .supervisorFault => 3
  | .ctxLost | .freeze => 4
  | .deviceFault | .escalationFatal => 5

/-- The level above a capture, and the SOURCE with which an escalated error arrives there (Table 13.1, R378). -/
def capUp : CapId → Option (CapId × Nat)
  | .cell r t k => some (.block r t, k)
  | .block r t => some (.region r, t)
  | .region r => some (.chip, 64 * r)
  | .chip => none

/-- The capture at a level. -/
def State.cap (s : State) (l : CapId) : Cap :=
  match l with
  | .cell r t k => match s.blockOf r t with | none => {} | some b => Table.get capDef (s.block b).caps k
  | .block r t => match s.blockOf r t with | none => {} | some b => Table.get capDef (s.block b).caps 16
  | .region r => (s.region r).cap
  | .chip => s.chip.cap

/-- Change the capture at a level. An empty slot has no live capture (R375). -/
def State.setCap (s : State) (c : Cap) (l : CapId) : State :=
  match l with
  | .cell r t k => match s.blockOf r t with
    | none => s
    | some b => s.modBlock b fun x => { x with caps := Table.set capDef x.caps k c }
  | .block r t => match s.blockOf r t with
    | none => s
    | some b => s.modBlock b fun x => { x with caps := Table.set capDef x.caps 16 c }
  | .region r => s.setRegion r { s.region r with cap := c }
  | .chip => { s with chip := { s.chip with cap := c } }

/-- The interrupt of a level when its capture records an error (Table 13.1, R353, Table 11.12). At
the chip it is the originating unit's own source; a function that freezes asserts its source itself. -/
def State.capIrq (s : State) (code source : Nat) (l : CapId) : State :=
  match l with
  | .cell r t k => s.raise r (16 * t + k)
  | .block r t => s.cic (64 * r + 1 + t)
  | .region r => s.cic (64 * r)
  | .chip => if code = 0x10 || code = 0x0A || 1024 ≤ source then s else s.cic source

/-- LEVEL, REGION and SLOT of a ledger record. -/
def capPlace : CapId → Nat × Nat × Nat
  | .cell r t _ => (0, r, t) | .block r t => (1, r, t) | .region r => (2, r, 0xFF) | .chip => (3, 0xFF, 0xFF)

/-- The captured fields of an error (Tables 13.2 to 13.5). -/
def Cap.record (c : Cap) (e : ErrIn) (source : Nat) (esc : Bool) (time : Nat) : Cap :=
  { c with valid := true, escalated := esc, severity := errSev e.code, code := errNum e.code, source := source,
           space := e.space, fn := e.fn, ctx := e.ctx, addr := if e.space = 0 then 0 else e.addr, time := time,
           count := satInc c.count 0xFFFF }

/-- A vector loses its due message and its timer. -/
def Vec.kill (v : Vec) : Vec := { v with held := false, since := none }

/-- Nothing of the function waits to be taken, written or sent. -/
def Fn.kill (f : Fn) : Fn :=
  { f with taken := [], held := [], freezing := false, vecs := f.vecs.mapV Vec.kill }

/-- The context's program is abandoned without an ending. -/
def Ctx.kill (c : Ctx) : Ctx :=
  { c with phase := .none, wait := none, ask := none, pieces := [], nvFail := none, goal := .none, halt := .none }

/-- Steps 2, 3 and 5 of the device-fatal sequence that are the device's own state (Table 13.9): every queue stops, every
context and transfer is abandoned, nothing waits to be written or sent; step 4 reports through AER. -/
def State.enterFatal (s : State) : State :=
  if s.chip.fatal then s
  else
    let s := { s with chip := { s.chip with fatal := true } }
    let s := { s with
      fns := s.fns.mapV Fn.kill
      ctxs := s.ctxs.mapV Ctx.kill
      cores := s.cores.mapV fun (c : Core) => { c with stopped := true }
      waitOrder := []
      firings := []
      deliveries := [] }
    s.emit (.aer true)

/-- The AER report of a CORRECTED error counted at a region or at the chip: one in each second (Table 13.7). -/
def State.aerCorrected (s : State) : State :=
  let sec := s.time / 1000000000
  if s.chip.aerSecond = some sec then s
  else ({ s with chip := { s.chip with aerSecond := some sec } }).emit (.aer false)

/-- The ledger record of a captured error. -/
def State.ledgerCap (s : State) (l : CapId) (c : Cap) : State :=
  let p := capPlace l
  s.ledgerError (ledgerBody s.store.boots s.time c.code c.severity p.1 c.escalated 0 c.source p.2.1 p.2.2 c.ctx c.fn c.count
    c.addr c.space [])

/-- A DEVICE-FATAL error goes to the chip capture, replacing what it holds, and the device stops (R378, R379). -/
def State.fatalError (s : State) (e : ErrIn) (source : Nat) (esc : Bool) : State :=
  let c := s.chip.cap.record e source esc s.time
  let s := { s with chip := { s.chip with cap := c } }
  (s.enterFatal).ledgerCap .chip c

/-- An error arrives at a level (R378). `fuel` bounds the levels above it. -/
def State.arrive : Nat → State → CapId → ErrIn → Nat → Bool → State
  | 0, s, _, _, _, _ => s
  | fuel + 1, s, l, e, source, esc =>
    if s.chip.fatal then { s with chip := { s.chip with cap := { s.chip.cap with count := satInc s.chip.cap.count 0xFFFF } } }
    else if errSev e.code = 5 then s.fatalError e source esc
    else
      let c := s.cap l
      let s := if errSev e.code = 1 && (decide ((capPlace l).1 = 2) || decide ((capPlace l).1 = 3)) then s.aerCorrected else s
      if !c.valid || decide (c.severity = 1) then
        let c' := c.record e source esc s.time
        let s := (s.setCap c' l).capIrq c'.code source l
        let loud := decide (2 ≤ errSev e.code) && decide (1 ≤ (capPlace l).1)
        if loud || decide (e.code = .hbmUncorrectable) || decide (e.code = .sramUncorrectable) then s.ledgerCap l c' else s
      else
        let c' := { c with count := satInc c.count 0xFFFF, overflow := true }
        let higher := decide (c.severity < errSev e.code)
        match capUp l with
        | none =>
          let s := s.setCap c' l
          if higher then s.fatalError { e with code := .escalationFatal } source esc else s
        | some (l', src') =>
          if higher then State.arrive fuel (s.setCap { c' with escOut := satInc c'.escOut 0xFFFF } l) l' e src' true
          else
            let s := s.setCap c' l
            if decide (e.code = .hbmUncorrectable) || decide (e.code = .sramUncorrectable) then s.ledgerCap l c' else s

/-- An error arrives at a level with the SOURCE it names (R378). -/
def State.error (s : State) (l : CapId) (e : ErrIn) : State := s.arrive 4 l e e.source false

/-- An access error at the chip's capture: a refused write or a bad access (R10, Table 13.8). -/
def State.accessErrChip (s : State) (source : Nat) : State := s.error .chip { code := .access, source := source }

/-- An access error at the chip of a unit without a CIC source: which number SOURCE shows is a free value, none of the listed
ones (log 26). -/
def State.accessErrUnlisted (s : State) : State :=
  let (v, s) := s.drawWord
  s.accessErrChip (1024 + v.toNat % 64512)

/-- The capture of cell `k` of block instance `b`, when the block fills a slot. -/
def State.cellCap (s : State) (b k : Nat) : Option CapId :=
  (s.slotOf b).map fun t => .cell (b / 9) t k

/-- An error at cell `k` of block instance `b`. -/
def State.cellError (s : State) (b k : Nat) (e : ErrIn) : State :=
  match s.cellCap b k with | none => s | some l => s.error l e

/-- An error at block instance `b`. -/
def State.blockError (s : State) (b : Nat) (e : ErrIn) : State :=
  match s.slotOf b with | none => s | some t => s.error (.block (b / 9) t) e

/-! ### Retirement (R386 to R388) -/

/-- A block is retired when its SQ or GT cell is, or when it has no MV, no SV or no FD cell left (R386). -/
def cellsGone (r : BitVec 16) : Bool :=
  r.getLsbD 0 || r.getLsbD 15 || decide (r &&& 0x1FE#16 = 0x1FE#16) || decide (r &&& 0x1E00#16 = 0x1E00#16) ||
  decide (r &&& 0x6000#16 = 0x6000#16)

/-- Keep the retirement map in the store (R389), or queue its store (14 R418). -/
def State.keepMap (s : State) : State :=
  let st := { s.store with
    cellMap := s.blocks.mapV Block.retired
    blockMap := (s.blocks.filter fun p => p.2.blockRetired).map Prod.fst
    reserveMap := s.regions.mapV Region.reserve
    slotMap := s.regions.mapV Region.slots
    pchMap := s.chip.pch }
  if s.supplyOk then { s with store := st }
  else ({ s with store := { s.store with jobs := s.store.jobs ++ [({ area := 1, data := [] } : StoreJob)] } }).refuseStore

/-- A context with a program: QUEUED to HALTING (Table 02.13). -/
def CtxRec.runs (r : CtxRec) : Bool := decide (2 ≤ r.state.toNat) && decide (r.state.toNat ≤ 6)

/-- The contexts homed on slot (r, t) that is now empty: their home becomes the next filled slot; one with a program migrates there
(05 R166). -/
def State.rehome (s : State) (r t : Nat) : State :=
  match s.nextSlot r t with
  | none => s
  | some k =>
    let move := fun (c : Ctx) =>
      if c.r.region.toNat ≠ r ∨ c.r.slot.toNat ≠ t then c
      else if c.r.runs then { c with migrateTo := some (r, k) }
      else { c with lodged := false, hbmCopy := none, r := { c.r with slot := BitVec.ofNat 3 k } }
    let moved := (List.range 8).filterMap fun t0 =>
      let old := (s.rehomed.find? fun p => decide (p.1 = 8 * r + t0)).map Prod.snd
      if old.getD t0 = t then some (8 * r + t0, k) else old.map fun x => (8 * r + t0, x)
    { s with ctxs := s.ctxs.mapV move, rehomed := (s.rehomed.filter fun p => decide (p.1 / 8 ≠ r)) ++ moved }

/-- A cell of block `b` is retired: each context with a command at work in the block may be one that the cell served, and then
migrates within the block; which are is a free value (R386, log 7). -/
def State.markServed (s : State) (b : Nat) : State :=
  s.ctxs.foldl (fun s p =>
    let c := p.2
    let home := (c.r.region.toNat, c.r.slot.toNat)
    let works := decide (c.phase = .exec) || decide (c.phase = .nvm) || decide (c.phase = .arrive) || decide (c.phase = .paused)
    if works && decide (s.blockOf home.1 home.2 = some b) then
      let (v, s) := s.drawWord
      if v.getLsbD 0 then s.modCtx p.1 fun c => { c with migrateTo := some home } else s
    else s) s

/-- Substitute the reserve for the block in slot `t` (R387), or leave the slot empty when the block is retired and no
reserve is left; a region without a filled slot is DEVICE-FATAL. -/
def State.replaceBlock (s : State) (b : Nat) : State :=
  let r := b / 9
  let x := s.region r
  match s.slotOf b with
  | none => s
  | some t =>
    if x.reserve ≠ 15 && x.subst.isNone then
      let s := s.setRegion r { x with subst := some (t, b % 9, s.time) }
      s.ledgerNote 2 r t [BitVec.ofNat 8 (b % 9), BitVec.ofNat 8 x.reserve]
    else if (s.block b).blockRetired && (match x.subst with | none => true | some (u, _, _) => decide (u ≠ t)) then
      let slots := x.slots.set t 15
      let s := s.setRegion r { x with slots := slots }
      if slots.all (· == 15) then s.fatalError { code := .deviceFault, source := 64 * r } (64 * r) false else s.rehome r t
    else s

/-- A UNIT error of cell `k` of block `b`: the cell is retired, then the block when R386 says so, and the reserve takes
its place when it is unused (R386, R387). -/
def State.retireCell (s : State) (b k : Nat) : State :=
  let x := s.block b
  if x.retired.getLsbD k then s
  else
    let ret := x.retired ||| (1#16 <<< k)
    let s := s.setBlock b { x with retired := ret, blockRetired := x.blockRetired || cellsGone ret }
    let s := s.ledgerNote 1 (b / 9) ((s.slotOf b).getD 0xFF) [BitVec.ofNat 8 (b % 9), BitVec.ofNat 8 k]
    ((s.markServed b).replaceBlock b).keepMap

/-- BLOCK-FAULT retires the whole block (R386). -/
def State.retireBlock (s : State) (b : Nat) : State :=
  let s := s.modBlock b fun x => { x with blockRetired := true }
  let s := s.ledgerNote 1 (b / 9) ((s.slotOf b).getD 0xFF) [BitVec.ofNat 8 (b % 9), 0xFF]
  (s.replaceBlock b).keepMap

/-- A UNIT error of a cell: its report and its effect (R376, R386). -/
def State.cellUnitError (s : State) (b k : Nat) (e : ErrIn) : State :=
  (s.cellError b k e).retireCell b k

/-- An uncorrectable SRAM error of cell `k`, or of the block itself (16): its report, and the third within 24 h raises
CELL-FAULT or BLOCK-FAULT (R381). -/
def State.sramError (s : State) (b k : Nat) (e : ErrIn) : State :=
  let s := if k = 16 then s.blockError b e else s.cellError b k e
  let x := s.block b
  let recent := ((Table.get (fun _ => ([] : List Nat)) x.sramErrors k).filter
    fun t => !reached s.time (t + 86400000000000)) ++ [s.time]
  let s := s.setBlock b { x with sramErrors := Table.set (fun _ => ([] : List Nat)) x.sramErrors k recent }
  if recent.length < 3 then s
  else if k = 16 then (s.blockError b { code := .blockFault, source := 16 }).retireBlock b
  else s.cellUnitError b k { code := .cellFault, source := 0 }

end Sys2Proof.Machine
end

