-- ==== Sys2Proof/Machine/Rings.lean ====
section
/-! DEFINITION. MSI-X and moderation, completion and status records, and the context status word (06 R204 to R214, 02 R72). -/

namespace Sys2Proof.Machine

/-! ### MSI-X and moderation (R213, R214) -/

/-- The function issues no request on the host link (R180). -/
def Fn.stopped (f : Fn) : Bool := !f.busMaster || !f.d0

/-- Ask for PME when a message or record waits in D3hot (Table 06.31 step 4). -/
def State.askPme (s : State) (n : Nat) : State :=
  let f := s.fn n
  if !f.d0 && f.pmeEn && !f.pmeStatus then (s.setFn n { f with pmeStatus := true }).emit (.pmPme n) else s

/-- A message of vector `v` that is due is sent, sets its PBA bit, or is held (R213, R214). After the last step of a freeze only the
message of FN_ERR_VEC is still sent (R210). -/
def State.deliverMsg (s : State) (n v : Nat) : State :=
  let f := s.fn n
  let x := f.vec v
  if s.chip.fatal || (decide (f.state = 1) && !f.freezing && !x.err) then s
  else if !f.msixEn || f.fnMask || x.masked then s.setFn n (f.setVec v { x with pba := true })
  else if f.stopped then (s.setFn n (f.setVec v { x with held := true })).askPme n
  else (s.setFn n (f.setVec v { x with held := false, pba := false, err := false })).emit (.msix n v x.addr x.data)

/-- The message of a vector becomes due: PENDING is 0 and the timer stops (R213). -/
def State.dueMsg (s : State) (n v : Nat) : State :=
  (s.modFn n fun f => f.setVec v { f.vec v with pending := 0, since := none }).deliverMsg n v

/-- The message is due by count, or by a hold-off time of 0 (R213). -/
def Vec.dueNow (x : Vec) : Bool :=
  decide (x.pending ≠ 0) && ((decide (x.thresh ≠ 0) && decide (x.thresh ≤ x.pending)) || decide (x.holdoff = 0))

/-- One event counts on vector `v` (R213). -/
def State.countEvent (s : State) (n : Nat) (v : Option Nat) : State :=
  match v with
  | none => s
  | some v =>
    let f := s.fn n
    let x := f.vec v
    let x := { x with pending := satInc x.pending 0xFFFF, since := if x.pending = 0 then some s.time else x.since }
    let s := s.setFn n (f.setVec v x)
    if x.dueNow then s.dueMsg n v else s

/-! ### The context status word -/

/-- LOCATION (Table 02.11). -/
def CtxRec.location (r : CtxRec) : Nat := r.lastSpace.toNat + 4 * r.callDepth.toNat + 32 * r.operand.toNat

/-- CONDITIONS (Table 02.11). -/
def CtxRec.conditions (r : CtxRec) : Nat := b2n r.cmpEq + 2 * b2n r.digestMatch

/-- The 32 bytes of the context status word (R72). -/
def CtxRec.statusWord (r : CtxRec) : List Byte :=
  [r.dev, r.chan, r.qual, r.state] ++ leBytes 4 r.residual.toNat ++ leBytes 8 r.survivors.toNat ++
  leBytes 8 r.lastCmd.toNat ++ [r.bib, BitVec.ofNat 8 r.location, BitVec.ofNat 8 r.conditions, 0] ++
  leBytes 4 r.noprog.toNat

/-- Bytes 16 to 47 of a completion record (Table 06.25). -/
def CtxRec.completionTail (r : CtxRec) : List Byte :=
  [r.dev, r.chan, r.qual, r.bib] ++ leBytes 4 r.residual.toNat ++ leBytes 8 r.survivors.toNat ++
  [r.state, BitVec.ofNat 8 r.location, BitVec.ofNat 8 r.conditions, 0] ++ leBytes 4 r.noprog.toNat ++
  leBytes 8 r.lastCmd.toNat

/-- State codes (Table 02.13). -/
def stFree : Byte := 0
def stIdle : Byte := 1
def stQueued : Byte := 2
def stActive : Byte := 3
def stHeld : Byte := 4
def stPending : Byte := 5
def stHalting : Byte := 6
def stFrozen : Byte := 7

/-- Ending codes (Table 02.12). -/
def deDone : Byte := 1
def deAttention : Byte := 2
def deDevice : Byte := 3
def deProgram : Byte := 4
def deProtection : Byte := 5
def deData : Byte := 6
def deControl : Byte := 7
def deLength : Byte := 8
def deRunaway : Byte := 9
def deTimeout : Byte := 10
def deFrozen : Byte := 11
def deMemberLost : Byte := 12

/-! ### Ring memory -/

/-- The address space that a function's HOST requests name: its own, or that of its PASID while it carries one (Table 06.8). -/
def Fn.hostSpace (f : Fn) (n : Nat) : Nat := if f.pasidEn && f.pasidCfg then n + 256 * (1 + f.pasid) else n

/-- Key of host memory: the requests' address space and IOVA (log 4). -/
def State.hostKey (s : State) (n addr : Nat) : Nat := (s.fn n).hostSpace n * 0x10000000000000000 + addr

/-- Write bytes of a ring of function `n` at ring address `a`, in its placement (R193). -/
def State.ringWrite (s : State) (n : Nat) (loc : Bool) (a : Nat) (bs : List Byte) : State :=
  if loc then { s with hbm := s.hbm.writeN ((s.fn n).extBase + a) bs }
  else { s with hostMem := s.hostMem.writeN (s.hostKey n a) bs }

/-! ### Entries -/

/-- Fields of an entry (Table 06.22). -/
def Taken.kind (t : Taken) : Nat := byteAt t.bytes 1
def Taken.len (t : Taken) : Nat := byteAt t.bytes 0 % 64
def Taken.ctx (t : Taken) : Nat := field t.bytes 4 4 % 0x100000
def Taken.kflags (t : Taken) : Nat := field t.bytes 4 4 / 0x100000
def Taken.tag (t : Taken) : Nat := field t.bytes 2 2

/-- TARGET and parameter word `i` of an ADMIN entry (07 R218). -/
def Taken.target (t : Taken) : Nat := byteAt t.bytes 6
def Taken.param (t : Taken) (i : Nat) : Nat := field t.bytes (8 + 8 * i) 8

/-- Bits [lo + w - 1 : lo] of parameter word `i`. -/
def Taken.pf (t : Taken) (i lo w : Nat) : Nat := bits (t.param i) lo w

/-- The kind names a context: START, RESUME, HALT, CLEAR, SENSE (Table 06.23). -/
def Taken.names (t : Taken) (n : Nat) : Bool := decide (1 ≤ t.kind) && decide (t.kind ≤ 5) && decide (t.ctx = n)

/-- The START entry of context `n`'s program. -/
def Fn.startOf (f : Fn) (n : Nat) : Option Taken :=
  f.taken.find? fun t => decide (t.kind = 1) && decide (t.ctx = n) && decide (t.stage = .acting)

/-- Remove a taken entry. -/
def Fn.dropTaken (f : Fn) (q slot : Nat) : Fn :=
  { f with taken := f.taken.filter fun t => !(decide (t.q = q) && decide (t.slot = slot)) }

/-- Byte 0 of a completion record, the entry's with OWN 0; it is written last, and bytes 1 to 7 are not written (Table 06.25, R204,
R206). -/
def Taken.done0 (t : Taken) : Byte := BitVec.ofNat 8 (byteAt t.bytes 0 % 128)

/-- The bytes of a completion record from byte 8 on: CLASS, CODE, TIMESTAMP, and the rest (Tables 06.25, 07.3). -/
def completionBytes (time : Nat) (body : List Byte) : List Byte := body.take 2 ++ leBytes 6 time ++ body.drop 2

/-- How the write of a record went. -/
inductive WriteOut where
  | written | waits | failed | gone
deriving DecidableEq, Repr

/-- Write an entry's completion record (R204, R206): a host ring of a stopped function makes it wait (R180); after the last
record of a freeze, during a reset and in the device-fatal state nothing is written (R210, R217, R379). -/
def State.writeCompletion (s : State) (n : Nat) (t : Taken) (body : List Byte) (ctx : Option Nat) (w : Wr) :
    WriteOut × State :=
  let f := s.fn n
  match f.queue t.q with
  | none => (.gone, s.setFn n (f.dropTaken t.q t.slot))
  | some q =>
    if s.chip.fatal || decide (f.state = 2) || (decide (f.state = 1) && !f.freezing) then
      (.gone, s.setFn n (f.dropTaken t.q t.slot))
    else if !q.loc && f.stopped then
      (.waits, (s.setFn n { f.dropTaken t.q t.slot with
        held := f.held ++ [HeldWrite.completion t body q.vec ctx] }).askPme n)
    else if w.comp.isSome then (.failed, s.setFn n (f.dropTaken t.q t.slot))
    else
      let a := q.base + 16 * t.slot
      let s := (s.ringWrite n q.loc (a + 8) (completionBytes s.time body)).ringWrite n q.loc a [t.done0]
      let s := s.modFn n fun f => f.dropTaken t.q t.slot
      (.written, if t.kind = 6 || t.kind = 7 then s else s.countEvent n q.vec)

/-! ### Status records (R211, R212) -/

/-- Records the host has not returned, and records that wait to be written. -/
def Fn.ringLevel (f : Fn) (i : Nat) (r : StatusRing) : Nat :=
  (if r.headPass = r.tailPass then r.tail - r.head else r.tail + 2 ^ r.logSize - r.head) +
  countP (fun h => match h with | .status j _ => decide (j = i) | _ => false) f.held

/-- The ring has a free record (R212). -/
def Fn.ringFree (f : Fn) (i : Nat) : Bool :=
  match f.ring i with | none => false | some r => decide (f.ringLevel i r < 2 ^ r.logSize)

/-- The host may be written to for the function's rings: not after the last record of a freeze, nor in a reset. -/
def State.ringsLive (s : State) (n : Nat) : Bool :=
  let f := s.fn n
  !s.chip.fatal && (decide (f.state = 0) || (decide (f.state = 1) && f.freezing))

/-- Write one status record at the ring's tail (R211, R212). -/
def State.writeStatus (s : State) (n i : Nat) (rec_ : List Byte) (fail : Bool) : State :=
  match (s.fn n).ring i with
  | none => s
  | some r =>
    if fail then s.modFn n fun f => f.setRing i (some { r with lost := satInc r.lost 255 })
    else
      let hdr := BitVec.ofNat 8 (128 + 64 * b2n r.tailPass)
      let s := s.ringWrite n r.loc (r.base + 32 * r.tail) (hdr :: rec_)
      let wrap := decide (r.tail + 1 = 2 ^ r.logSize)
      let r' := { r with tail := if wrap then 0 else r.tail + 1, tailPass := r.tailPass ^^ wrap }
      (s.modFn n fun f => f.setRing i (some r')).countEvent n r.vec

/-- Post a status record, 31 bytes after the header byte. A record of a full ring is dropped and counted; the callers of MARK
and POST records test the ring first (R212). -/
def State.postStatus (s : State) (n i : Nat) (rec_ : List Byte) (w : Wr) : State :=
  let f := s.fn n
  match f.ring i with
  | none => s
  | some r =>
    if !s.ringsLive n then s
    else if !f.ringFree i then s.setFn n (f.setRing i (some { r with lost := satInc r.lost 255 }))
    else if !r.loc && f.stopped then (s.setFn n { f with held := f.held ++ [HeldWrite.status i rec_] }).askPme n
    else s.writeStatus n i rec_ w.status.isSome

/-- A status record without HOST_TAG and CONTEXT (Table 06.29). -/
def plainStatus (type : Nat) (body : List Byte) : List Byte :=
  [BitVec.ofNat 8 type] ++ zeros 6 ++ (body ++ zeros 24).take 24

/-- The MARK record of context `n` (Table 06.30). -/
def markRecord (tag n : Nat) (r : CtxRec) : List Byte :=
  [1] ++ leBytes 2 tag ++ leBytes 4 n ++ leBytes 8 r.lastCmd.toNat ++ leBytes 4 r.residual.toNat ++
  [r.state, r.qual, r.bib, r.chan] ++ leBytes 8 r.survivors.toNat

/-- The POST record (Table 06.30). -/
def postRecord (tag n : Nat) (r : CtxRec) (value : W64) (ptag : Nat) : List Byte :=
  [2] ++ leBytes 2 tag ++ leBytes 4 n ++ leBytes 8 value.toNat ++ leBytes 4 ptag ++ [0, 0, r.bib, 0] ++
  leBytes 8 r.lastCmd.toNat

/-! ### HEALTH (R191, R391) -/

/-- Scepica publishes HEALTH; a bit of HEALTH[4:1] that sets posts a HEALTH record and writes a ledger record. The bits stay
set until cold reset. -/
def State.publishHealth (s : State) (w : Wr) : State :=
  let old := s.chip.health
  let now := s.healthNow
  let sticky := (old ||| now) &&& 0x1E#64
  let new := (now &&& ~~~0x1F#64) ||| sticky ||| (if sticky = 0 then 0 else 1)
  let rose := decide (sticky &&& ~~~old ≠ 0)
  let s := { s with chip := { s.chip with health := new } }
  if rose then
    (s.postStatus 0 0 (plainStatus 5 (leBytes 8 new.toNat)) w).ledgerNote 4 0xFF 0xFF (leBytes 8 new.toNat)
  else s

end Sys2Proof.Machine
end

