-- ==== Sys2Proof/Machine/Access.lean ====
section
/-! DEFINITION. Accesses of a context to HOST, LOCAL and FAR space: extents, far translation, interleave, poison, the failures
that responses reported, and the endings they cause (01 R29 to R32, 03 R86, 10 R311, R317, 12 R360 to R364). -/

namespace Sys2Proof.Machine

/-- DEVICE_STATUS and QUALIFIER of a failed access (Tables 03.4, 10.12). -/
def failEnding : AccFail → Byte × Byte
  | .ats => (deProtection, 2) | .hostAbort => (deProtection, 3) | .hostTimeout => (deTimeout, 1)
  | .poisoned => (deData, 2) | .uncorrectable => (deData, 1) | .extent => (deProtection, 1)
  | .unpopulated => (deProgram, 0x0F) | .farInvalid => (deProtection, 4) | .farRight => (deProtection, 5)
  | .key => (deProtection, 6) | .farUr => (deDevice, 1) | .farCa => (deDevice, 2) | .memError => (deDevice, 3)
  | .unavailable => (deDevice, 5) | .farTimeout => (deTimeout, 2) | .fifo => (deControl, 1)
  | .media => (deData, 3) | .nvmeStatus => (deDevice, 4) | .nvmeTimeout => (deTimeout, 3)

/-- REASON of a failed mover access (Table 10.4). -/
def failReason : AccFail → Nat
  | .ats => 1 | .hostAbort => 2 | .hostTimeout => 3 | .poisoned => 4 | .uncorrectable => 5 | .extent => 6
  | .unpopulated => 7 | .farInvalid => 8 | .farRight => 9 | .key => 0xA | .farUr => 0xB | .farCa => 0xC
  | .memError => 0xD | .unavailable => 0xE | .farTimeout => 0xF | .fifo => 0x10
  | .media => 5 | .nvmeStatus => 0xB | .nvmeTimeout => 0xF

/-! ### The context record as bytes -/

/-- OWNER_FLAGS and HOME (Table 05.2). -/
def CtxRec.ownerFlags (r : CtxRec) : Nat := b2n r.supervisor + 2 * b2n r.pinned
def CtxRec.home (r : CtxRec) : Nat := r.region.toNat + 8 * r.slot.toNat

/-- The 256 bytes of a context record (Table 05.2). -/
def CtxRec.bytes (r : CtxRec) : List Byte :=
  r.statusWord ++ [r.ownerFn, BitVec.ofNat 8 r.ownerFlags, BitVec.ofNat 8 r.home, 0] ++ leBytes 4 r.budget.toNat ++
  leBytes 8 r.keys.toNat ++ leBytes 4 r.epochTag.toNat ++ leBytes 2 r.queue.toNat ++ leBytes 2 r.slotIndex.toNat ++
  leBytes 2 r.hostTag.toNat ++ [r.startSpace.zeroExtend 8, r.stackSpaces] ++ leBytes 2 r.stale.toNat ++ [0, 0] ++
  leBytes 8 r.startAddr.toNat ++ leBytes 8 r.stack0.toNat ++ leBytes 8 r.stack1.toNat ++ leBytes 8 r.stack2.toNat ++
  leBytes 8 r.stack3.toNat ++ ((List.range 19).flatMap fun i => leBytes 8 (r.transfer.getD i 0).toNat)

/-- The 16 bytes of the shadow entry (Table 05.4). -/
def CtxRec.shadow (r : CtxRec) : List Byte :=
  [r.ownerFn, r.state, r.bib, BitVec.ofNat 8 r.ownerFlags] ++ leBytes 4 r.budget.toNat ++ leBytes 2 r.queue.toNat ++
  leBytes 2 r.slotIndex.toNat ++ leBytes 2 r.hostTag.toNat ++ [BitVec.ofNat 8 r.home, 0]

/-- The record that 256 bytes spell (Table 05.2). Reserved bits are not kept. -/
def recOfBytes (bs : List Byte) : CtxRec :=
  let f := field bs
  let loc := f 25 1
  { dev := bs.getD 0 0, chan := bs.getD 1 0, qual := bs.getD 2 0, state := bs.getD 3 0,
    residual := BitVec.ofNat 32 (f 4 4), survivors := BitVec.ofNat 64 (f 8 8), lastCmd := BitVec.ofNat 64 (f 16 8),
    bib := bs.getD 24 0, lastSpace := BitVec.ofNat 2 loc, callDepth := BitVec.ofNat 3 (loc / 4),
    operand := BitVec.ofNat 3 (loc / 32), cmpEq := bit (f 26 1) 0, digestMatch := bit (f 26 1) 1,
    noprog := BitVec.ofNat 32 (f 28 4), ownerFn := bs.getD 32 0, supervisor := bit (f 33 1) 0, pinned := bit (f 33 1) 1,
    region := BitVec.ofNat 3 (f 34 1), slot := BitVec.ofNat 3 (f 34 1 / 8), budget := BitVec.ofNat 32 (f 36 4),
    keys := BitVec.ofNat 64 (f 40 8), epochTag := BitVec.ofNat 32 (f 48 4), queue := BitVec.ofNat 16 (f 52 2),
    slotIndex := BitVec.ofNat 16 (f 54 2), hostTag := BitVec.ofNat 16 (f 56 2), startSpace := BitVec.ofNat 2 (f 58 1),
    stackSpaces := bs.getD 59 0, stale := BitVec.ofNat 16 (f 60 2), startAddr := BitVec.ofNat 64 (f 64 8),
    stack0 := BitVec.ofNat 64 (f 72 8), stack1 := BitVec.ofNat 64 (f 80 8), stack2 := BitVec.ofNat 64 (f 88 8),
    stack3 := BitVec.ofNat 64 (f 96 8),
    transfer := if allZero (bs.drop 104) then [] else (List.range 19).map fun i => BitVec.ofNat 64 (f (104 + 8 * i) 8) }

/-! ### LOCAL space -/

def ctxStoreBase : Nat := 0x2300000000
def shadowBase : Nat := 0x2390000000
def unpopBase : Nat := 0x2400000000

def sieveTableBase : Nat := 0x2391000000
def sieveImageBase : Nat := 0x2392000000

/-- Commands in flight with a sieve handle (07 R229). -/
def State.sieveUsers (s : State) (h : Nat) : Nat := countP (fun p : Nat × Ctx => p.2.handles.contains h) s.ctxs

/-- The 16 bytes of a handle table entry (09 Table 09.14). -/
def State.handleEntry (s : State) (h : Nat) : List Byte :=
  match s.sieve h with
  | none => zeros 16
  | some x => [BitVec.ofNat 8 x.owner, BitVec.ofNat 8 x.state] ++ leBytes 2 x.words.length ++ leBytes 4 (s.sieveUsers h) ++
      leBytes 4 x.serial ++ zeros 4

/-- The words of a handle's image. -/
def State.imageOf (s : State) (h : Nat) : List W64 := match s.sieve h with | none => [] | some x => x.words

/-- The handle table and the images lie in LOCAL space (09 R299). -/
def inSieves (a : Nat) : Bool :=
  (decide (sieveTableBase ≤ a) && decide (a < sieveTableBase + 0x100000)) ||
  (decide (sieveImageBase ≤ a) && decide (a < sieveImageBase + 0x40000000))

/-- A byte of the handle table or of an image. -/
def State.sieveByte (s : State) (a : Nat) : Byte :=
  if a < sieveTableBase + 0x100000 then (s.handleEntry ((a - sieveTableBase) / 16)).getD ((a - sieveTableBase) % 16) 0
  else
    let o := (a - sieveImageBase) % 16384
    let ws := s.imageOf ((a - sieveImageBase) / 16384)
    if o / 8 < ws.length then (leBytes 8 (ws.getD (o / 8) 0).toNat).getD (o % 8) 0 else s.hbm.read a

/-- A write to a byte of the handle table or of an image: OWNER_FN, SERIAL and the words of a loaded image take it. STATE, WORDS and
INFLIGHT are the AD9400's own count of what is loaded (log 162). -/
def State.sievePut (s : State) (a : Nat) (b : Byte) : State :=
  if a < sieveTableBase + 0x100000 then
    let h := (a - sieveTableBase) / 16
    let o := (a - sieveTableBase) % 16
    match s.sieve h with
    | none => s
    | some x =>
      if o = 0 then s.setSieve h (some { x with owner := b.toNat })
      else if 8 ≤ o ∧ o < 12 then s.setSieve h (some { x with serial := leVal (patch (leBytes 4 x.serial) (o - 8) [b]) })
      else s
  else
    let h := (a - sieveImageBase) / 16384
    let o := (a - sieveImageBase) % 16384
    match s.sieve h with
    | none => { s with hbm := s.hbm.write a b }
    | some x =>
      if o / 8 < x.words.length then
        let put := fun (w : W64) => (BitVec.ofNat 64 (leVal (patch (leBytes 8 w.toNat) (o % 8) [b])) : W64)
        s.setSieve h (some { x with words := x.words.modify (o / 8) put })
      else { s with hbm := s.hbm.write a b }

/-- One byte of LOCAL space as HBM holds it: the context store and the shadow entries hold the records (05 R153, R154); a lodged
context's copy is out of date (05, The lodge); the handle table and the images show the handles (09 R299). -/
def State.localByte (s : State) (a : Nat) : Byte :=
  if ctxStoreBase ≤ a ∧ a < ctxStoreBase + 0x10000000 then
    let c := s.ctx ((a - ctxStoreBase) / 256)
    ((c.hbmCopy.getD c.r).bytes).getD ((a - ctxStoreBase) % 256) 0
  else if shadowBase ≤ a ∧ a < shadowBase + 0x1000000 then
    ((s.ctx ((a - shadowBase) / 16)).r.shadow).getD ((a - shadowBase) % 16) 0
  else if inSieves a then s.sieveByte a
  else s.hbm.read a

/-- `n` bytes of LOCAL space. -/
def State.localRead (s : State) (a : Nat) : Nat → List Byte
  | 0 => []
  | n + 1 => s.localByte a :: s.localRead (a + 1) n

/-! ### A context whose program stops or starts -/

/-- The context has no program any more: nothing of one stays. -/
def Ctx.idle (c : Ctx) (r : CtxRec) : Ctx :=
  { c with r := r, phase := .none, halt := .none, ended := none, goal := .none, chain := false, rest := .none,
           join := false, xfer := {}, grp := {}, wait := none, ask := none, snapshot := [], pieces := [], nvFail := none, fails := [],
           readAhead := [], noHold := false, handles := [], nvHandles := [], cmd := {}, migrateTo := none, was := .none,
           frozenFn := false, heldCmd := none, survZero := true, resZero := true, next := none, marks := [], owed := [],
           again := false, hostNew := [], hostOld := [], placed := false, step9 := false }

/-- The context has requests that may be outstanding. -/
def Ctx.asks (c : Ctx) : Bool :=
  decide (c.phase = .fetch) || decide (c.phase = .desc) || decide (c.phase = .exec) || decide (c.phase = .nvm) ||
  decide (c.phase = .arrive)

/-- The requests that are abandoned carry a bib (R162). -/
def addLate (bib : Byte) (l : List Byte) : List Byte := if l.contains bib then l else bib :: l

/-- Commands of NVMe pieces without a completion are abandoned: their completions are discarded when they come. -/
def State.dropPieces (s : State) (n : Nat) : State :=
  let ps := (s.ctx n).pieces.filter fun p => !p.done
  let s := ps.foldl (fun s p => match s.ctrl p.ctrl with
    | none => s
    | some x => s.setCtrl p.ctrl (some { x with dropped := insertNat p.cid x.dropped })) s
  s.modCtx n fun c => { c with pieces := [], nvFail := none }

/-- The ask of a FINISH that is abandoned (R120). -/
def State.dropAsk (s : State) (n : Nat) : State :=
  match (s.ctx n).ask with
  | none => s
  | some a => ({ s with domain := { s.domain with asks := Table.erase s.domain.asks a } }).modCtx n fun c =>
      { c with ask := none, snapshot := [] }

/-- The record of a context whose program starts (R37, R118). -/
def CtxRec.started (r : CtxRec) (space addr : Nat) (epoch : W32) (queue slot tag : Nat) : CtxRec :=
  { r with
    dev := 0, chan := 0, qual := 0, state := stQueued, residual := 0, survivors := 0,
    lastCmd := BitVec.ofNat 64 addr, lastSpace := BitVec.ofNat 2 space, bib := r.bib + 1,
    callDepth := 0, operand := 0, cmpEq := false, digestMatch := false, noprog := 0, epochTag := epoch,
    queue := BitVec.ofNat 16 queue, slotIndex := BitVec.ofNat 16 slot, hostTag := BitVec.ofNat 16 tag,
    startSpace := BitVec.ofNat 2 space, startAddr := BitVec.ofNat 64 addr, stackSpaces := 0,
    stack0 := 0, stack1 := 0, stack2 := 0, stack3 := 0, transfer := [] }

/-- Scepica starts a supervisor context as it writes QUEUED to the STATE of its record, with the start address in START_ADDR (R164;
log 158). -/
def State.supStart (s : State) (n : Nat) (r : CtxRec) : State :=
  let c := s.ctx n
  if c.late.contains (r.bib + 1) then s
  else
    let r' := r.started r.startSpace.toNat r.startAddr.toNat s.domain.ec r.queue.toNat r.slotIndex.toNat r.hostTag.toNat
    s.setCtx n { c.idle r' with phase := .ready, pc := r.startAddr, space := r.startSpace, hbmCopy := c.hbmCopy.map fun _ => r' }

/-- Scepica stops a supervisor context as it writes IDLE or FREE to the STATE of its record (R164; log 158). -/
def State.supStop (s : State) (n : Nat) (r : CtxRec) : State :=
  let s := ({ s with waitOrder := s.waitOrder.filter fun p => decide (p.2 ≠ n) }).dropAsk n
  (s.dropPieces n).modCtx n fun c => { c.idle { r with bib := c.r.bib } with
    hbmCopy := c.hbmCopy.map fun _ => { r with bib := c.r.bib }, dirty := [], farTags := [],
    late := if c.asks then addLate c.r.bib c.late else c.late }

/-- What a change of the STATE in a supervisor context's record does. -/
def State.supWrite (s : State) (n : Nat) (r : CtxRec) : State :=
  let c := s.ctx n
  if r.state = stQueued ∧ c.phase = .none then s.supStart n r
  else if (r.state = stIdle ∨ r.state = stFree) ∧ c.phase ≠ .none then s.supStop n r
  else if c.hbmCopy.isSome then s.setCtx n { c with hbmCopy := some r } else s.setCtx n { c with r := r }

/-- Change bytes of a context record in the store; the shadow entry follows (R154). -/
def State.writeRecordByte (s : State) (a : Nat) (b : Byte) : State :=
  let n := (a - ctxStoreBase) / 256
  let c := s.ctx n
  let r := recOfBytes (patch ((c.hbmCopy.getD c.r).bytes) ((a - ctxStoreBase) % 256) [b])
  if isSupCtx n ∧ (a - ctxStoreBase) % 256 = 3 then s.supWrite n r
  else if c.hbmCopy.isSome then s.setCtx n { c with hbmCopy := some r } else s.setCtx n { c with r := r }

/-- Write one byte of LOCAL space. -/
def State.localPut (s : State) (a : Nat) (b : Byte) : State :=
  if ctxStoreBase ≤ a ∧ a < ctxStoreBase + 0x10000000 then s.writeRecordByte a b
  else if shadowBase ≤ a ∧ a < shadowBase + 0x1000000 then s
  else if inSieves a then s.sievePut a b
  else { s with hbm := s.hbm.write a b }

/-- The 32-byte words wholly inside a range. -/
def wholeWords (a n : Nat) : List Nat :=
  let lo := (a + 31) / 32
  let hi := (a + n) / 32
  (List.range (hi - lo)).map (lo + ·)

/-- Write bytes of LOCAL space; a word written whole loses its poison (13 R380). -/
def State.localWrite (s : State) (a : Nat) (bs : List Byte) : State :=
  let s' := if a + bs.length ≤ ctxStoreBase then { s with hbm := s.hbm.writeN a bs }
            else (List.range bs.length).foldl (fun s i => s.localPut (a + i) (bs.getD i 0)) s
  if s.poison.isEmpty then s'
  else { s' with poison := s.poison.filter fun w => !(wholeWords a bs.length).contains w }

/-- The first poisoned word that a range touches. -/
def State.poisonIn (s : State) (a n : Nat) : Option Nat :=
  s.poison.find? fun w => decide (w * 32 < a + n) && decide (a < w * 32 + 32)

/-- The funnel's narrow accesses of a part: the largest size that divides the address and does not exceed what remains
(10 R317). -/
def narrow : Nat → Nat → Nat → List (Nat × Nat)
  | 0, _, _ => []
  | _ + 1, _, 0 => []
  | fuel + 1, a, n =>
    let sz := ([32, 16, 8, 4, 2].find? fun z => decide (a % z = 0) && decide (z ≤ n)).getD 1
    (a, sz) :: narrow fuel (a + sz) (n - sz)

/-- The start of the funnel access that holds address `x` of the range (10 R317). -/
def funnelStart (a n x : Nat) : Nat :=
  let lo := x / 64 * 64
  if a ≤ lo ∧ lo + 64 ≤ a + n then lo
  else
    let b := max a lo
    let e := min (a + n) (lo + 64)
    match (narrow 64 b (e - b)).find? fun p => decide (x < p.1 + p.2) with
    | some p => p.1
    | none => x

/-! ### FAR space -/

/-- The entry that translates far virtual page addresses of a function: an entry of either page size (12 R360, R362). -/
def Fn.fttEntry (f : Fn) (va : Nat) : Option (W64 × Nat) :=
  let e2 := Table.get w64Def f.ftt2m (va / 0x200000)
  let e1 := Table.get w64Def f.ftt1g (va / 0x40000000)
  if e2.getLsbD 0 then some (e2, 0x200000) else if e1.getLsbD 0 then some (e1, 0x40000000) else none

/-- Rights an access needs. -/
inductive Right where
  | read | write | atomic
deriving DecidableEq, Repr

/-- The three translation checks of a page, in the order of Table 03.4; the far physical address (12 R360). -/
def Fn.translate (f : Fn) (key : Nat) (need : Right) (va : Nat) : Except AccFail Nat :=
  match f.fttEntry va with
  | none => .error .farInvalid
  | some (e, size) =>
    let ok := match need with | .read => e.getLsbD 1 | .write => e.getLsbD 2 | .atomic => e.getLsbD 3
    if !ok then .error .farRight
    else if bits e.toNat 4 4 ≠ key then .error .key
    else .ok ((bits e.toNat 21 29) * 0x200000 + va % size)

/-- The set that holds a far physical address (12 R364). -/
def State.setOf (s : State) (pa : Nat) : Option ISet :=
  (s.isets.filterMap Prod.snd).find? fun x => decide (x.base ≤ pa) && decide (pa < x.base + x.size)

/-- The way that serves a far physical address (R364). -/
def ISet.way (x : ISet) (pa : Nat) : Nat :=
  let g := 2 ^ x.logGran
  if x.ways = 12 then 4 * ((pa / (4 * g)) % 3) + (pa / g) % 4 else (pa / g) % x.ways

/-- The link that serves a far physical address. -/
def State.linkOf (s : State) (pa : Nat) : Option Nat := (s.setOf pa).map fun x => x.links.getD (x.way pa) 0

/-- The target of a far physical address is reachable: its link has CXL.mem enabled, and no withdrawn extent holds it
(12 R365, R366). -/
def State.farReach (s : State) (pa : Nat) : Bool :=
  match s.linkOf pa with
  | none => false
  | some l => (s.link l).memOn && !(s.extents.any fun e => e.withdrawn && decide (e.link = l) &&
      decide (e.base ≤ pa) && decide (pa < e.base + e.len2m * 0x200000))

/-! ### Accesses of a context -/

/-- Who accesses: the function, whether addresses are absolute, the key value, and the reported failures. -/
structure Who where
  fn : Nat
  sup : Bool
  key : Nat
  fails : List AccessFail
  old : List (Nat × Byte) := []   -- HOST bytes that earlier commands wrote and that have not arrived: address and a value before

/-- The accessor that a context's command is, under a key index (01 R32). -/
def Ctx.who (c : Ctx) (keyIdx : Nat) : Who :=
  { fn := c.r.ownerFn.toNat, sup := c.r.supervisor, key := bits c.r.keys.toNat (4 * keyIdx) 4, fails := c.fails, old := c.hostOld }

/-- The lowest reported failure of a read, or of a write, in a range: its offset and reason. -/
def Who.reported (w : Who) (write : Bool) (space a n : Nat) : Option (Nat × AccFail) :=
  (w.fails.filter fun f => decide (f.space = space) && decide (f.write ≠ some !write) && decide (f.addr < a + n) && decide (a < f.addr + max f.len 1)).foldl
    (fun m f => let o := f.addr - a
                match m with | none => some (o, f.why) | some (o', _) => if o < o' then some (o, f.why) else m) none

/-- The place of a failure's ending in the order of precedence of 02 R66: CONTROL-CHECK, DATA-CHECK, PROTECTION-CHECK, TIMEOUT,
DEVICE-CHECK, PROGRAM-CHECK. -/
def failRank (f : AccFail) : Nat :=
  (([7, 6, 5, 10, 3, 4] : List Byte).findIdx? (· = (failEnding f).1)).getD 6

/-- The lower of two failures; when both meet at one place the one whose ending takes precedence, and the first when neither does
(02 R66). -/
def lowerFail (x y : Option (Nat × AccFail)) : Option (Nat × AccFail) :=
  match x, y with
  | none, y => y
  | x, none => x
  | some (i, f), some (j, g) => if j < i ∨ (j = i ∧ failRank g < failRank f) then some (j, g) else some (i, f)

/-- The absolute LOCAL address of an operand address (01 R29). -/
def State.absLocal (s : State) (w : Who) (a : Nat) : Nat := if w.sup then a else (s.fn w.fn).extBase + a

/-- The range check of LOCAL (01 R30): the offset of the first bad byte. -/
def State.localCheck (s : State) (w : Who) (a n : Nat) : Option (Nat × AccFail) :=
  let lim := if w.sup then unpopBase else (s.fn w.fn).extLen
  if n = 0 ∨ a + n ≤ lim then none else some (lim - a, if w.sup then .unpopulated else .extent)

/-- The translation and routing checks of FAR over the pages of a range (03 R86, 12 R364, R365). -/
def State.farCheck (s : State) (w : Who) (need : Right) (a n : Nat) : Option (Nat × AccFail) :=
  if n = 0 then none
  else
    let first := a / 0x200000
    let pages := (a + n - 1) / 0x200000 - first + 1
    (List.range pages).findSome? fun i =>
      let va := max a ((first + i) * 0x200000)
      match (s.fn w.fn).translate w.key need va with
      | .error e => some (va - a, e)
      | .ok pa =>
        let stop := min (a + n) ((first + i + 1) * 0x200000)
        let g := 256
        (List.range ((stop - va) / g + 1 + 1)).findSome? fun j =>
          let x := if j = 0 then va else (va / g + j) * g
          if x < stop ∧ !s.farReach (pa + (x - va)) then some (x - a, AccFail.unavailable) else none

/-- The far physical address of a far virtual one that translates. -/
def State.farPa (s : State) (w : Who) (va : Nat) : Nat :=
  match (s.fn w.fn).fttEntry va with
  | none => 0
  | some (e, size) => (bits e.toNat 21 29) * 0x200000 + va % size

/-- The first failure of a read of `n` bytes at `a` (03 R86): offset of the first byte of the failing access. -/
def State.readFail (s : State) (w : Who) (space a n : Nat) : Option (Nat × AccFail) :=
  if n = 0 then none
  else if space = 0 then w.reported false 0 a n
  else if space = 1 then
    let chk := s.localCheck w a n
    let m := match chk with | none => n | some (o, _) => o
    let abs := s.absLocal w a
    let p := (s.poisonIn abs m).map fun x => (funnelStart abs m (max abs (x * 32)) - abs, AccFail.poisoned)
    lowerFail (lowerFail (w.reported false 1 a m) p) chk
  else
    let chk := s.farCheck w .read a n
    let m := match chk with | none => n | some (o, _) => o
    lowerFail (w.reported false 2 a m) chk

/-- A byte of HOST memory as the accessor reads it: of a byte that an earlier command of its context wrote, with no FENCE between, the
value that was there before or the written one (02 R40, R68). -/
def State.hostByte (s : State) (w : Who) (a : Nat) : Byte :=
  let now := s.hostMem.read (s.hostKey w.fn a)
  let before := (w.old.filter fun p => decide (p.1 = a)).map Prod.snd
  if before.isEmpty then now else (now :: before).getD (Config.hostPick s.free a % (before.length + 1)) now

/-- One byte as a read returns it. -/
def State.byteIn (s : State) (w : Who) (space a : Nat) : Byte :=
  if space = 0 then s.hostByte w (a % 0x10000000000000000)
  else if space = 1 then s.localByte (s.absLocal w a)
  else s.farMem.read (s.farPa w a)

/-- Bytes as a read returns them, without the checks. -/
def State.bytesIn (s : State) (w : Who) (space a : Nat) : Nat → List Byte
  | 0 => []
  | n + 1 => s.byteIn w space a :: s.bytesIn w space (a + 1) n

/-- A read: the bytes before the failing access, and the failure. -/
def State.readRange (s : State) (w : Who) (space a n : Nat) : List Byte × Option (Nat × AccFail) :=
  match s.readFail w space a n with
  | none => (s.bytesIn w space a n, none)
  | some (o, f) => (s.bytesIn w space a o, some (o, f))

/-- The first failure of a write of `n` bytes at `a`. -/
def State.writeFail (s : State) (w : Who) (space a n : Nat) : Option (Nat × AccFail) :=
  if n = 0 then none
  else if space = 0 then w.reported true 0 a n
  else if space = 1 then
    let chk := s.localCheck w a n
    let m := match chk with | none => n | some (o, _) => o
    lowerFail (w.reported true 1 a m) chk
  else
    let chk := s.farCheck w .write a n
    let m := match chk with | none => n | some (o, _) => o
    lowerFail (w.reported true 2 a m) chk

/-- Store bytes without the checks. -/
def State.bytesOut (s : State) (w : Who) (space a : Nat) (bs : List Byte) : State :=
  if space = 0 then
    let put := fun (m : Mem) (i : Nat) => m.write (s.hostKey w.fn ((a + i) % 0x10000000000000000)) (bs.getD i 0)
    { s with hostMem := (List.range bs.length).foldl put s.hostMem }
  else if space = 1 then s.localWrite (s.absLocal w a) bs
  else
    let put := fun (m : Mem) (i : Nat) => m.write (s.farPa w (a + i)) (bs.getD i 0)
    { s with farMem := (List.range bs.length).foldl put s.farMem }

/-- Among the spaces written: LOCAL writes that no HBM controller has acknowledged (10 R321). -/
def unacked : Nat := 4

/-- A space has been written. -/
def dirtied (space : Nat) (l : List Nat) : List Nat := if space = 1 then insertNat unacked (insertNat 1 l) else insertNat space l

/-- Context `n` has written in a space: the write has not arrived until a read-back (02 R69); FAR writes carry the epoch tag
(03 R118). -/
def Ctx.wrote (c : Ctx) (space : Nat) : Ctx :=
  { c with dirty := dirtied space c.dirty,
           farTags := if space = 2 ∧ !c.farTags.contains c.r.epochTag then c.farTags ++ [c.r.epochTag] else c.farTags }

/-- The pieces of a FAR range that one translation serves: the first byte's physical address, and the bytes. -/
def State.farPieces (s : State) (w : Who) (a n : Nat) : List (Nat × Nat) :=
  if n = 0 then []
  else
    let first := a / 0x200000
    (List.range ((a + n - 1) / 0x200000 - first + 1)).map fun i =>
      let va := max a ((first + i) * 0x200000)
      (s.farPa w va, min (a + n) ((first + i + 1) * 0x200000) - va)

/-- A write of `n` bytes at `a` touches the 32 bytes of a command that was read ahead from `addr`: in LOCAL by their addresses, in FAR by
the bytes of far memory that both mean (02 R40). -/
def State.touches (s : State) (w : Who) (space a n addr : Nat) : Bool :=
  if space = 2 then
    let pa := s.farPa w addr
    (s.farPieces w a n).any fun p => decide (pa < p.1 + p.2) && decide (p.1 < pa + 32)
  else decide (addr < a + n) && decide (a < addr + 32)

/-- The read-ahead copies of LOCAL and FAR commands that a write touches are discarded (02 R40). -/
def State.staleAhead (s : State) (n : Nat) (w : Who) (space a k : Nat) : State :=
  if space = 0 then s
  else s.modCtx n fun c => { c with
    readAhead := c.readAhead.filter fun p => !(decide (p.1 = space) && s.touches w space a k p.2.1.toNat) }

/-- The bytes that a HOST write leaves: where an earlier command of the context wrote the byte, with no FENCE between, either value
remains (02 R68). -/
def State.hostLeft (s : State) (c : Ctx) (w : Who) (a : Nat) (bs : List Byte) : List Byte :=
  (List.range bs.length).map fun i =>
    let x := (a + i) % 0x10000000000000000
    if c.hostOld.any (fun p => decide (p.1 = x)) && decide (Config.hostPick s.free (x + 0x10000000000000000) % 2 = 1)
    then s.hostMem.read (s.hostKey w.fn x) else bs.getD i 0

/-- What HOST bytes held before a command of a supervisor context wrote them. A tenant's writes have arrived before its next command
begins (10 R322). -/
def State.hostBefore (s : State) (c : Ctx) (w : Who) (space a n : Nat) : List (Nat × Byte) :=
  if space ≠ 0 ∨ !c.r.supervisor then []
  else (List.range n).map fun i =>
    let x := (a + i) % 0x10000000000000000
    (x, s.hostMem.read (s.hostKey w.fn x))

/-- What bytes held before a transform wrote them, where its own source may still read them: in the space of A, in the command's
segment or, in a chain and for column and plane arrays, anywhere (04 R149). -/
def State.sourceBefore (s : State) (c : Ctx) (w : Who) (space a n : Nat) : List (Nat × Nat × Byte) :=
  let sp := bits c.cmd.spaces.toNat 0 2
  let wide := c.cmd.flags.getLsbD 1 || decide (1 < c.xfer.members.length) || decide (c.cmd.op = 0xB) || decide (c.cmd.op = 0xD)
  let lo := c.cmd.a.toNat
  let mine := fun x => decide (sp = space) && (wide || (decide (lo ≤ x) && decide (x < lo + c.cmd.count.toNat)))
  if c.cmd.op < 8 ∨ 0xE < c.cmd.op then []
  else (((List.range n).map (a + ·)).filter fun x => mine x && !c.xfer.was.any fun p => decide (p.1 = space) && decide (p.2.1 = x)).map
    fun x => (space, x, s.byteIn w space x)

/-- Context `n`'s command stores bytes, its checks passed. -/
def State.ctxOut (s : State) (n : Nat) (w : Who) (space a : Nat) (bs : List Byte) : State :=
  let c := s.ctx n
  let old := s.hostBefore c w space a bs.length
  let was := s.sourceBefore c w space a bs.length
  let bs := if space = 0 ∧ !c.hostOld.isEmpty then s.hostLeft c w a bs else bs
  ((s.bytesOut w space a bs).modCtx n fun c => { c.wrote space with
    hostNew := c.hostNew ++ old, xfer := { c.xfer with was := c.xfer.was ++ was } }).staleAhead n w space a bs.length

/-- A write by context `n`'s command: the bytes before the failing access are stored. -/
def State.writeRange (s : State) (n : Nat) (w : Who) (space a : Nat) (bs : List Byte) :
    State × Option (Nat × AccFail) :=
  let f := s.writeFail w space a bs.length
  let k := match f with | none => bs.length | some (o, _) => o
  if k = 0 then (s, f)
  else (s.ctxOut n w space a (bs.take k), f)

end Sys2Proof.Machine
end

