-- ==== Sys2Proof/Machine/Command.lean ====
section
/-! DEFINITION. Channel commands: their 32 bytes, their fields, and the checks made before a request issues (02 R42 to R56,
03 R76 to R88). -/

namespace Sys2Proof.Machine

/-- The command that 32 bytes spell (Table 03.1). -/
def Cmd.decode (bs : List Byte) : Cmd :=
  { op := bs.getD 0 0, flags := bs.getD 1 0, spaces := bs.getD 2 0, modifier := bs.getD 3 0,
    count := BitVec.ofNat 32 (field bs 4 4), a := BitVec.ofNat 64 (field bs 8 8),
    b := BitVec.ofNat 64 (field bs 16 8), c := BitVec.ofNat 64 (field bs 24 8) }

/-- The 32 bytes of a command (Table 03.1). -/
def Cmd.encode (c : Cmd) : List Byte :=
  [c.op, c.flags, c.spaces, c.modifier] ++ leBytes 4 c.count.toNat ++ leBytes 8 c.a.toNat ++ leBytes 8 c.b.toNat ++
  leBytes 8 c.c.toNat

/-! ### Fields -/

def Cmd.opn (c : Cmd) : Nat := c.op.toNat
def Cmd.mod (c : Cmd) : Nat := c.modifier.toNat
def Cmd.spaceA (c : Cmd) : Nat := bits c.spaces.toNat 0 2
def Cmd.spaceB (c : Cmd) : Nat := bits c.spaces.toNat 2 2
def Cmd.key (c : Cmd) : Nat := bits c.spaces.toNat 4 4
def Cmd.next (c : Cmd) : Bool := c.flags.getLsbD 0
def Cmd.cont (c : Cmd) : Bool := c.flags.getLsbD 1
def Cmd.skip (c : Cmd) : Bool := c.flags.getLsbD 2
def Cmd.hold (c : Cmd) : Bool := c.flags.getLsbD 3
def Cmd.mark (c : Cmd) : Bool := c.flags.getLsbD 4
def Cmd.lenok (c : Cmd) : Bool := c.flags.getLsbD 5
def Cmd.bar (c : Cmd) : Bool := c.flags.getLsbD 6
def Cmd.cnt (c : Cmd) : Nat := c.count.toNat
def Cmd.ca (c : Cmd) : Nat := c.a.toNat
def Cmd.cb (c : Cmd) : Nat := c.b.toNat
def Cmd.cc (c : Cmd) : Nat := c.c.toNat
/-- Bits of operand C. -/
def Cmd.cf (c : Cmd) (lo w : Nat) : Nat := bits c.cc lo w
/-- The count that takes the stream to its end (R50). -/
def Cmd.toEnd (c : Cmd) : Bool := decide (c.cnt = 0xFFFFFFFF)
/-- The counts that R54 adds for a member (R50). -/
def Cmd.addCount (c : Cmd) : Nat := if c.toEnd then 0 else c.cnt

/-- Opcodes of Table 03.3. -/
def opKnown (o : Nat) : Bool :=
  [1, 2, 3, 4, 8, 9, 0xA, 0xB, 0xC, 0xD, 0xE, 0x14, 0x18, 0x19, 0x1A, 0x20, 0x21, 0x22, 0x24, 0x25, 0x26, 0x28, 0x29, 0x2A,
   0x30].contains o
/-- Data commands (02 R42). -/
def Cmd.isData (c : Cmd) : Bool := decide (c.opn ≤ 0x1A)
def opCont (o : Nat) : Bool := [1, 3, 4, 8, 0xA, 0xC, 0xE].contains o
def opSkip (o : Nat) : Bool := [1, 4, 8, 9, 0xA, 0xB, 0xC, 0xD, 0xE, 0x18].contains o
def opProducer (o : Nat) : Bool := [1, 8, 9, 0xB, 0xD, 0x18].contains o
def opConsumer (o : Nat) : Bool := [1, 8, 0xA, 0xC, 0xE, 4, 0x19].contains o
/-- The opcode gathers its members' input (R46). -/
def opGathered (o : Nat) : Bool := [4, 8, 0xA, 0xC, 0xE].contains o

/-- The command takes its input from the stream (Table 02.4). -/
def Cmd.consumer (c : Cmd) : Bool := opConsumer c.opn && decide (c.spaceA = 3)
/-- The command sends its output into the stream (Table 02.4). -/
def Cmd.producer (c : Cmd) : Bool := opProducer c.opn && decide (c.spaceB = 3)

/-- FILL's pattern width (Table 03.7), and the container of SLICE and UNSLICE (Table 03.12). -/
def Cmd.width (c : Cmd) : Nat := 2 ^ (c.mod % 4)
/-- FORM and FORMAT of SIEVE and SIEVE-MAP (Table 03.9). -/
def Cmd.form (c : Cmd) : Nat := bits c.mod 0 2
def Cmd.format (c : Cmd) : Nat := bits c.mod 2 2

/-! ### Table 02.2: the RESERVED check with modifier decoding (R77, R78) -/

/-- A or B is unused: its space code and its address are 0. -/
def Cmd.noA (c : Cmd) : Bool := decide (c.spaceA = 0) && decide (c.a = 0)
def Cmd.noB (c : Cmd) : Bool := decide (c.spaceB = 0) && decide (c.b = 0)

/-- The modifier is defined for the opcode, and its combination is not forbidden. -/
def Cmd.modOk (c : Cmd) : Bool :=
  let m := c.mod
  match c.opn with
  | 0x02 => decide (m ≤ 3)
  | 0x03 => decide (m = 0) || (decide (m = 1) && !c.cont)
  | 0x04 => decide (m < 16) && decide (bits m 0 2 ≠ 3) && !(bit m 3 && !bit m 2)
  | 0x08 => decide (m < 16) && decide (bits m 2 2 ≠ 3)
  | 0x09 => decide (m < 32) && decide (bits m 2 2 ≠ 3)
  | 0x0C => decide (m < 4)
  | 0x0D => decide (m < 8)
  | 0x0E => decide (m < 16) && decide (bits m 0 2 < 2) && decide (bits m 2 2 ≠ 3)
  | 0x14 => decide (m ≤ 2)
  | 0x19 => decide (m ≤ 3)
  | 0x20 => decide (m ≤ 0xA)
  | 0x24 => decide (m < 8) && (bit m 0 || bit m 1) && !(bit m 2 && !bit m 0)
  | 0x26 => decide (m ≤ 1)
  | _ => decide (m = 0)

/-- The reserved fields of the opcode under its modifier are 0 (R77). -/
def Cmd.reservedOk (c : Cmd) : Bool :=
  let m := c.mod
  match c.opn with
  | 0x01 => decide (c.c = 0)
  | 0x02 => c.noA && decide (c.cc < 2 ^ (8 * c.width))
  | 0x03 => if m = 0 then decide (c.c = 0) else c.noB && (decide (8 < c.cnt) || decide (c.cc < 2 ^ (8 * c.cnt)))
  | 0x04 => (bit m 2 || decide (c.c = 0)) && (!bit m 3 || c.noB)
  | 0x08 => decide (c.cf 29 3 = 0)
  | 0x0C | 0x0D => decide (c.cf 6 2 = 0)
  | 0x0E => decide (c.cf 48 16 = 0) && decide (c.cf 20 4 = 0) && decide (c.cf 13 3 = 0)
  | 0x14 => decide (c.c = 0)
  | 0x18 => decide (c.cf 16 48 = 0)
  | 0x19 => decide (c.cf 16 48 = 0) && (if m = 2 then c.noA && c.noB && decide (c.cnt = 0) else if m = 3 then c.noA else true)
  | 0x1A => decide (c.cf 16 48 = 0) && (decide (c.cnt ≠ 0) || c.noB)
  | 0x20 => decide (c.cnt = 0) && c.noB && (if m = 7 ∨ m = 8 then decide (c.cf 12 52 = 0) else decide (c.c = 0))
  | 0x21 => decide (c.cnt = 0) && c.noB && decide (c.c = 0)
  | 0x22 => decide (c.cnt = 0) && c.noA && c.noB && decide (c.c = 0)
  | 0x24 => c.noA && c.noB && (bit m 1 || decide (c.cnt = 0)) &&
            (if bit m 0 then decide (c.cf 12 52 = 0) else decide (c.c = 0))
  | 0x25 => decide (c.cnt = 0) && c.noA && c.noB && decide (c.cf 12 52 = 0)
  | 0x26 => decide (c.cnt = 0) && c.noB && decide (c.cf 4 28 = 0) && (decide (m = 1) || decide (c.cf 0 4 = 0))
  | 0x28 => decide (c.cnt = 0) && c.noA && c.noB && decide (c.c = 0)
  | 0x29 | 0x2A => decide (c.cnt = 0) && c.noA && c.noB && decide (c.cf 32 32 = 0)
  | 0x30 => decide (c.cnt = 0) && c.noA && c.noB && decide (c.c = 0)
  | _ => true

/-- The widths of Table 01.11. -/
def widthOk (space : Nat) (a : Nat) : Bool :=
  if space = 0 then true else if space = 1 then decide (a < 2 ^ 38) else if space = 2 then decide (a < 2 ^ 50)
  else decide (a = 0)

/-- A holds an address; B holds an address (Table 03.3). -/
def Cmd.addrA (c : Cmd) : Bool := !(decide (c.opn = 0x18) || decide (c.opn = 0x26))
def Cmd.addrB (c : Cmd) : Bool := !(decide (c.opn = 0x19))

/-- A follower equals its head where R45 and R46 ask. -/
def Cmd.matches (c h : Cmd) : Bool :=
  decide (c.op = h.op) && decide (c.modifier = h.modifier) && decide (c.spaces = h.spaces) && decide (c.c = h.c) &&
  decide (c.lenok = h.lenok) && decide (c.bar = h.bar) && (!opGathered c.opn || decide (c.b = h.b))

/-- Where a fetched command stands: the head it follows, whether a producer stands before it, how many commands the group
holds, the depth of the call stack, and the kind of context. -/
structure Place where
  head : Option Cmd
  expect : Option Cmd := none   -- the FOLD member that suspended, when RESUME fetches it again (04 R145)
  join : Bool
  count : Nat
  depth : Nat
  sup : Bool

/-- A FOLD member fetched again after an overflow equals the one that suspended but for HOLD and MARK (04 R145). -/
def Cmd.sameBut (c e : Cmd) : Bool := decide ({ c with flags := c.flags &&& 0xE7 } = { e with flags := e.flags &&& 0xE7 })

/-- The join rules that the sequencer checks at a head (R48). -/
def Cmd.joinOk (c : Cmd) (p : Place) : Bool :=
  match p.head with
  | some _ => !(c.producer && !c.next)
  | none =>
    (if p.join then c.consumer && decide (p.count < 4) else !c.consumer) && !(c.producer && !c.next) &&
    !((decide (c.opn = 8) || decide (c.opn = 9)) && decide (c.spaceB = 3) && decide (c.form ≠ 0))

/-- The general checks in the order of Table 02.2; the first that fails gives the qualifier. -/
def Cmd.generalCheck (c : Cmd) (p : Place) : Option Byte :=
  let grouped := c.producer || c.consumer
  if !opKnown c.opn then some 0x01
  else if c.flags.getLsbD 7 then some 0x02
  else if !c.modOk then some 0x40
  else if !c.reservedOk then some 0x02
  else if (c.addrA && !widthOk c.spaceA c.ca) || (c.addrB && !widthOk c.spaceB c.cb) then some 0x03
  else if (decide (c.opn = 0x20) || decide (c.opn = 0x21)) && decide (c.ca % 32 ≠ 0) then some 0x04
  else if (decide (c.opn = 0x20) || decide (c.opn = 0x21)) && decide (c.spaceA = 3) then some 0x05
  else if (c.cont && !opCont c.opn) || (c.skip && !opSkip c.opn) || (c.lenok && !c.isData) then some 0x06
  else if c.cont && !c.next then some 0x07
  else if (match p.head with | none => false | some h => !c.matches h) ||
          (match p.expect with | none => false | some e => !c.sameBut e) then some 0x08
  else if !c.joinOk p then some 0x09
  else if c.hold && grouped && (p.join || p.head.isSome) then some 0x0A
  else if decide (c.opn = 0x21) && decide (4 ≤ p.depth) then some 0x0B
  else if decide (c.opn = 0x22) && decide (p.depth = 0) then some 0x0C
  else if c.toEnd && !(c.consumer && !c.cont) then some 0x0D
  else if c.bar && !p.sup then some 0x0E
  else none

/-! ### The opcode-specific checks that need no read (R85 steps 1 to 5) -/

def Cmd.spaceAOk (c : Cmd) : Bool :=
  match c.opn with
  | 0x03 | 0x09 | 0x0B | 0x0D | 0x14 | 0x1A => decide (c.spaceA < 3)
  | 0x18 | 0x26 => decide (c.spaceA = 0)
  | _ => true
def Cmd.spaceBOk (c : Cmd) : Bool :=
  match c.opn with
  | 0x02 | 0x03 | 0x04 | 0x0A | 0x0C | 0x0E | 0x14 | 0x1A => decide (c.spaceB < 3)
  | 0x19 => decide (c.spaceB = 0)
  | _ => true

/-- The descriptor reference is well formed (R79). -/
def descRefOk (v : Nat) : Bool :=
  decide (v % 4 < 3) && decide (bits v 2 3 = 0) && widthOk (v % 4) (v / 32 * 32)

/-- A record length and format agree (Table 03.6, RECORD-LENGTH). -/
def recLenOk (format len : Nat) : Bool :=
  if format = 0 then decide (1 ≤ len) && decide (len ≤ 4096) else decide (len = 0)

/-- The opcode has a descriptor in C. -/
def opDesc (o : Nat) : Bool := [9, 0xA, 0xB].contains o

/-- The counts that an opcode allows (R91, R104, R107, R109). `mdts` is the transfer limit of NVM-PASS's controller. -/
def Cmd.countOk (c : Cmd) (mdts : Option Nat) : Bool :=
  match c.opn with
  | 0x03 => decide (c.mod = 0) || (decide (1 ≤ c.cnt) && decide (c.cnt ≤ 8))
  | 0x14 => decide (c.cnt = 8) || (decide (c.cnt = 16) && (decide (c.mod = 0) || (decide (c.mod = 2) && decide (c.spaceA ≠ 0))))
  | 0x18 => decide (c.cnt ≠ 0)
  | 0x19 => decide (c.mod = 2) || decide (c.cnt ≠ 0)
  | 0x1A => match mdts with | none => true | some m => decide (c.cnt ≤ m)
  | _ => true

/-- The inline parameters are in range (PARAM). -/
def Cmd.paramOk (c : Cmd) : Bool :=
  match c.opn with
  | 0x04 => !(bit c.mod 2 && decide (bits c.mod 0 2 = 0)) || decide (c.cf 32 32 = 0)
  | 0x0C | 0x0D =>
    let stride := c.cf 8 56
    decide (c.cf 0 6 + 1 ≤ 8 * c.width) && decide (stride ≠ 0) && decide (stride % 64 = 0) &&
    (decide (c.opn = 0x0C) || decide (c.cnt ≤ 8 * stride))
  | 0x0E =>
    let b := c.cf 16 4
    decide (b ≤ 12) && (if bits c.mod 0 2 = 0 then decide (c.cf 42 6 = 0) else decide (c.cf 42 6 + b ≤ 64)) &&
    (decide (c.format ≠ 0) || decide (c.cf 24 12 + (c.cf 36 6 + 1) ≤ c.cf 0 13))
  | _ => true

/-- Operands are aligned (OPERAND-ALIGN). -/
def Cmd.alignOk (c : Cmd) : Bool :=
  match c.opn with
  | 0x0E => decide (c.cb % 32 = 0)
  | 0x14 => decide (c.ca % c.cnt = 0) && decide (c.cb % 32 = 0)
  | 0x1A => decide (c.ca % 64 = 0)
  | _ => true

/-- Steps 1 to 5 of R85. -/
def Cmd.specificCheck (c : Cmd) (mdts : Option Nat) : Option Byte :=
  if !c.spaceAOk then some 0x41
  else if !c.spaceBOk then some 0x42
  else if !c.countOk mdts then some 0x43
  else if (decide (c.opn = 8) && !recLenOk c.format (c.cf 16 13)) ||
          (decide (c.opn = 0xE) && !recLenOk c.format (c.cf 0 13)) then some 0x49
  else if !c.paramOk then some 0x4A
  else if opDesc c.opn && !descRefOk c.cc then some 0x45
  else if !c.alignOk then some 0x44
  else none

/-- The command makes the reads of step 6 of R85: a descriptor, an NVM-PASS block, a bucket table. -/
def Cmd.readsFirst (c : Cmd) : Bool := opDesc c.opn || decide (c.opn = 0x0E) || decide (c.opn = 0x1A)

/-! ### Named resources (R85 steps 7 and 8) -/

/-- The status ring bound to the queue that started context `n`'s program (R53, R116). -/
def State.boundRing (s : State) (n : Nat) : Option Nat :=
  let c := s.ctx n
  let f := s.fn c.r.ownerFn.toNat
  if c.r.supervisor then none
  else match f.startOf n with
    | none => none
    | some t => match f.queue t.q with
      | none => none
      | some q => match q.ring with
        | none => none
        | some i => if (f.ring i).isSome then some i else none

/-- A sieve handle passes its check: loaded by the function and not being unloaded (09 R299, 07 R229). -/
def State.handleOk (s : State) (c : Ctx) (h : Nat) : Bool :=
  match s.sieve h with
  | none => false
  | some x => decide (x.owner = c.r.ownerFn.toNat) && decide (x.state = 1)

/-- A namespace handle passes its check (07 R233). -/
def State.nvmOk (s : State) (c : Ctx) (h : Nat) : Option NvmHandle :=
  match s.nvm h with
  | none => none
  | some x => if x.holder = c.r.ownerFn.toNat ∧ !x.detaching then some x else none

/-- A context may name an event channel (R115). -/
def State.eventOk (s : State) (c : Ctx) (ch : Nat) : Bool :=
  let e := s.ech ch
  c.r.supervisor || (!e.supervisor && !e.attrS && decide (e.ownerFn = c.r.ownerFn.toNat))

/-- Step 7 of R85: HANDLE, NVM-NS, NVM-RANGE, NO-RING. `handle` is the sieve handle the command names, wherever it
stands. -/
def State.resourceCheck (s : State) (n : Nat) (cmd : Cmd) (handle : Option Nat) (follower : Bool) : Option Byte :=
  let c := s.ctx n
  let nv := decide (0x18 ≤ cmd.opn) && decide (cmd.opn ≤ 0x1A)
  let ns := if nv then s.nvmOk c (cmd.cf 0 16) else none
  let lba := if cmd.opn = 0x18 then cmd.ca else cmd.cb
  if (match handle with | none => false | some h => !follower && !s.handleOk c h) then some 0x48
  else if nv && ns.isNone then some 0x4B
  else if (decide (cmd.opn = 0x18) || (decide (cmd.opn = 0x19) && decide (cmd.mod ≠ 2))) &&
          (match ns with
           | none => false
           | some x => decide (x.blocks < lba + (if cmd.toEnd then 0 else cmd.cnt))) then some 0x4C
  else if (cmd.mark && (s.boundRing n).isNone) then some 0x4E
  else if decide (cmd.opn = 0x26) &&
          (if cmd.mod = 0 then (s.boundRing n).isNone
           else c.r.supervisor || ((s.fn c.r.ownerFn.toNat).ring (cmd.cf 0 4)).isNone) then some 0x4E
  else none

/-- Step 8 of R85, EVENT: the command names an event channel it may not name. -/
def State.eventDenied (s : State) (n : Nat) (cmd : Cmd) : Bool :=
  let names := decide (cmd.opn = 0x25) || (decide (cmd.opn = 0x24) && bit cmd.mod 0) ||
    (decide (cmd.opn = 0x20) && (decide (cmd.mod = 7) || decide (cmd.mod = 8)))
  names && !s.eventOk (s.ctx n) (cmd.cf 0 12)

/-- The sieve handle that stands in the command itself (SIEVE, Table 03.10). -/
def Cmd.inlineHandle (c : Cmd) : Option Nat := if c.opn = 8 then some (c.cf 0 16) else none

/-- The transfer limit of NVM-PASS's controller. -/
def State.passLimit (s : State) (n : Nat) (cmd : Cmd) : Option Nat :=
  if cmd.opn = 0x1A then
    match s.nvmOk (s.ctx n) (cmd.cf 0 16) with
    | none => none
    | some x => (s.ctrl x.ctrl).map NvmeCtrl.mdts
  else none

end Sys2Proof.Machine
end

