-- ==== Sys2Proof/Machine/Closing.lean ====
section
/-! DEFINITION. What a chain that has begun still writes when its program ends inside it: FOLD's bucket table, the tail of a SIEVE and
the report header of a SIEVE-MAP (03 R103, 04 R129, R138, R140). -/

namespace Sys2Proof.Machine

/-- The accessor of the present command. -/
def Ctx.me (c : Ctx) : Who := c.who c.cmd.key

/-! ### Bytes beyond a failure (02 R47, R65) -/

/-- Each listed byte is written or not, as a free value says: a byte beyond a failure point holds its earlier value or the value
that the command would have written. -/
def State.mixOut (n space : Nat) (w : Who) : Nat → List Byte → State → State
  | _, [], s => s
  | a, b :: bs, s =>
    let (pick, s) := s.drawBytes 1
    let s := if (pick.getD 0 0).getLsbD 0 && (s.writeFail w space a 1).isNone then
        s.ctxOut n w space a [b] else s
    State.mixOut n space w (a + 1) bs s

/-! ### Bucket buffers (04 R142, R143) -/

/-- The space of the bucket regions. -/
def Xfer.rspace (x : Xfer) : Nat := byteAt x.desc 0

/-- Bytes of a bucket buffer (R143). -/
def Cmd.bufBytes (c : Cmd) : Nat := if c.cf 16 4 = 12 then 128 else 256

/-- Where the buffer of bucket `k` stands in block SRAM: the areas of FD[0] and FD[1], the buffers in the order of the buckets
(Table 04.21, log 156). -/
def Ctx.bufAt (c : Ctx) (k : Nat) : Nat := 0x0E0000 + 0x80000 * c.xfer.fd + k * c.cmd.bufBytes

/-- The block whose cells work for a context; block 0 stands for one whose slot is empty. -/
def State.workBlock (s : State) (n : Nat) : Nat := (s.homeBlock n).getD 0

/-- The records that stand in the buffer of bucket `k`. -/
def Xfer.buffered (x : Xfer) (k : Nat) : List Placed := x.placing.filter fun p => !p.kept && decide (p.bucket = k)

/-- Records before the oldest one in a buffer are not followed any more. -/
def prunePlaced : List Placed → List Placed
  | [] => []
  | p :: ps => if p.kept then prunePlaced ps else p :: ps

/-- The record that holds byte `o` of a flush. -/
def placedAt : Nat → List Placed → Option Placed
  | _, [] => none
  | o, p :: ps => if o < p.bytes.length then some p else placedAt (o - p.bytes.length) ps

/-- The records of bucket `k`, those below ordinal `lim` when there is one, have left their buffer. -/
def Xfer.keep (x : Xfer) (k : Nat) (lim : Option Nat) : Xfer :=
  let gone := fun (p : Placed) => decide (p.bucket = k) && (match lim with | none => true | some l => decide (p.ord < l))
  { x with placing := prunePlaced (x.placing.map fun p => if gone p then { p with kept := true } else p) }

/-- Flush the buffer of bucket `k`; a failed write answers the lowest record whose bytes it carries (R140), and so does an
uncorrectable word of the buffer (13 R381). -/
def State.flushBucket (s : State) (n k : Nat) : State × Option (Placed × AccFail) :=
  let c := s.ctx n
  let es := c.xfer.buffered k
  match es.head? with
  | none => (s, none)
  | some e =>
    let len := (es.flatMap Placed.bytes).length
    let b := s.block (s.workBlock n)
    let rot := firstBad b.sramBad (c.bufAt k) len
    let good := match rot with | none => len | some x => x - c.bufAt k
    let (s, f) := s.writeRange n c.me c.xfer.rspace e.addr (b.sram.readN (c.bufAt k) good)
    let f := match f, rot with
      | some f, _ => some f
      | none, some _ => some (good, AccFail.uncorrectable)
      | none, none => none
    let bad := f.bind fun f => (placedAt f.1 es).map fun p => (p, f.2)
    (s.modCtx n fun c => { c with xfer := c.xfer.keep k (bad.map fun b => b.1.ord) }, bad)

/-- The bucket without a record of `len` bytes. -/
def Bucket.untake (b : Bucket) (len : Nat) : Bucket := { b with fill := b.fill - len, records := b.records - 1 }

/-- A placed record counts no more in its bucket. -/
def Xfer.drop (x : Xfer) (p : Placed) : Xfer :=
  { x with buckets := x.buckets.modify p.bucket fun b => b.untake p.bytes.length }

/-- Only records below ordinal `r` are followed. -/
def Xfer.below (x : Xfer) (r : Nat) : Xfer :=
  { x with placing := prunePlaced (x.placing.filter fun p => decide (p.ord < r)), ordinal := min r x.ordinal }

/-- Records from ordinal `r` on count as not placed: FILL and RECORDS go back, and each byte of a record that stands in a buffer is
written or not, as a free value says (R140, R142). -/
def State.unplace (s : State) (n r : Nat) : State :=
  let c := s.ctx n
  let out := c.xfer.placing.filter fun p => decide (r ≤ p.ord)
  let s := out.foldl (fun s p =>
    let s := if p.kept then s else State.mixOut n c.xfer.rspace c.me p.addr p.bytes s
    s.modCtx n fun c => { c with xfer := c.xfer.drop p }) s
  s.modCtx n fun c => { c with xfer := c.xfer.below r }

/-- Flush every buffer. After a failed write only the records below the lowest failing one are written (R140); each turn flushes a
buffer or drops a record, so `fuel` of one more than the records followed is enough. -/
def State.foldSettle (n : Nat) : Nat → Option (Placed × AccFail) → State → Option (Placed × AccFail) × State
  | 0, cur, s => (cur, s)
  | fuel + 1, cur, s =>
    let s := match cur with | none => s | some (x, _) => s.unplace n x.ord
    match (s.ctx n).xfer.placing.find? fun p => !p.kept with
    | none => (cur, s)
    | some e =>
      match s.flushBucket n e.bucket with
      | (s, none) => State.foldSettle n fuel cur s
      | (s, some f) => State.foldSettle n fuel (some f) s

/-- Flush every buffer of the chain. -/
def State.foldFlush (s : State) (n : Nat) : Option (Placed × AccFail) × State :=
  State.foldSettle n ((s.ctx n).xfer.placing.length + 1) none s

/-! ### The bucket table (04 R140) -/

/-- The bytes of the bucket table that the device writes in entry `k` (Table 04.12). -/
def Bucket.owned (b : Bucket) (need : Nat) : List Byte := leBytes 8 b.fill ++ leBytes 4 b.records ++ leBytes 4 need

/-- Records placed by the chain (Table 04.11 ACCEPTED). -/
def Xfer.placed (x : Xfer) : Nat := x.buckets.foldl (fun a b => a + b.records) 0

/-- Write the entries of the bucket table from entry `k` on; the first failure stops. -/
def State.foldEntries (n full need : Nat) : Nat → List Bucket → State → State × Option (Nat × AccFail)
  | _, [], s => (s, none)
  | k, b :: bs, s =>
    let c := s.ctx n
    match s.writeRange n c.me c.cmd.spaceB (c.cmd.cb + 32 + 32 * k + 16) (b.owned (if k = full then need else 0)) with
    | (s, none) => State.foldEntries n full need (k + 1) bs s
    | (s, some f) => (s, some f)

/-- FOLD writes the fields of the bucket table that it owns (04 R140, R171). While no member without SKIP and with a non-zero
count has begun it writes nothing. -/
def State.foldTable (s : State) (n full need stop : Nat) : State × Option (Nat × AccFail) :=
  let c := s.ctx n
  if !c.xfer.begun then (s, none)
  else
    let head := leBytes 4 full ++ leBytes 8 c.xfer.placed ++ leBytes 8 stop
    match s.writeRange n c.me c.cmd.spaceB (c.cmd.cb + 4) head with
    | (s, some f) => (s, some f)
    | (s, none) => State.foldEntries n full need 0 c.xfer.buckets s

/-- FULL_BUCKET and STOP_ORDINAL when no record failed to fit. -/
def noBucket : Nat := 0xFFFFFFFF
def noOrdinal : Nat := 0xFFFFFFFFFFFFFFFF

/-- The output of a SIEVE or SIEVE-MAP that waits for the end of the chain: the BITMAP byte being filled and the COUNT value
(04 R129). -/
def State.sieveTail (s : State) (n : Nat) : State × Option (Nat × AccFail) :=
  let c := s.ctx n
  let x := c.xfer
  if !x.begun || c.cmd.spaceB = 3 then (s, none)
  else if c.cmd.form = 1 then
    if x.ordinal % 8 = 0 then (s, none)
    else s.writeRange n c.me c.cmd.spaceB (c.cmd.cb + x.ordinal / 8) [BitVec.ofNat 8 x.bits]
  else if c.cmd.form = 3 then s.writeRange n c.me c.cmd.spaceB c.cmd.cb (leBytes 8 x.surv)
  else (s, none)

/-- The report area that a range descriptor names: its space and address (Table 04.6). -/
def reportArea (desc : List Byte) : Option (Nat × Nat) :=
  let v := field desc 24 8
  if bit v 2 then some (v % 4, v / 32 * 32) else none

/-- SIEVE-MAP writes the header of its report area, without CAPACITY (Table 04.9). -/
def State.reportHeader (s : State) (n : Nat) : State × Option (Nat × AccFail) :=
  let c := s.ctx n
  let x := c.xfer
  match reportArea x.desc with
  | none => (s, none)
  | some (sp, a) =>
    if c.cmd.skip then (s, none)
    else
      let skipped := countP (fun r => !r.read) x.runs
      s.writeRange n c.me sp (a + 4)
        (leBytes 4 x.written ++ leBytes 8 skipped ++ leBytes 8 (x.runs.length - skipped) ++ leBytes 8 x.disagree)

/-- What a chain that has begun still writes when the program ends inside it, with an ending other than CLEAR and
CONTROL-CHECK (03 R103, 04 R129, R138). The failures of these writes are later endings, which are only counted (R66). -/
def State.closeChain (s : State) (n : Nat) : State :=
  let c := s.ctx n
  if c.xfer.members.isEmpty then s
  else if c.cmd.opn = 0xE then ((s.foldFlush n).2.foldTable n noBucket 0 noOrdinal).1
  else if c.cmd.opn = 8 then (s.sieveTail n).1
  else if c.cmd.opn = 9 then ((s.sieveTail n).1.reportHeader n).1
  else s

end Sys2Proof.Machine
end

