-- ==== Sys2Proof/Machine/Ending.lean ====
section
/-! DEFINITION. The end of a program, the freeze of a function, and what waits for its return to D0 (02 R66 to R75, 05 R160, 06 R204
to R214). -/

namespace Sys2Proof.Machine

/-! ### The end of a program -/

/-- CHANNEL_STATUS of an ended program: IN_CONT and IN_GROUP describe LAST_CMD, SKIPPED the latest data command (R72). -/
def Ending.chan (e : Ending) (old : Byte) : Byte :=
  let keep := match e.skipped with | none => old &&& 0xF9 | some b => (old &&& 0xE9) ||| (if b then 0x10 else 0)
  keep ||| (if e.inCont then 2 else 0) ||| (if e.inGroup then 4 else 0)

/-- The record of an ended program: the recorded ending in the status word, STATE given (R73 to R75). -/
def CtxRec.ended (r : CtxRec) (e : Ending) (state : Byte) : CtxRec :=
  { r with dev := e.dev, qual := e.qual, lastCmd := e.lastCmd, lastSpace := e.lastSpace, operand := e.operand,
           residual := e.residual.getD r.residual, state := state,
           chan := e.chan r.chan }

/-- A command's operand `w` says how its first completion write went; the others succeed (log 152). -/
def laterWr (w : Wr) : Wr := { w with comp := none }

/-- Apply a step that may write a completion to each element in order; only the first can fail (log 152). -/
def eachWr {α : Type} (f : State → α → Wr → State) : List α → Wr → State → State
  | [], _, s => s
  | x :: xs, w, s => eachWr f xs (laterWr w) (f s x w)

/-- The FAULT, FUNCTION-FROZEN record of an entry (R205). ADMIN entries write every byte to the entry's end (R220). -/
def frozenBody (t : Taken) : List Byte :=
  [2, 5] ++ (if t.kind = 0x10 then zeros (16 * t.len) else if t.kind = 5 then zeros 32 else [])

/-- Write the program's completion and take the context to its next state: IDLE, or FROZEN when the function is frozen; a
failed write leaves the context to the freeze (R204, R205, R159, R160). Answers whether the write failed. -/
def State.finishCtx (s : State) (n : Nat) (r : CtxRec) (w : Wr) : Bool × State :=
  let c := s.ctx n
  let fn := r.ownerFn.toNat
  let frozen := decide (r.state = stFrozen)
  let idleRec := if frozen then r else { r with state := stIdle }
  s.modCtx n (fun _ => c.idle r) |> fun s =>
  if r.supervisor then (false, s.modCtx n fun c => { c with r := idleRec })
  else match (s.fn fn).startOf n with
    | none => (false, s.modCtx n fun c => { c with r := idleRec })
    | some t =>
      let (o, s) := s.writeCompletion fn t ([1, r.dev] ++ r.completionTail) (some n) w
      match o with
      | .failed => (true, s)
      | .waits => (false, s)
      | _ => (false, s.modCtx n fun c => { c with r := idleRec })

/-- FN_FREEZE_AT (Table 06.6). -/
def freezeAt (q slot hdr kind : Nat) : W64 := BitVec.ofNat 64 (slot * 2 ^ 32 + kind * 2 ^ 24 + hdr * 2 ^ 16 + q)

/-- The FROZEN record of a context: the ending already recorded becomes QUALIFIER (R66, R160). -/
def CtxRec.frozen (r : CtxRec) (old : Byte) : CtxRec := { r with dev := deFrozen, qual := old, state := stFrozen }

/-- The context waits for ring space with a MARK or POST record, or is HELD with one that waits, which a stop abandons (R53, 03 R116,
04 R144). -/
def Ctx.losesMark (c : Ctx) : Bool :=
  decide (c.phase = .ringWait) || (decide (c.r.state = stHeld) && !(c.marks.isEmpty && c.owed.isEmpty))

/-- The record of a context that a freeze stops: LAST_CMD names the first command that has not started (Table 02.14), and a record that
waits for space is lost (R53). The ending of a program that has one recorded keeps its own LAST_CMD (log 155). -/
def Ctx.stopRec (c : Ctx) : CtxRec :=
  let r := match c.ended with
    | some e => c.r.ended e c.r.state
    | none =>
      if decide (c.phase = .ready) || decide (c.phase = .waiting) || decide (c.phase = .fetch) || decide (c.phase = .lodging) then
        { c.r with lastCmd := c.pc, lastSpace := c.space, operand := 0 }
      else if c.phase = .ringWait then
        if c.cmd.cont then { c.r with lastCmd := c.pc + 32 }
        else match c.next with
          | none => c.r
          | some (sp, a) => { c.r with lastCmd := a, lastSpace := sp }
      else c.r
  if c.losesMark then { r with chan := r.chan ||| 8 } else r

/-- The record rebuilt from the shadow entry (R156 step 2). -/
def CtxRec.rebuilt (r : CtxRec) : CtxRec :=
  { ownerFn := r.ownerFn, supervisor := r.supervisor, pinned := r.pinned, budget := r.budget, region := r.region,
    slot := r.slot, bib := r.bib + 1, state := if r.state = stFree then stFree else stIdle }

/-- Steps 2 and 3 of R156. A context that its ending has left FROZEN stays so until FLR (R160); the rebuild waits while an abandoned
request still carries the next bib (R162). -/
def State.rebuild (s : State) (n : Nat) (frozen : Bool) : State :=
  let c := s.ctx n
  if c.late.contains (c.r.bib + 1) && !frozen then s.modCtx n fun c => { c with goal := .recover }
  else
    let r := if frozen then { c.r.rebuilt with state := stFrozen, dev := c.r.dev, qual := c.r.qual } else c.r.rebuilt
    (s.setCtx n { ctxDef n with r := r, late := c.late }).error (.region c.r.region.toNat)
      { code := .ctxRecovered, source := 8, fn := some c.r.ownerFn.toNat, ctx := some n }

/-- A completion of the context waits to be written (R180). -/
def Fn.heldFor (f : Fn) (n : Nat) : Bool :=
  f.held.any fun h => match h with | .completion _ _ _ (some m) => decide (m = n) | _ => false

/-- The entries that act on a context of a frozen function complete after its record (Table 06.28 step 2). -/
def State.freezeEntries (s : State) (fn n : Nat) (w : Wr) : State :=
  let es := (s.fn fn).taken.filter fun t => t.names n && decide (t.stage = .acting) && decide (t.kind ≠ 1)
  eachWr (fun s t w => (s.writeCompletion fn t (frozenBody t) none w).2) es w s

/-- The frozen context's record is written in place, and entries that wait on it follow (Table 06.28 steps 2, 3). -/
def State.freezeNow (s : State) (fn n : Nat) (w : Wr) : State :=
  let c := s.ctx n
  let old := match c.ended with | some e => e.dev | none => if c.r.state = stPending then c.r.dev else 0
  let r := c.r.frozen old
  let s := { s with waitOrder := s.waitOrder.filter fun p => decide (p.2 ≠ n) }
  let s :=
    if (s.fn fn).heldFor n then
      let s := s.modFn fn fun f => { f with held := f.held.map fun h => match h with
        | .completion t b v (some m) => if m = n then HeldWrite.completion t ([1, deFrozen] ++ r.completionTail) v (some m)
                                        else .completion t b v (some m)
        | h => h }
      s.modCtx n fun _ => c.idle r
    else
      let s := (s.finishCtx n r w).2
      s.modCtx n fun c => { c with r := r }
  let s := if c.goal = .recover then s.rebuild n true else s
  if (s.fn fn).heldFor n then s else s.freezeEntries fn n (laterWr w)

/-- A context of a frozen function stops: a chain that its hold, its wait for ring space or a migration interrupted is closed (04 R129), and once
its writes have arrived the FROZEN record is written (02 R69, 06 R206). -/
def State.freezeCtx (s : State) (fn n : Nat) (w : Wr) : State :=
  let c := s.ctx n
  let open_ := (decide (c.r.state = stHeld) && c.chain && decide (c.r.qual ≠ 0x12)) ||
    (decide (c.phase = .ringWait) && c.cmd.cont && decide (c.goal ≠ .finish)) || c.step9
  let r := c.stopRec
  let s := if open_ then s.closeChain n else s
  let s := s.modCtx n fun c => { c with r := r, marks := [], owed := [], grp := { c.grp with marks := [] } }
  if (s.ctx n).dirty.isEmpty then s.freezeNow fn n w
  else s.modCtx n fun c => { c with phase := .arrive, goal := .freeze }

/-- The context is at a command boundary: between commands, in a WAIT, waiting for ring space, or at step 9 of a migration (R63, 05
R176). -/
def Ctx.atBoundary (c : Ctx) : Bool :=
  decide (c.phase = .waiting) || decide (c.phase = .ringWait) ||
  ((decide (c.phase = .ready) || decide (c.phase = .fetch) || decide (c.phase = .lodging)) && !c.chain && !c.join &&
    decide (c.rest = .none)) ||
  (c.step9 && (decide (c.phase = .ready) || decide (c.phase = .exec) || decide (c.phase = .desc)))

/-- The context stops at once when its function freezes: it is QUEUED, HELD or STATUS-PENDING, or at a boundary (R160, R63). -/
def Ctx.stopsNow (c : Ctx) : Bool :=
  decide (c.phase ≠ .migrating) && (decide (c.r.state = stQueued) || decide (c.r.state = stHeld) ||
  decide (c.r.state = stPending) || ((decide (c.r.state = stActive) || decide (c.r.state = stHalting)) && c.atBoundary))

/-- The context holds a program. -/
def Ctx.hasProgram (c : Ctx) : Bool :=
  decide (c.r.state = stQueued) || decide (c.r.state = stActive) || decide (c.r.state = stHeld) ||
  decide (c.r.state = stPending) || decide (c.r.state = stHalting)

/-- The listed contexts of function `fn`. -/
def State.ctxsOf (s : State) (fn : Nat) : List Nat :=
  Table.keys (s.ctxs.filter fun p : Nat × Ctx =>
    decide (p.2.r.ownerFn.toNat = fn) && !p.2.r.supervisor && decide (p.2.r.state ≠ stFree))

/-- The freeze of an ENABLED function: steps 1 to 3 of Table 06.28, as far as they come at once. -/
def State.freeze (s : State) (fn cause : Nat) (at_ : W64) (code : ErrCode) (ctx : Option Nat) (w : Wr) : State :=
  let f := s.fn fn
  if f.state ≠ 0 || s.chip.fatal then s
  else
    let s := s.setFn fn { f with state := 1, freezeCause := cause, freezeAt := at_, freezing := true }
    let s := s.error .chip { code := code, source := 512 + fn, fn := some fn, ctx := ctx }
    let s := s.cic (512 + fn)
    -- entries that nothing holds back: the others follow their contexts
    let es := f.taken.filter fun t => decide (t.kind ≠ 1) && decide (t.stage = .waiting)
    let (stop, late) := (s.ctxsOf fn).filter (fun n => (s.ctx n).hasProgram) |>.partition fun n => (s.ctx n).stopsNow
    let s := eachWr (fun s n w => s.freezeCtx fn n w) stop w s
    let w := if stop.isEmpty then w else (laterWr w)
    let s := late.foldl (fun s n => s.modCtx n fun c => { c with frozenFn := true }) s
    let late := late ++ stop.filter fun n => decide ((s.ctx n).phase = .arrive)
    let follows := fun t : Taken => decide (1 ≤ t.kind) && decide (t.kind ≤ 5) && late.contains t.ctx
    let s := eachWr (fun s t w => (s.writeCompletion fn t (frozenBody t) none w).2) (es.filter fun t => !follows t) w s
    (es.filter follows).foldl (fun s t => s.modFn fn fun f => { f with taken := f.taken.map fun x =>
      if x.q = t.q && x.slot = t.slot then { x with stage := .acting } else x }) s

/-- The completion write of an entry failed: the function freezes with RING-ACCESS (R208, R187). -/
def State.ringFail (s : State) (fn : Nat) (t : Taken) (w : Wr) : State :=
  s.freeze fn 6 (freezeAt t.q t.slot (byteAt t.bytes 0) (byteAt t.bytes 1)) .freeze none (laterWr w)

/-- Complete an entry; a failed write freezes the function. -/
def State.complete (s : State) (fn : Nat) (t : Taken) (body : List Byte) (w : Wr) : State :=
  let (o, s) := s.writeCompletion fn t body none w
  if o = .failed then s.ringFail fn t w else s

/-- Complete every HALT and CLEAR entry of the context that has begun: CLEAR with OK, HALT with `code` (R64, R65). -/
def State.completeActing (s : State) (fn n code : Nat) (w : Wr) : State :=
  let es := (s.fn fn).taken.filter fun t => t.names n && decide (t.stage = .acting) && decide (t.kind ≠ 1)
  eachWr (fun s t w => if (s.fn fn).taken.contains t then
      s.complete fn t [0, if t.kind = 4 then 0 else BitVec.ofNat 8 code] w else s) es w s

/-- A program ends with the recorded ending once its writes have arrived: the status word, the completion record, IDLE; then
the HALT entries that waited (R73, R159, R64). A freeze that waited for this boundary takes it (R66). -/
def State.endProgram (s : State) (n : Nat) (e : Ending) (w : Wr) : State :=
  let c := s.ctx n
  let fn := c.r.ownerFn.toNat
  let r := c.r.ended e stPending
  let s := { s with waitOrder := s.waitOrder.filter fun p => decide (p.2 ≠ n) }
  if c.frozenFn && !c.r.supervisor then
    (s.modCtx n fun c => { c with r := r, ended := some e, frozenFn := false }).freezeCtx fn n w
  else
    let t := (s.fn fn).startOf n
    let (failed, s) := s.finishCtx n r w
    match failed, t with
    | true, some t => (s.ringFail fn t w)
    | _, _ =>
      let byHalt := decide (e.dev = deAttention) && decide (e.qual = 1)
      if (s.ctx n).r.state = stPending then s
      else s.completeActing fn n (if byHalt then 0 else 1) (if t.isSome then (laterWr w) else w)

/-- Write one record that waited; the completion of a program takes the context on (R159, R160). -/
def State.releaseOne (s : State) (fn : Nat) (h : HeldWrite) (w : Wr) : State :=
  match h with
  | .status i rec_ => if s.ringsLive fn then s.writeStatus fn i rec_ w.status.isSome else s
  | .completion t body _ ctx =>
    let (o, s) := s.writeCompletion fn t body none w
    if o = .failed then s.ringFail fn t w
    else match ctx with
    | none => s
    | some n =>
      let c := s.ctx n
      if c.r.state = stFrozen then s.freezeEntries fn n (laterWr w)
      else if c.r.state ≠ stPending then s
      else
        let byHalt := decide (c.r.dev = deAttention) && decide (c.r.qual = 1)
        let s := (s.modCtx n fun c => { c with r := { c.r with state := stIdle } }).completeActing fn n
          (if byHalt then 0 else 1) (laterWr w)
        if c.goal = .recover then s.rebuild n false else s

/-- Write the records that waited, in their order; an operand `w` says how the first write of each kind went (log 152). -/
def State.releaseAll (fn : Nat) : List HeldWrite → Wr → State → State
  | [], _, s => s
  | h :: hs, w, s =>
    let w' := match h with | .status _ _ => { w with status := none } | .completion _ _ _ _ => laterWr w
    State.releaseAll fn hs w' (s.releaseOne fn h w)

/-- Write what waited for the function's return to D0 with Bus Master Enable 1, in the order in which it became waiting, and
send the held messages (R180, R214). -/
def State.releaseHeld (s : State) (fn : Nat) (w : Wr) : State :=
  let f := s.fn fn
  if f.stopped then s
  else
    let s := State.releaseAll fn f.held w (s.setFn fn { f with held := [] })
    (Table.keys (s.fn fn).vecs).foldl (fun s v => if ((s.fn fn).vec v).held then s.deliverMsg fn v else s) s

/-! ### Recovery of a record (R156) -/

/-- The program of a context whose record is lost ends, and the record is rebuilt once the completion is written (R156, R159). -/
def State.recoverEnd (s : State) (n : Nat) (e : Ending) (w : Wr) : State :=
  let s := s.endProgram n e w
  let st := (s.ctx n).r.state
  if st = stPending then s.modCtx n fun c => { c with goal := .recover }
  else s.rebuild n (decide (st = stFrozen))

/-- One copy of the record is lost: a program ends with CONTROL-CHECK when its writes have arrived, and the record is rebuilt from the
shadow (R156). -/
def State.recoverCtx (s : State) (n : Nat) (w : Wr) : State :=
  let e : Ending := { dev := deControl, qual := 2, lastCmd := 0, lastSpace := 0, residual := some 0 }
  if !(s.ctx n).hasProgram then s.rebuild n false
  else if (s.ctx n).r.state = stPending then s.modCtx n fun c => { c with goal := .recover }
  else
    let s := (({ s with waitOrder := s.waitOrder.filter fun p => decide (p.2 ≠ n) }).dropAsk n).dropPieces n
    let s := s.modCtx n fun c => { c with
      r := { c.r with survivors := 0 }, marks := [], owed := [], grp := {}, wait := none, readAhead := [], halt := .none }
    if (s.ctx n).dirty.isEmpty then s.recoverEnd n e w
    else s.modCtx n fun c => { c with phase := .arrive, goal := .recover, ended := some e }

end Sys2Proof.Machine
end

