-- ==== Sys2Proof/Machine/Engine.lean ====
section
/-! DEFINITION. How a program goes from member to member, from command to command and to its end: streams, MARK, arrival,
boundaries, suspension and the closing of a chain (02 R43 to R66, 05 R170, R171). -/

namespace Sys2Proof.Machine

/-! ### The stream of a group -/

/-- Survivors that the next command has accepted whole (02 R72). -/
def Grp.survivors (g : Grp) : Nat := countP (fun e => decide (e ≤ g.pos)) g.ends

/-- The present command takes `k` bytes of the stream; survivors that it accepted whole are counted (02 R72). -/
def State.accept (s : State) (n k : Nat) : State :=
  s.modCtx n fun c =>
    let g := { c.grp with data := c.grp.data.drop k, pos := c.grp.pos + k }
    { c with grp := g, r := { c.r with survivors := c.r.survivors + BitVec.ofNat 64 (g.survivors - c.grp.survivors) } }

/-- Bytes taken earlier go back into the stream (04 R144). -/
def State.giveBack (s : State) (n : Nat) (bs : List Byte) : State :=
  s.modCtx n fun c =>
    let g := { c.grp with data := bs ++ c.grp.data, pos := c.grp.pos - bs.length }
    { c with grp := g, r := { c.r with survivors := c.r.survivors - BitVec.ofNat 64 (c.grp.survivors - g.survivors) } }

/-- The present command sends bytes into the stream; `survivor` says that a survivor ends with them. -/
def State.produce (s : State) (n : Nat) (bs : List Byte) (survivor : Bool) : State :=
  s.modCtx n fun c =>
    let o := c.grp.out ++ bs
    { c with grp := { c.grp with out := o, outEnds := if survivor then c.grp.outEnds ++ [o.length] else c.grp.outEnds } }

/-- The output of a producer becomes the input of the next command. -/
def Grp.join (g : Grp) (sieve : Bool) : Grp :=
  { count := g.count, data := g.out, ends := g.outEnds, marks := g.outMarks, sieves := sieve,
    lastSurv := if g.sieves then some g.survivors else g.lastSurv, failed := g.failed, failedAt := g.out.length }

/-- Bytes of a stream FIFO (10 R328). -/
def sfBytes : Nat := 4096

/-- Bytes that the producers of the group may be ahead of the command that takes their output: the FIFOs between them (R48, R329). -/
def Grp.ahead (g : Grp) : Nat := sfBytes * g.count

/-- The ending of the program when `e` is met at the present command. The failure of a producer comes first when all that it produced
has been taken; it is not reached when its place lies further ahead than the FIFOs allow; in between, a free value says which was
recorded first (R48, R49, R66). `early`: the present command has not taken what the stream holds, so that a check may come first. -/
def State.groupEnding (s : State) (n : Nat) (e : Ending) (early : Bool) : Ending × State :=
  let g := (s.ctx n).grp
  match g.failed with
  | none => (e, s)
  | some p =>
    if g.pos + g.ahead < g.failedAt then (e, s)
    else if g.failedAt ≤ g.pos && !early then (p, s)
    else
      let (v, s) := s.drawWord
      (if v.getLsbD 0 then p else e, s)

/-! ### Endings -/

/-- The ending of the program at a member of the present chain (R75, Table 02.14). A data failure's member is the latest data command,
so CHANNEL_STATUS describes it (R72). -/
def Ctx.endingAt (c : Ctx) (m : Member) (dev qual : Byte) (operand : BitVec 3) (residual : Option W32) : Ending :=
  { dev := dev, qual := qual, lastCmd := m.addr, lastSpace := c.space, operand := operand, residual := residual,
    inCont := m.cmd.cont, inGroup := m.cmd.producer || m.cmd.consumer, skipped := residual.map fun _ => m.cmd.skip }

/-- The present member. -/
def Ctx.member (c : Ctx) : Member := ⟨c.pc, c.cmd⟩

/-- Member `i` of the present chain. -/
def Ctx.memberAt (c : Ctx) (i : Nat) : Member := (c.xfer.members[i]?).getD c.member

/-! ### MARK records (R53) -/

/-- Post one MARK record of context `n`. -/
def State.postMarkRecord (s : State) (n i : Nat) (r : CtxRec) (w : Wr) : State :=
  s.postStatus (s.ctx n).r.ownerFn.toNat i (markRecord r.hostTag.toNat n r) w

/-- Post one MARK record of a command; posting is progress (R60). -/
def State.postMark (s : State) (n i : Nat) (r : CtxRec) (w : Wr) : State :=
  (s.postMarkRecord n i r w).modCtx n fun c => { c with r := { c.r with noprog := 0 } }

/-- Post waiting MARK records while the ring has room; the rest is answered. Records of commands make progress (R60), those of FOLD
suspensions do not (04 R145). -/
def State.postMarks (n i : Nat) (progress : Bool) (w : Wr) : List CtxRec → State → List CtxRec × State
  | [], s => ([], s)
  | m :: ms, s =>
    if (s.fn (s.ctx n).r.ownerFn.toNat).ringFree i then
      State.postMarks n i progress w ms (if progress then s.postMark n i m w else s.postMarkRecord n i m w)
    else (m :: ms, s)

/-- Post the records of FOLD suspensions that wait for ring space, in their order (04 R144). -/
def State.postOwed (s : State) (n i : Nat) (w : Wr) : State :=
  let (rest, s) := State.postMarks n i false w (s.ctx n).owed s
  s.modCtx n fun c => { c with owed := rest }

/-- The context has a record that waits for ring space. -/
def Ctx.waitsRing (c : Ctx) : Bool := decide (c.phase = .ringWait) || !c.owed.isEmpty

/-- A record of the context begins to wait: records are written in the order in which they arose (06 R212). -/
def State.queueUp (s : State) (n : Nat) : State :=
  if (s.ctx n).waitsRing && s.ringOrder.contains n then s
  else { s with ringOrder := s.ringOrder.filter (fun k => decide (k ≠ n)) ++ [n] }

/-- MARKs of the group's producers whose output has been taken are due (R49, R53). -/
def Ctx.dueMarks (c : Ctx) : List CtxRec :=
  (c.grp.marks.filter fun p => decide (p.upto ≤ c.grp.pos)).map fun p => { p.r with survivors := c.r.survivors }

/-- The producer stops where the stream is no longer wanted, up to the FIFOs' bytes ahead of what was taken (R54): the members that it
had begun have completed, the last of them with source unread, so that its RESIDUAL is free; the others never begin (log 42). -/
def State.stopProducer (s : State) (n : Nat) : State :=
  let g := (s.ctx n).grp
  if g.marks.isEmpty then s.modCtx n fun c => { c with grp := { c.grp with data := [] } }
  else
  let (v, s) := s.drawWord
  let (k, s) := s.drawWord
  let stop := g.pos + v.toNat % (g.ahead + 1)
  let begun := g.marks.filter fun p => decide (p.from_ ≤ stop)
  let cut := begun.map fun p =>
    if p.upto ≤ stop then { p with upto := min p.upto g.pos }
    else { p with upto := g.pos, r := { p.r with residual := k.truncate 32 } }
  s.modCtx n fun c => { c with grp := { c.grp with data := [], marks := cut } }

/-! ### The end of a program -/

/-- A record that waits for ring space is abandoned (R53). -/
def Ctx.dropMarks (c : Ctx) : Ctx :=
  { c with marks := [], owed := [], grp := { c.grp with marks := [] }, r := { c.r with chan := c.r.chan ||| 8 } }

/-- What remains once the writes have arrived: due MARKs are posted, a MARK that finds no room waits for it, and the completion is
written (R53, R73). A pending HALT or freeze does not wait: the record is abandoned. -/
def State.endArrived (s : State) (n : Nat) (e : Ending) (w : Wr) : State :=
  let c := s.ctx n
  let due := c.marks ++ c.dueMarks
  if due.isEmpty && c.owed.isEmpty then s.endProgram n e w
  else match s.boundRing n with
  | none => s.endProgram n e w
  | some i =>
    let s := s.postOwed n i w
    let (rest, s) := if (s.ctx n).owed.isEmpty then State.postMarks n i true w due s else (due, s)
    if rest.isEmpty && (s.ctx n).owed.isEmpty then s.endProgram n e w
    else if c.frozenFn || decide (c.halt ≠ .none) then (s.modCtx n Ctx.dropMarks).endProgram n e w
    else (s.queueUp n).modCtx n fun c => { c with
      phase := .ringWait, goal := .finish, ended := some e, marks := rest, grp := { c.grp with marks := [] } }

/-- Record the ending of a program, the first one kept (R66), and end it when every write has arrived (Table 02.10). -/
def State.finishProgram (s : State) (n : Nat) (e : Ending) (w : Wr) : State :=
  let c := s.ctx n
  let e := c.ended.getD e
  if c.dirty.isEmpty then s.endArrived n e w
  else s.modCtx n fun c => { c with phase := .arrive, goal := .finish, ended := some e }

/-- The program ends with ATTENTION by HALT; LAST_CMD names the first command that has not started (Table 02.14). -/
def Ctx.haltEnding (c : Ctx) : Ending :=
  { dev := deAttention, qual := 1, lastCmd := c.pc, lastSpace := c.space,
    inCont := c.r.chan.getLsbD 1 && decide (c.r.state = stHeld), inGroup := c.r.chan.getLsbD 2 && decide (c.r.state = stHeld) }

/-- A HELD program ends at once by HALT (Table 02.7): a chain that its suspension interrupted is closed first, as R129 and R140 of
chapter 4 ask of an ending; one that an overflow suspended has already been. A MARK that waits for ring space is abandoned (R53). -/
def State.endHeld (s : State) (n : Nat) (w : Wr) : State :=
  let c := s.ctx n
  let s := if c.chain && decide (c.r.qual ≠ 0x12) then s.closeChain n else s
  let s := if c.losesMark then s.modCtx n Ctx.dropMarks else s
  s.finishProgram n c.haltEnding w

/-- The context has become HELD: a freeze or a HALT that waited acts on it at once; HALT with SUSPEND entries complete (R64). -/
def State.nowHeld (s : State) (n : Nat) (w : Wr) : State :=
  let c := s.ctx n
  if c.frozenFn then (s.modCtx n fun c => { c with frozenFn := false }).freezeCtx c.r.ownerFn.toNat n w
  else if c.halt = .stop then s.endHeld n w
  else (s.modCtx n fun c => { c with halt := .none }).completeActing c.r.ownerFn.toNat n 0 w

/-- The context is HELD (R52, R63, R74). -/
def State.holdCtx (s : State) (n : Nat) (qual : Byte) (w : Wr) : State :=
  (s.modCtx n fun c => { c with
    r := { c.r with state := stHeld, qual := qual, lastCmd := c.pc, lastSpace := c.space }
    phase := .none
    fails := [] }).nowHeld n w

/-- At a command boundary a freeze, then a pending HALT takes effect (R63, R66). -/
def State.boundary (s : State) (n : Nat) (w : Wr) : State :=
  let c := s.ctx n
  if c.frozenFn then (s.modCtx n fun c => { c with frozenFn := false }).freezeCtx c.r.ownerFn.toNat n w
  else match c.halt with
    | .none => s
    | .stop => s.finishProgram n c.haltEnding w
    | .suspend => s.holdCtx n 0x11 w

/-- Control goes where the command said: to the next command at a boundary, or the program ends with DONE (R43, R57). -/
def State.advance (s : State) (n : Nat) (w : Wr) : State :=
  let c := s.ctx n
  match c.next with
  | none => s.finishProgram n
      { dev := deDone, qual := 0, lastCmd := c.r.lastCmd, lastSpace := c.r.lastSpace,
        inCont := c.r.chan.getLsbD 1, inGroup := c.r.chan.getLsbD 2 } w
  | some (sp, a) =>
    (s.modCtx n fun c => { c with
      pc := a
      space := sp
      phase := .ready
      goal := .none
      chain := false
      join := false
      rest := .none
      xfer := {}
      grp := {}
      handles := []
      nvHandles := []
      noHold := false
      again := false
      hostOld := c.hostOld ++ c.hostNew
      hostNew := [] }).boundary n w

/-- A command has completed, and with it its chain and its group: the conditions take their values (R59), then control goes
on; a failure recorded for a producer of the group ends the program (R66). -/
def State.commandDone (s : State) (n : Nat) (w : Wr) : State :=
  let c := s.ctx n
  match c.grp.failed with
  | some e => s.finishProgram n e w
  | none =>
    let surv := if c.grp.sieves then some c.grp.survivors else c.grp.lastSurv
    let s := if c.cmd.isData then s.modCtx n fun c => { c with
        resZero := decide (c.r.residual = 0)
        survZero := match surv with | none => c.survZero | some k => decide (k = 0)
        r := { c.r with
          cmpEq := c.xfer.condCmp.getD c.r.cmpEq
          digestMatch := c.xfer.condDig.getD c.r.digestMatch } } else s
    s.advance n w

/-- After a member's MARK and BAR: the next member of the chain, the consumer of the stream, or the end of the command. -/
def State.goOn (s : State) (n : Nat) (w : Wr) : State :=
  let c := s.ctx n
  if c.cmd.cont then
    s.modCtx n fun c => { c with phase := .fetch, goal := .none, chain := true, join := false, pc := c.pc + 32, fails := [],
                                 xfer := { c.xfer with off := 0, quiet := false } }
  else if c.cmd.producer then
    let g := c.grp.join (decide (c.cmd.opn = 8) || decide (c.cmd.opn = 9))
    s.modCtx n fun c => { c with
      phase := .fetch
      goal := .none
      chain := false
      join := true
      rest := .none
      pc := c.pc + 32
      xfer := {}
      grp := g
      fails := []
      r := { c.r with survivors := c.r.survivors + BitVec.ofNat 64 g.survivors } }
  else s.commandDone n w

/-- The program ends because a command broke a rule: PROGRAM-CHECK, or another ending that a check gives (R42, R85). -/
def State.checkFail (s : State) (n : Nat) (dev qual : Byte) (operand : BitVec 3) (residual : Option W32) (w : Wr) : State :=
  let c := s.ctx n
  let (e, s) := s.groupEnding n (c.endingAt c.member dev qual operand residual) true
  let s := if c.chain && !c.xfer.members.isEmpty && decide (c.rest ≠ .failed) then
      let head := c.memberAt 0
      let s := s.modCtx n fun c => { c with cmd := head.cmd }
      (s.closeChain n).modCtx n fun x => { x with cmd := c.cmd }
    else s
  s.finishProgram n e w

/-- A data failure at a member (R86): a producer's failure is recorded, and what it produced still reaches the rest of the group
(04 R128); any other ends the program. -/
def State.dataFail (s : State) (n : Nat) (m : Member) (dev qual : Byte) (operand : BitVec 3) (residual : Nat) (w : Wr) :
    State :=
  let c := s.ctx n
  let (e, s) := s.groupEnding n (c.endingAt m dev qual operand (some (BitVec.ofNat 32 residual))) false
  let s := if dev = deControl then s else s.closeChain n
  if c.cmd.producer && decide (dev ≠ deControl) then
    let s := s.modCtx n fun c => { c with grp := { c.grp with failed := some e } }
    if c.cmd.cont then s.modCtx n fun c => { c with phase := .fetch, chain := true, rest := .failed, pc := c.pc + 32, fails := [] }
    else s.goOn n w
  else s.finishProgram n e w

/-- A length mismatch at a member (R54): the program ends with LENGTH. -/
def State.lengthEnd (s : State) (n : Nat) (m : Member) (qual : Byte) (residual : Nat) (w : Wr) : State :=
  s.dataFail n m deLength qual 0 residual w

/-- A chain that suspends keeps nothing in bucket buffers: FOLD flushes them and writes its table (05 R171). A failed write answers
the member and the bytes of it from the first record that is not placed (04 R140). -/
def State.suspendChain (s : State) (n : Nat) : State × Option (Member × Nat × AccFail) :=
  let c := s.ctx n
  if c.chain && decide (c.cmd.opn = 0xE) then
    match s.foldFlush n with
    | (some (x, why), s) => (s, some (c.memberAt x.member, (c.memberAt x.member).cmd.cnt - x.off, why))
    | (none, s) =>
      let (s, f) := s.foldTable n noBucket 0 noOrdinal
      let open_ := !c.xfer.part.isEmpty
      let m := c.memberAt (if open_ then c.xfer.partMember else c.xfer.members.length - 1)
      (s, f.map fun f => (m, (if open_ then m.cmd.cnt - c.xfer.partOff else 0), f.2))
  else (s, none)

/-- The context becomes HELD, its chain suspended (R52, R63); a failed write of the suspension ends the program. -/
def State.suspendAs (s : State) (n : Nat) (qual : Byte) (mark : Ctx → Ctx) (w : Wr) : State :=
  match s.suspendChain n with
  | (s, some (m, k, f)) => s.dataFail n m (failEnding f).1 (failEnding f).2 2 k w
  | (s, none) => (s.modCtx n mark).holdCtx n qual w

/-- A waiting WAIT, or a context that waits for ring space, is left at its boundary: a record that waits is abandoned (R53). -/
def State.leaveWait (s : State) (n : Nat) (w : Wr) : State :=
  let c := s.ctx n
  if c.phase = .waiting then
    ({ s with waitOrder := s.waitOrder.filter fun p => decide (p.2 ≠ n) }).modCtx n fun c =>
      { c with wait := none, phase := .ready }
  else if c.phase = .ringWait && c.goal = .finish then
    (s.modCtx n Ctx.dropMarks).endProgram n (c.ended.getD c.haltEnding) w
  else if c.phase = .ringWait then
    let s := s.modCtx n fun x => { x with marks := [], phase := .ready, r := { x.r with chan := x.r.chan ||| 8 } }
    if c.cmd.cont then s.modCtx n fun x => { x with pc := x.pc + 32, chain := true, goal := .none, fails := [] }
    else s.goOn n w
  else s

/-- A pending HALT acts on a context that stands at a boundary (R53, R63). -/
def State.haltHere (s : State) (n : Nat) (w : Wr) : State :=
  let s := s.leaveWait n w
  let c := s.ctx n
  if c.step9 && decide (c.halt = .stop) then (s.closeChain n).finishProgram n c.haltEnding w
  else if c.phase ≠ .ready && c.phase ≠ .fetch && c.phase ≠ .lodging then s
  else if c.halt = .stop && c.chain then (s.closeChain n).finishProgram n c.haltEnding w
  else if c.halt = .suspend && c.chain then s.suspendAs n 0x11 id w
  else if c.halt = .none then s
  else s.boundary n w

/-- The context has begun to wait, and so stands at a boundary: a freeze or a HALT that is pending acts on it (R63, R66). -/
def State.waitsHere (s : State) (n : Nat) (w : Wr) : State :=
  let c := s.ctx n
  if c.frozenFn then (s.modCtx n fun c => { c with frozenFn := false }).freezeCtx c.r.ownerFn.toNat n w
  else if c.halt = .none then s
  else s.haltHere n w

/-- A command with BAR goes on when its writes have arrived (R55). -/
def State.barrier (s : State) (n : Nat) (w : Wr) : State :=
  let c := s.ctx n
  if c.cmd.bar && !c.dirty.isEmpty then s.modCtx n fun c => { c with phase := .arrive, goal := .advance }
  else s.goOn n w

/-- Waiting MARK records are posted, or the context waits for ring space (R53). -/
def State.marksOut (s : State) (n : Nat) (w : Wr) : State :=
  let c := s.ctx n
  match s.boundRing n with
  | none => (s.modCtx n fun c => { c with marks := [] }).barrier n w
  | some i =>
    let (rest, s) := State.postMarks n i true w c.marks s
    let s := s.modCtx n fun c => { c with marks := rest }
    if rest.isEmpty then s.barrier n w
    else ((s.queueUp n).modCtx n fun c => { c with phase := .ringWait, goal := .none }).waitsHere n w

/-- A member has completed: NOPROG counts it (R60), its MARK and those that became due with it are posted once its writes have
arrived (R53), then the program goes on. -/
def State.memberArrived (s : State) (n : Nat) (progress : Bool) (w : Wr) : State :=
  let s := s.modCtx n fun c =>
    let r := { c.r with noprog := if progress then 0 else if c.xfer.quiet then c.r.noprog else c.r.noprog + 1 }
    let due := c.dueMarks
    let own := c.cmd.mark && !c.cmd.producer
    { c with
      r := r
      fails := []
      marks := c.marks ++ due ++ (if own then [r] else [])
      grp := { c.grp with
        marks := c.grp.marks.filter fun p => !decide (p.upto ≤ c.grp.pos)
        outFrom := c.grp.out.length
        outMarks := if c.cmd.mark && c.cmd.producer then
            c.grp.outMarks ++ [{ from_ := c.grp.outFrom, upto := c.grp.out.length, r := r }]
          else c.grp.outMarks } }
  let c := s.ctx n
  if c.marks.isEmpty then s.barrier n w
  else if c.dirty.isEmpty then s.marksOut n w
  else s.modCtx n fun c => { c with phase := .arrive, goal := .mark }

/-- A member has done its work. Under a tenant binding its units are read back before their completion notices (10 R322), so a
data member that has written completes when that read-back has; under a supervisor binding only BAR asks for one. -/
def State.memberDone (s : State) (n : Nat) (progress : Bool) (w : Wr) : State :=
  let s := s.modCtx n fun c => { c with step9 := false }
  let c := s.ctx n
  if c.cmd.isData && !c.r.supervisor && !c.dirty.isEmpty then
    s.modCtx n fun c => { c with phase := .arrive, goal := .member progress, fails := [] }
  else s.memberArrived n progress w

end Sys2Proof.Machine
end

