-- ==== Sys2Proof/Machine/Desc.lean ====
section
/-! DEFINITION. Descriptors: range descriptors and map headers, layout descriptors, bucket tables and NVM-PASS images, and their
checks (04 R130 to R146, 03 R109, R110). -/

namespace Sys2Proof.Machine

/-! ### Layout descriptors (Tables 04.14, 04.15) -/

/-- A field of a row: offset, width, column offset. -/
structure LayField where
  off : Nat
  width : Nat
  col : Nat
deriving DecidableEq, Repr

/-- A layout descriptor. -/
structure Layout where
  rowLen : Nat
  filler : Byte
  fields : List LayField
deriving DecidableEq, Repr

/-- Bytes of a layout descriptor whose header is known, when NFIELDS is in range. -/
def layoutLen (hdr : List Byte) : Option Nat :=
  let n := byteAt hdr 0
  if 1 ≤ n ∧ n ≤ 64 then some (32 + 16 * n) else none

/-- The layout that descriptor bytes spell. -/
def layoutOf (bs : List Byte) : Layout :=
  { rowLen := field bs 2 2, filler := bs.getD 1 0,
    fields := (List.range (byteAt bs 0)).map fun f =>
      { off := field bs (32 + 16 * f) 2, width := byteAt bs (34 + 16 * f), col := field bs (40 + 16 * f) 8 } }

/-- No two fields of the list share a byte of the row. -/
def fieldsApart : List LayField → Bool
  | [] => true
  | f :: fs => fs.all (fun g => decide (f.off + f.width ≤ g.off) || decide (g.off + g.width ≤ f.off)) && fieldsApart fs

/-- The contents of a layout descriptor keep their rules for a column area in a space at an address (R146). -/
def layoutOk (bs : List Byte) (space area : Nat) : Bool :=
  let l := layoutOf bs
  decide (1 ≤ l.rowLen) && decide (l.rowLen ≤ 4096) && allZero ((bs.take 32).drop 4) &&
  ((List.range (byteAt bs 0)).all fun f => allZero ((bs.drop (35 + 16 * f)).take 5)) &&
  (l.fields.all fun f => decide (1 ≤ f.width) && decide (f.width ≤ 64) && decide (f.off ≤ 4095) &&
    decide (f.off + f.width ≤ l.rowLen) && decide (area + f.col < 0x10000000000000000) && widthOk space (area + f.col)) &&
  fieldsApart l.fields

/-! ### Range descriptors and map headers (Tables 04.4 to 04.7) -/

/-- A range term. -/
structure Term where
  column : Nat
  type : Nat
  nullsPass : Bool
  hasNull : Bool
  klen : Nat
  koff : Nat
  nullPos : Nat
  nullBit : Nat
  lo : W64
  hi : W64
deriving DecidableEq, Repr

/-- Bytes of a range descriptor whose first 32 bytes are known, when NTERMS is in range. -/
def rangeLen (hdr : List Byte) : Option Nat :=
  let n := byteAt hdr 20
  if 1 ≤ n ∧ n ≤ 4 then some (32 + 32 * n) else none

/-- Term `t` of a range descriptor. -/
def termOf (bs : List Byte) (t : Nat) : Term :=
  let o := 32 + 32 * t
  { column := byteAt bs o, type := byteAt bs (o + 1), nullsPass := bit (byteAt bs (o + 2)) 0,
    hasNull := bit (byteAt bs (o + 2)) 1, klen := byteAt bs (o + 3), koff := field bs (o + 4) 2,
    nullPos := field bs (o + 6) 2 % 4096, nullBit := bits (field bs (o + 6) 2) 12 3,
    lo := BitVec.ofNat 64 (field bs (o + 8) 8), hi := BitVec.ofNat 64 (field bs (o + 16) 8) }

/-- The terms of a range descriptor. -/
def termsOf (bs : List Byte) : List Term := (List.range (byteAt bs 20)).map (termOf bs)

/-- Record length, handle, argument and budget of a range descriptor. -/
def rangeHandle (bs : List Byte) : Nat := field bs 8 2
def rangeParam (bs : List Byte) : BitVec 16 := BitVec.ofNat 16 (field bs 10 2)
def rangeBudget (bs : List Byte) : Nat := if field bs 12 2 = 0 then 4096 else field bs 12 2
def rangeRecLen (bs : List Byte) : Nat := field bs 14 2 % 8192
def rangeFirst (bs : List Byte) : Nat := field bs 16 4

/-- A term keeps its rules (R131, R132). -/
def termOk (bs : List Byte) (t ncol format reclen : Nat) : Bool :=
  let o := 32 + 32 * t
  let m := termOf bs t
  decide (byteAt bs (o + 2) < 4) && decide (field bs (o + 6) 2 < 0x8000) && decide (m.koff ≤ 4095) &&
  (m.hasNull || decide (field bs (o + 6) 2 = 0)) && decide (field bs (o + 24) 8 = 0) &&
  decide (m.type ≤ 2) && decide (1 ≤ m.klen) && decide (m.klen ≤ 8) && (decide (m.type ≠ 2) || decide (m.klen = 8)) &&
  decide (m.column < ncol) &&
  (decide (format ≠ 0) || (decide (m.koff + m.klen ≤ reclen) && (!m.hasNull || decide (m.nullPos < reclen))))

/-- The reference fields of a range descriptor are well formed, so that the map header can be read. -/
def mapRefOk (bs : List Byte) : Bool := descRefOk (field bs 0 8)

/-- The contents of a range descriptor and of its map header keep their rules (R132). -/
def rangeOk (bs hdr : List Byte) (c : Cmd) : Bool :=
  let rep := field bs 24 8
  let ncol := byteAt hdr 0
  let run := 2 ^ byteAt hdr 1
  decide (field bs 14 2 < 8192) && allZero ((bs.drop 21).take 3) &&
  (if bit rep 2 then decide (rep % 4 < 3) && decide (bits rep 3 2 = 0) && widthOk (rep % 4) (rep / 32 * 32)
   else decide (rep = 0)) &&
  (!bit c.mod 4 || bit rep 2) && recLenOk c.format (rangeRecLen bs) &&
  decide (1 ≤ ncol) && decide (ncol ≤ 4) && decide (12 ≤ byteAt hdr 1) && decide (byteAt hdr 1 ≤ 20) &&
  decide (field hdr 2 2 = 0) && decide (field hdr 4 4 ≠ 0) && decide (field hdr 8 8 % 8 = 0) && allZero (hdr.drop 16) &&
  ((List.range (byteAt bs 20)).all fun t => termOk bs t ncol c.format (rangeRecLen bs)) &&
  decide (c.cnt % run = 0) && decide (rangeFirst bs + c.cnt / run ≤ field hdr 4 4)

/-! ### Bucket tables (Tables 04.11, 04.12) -/

/-- Bytes of the bucket table of a FOLD command. -/
def Cmd.tableLen (c : Cmd) : Nat := 32 + 32 * 2 ^ c.cf 16 4

/-- The buckets that table bytes spell. -/
def bucketsOf (bs : List Byte) (n : Nat) : List Bucket :=
  (List.range n).map fun k =>
    { base := field bs (32 + 32 * k) 8, cap := field bs (40 + 32 * k) 8, fill := field bs (48 + 32 * k) 8 }

/-- The contents of a bucket table keep their rules (R140). -/
def tableOk (bs : List Byte) (c : Cmd) : Bool :=
  let sp := byteAt bs 0
  (decide (sp = 1) || decide (sp = 2)) && decide (byteAt bs 1 = c.cf 16 4) && decide (field bs 2 2 = 0) &&
  decide (field bs 24 8 = 0) &&
  ((bucketsOf bs (2 ^ c.cf 16 4)).all fun b => widthOk sp b.base && decide (b.fill ≤ b.cap))

/-! ### NVM-PASS images (R110) -/

/-- The SQE image keeps the NVM-PASS rules for a count. -/
def imageOk (sqe : List Byte) (count : Nat) : Bool :=
  let dir := byteAt sqe 0 % 4
  decide (byteAt sqe 1 % 4 = 0) && decide (dir ≠ 3) && (decide (dir ≠ 0) || decide (count = 0)) &&
  (decide (dir = 0) || decide (count ≠ 0))

end Sys2Proof.Machine
end

