-- ==== Sys2Proof/Machine/Dispatching.lean ====
section
/-! DEFINITION. Dispatch turns, the lodge, recovery of a context record, demand fetches, read-ahead and descriptor reads
(02 R39 to R42, R52, 03 R80 to R88, 05 R156 to R170). -/

namespace Sys2Proof.Machine

/-- The part is out of reset, and neither in the device-fatal state nor in recovery (13 R379, 14 R404). -/
def State.up (s : State) : Bool := !s.chip.fatal && !s.board.cold && !s.board.warm && !s.sec.recovery

/-! ### The lodge and the places of a block (R157, R158, R168, R169) -/

/-- The contexts homed on block instance `b`. -/
def State.ctxsAt (s : State) (b : Nat) : List Nat :=
  Table.keys (s.ctxs.filter fun p : Nat × Ctx => decide (s.homeBlock p.1 = some b))

/-- The context counts as dispatched (R157). -/
def Ctx.dispatched (c : Ctx) : Bool :=
  match c.phase with
  | .lodging | .fetch | .desc | .exec | .nvm | .arrive | .paused | .signal => true
  | .none | .ready | .ringWait | .waiting | .finishing | .migrating => false

/-- The context holds one of the places for data commands: for its command, its chain or group, or for requests of the command before that
are outstanding (R169). -/
def Ctx.holdsPlace (c : Ctx) : Bool :=
  c.hasProgram && (c.dirty.contains unacked ||
  (c.cmd.isData && decide (c.cmd.opn ≠ 0) &&
  match c.phase with
  | .nvm | .arrive | .paused => true
  | .exec => c.chain || c.join || c.placed
  | .ready | .fetch | .desc => c.chain || c.join
  | _ => false))

/-- The context's command finds a place among the data commands of its block, or takes over the one that it holds (R169). -/
def State.placeFree (s : State) (n : Nat) : Bool :=
  match s.homeBlock n with
  | none => false
  | some b =>
    let c := s.ctx n
    c.chain || c.join || c.placed || c.dirty.contains unacked ||
    decide (countP (fun k => decide (k ≠ n) && (s.ctx k).holdsPlace) (s.ctxsAt b) < s.board.cap)

/-- The context's FOLD chain has a fold cell of its block (R169). -/
def Ctx.usesCell (c : Ctx) : Bool :=
  c.chain && decide (c.cmd.opn = 0xE) && (match c.phase with | .ready | .fetch | .desc | .exec | .arrive => true | _ => false)

/-- A fold cell of the context's block that is live serves no other chain (R169). -/
def State.cellFree (s : State) (n : Nat) : Bool :=
  match s.homeBlock n with
  | none => false
  | some b =>
    let cells := 2 - b2n ((s.block b).retired.getLsbD 13) - b2n ((s.block b).retired.getLsbD 14)
    decide (countP (fun k => decide (k ≠ n) && (s.ctx k).usesCell) (s.ctxsAt b) < cells)

/-- The context counts as dispatched now: one whose data command waits for an in-flight place does not (R157, R169). -/
def State.isDispatched (s : State) (n : Nat) : Bool :=
  let c := s.ctx n
  c.dispatched && !(decide (c.phase = .exec) && c.cmd.isData && !s.placeFree n)

/-- A ready context (R168). -/
def Ctx.isReady (c : Ctx) : Bool :=
  decide (c.phase = .ready) && (decide (c.r.state = stQueued) || decide (c.r.state = stActive) || decide (c.r.state = stHalting))

/-- Among numbers the first that follows `last` in cyclic order. -/
def nextAfter (last : Nat) (l : List Nat) : Option Nat :=
  match l.filter (fun k => decide (last < k)) with
  | k :: ks => some (ks.foldl min k)
  | [] => match l with | [] => none | k :: ks => some (ks.foldl min k)

/-- The context of the list that was dispatched least recently; the lower id wins a tie. -/
def State.oldest (s : State) : List Nat → Option Nat
  | [] => none
  | n :: ns => some (ns.foldl (fun m k => if (s.ctx k).lastTurn < (s.ctx m).lastTurn then k else m) n)

/-- The context that receives the next dispatch turn of block `b` (R168): a supervisor context, or a context of the next
function in round robin. -/
def State.turn (s : State) (b : Nat) : Option Nat :=
  let ready := (s.ctxsAt b).filter fun n => (s.ctx n).isReady
  let sup := ready.filter fun n => (s.ctx n).r.supervisor
  if sup.isEmpty then
    match nextAfter (s.block b).lastFn (ready.map fun n => (s.ctx n).r.ownerFn.toNat) with
    | none => none
    | some f => s.oldest (ready.filter fun n => decide ((s.ctx n).r.ownerFn.toNat = f))
  else s.oldest sup

/-- The context has an unfinished logical transfer: TRANSFER holds its state (R153, R170). -/
def Ctx.unfinished (c : Ctx) : Bool := c.chain || c.join || decide (c.rest ≠ .none)

/-- What TRANSFER cannot hold of that transfer: the copy of a descriptor, and MAPCHECK's counts (R154). -/
def Ctx.extends_ (c : Ctx) : Bool := c.unfinished && (!c.xfer.desc.isEmpty || !c.xfer.maph.isEmpty)

/-- Base of the extension slots (Table 05.3). -/
def extensionBase : Nat := 0x2310000000

/-- Evict context `n`: its record goes back to the store (R158). The words of TRANSFER and the bytes of the extension slot have no layout in the spec: what is
written to them is free (R153, R154, log 61). -/
def State.evict (s : State) (n : Nat) : State :=
  let c := s.ctx n
  if !c.lodged then s
  else
  let (bs, s) := if c.unfinished then s.drawBytes 152 else ([], s)
  let (ext, s) := if c.extends_ then s.drawBytes 2048 else ([], s)
  let s := s.modCtx n fun c => { c with
    r := { c.r with transfer := if c.unfinished then (List.range 19).map fun i => BitVec.ofNat 64 (field bs (8 * i) 8) else [] }
    lodged := false
    hbmCopy := none }
  if ext.isEmpty then s else { s with hbm := s.hbm.writeN (extensionBase + 2048 * n) ext }

/-- The context takes a lodge slot: its record is there, or on its way (R158). -/
def Ctx.inSlot (c : Ctx) : Bool := c.lodged || decide (c.phase = .lodging)

/-- An empty lodge slot: which one a fill takes is a free value (log 7). -/
def State.pickLodge (s : State) (n : Nat) : Nat × State :=
  let b := (s.homeBlock n).getD 0
  let used := ((s.ctxsAt b).filter fun k => (s.ctx k).lodged).map fun k => (s.ctx k).lodgeSlot
  let empty := (List.range 1024).filter fun k => !used.contains k
  let (v, s) := s.drawWord
  (empty.getD (v.toNat % max empty.length 1) 0, s)

/-- Make room in the lodge of block `b`: a full lodge evicts the evictable context dispatched least recently (R158). -/
def State.makeRoom (s : State) (b : Nat) : State :=
  let here := (s.ctxsAt b).filter fun n => (s.ctx n).inSlot
  if here.length < 1024 then s
  else match s.oldest (here.filter fun n => (s.ctx n).lodged && !(s.ctx n).dispatched) with
    | none => s
    | some n => s.evict n

/-- The context's record is dispatched: QUEUED becomes ACTIVE and the next command is fetched (R159). -/
def Ctx.begins (c : Ctx) : Ctx :=
  { c with phase := .fetch, r := { c.r with state := if c.r.state = stQueued then stActive else c.r.state } }

/-- Cell `k` of block `b` has gated its clock (14 R410). -/
def State.islandGated (s : State) (b k : Nat) : Bool := s.power.gated.contains (16 * b + k)

/-- The block may be given a dispatch turn. -/
def State.turnOpen (s : State) (b : Nat) : Bool :=
  s.up && s.blockOn b && decide (s.power.state = 0) && !s.islandGated b 0 &&
  (match (s.region (b / 9)).subst with | none => true | some (_, old, _) => decide (old ≠ b % 9)) &&
  decide (countP s.isDispatched (s.ctxsAt b) < 128)

/-- Give context `n` of block `b` its turn. -/
def State.giveTurn (s : State) (b n : Nat) : State :=
  let c := s.ctx n
  let s := if c.r.supervisor then s else s.modBlock b fun x => { x with lastFn := c.r.ownerFn.toNat }
  let s := { s with turns := s.turns + 1 }
  if c.lodged then s.modCtx n fun c => { c.begins with lastTurn := s.turns }
  else (s.makeRoom b).modCtx n fun c => { c with phase := .lodging, lastTurn := s.turns }

/-- DISPATCH_TURN (R168). -/
def execDispatchTurn (blk : Nat) (s : State) : Res :=
  match s.turn blk with
  | none => idleB s "no context of the block is ready"
  | some n => whenB s (s.turnOpen blk) "the block gives no turn" (s.giveTurn blk n)

/-! ### Recovery of a record (R156) -/

/-- Both copies are lost: the owner freezes with CONTEXT-LOST, or the device stops when nothing names the owner (R156). -/
def State.loseCtx (s : State) (n : Nat) (owned : Bool) (w : Wr) : State :=
  let c := s.ctx n
  if owned then s.freeze c.r.ownerFn.toNat 8 0 .ctxLost (some n) w
  else s.fatalError { code := .deviceFault, source := 64 * c.r.region.toNat, ctx := some n } (64 * c.r.region.toNat) false

/-- The context whose record stands in a lodge slot of block `b`. -/
def State.inLodge (s : State) (b slot : Nat) : Option Nat :=
  (s.ctxsAt b).find? fun n => (s.ctx n).lodged && decide ((s.ctx n).lodgeSlot = slot)

/-- LODGE_FILL_COMPLETE (R158, R156): a record is read from HBM, into the lodge at a dispatch turn, or for an entry, a query or an
eviction of a context that is not lodged. -/
def execLodgeFillComplete (ctx : Nat) (r : RecordRead) (w : Wr) (s : State) : Res :=
  let c := s.ctx ctx
  whenB s (s.up && (decide (c.phase = .lodging) || (!c.lodged && decide (c.phase ≠ .migrating)))) "the context's record is not read"
    (match r with
     | .good | .shadowBad =>
       if c.phase = .lodging then
         let (slot, s) := s.pickLodge ctx
         s.modCtx ctx fun c => { c.begins with lodged := true, hbmCopy := some c.r, lodgeSlot := slot }
       else s
     | .bad => s.recoverCtx ctx w
     | .lost owned => s.loseCtx ctx owned w)

/-! ### Fetched commands -/

/-- The place of the command that is fetched (R45, R48, R57). -/
def Ctx.place (c : Ctx) : Place :=
  { head := if c.chain then c.xfer.members.head?.map Member.cmd else none
    expect := c.xfer.expect
    join := c.join, count := c.grp.count, depth := c.r.callDepth.toNat, sup := c.r.supervisor }

/-- The checks of a fetched command that need no read (R42, R85 steps 1 to 5). -/
def State.earlyCheck (s : State) (n : Nat) (cmd : Cmd) : Option Byte :=
  let c := s.ctx n
  match cmd.generalCheck c.place with
  | some q => some q
  | none => cmd.specificCheck (s.passLimit n cmd)

/-- The handles that a command names are in use from its check on, also while HOLD holds it (07 R229, R233). -/
def Ctx.uses (c : Ctx) (cmd : Cmd) (handle : Option Nat) : Ctx :=
  { c with
    handles := match handle with | none => c.handles | some h => if c.handles.contains h then c.handles else c.handles ++ [h]
    nvHandles := if 0x18 ≤ cmd.opn ∧ cmd.opn ≤ 0x1A ∧ !c.nvHandles.contains (cmd.cf 0 16) then c.nvHandles ++ [cmd.cf 0 16]
                 else c.nvHandles }

/-- The command begins: it is the command executing now (R75), control will go where NEXT says (R43), and the handles it names
are in use (07 R229, R233). -/
def Ctx.beginCmd (c : Ctx) (cmd : Cmd) (handle : Option Nat) : Ctx :=
  let grouped := cmd.producer || cmd.consumer
  let keep := c.r.chan &&& 0x08
  let data := if cmd.isData then (if cmd.skip then 0x10 else 0) ||| (if c.chain then c.r.chan &&& 1 else 0)
              else c.r.chan &&& 0x11
  { c.uses cmd handle with
    cmd := cmd
    phase := .exec
    placed := false
    step9 := false
    noHold := false
    again := false
    next := if cmd.next then some (c.space, c.pc + 32) else none
    xfer := { (if c.chain || c.xfer.expect.isSome then c.xfer else { desc := c.xfer.desc, maph := c.xfer.maph, buckets := c.xfer.buckets })
      with expect := none, members := c.xfer.members ++ [⟨c.pc, cmd⟩] }
    grp := { c.grp with count := if grouped && !c.chain then c.grp.count + 1 else c.grp.count }
    r := { c.r with
      lastCmd := c.pc
      lastSpace := c.space
      operand := 0
      chan := keep ||| data ||| (if cmd.cont then 2 else 0) ||| (if grouped then 4 else 0) } }

/-- HOLD: the context is HELD before the command issues a request (R52). -/
def State.holdHere (s : State) (n : Nat) (cmd : Cmd) (handle : Option Nat) (w : Wr) : State :=
  s.suspendAs n 0x10 (fun c => { (c.uses cmd handle) with
    heldCmd := some cmd
    r := { c.r with
      chan := (c.r.chan &&& 0xF9) ||| (if cmd.cont then 2 else 0) ||| (if cmd.producer || cmd.consumer then 4 else 0) } }) w

/-- A fetched command fails a check: the status word describes that command (Table 02.11, R75). -/
def State.refuse (s : State) (n : Nat) (cmd : Cmd) (dev qual : Byte) (operand : BitVec 3) (w : Wr) : State :=
  (s.modCtx n fun c => { c with cmd := cmd }).checkFail n dev qual operand none w

/-- The checks of steps 7 and 8 of R85, HOLD, and the beginning of the command. A CONT follower passes its HANDLE check with its
head unless RESUME fetched it again (07 R229). -/
def State.letIn (s : State) (n : Nat) (cmd : Cmd) (handle : Option Nat) (w : Wr) : State :=
  let c := s.ctx n
  match s.resourceCheck n cmd handle (c.chain && !c.again) with
  | some q => s.refuse n cmd deProgram q 0 w
  | none =>
    if s.eventDenied n cmd then s.refuse n cmd deProtection 7 3 w
    else if cmd.hold && !c.noHold then s.holdHere n cmd handle w
    else s.modCtx n fun c => c.beginCmd cmd handle

/-- A member of a chain that is fetched and checked without being executed (R50, R54, R92). When the rest of a chain that the stream left
short has been checked, the program ends with LENGTH (R50). -/
def State.passOver (s : State) (n : Nat) (cmd : Cmd) (w : Wr) : State :=
  let c := s.ctx n
  let s := if c.rest = .addCounts then s.modCtx n fun c => { c with
      r := { c.r with residual := c.r.residual + BitVec.ofNat 32 cmd.addCount } } else s
  if cmd.cont then s.modCtx n fun c => { c with
    pc := c.pc + 32, fails := [], next := if cmd.next then some (c.space, c.pc + 32) else none, cmd := if c.rest = .short then c.cmd else cmd }
  else match c.rest, c.xfer.cut with
    | .short, some (mi, q, k) => (s.modCtx n fun c => { c with rest := .none }).lengthEnd n (c.memberAt mi) q k w
    | _, _ => (s.modCtx n fun c => { c with cmd := cmd, next := if cmd.next then some (c.space, c.pc + 32) else none, rest := .none }).goOn n w

/-- A member that the stream, already at its end, leaves without input: it is closed, and its mismatch found, without being executed
(R50, R54): the status word goes on describing the member before it, and neither NOPROG nor a MARK counts it. -/
def Ctx.beginQuiet (c : Ctx) (cmd : Cmd) : Ctx :=
  let b := c.beginCmd { cmd with flags := cmd.flags &&& 0xEF } none
  { b with rest := .none, xfer := { b.xfer with quiet := true }, r := c.r }

/-- A member after the end of the stream (R50). The chain's last member with the to-end count executes, and meets no mismatch. Under
LENOK, and when its count is 0, a member is closed without being executed; otherwise the mismatch is short, at the member where the
stream ended, and the rest of the chain is checked first. -/
def State.afterStream (s : State) (n : Nat) (cmd : Cmd) (w : Wr) : State :=
  if cmd.toEnd then (s.modCtx n fun c => { c with rest := .none, fails := [] }).letIn n cmd cmd.inlineHandle w
  else if cmd.lenok || decide (cmd.cnt = 0) then s.modCtx n fun c => { c.beginQuiet cmd with fails := [] }
  else (s.modCtx n fun c => { c with rest := .short, xfer := { c.xfer with cut := some (c.xfer.members.length - 1, 1, 0) } }).passOver n cmd w

/-- A member that holds bytes of a partial unit is read again (05 R170). -/
def State.reread (s : State) (n : Nat) (cmd : Cmd) (w : Wr) : State :=
  let c := s.ctx n
  let x := c.xfer
  let from_ := if x.rr = x.partMember then x.partOff else 0
  let len := if cmd.skip then 0 else cmd.cnt - from_
  let (bs, f) := s.readRange (c.who cmd.key) cmd.spaceA (cmd.ca + from_) len
  match f with
  | some (o, why) =>
    s.dataFail n ⟨c.pc, cmd⟩ (failEnding why).1 (failEnding why).2 1 (cmd.cnt - (from_ + o)) w
  | none =>
    s.modCtx n fun c => { c with
      pc := c.pc + 32
      fails := []
      rest := if x.rr + 1 < x.members.length then .reread else .none
      xfer := { x with part := x.part ++ bs, rr := x.rr + 1 } }

/-- A command has been fetched (R42, R61). -/
def State.fetched (s : State) (n : Nat) (cmd : Cmd) (w : Wr) : State :=
  let c := s.ctx n
  if c.rest = .none && decide (c.r.budget ≤ c.r.noprog) then
    let m : Member := ⟨c.pc, cmd⟩
    let (e, s) := s.groupEnding n (c.endingAt m deRunaway 0 0 none) true
    let s := if c.chain then s.closeChain n else s
    s.finishProgram n e w
  else match s.earlyCheck n cmd with
    | some q => s.refuse n cmd deProgram q 0 w
    | none =>
      match c.rest with
      | .reread =>
        (match s.resourceCheck n cmd cmd.inlineHandle false with
         | some q => s.refuse n cmd deProgram q 0 w
         | none => s.reread n cmd w)
      | .dry =>
        (match s.resourceCheck n cmd none true with
         | some q => s.refuse n cmd deProgram q 0 w
         | none => s.afterStream n cmd w)
      | .addCounts | .failed | .short =>
        (match s.resourceCheck n cmd none true with
         | some q => s.refuse n cmd deProgram q 0 w
         | none => s.passOver n cmd w)
      | .none =>
        let again := decide (cmd.opn = 0xE) && c.chain && c.again
        if cmd.readsFirst && (!c.chain || again) then
          s.modCtx n fun c => { c with phase := .desc, cmd := cmd, fails := [] }
        else (s.modCtx n fun c => { c with fails := [] }).letIn n cmd cmd.inlineHandle w

/-- The ending of a failed fetch (R41, R86). -/
def fetchEnding (space : Nat) (f : AccFail) : Byte × Byte :=
  if space = 0 ∧ f = .hostAbort then (deProgram, 0x10) else failEnding f

/-- A demand fetch that FCH.t_fetch asked for has completed: an item for the sequencer core (11 R355); its layout is not given: a
free value (log 7). -/
def State.tellFetch (s : State) (n : Nat) : State :=
  match s.homeBlock n with
  | none => s
  | some b =>
    if (s.block b).asked.contains n then
      (s.modBlock b fun x => { x with asked := x.asked.filter (fun k => decide (k ≠ n)) }).tellSeq b 8 [1] (some n)
    else s

/-- A failed fetch: IN_CONT and IN_GROUP describe a command that was not read, so they are free values (log 7). -/
def State.fetchFailed (s : State) (n : Nat) (dev qual : Byte) (w : Wr) : State :=
  let (bs, s) := s.drawBytes 1
  let v := bs.getD 0 0
  s.refuse n { op := v &&& 1, flags := v &&& 2, spaces := 0x0C } dev qual 4 w

/-- DEMAND_FETCH_COMPLETE (R39 to R42). -/
def execDemandFetchComplete (ctx : Nat) (w : Wr) (s : State) : Res :=
  let c := s.ctx ctx
  let sp := c.space.toNat
  let copy := c.readAhead.find? fun p => decide (p.1 = sp) && decide (p.2.1 = c.pc)
  whenB s (s.up && decide (c.phase = .fetch) && (decide (sp ≠ 0) || c.r.supervisor || !(s.fn c.r.ownerFn.toNat).stopped))
    "no demand fetch is outstanding"
    (let s := s.tellFetch ctx
     match copy with
     | some p =>
       (s.modCtx ctx fun c => { c with readAhead := c.readAhead.filter fun q => decide (q ≠ p) }).fetched ctx
         (Cmd.decode p.2.2) w
     | none =>
       match s.readRange (c.who 0) sp c.pc.toNat 32 with
       | (_, some (_, f)) => s.fetchFailed ctx (fetchEnding sp f).1 (fetchEnding sp f).2 w
       | (bs, none) => s.fetched ctx (Cmd.decode bs) w)

/-- READ_AHEAD_COMPLETE (R39): `n` commands from the command being fetched on, in its aligned 256-byte block; a failed
read-ahead has no effect. -/
def execReadAheadComplete (ctx n : Nat) (s : State) : Res :=
  let c := s.ctx ctx
  let sp := c.space.toNat
  let a := c.pc.toNat
  let room := (256 - a % 256) / 32
  let (bs, f) := s.readRange (c.who 0) sp a (32 * n)
  let copies := (List.range n).map fun i => (sp, c.pc + BitVec.ofNat 64 (32 * i), (bs.drop (32 * i)).take 32)
  whenB s (s.up && decide (c.phase = .fetch) && decide (1 ≤ n) && decide (n ≤ room)) "no read-ahead is outstanding"
    (if f.isSome then s
     else s.modCtx ctx fun c => { c with
       readAhead := c.readAhead.filter (fun p => !(copies.any fun q => decide (q.1 = p.1) && decide (q.2.1 = p.2.1))) ++ copies })

/-! ### Descriptor reads (R80, R85 step 6) -/

/-- A failed read of step 6: its ending names the operand through which the structure is reached (R80, R88). -/
def State.descFail (s : State) (n space : Nat) (f : AccFail) (operand : BitVec 3) (w : Wr) : State :=
  let c := s.ctx n
  let e := if space = 0 ∧ f = .hostAbort then (deProgram, (0x47 : Byte)) else failEnding f
  s.checkFail n e.1 e.2 operand (some c.cmd.count) w

/-- The command passes or fails a check of step 6. -/
def State.descCheck (s : State) (n : Nat) (ok : Bool) (qual : Byte) (handle : Option Nat) (w : Wr) : State :=
  let c := s.ctx n
  if ok then (s.modCtx n fun c => { c with fails := [] }).letIn n c.cmd handle w
  else s.checkFail n deProgram qual 0 none w

/-- The context's requests to HOST wait: its function is in D3hot or has Bus Master Enable 0 (06 R180). -/
def State.hostStopped (s : State) (n : Nat) : Bool :=
  let c := s.ctx n
  !c.r.supervisor && (s.fn c.r.ownerFn.toNat).stopped

/-- The space of the descriptor that a command reads. -/
def Cmd.descSpace (c : Cmd) : Nat := if c.opn = 0xE then c.spaceB else if c.opn = 0x1A then c.spaceA else c.cc % 4

/-- The map header of a SIEVE-MAP is read after its range descriptor (R132). -/
def State.mapHeader (s : State) (n : Nat) (desc : List Byte) (w : Wr) : State :=
  let c := s.ctx n
  let v := field desc 0 8
  if !mapRefOk desc then s.checkFail n deProgram 0x46 0 none w
  else if s.hostStopped n && decide (v % 4 = 0) then s
  else match s.readRange c.me (v % 4) (v / 32 * 32) 32 with
    | (_, some (_, f)) => s.descFail n (v % 4) f 3 w
    | (hdr, none) =>
      (s.modCtx n fun c => { c with xfer := { desc := desc, maph := hdr } }).descCheck n (rangeOk desc hdr c.cmd) 0x46
        (some (rangeHandle desc)) w

/-- The layout of SHRED or WEAVE has been read: the area of its columns is B's or A's (04 R146). -/
def State.layoutRead (s : State) (n : Nat) (desc : List Byte) (w : Wr) : State :=
  let cmd := (s.ctx n).cmd
  let ok := if cmd.opn = 0xA then layoutOk desc cmd.spaceB cmd.cb else layoutOk desc cmd.spaceA cmd.ca
  (s.modCtx n fun c => { c with xfer := { desc := desc } }).descCheck n ok 0x46 none w

/-- Read the `len` bytes at `a` that follow the first 32 bytes of a descriptor. -/
def State.descRest (s : State) (n space a : Nat) (hdr : List Byte) (len : Nat) (w : Wr) : State :=
  let c := s.ctx n
  match s.readRange c.me space a len with
  | (_, some (_, f)) => s.descFail n space f 3 w
  | (bs, none) =>
    if c.cmd.opn = 9 then s.mapHeader n (hdr ++ bs) w else s.layoutRead n (hdr ++ bs) w

/-- The descriptor of SIEVE-MAP, SHRED or WEAVE. -/
def State.descRef (s : State) (n : Nat) (w : Wr) : State :=
  let c := s.ctx n
  let sp := c.cmd.cc % 4
  let a := c.cmd.cc / 32 * 32
  match s.readRange c.me sp a 32 with
  | (_, some (_, f)) => s.descFail n sp f 3 w
  | (hdr, none) =>
    match if c.cmd.opn = 9 then rangeLen hdr else layoutLen hdr with
    | none => s.checkFail n deProgram 0x46 0 none w
    | some len => s.descRest n sp (a + 32) hdr (len - 32) w

/-- The bucket table of FOLD, at the head or at a resume; RECORDS are the device's own (R140, R171). -/
def State.descTable (s : State) (n : Nat) (w : Wr) : State :=
  let c := s.ctx n
  match s.readRange c.me c.cmd.spaceB c.cmd.cb c.cmd.tableLen with
  | (_, some (_, f)) => s.descFail n c.cmd.spaceB f 2 w
  | (bs, none) =>
    let fresh := bucketsOf bs (2 ^ c.cmd.cf 16 4)
    let keep := c.chain || c.xfer.expect.isSome
    let bks := if keep then fresh.zipWith (fun (b old : Bucket) => { b with records := old.records }) c.xfer.buckets else fresh
    let s := s.modCtx n fun c => { c with xfer := if keep then { c.xfer with buckets := bks, desc := bs.take 32 }
                                                  else { buckets := bks, desc := bs.take 32 } }
    s.descCheck n (tableOk bs c.cmd) 0x46 none w

/-- The command block of NVM-PASS, and the policy mask (R110). -/
def State.descPass (s : State) (n : Nat) (w : Wr) : State :=
  let c := s.ctx n
  match s.readRange c.me c.cmd.spaceA c.cmd.ca 64 with
  | (_, some (_, f)) => s.descFail n c.cmd.spaceA f 1 w
  | (bs, none) =>
    let allowed := (s.fn c.r.ownerFn.toNat).nvmPolicy.getLsbD (byteAt bs 0)
    if !imageOk bs c.cmd.cnt then s.checkFail n deProgram 0x4D 0 none w
    else match s.resourceCheck n c.cmd none false with
      | some q => s.checkFail n deProgram q 0 none w
      | none =>
        if !allowed then s.checkFail n deProtection 8 1 none w
        else (s.modCtx n fun c => { c with xfer := { desc := bs } }).descCheck n true 0 none w

/-- DESCRIPTOR_READ_COMPLETE (R80, R88, R132, R140, R146). -/
def execDescriptorReadComplete (ctx : Nat) (w : Wr) (s : State) : Res :=
  let c := s.ctx ctx
  whenB s (s.up && decide (c.phase = .desc) && !(s.hostStopped ctx && decide (c.cmd.descSpace = 0))) "no descriptor read is outstanding"
    (if c.cmd.opn = 0xE then s.descTable ctx w else if c.cmd.opn = 0x1A then s.descPass ctx w else s.descRef ctx w)

end Sys2Proof.Machine
end

