-- ==== Sys2Proof/Machine/Data.lean ====
section
/-! DEFINITION. The input of a data command, its length mismatches, and MOVE, FILL, COMPARE, DIGEST and ATOMIC
(02 R46 to R54, 03 R89 to R93, R104 to R106). -/

namespace Sys2Proof.Machine

/-! ### When a data command may run -/

/-- The command accesses HOST memory through A or B. -/
def Cmd.touchesHost (c : Cmd) : Bool :=
  let a := decide (c.spaceA = 0)
  let b := decide (c.spaceB = 0)
  match c.opn with
  | 0x02 | 0x18 => b
  | 0x03 => a || (decide (c.mod = 0) && b)
  | 0x04 => a || (!bit c.mod 3 && b)
  | 0x19 => decide (c.mod ≤ 1) && a
  | 0x20 | 0x21 | 0x22 | 0x24 | 0x25 | 0x26 | 0x28 | 0x29 | 0x2A | 0x30 => false
  | _ => a || b

/-- The command accesses HOST memory: an operand, or the map and the report area of a SIEVE-MAP. -/
def Ctx.touchesHost (c : Ctx) : Bool :=
  c.cmd.touchesHost ||
  (decide (c.cmd.opn = 9) && (decide (field c.xfer.desc 0 8 % 4 = 0) ||
    match reportArea c.xfer.desc with | none => false | some (sp, _) => decide (sp = 0)))

/-- The context's checked command is one of the opcode and modifier named, and it may issue its requests. -/
def State.mayRun (s : State) (n : Nat) (is : Cmd → Bool) : Bool :=
  let c := s.ctx n
  s.up && decide (c.phase = .exec) && is c.cmd && (!c.cmd.isData || s.placeFree n) &&
  !(s.hostStopped n && c.touchesHost)

/-- The opcode alone. -/
def isOp (o : Nat) (c : Cmd) : Bool := decide (c.opn = o)

/-! ### Input of a member -/

/-- Units of the present member that are still to come. -/
def Ctx.left (c : Ctx) : Nat := c.cmd.cnt - c.xfer.off

/-- The bytes that a member takes from the stream (R50). -/
def Ctx.fromStream (c : Ctx) : List Byte :=
  if c.cmd.toEnd then c.grp.data else c.grp.data.take c.left

/-- The input bytes of a member of which each count unit is a byte: from memory up to the first failing access, or from the
stream. -/
def State.input (s : State) (n : Nat) : List Byte × Option (Nat × AccFail) :=
  let c := s.ctx n
  if c.cmd.consumer then (c.fromStream, none)
  else s.readRange c.me c.cmd.spaceA (c.cmd.ca + c.xfer.off) c.left

/-- Bytes that the stream did not supply to a member (R54). -/
def Ctx.shortBy (c : Ctx) (got : Nat) : Nat := if c.cmd.consumer && !c.cmd.toEnd then c.left - got else 0

/-- The mismatch of a member that took what the stream gave it: LENGTH's qualifier (R54, R87). -/
def Ctx.mismatch (c : Ctx) (short : Nat) : Option Byte :=
  if short ≠ 0 then some 1
  else if c.cmd.consumer && !c.cmd.cont && !c.grp.data.isEmpty then some 2
  else none

/-! ### The end of a member -/

/-- RESIDUAL of the latest data command (R72). -/
def State.setResidual (s : State) (n k : Nat) : State :=
  s.modCtx n fun c => { c with r := { c.r with residual := BitVec.ofNat 32 k } }

/-- The stream has ended before the last member of a consumer chain (R50). At the end of a member it is not yet known whether that is a
mismatch. Inside one it is: under LENOK the chain ends there, without it the rest of the chain is checked before LENGTH. -/
def State.streamEnds (s : State) (n residual : Nat) (mis : Option Byte) (progress : Bool) (w : Wr) : State :=
  match mis with
  | none => (s.modCtx n fun c => { c with rest := .dry }).memberDone n progress w
  | some q => s.modCtx n fun c => { c with
      phase := .fetch, goal := .none, chain := true, rest := .short, pc := c.pc + 32, fails := [],
      xfer := { c.xfer with cut := some (if q = 3 then c.xfer.partMember else c.xfer.members.length - 1, q, residual) } }

/-- The consumer does not want the rest of the stream (R54): the producer stops, and a failure of it that was not reached is none
(R48, R49). -/
def State.overlong (s : State) (n : Nat) : State :=
  let g := (s.ctx n).grp
  match g.failed with
  | none => s.stopProducer n
  | some _ =>
    let (v, s) := s.drawWord
    if decide (g.failedAt ≤ g.pos + g.ahead) && v.getLsbD 0 then s.modCtx n fun c => { c with grp := { c.grp with data := [] } }
    else (s.stopProducer n).modCtx n fun c => { c with grp := { c.grp with failed := none } }

/-- A member has taken its input: a mismatch ends the program, or LENOK accepts it and the rest of the chain is passed over (R54). A
PARTIAL mismatch ends the program at the member that holds the first byte of the partial unit (R75). -/
def State.endMember (s : State) (n residual : Nat) (mis : Option Byte) (progress : Bool) (w : Wr) : State :=
  let c := s.ctx n
  let s := s.setResidual n residual
  if c.cmd.consumer && c.cmd.cont && c.grp.data.isEmpty && (mis.isNone || !c.cmd.lenok) then s.streamEnds n residual mis progress w
  else match mis with
  | none => s.memberDone n progress w
  | some q =>
    let s := if c.cmd.consumer && !c.grp.data.isEmpty then s.overlong n else s
    if c.cmd.lenok then
      (s.modCtx n fun c => { c with
        r := { c.r with chan := c.r.chan ||| 1 }
        rest := if c.cmd.cont then .addCounts else .none }).memberDone n progress w
    else s.lengthEnd n (if q = 3 then c.memberAt c.xfer.partMember else c.member) q residual w

/-- A failed access at byte `o` of the present member's segment (R86). -/
def State.accessFail (s : State) (n o : Nat) (why : AccFail) (operand : BitVec 3) (w : Wr) : State :=
  let c := s.ctx n
  s.dataFail n c.member (failEnding why).1 (failEnding why).2 operand (c.left - o) w

/-- A member with SKIP: the source is read with every check, and nothing is delivered (R51). -/
def State.skipMember (s : State) (n : Nat) (w : Wr) : State :=
  let c := s.ctx n
  match s.input n with
  | (_, some (o, why)) => s.accessFail n o why 1 w
  | (bs, none) =>
    let s := if c.cmd.consumer then s.accept n bs.length else s
    let short := c.shortBy bs.length
    s.endMember n short ((s.ctx n).mismatch short) (decide (bs.length ≠ 0)) w

/-! ### The source beyond a failure -/

/-- The bytes of a source from offset `o` on that could be read, up to the first that could not. -/
def State.readable (s : State) (w : Who) (space a n : Nat) : List Byte := (s.readRange w space a n).1

/-! ### MOVE (R89) -/

/-- The member's B lies above its A in the same space and overlaps it, so the copy runs in descending address order (R89, 10 R320). -/
def Cmd.descends (c : Cmd) : Bool :=
  decide (c.spaceA = c.spaceB) && decide (c.spaceA ≠ 3) && decide (c.ca < c.cb) && decide (c.cb < c.ca + c.cnt)

/-- The bytes of a failed copy that are delivered from its first byte on, of `o` before the failing one: all of them in ascending
order; in descending order a free number, since the bytes below the failing one are copied after it (10 R312, log 37). -/
def State.deliveredTo (s : State) (down : Bool) (o : Nat) : Nat × State :=
  if down then
    let (v, s) := s.drawWord
    (v.toNat % (o + 1), s)
  else (o, s)

/-- A copy to `a` that failed: the delivered bytes are stored, and each byte beyond them is stored or not. -/
def State.copyFailed (s : State) (n space : Nat) (me : Who) (a p : Nat) (bs : List Byte) : State :=
  let s := if p = 0 then s else s.ctxOut n me space a (bs.take p)
  State.mixOut n space me (a + p) (bs.drop p) s

/-- A MOVE member whose B is memory. -/
def State.moveOut (s : State) (n : Nat) (bs : List Byte) (f : Option (Nat × AccFail)) (w : Wr) : State :=
  let c := s.ctx n
  let me := c.me
  let b := c.cmd.cb + c.xfer.off
  let wf := s.writeFail me c.cmd.spaceB b bs.length
  match lowerFail wf f with
  | some (o, why) =>
    let (p, s1) := s.deliveredTo c.cmd.descends o
    let s1 := s1.copyFailed n c.cmd.spaceB me b p bs
    let s1 := if wf.isSome then s1 else
      State.mixOut n c.cmd.spaceB me (b + o + 1) (s.readable me c.cmd.spaceA (c.cmd.ca + c.xfer.off + o + 1) (c.left - o - 1)) s1
    let s1 := if c.cmd.consumer then s1.accept n p else s1
    s1.accessFail n p why (if wf.isSome then 2 else 1) w
  | none =>
    let s1 := (s.writeRange n me c.cmd.spaceB b bs).1
    let s1 := if c.cmd.consumer then s1.accept n bs.length else s1
    let short := c.shortBy bs.length
    s1.endMember n short ((s1.ctx n).mismatch short) (decide (bs.length ≠ 0)) w

/-- A MOVE member whose B is the stream. -/
def State.moveStream (s : State) (n : Nat) (bs : List Byte) (f : Option (Nat × AccFail)) (w : Wr) : State :=
  let c := s.ctx n
  let s := s.produce n bs false
  match f with
  | some (o, why) => s.accessFail n o why 1 w
  | none =>
    let s := if c.cmd.consumer then s.accept n bs.length else s
    let short := c.shortBy bs.length
    s.endMember n short ((s.ctx n).mismatch short) (decide (bs.length ≠ 0)) w

/-- MOVE (R89): one member. -/
def execMove (ctx : Nat) (w : Wr) (s : State) : Res :=
  let c := s.ctx ctx
  let (bs, f) := s.input ctx
  whenB s (s.mayRun ctx (isOp 1)) "no MOVE may run"
    (if c.cmd.skip then s.skipMember ctx w
     else if c.cmd.producer then s.moveStream ctx bs f w
     else s.moveOut ctx bs f w)

/-! ### FILL (R90) -/

/-- The bytes of a FILL: byte j is byte j mod w of C. -/
def Cmd.fillBytes (c : Cmd) (from_ n : Nat) : List Byte :=
  let p := leBytes c.width c.cc
  (List.range n).map fun j => p.getD ((from_ + j) % c.width) 0

/-- FILL (R90). -/
def execFill (ctx : Nat) (w : Wr) (s : State) : Res :=
  let c := s.ctx ctx
  let bs := c.cmd.fillBytes c.xfer.off c.left
  let b := c.cmd.cb + c.xfer.off
  let (s1, f) := s.writeRange ctx c.me c.cmd.spaceB b bs
  whenB s (s.mayRun ctx (isOp 2)) "no FILL may run"
    (match f with
     | some (o, why) => (State.mixOut ctx c.cmd.spaceB c.me (b + o) (bs.drop o) s1).accessFail ctx o why 2 w
     | none => s1.endMember ctx 0 none (decide (bs.length ≠ 0)) w)

/-! ### COMPARE (R91, R92) -/

/-- The first position at which two lists differ. -/
def firstDiff : List Byte → List Byte → Nat → Option Nat
  | a :: as, b :: bs, i => if a = b then firstDiff as bs (i + 1) else some i
  | _, _, _ => none

/-- A COMPARE member whose two operands were read: the bytes before the first failing access of each. -/
def State.compared (s : State) (n : Nat) (a b : List Byte) (fa fb : Option (Nat × AccFail)) (w : Wr) : State :=
  let c := s.ctx n
  match firstDiff a b 0 with
  | some d =>
    let s := s.modCtx n fun c => { c with
      xfer := { c.xfer with condCmp := some false }
      rest := if c.cmd.cont then .addCounts else .none }
    (s.setResidual n (c.left - d)).memberDone n true w
  | none =>
    match fa, fb with
    | some (i, f), some (j, g) =>
      if i < j ∨ (i = j ∧ failRank f ≤ failRank g) then s.accessFail n i f 1 w else s.accessFail n j g 2 w
    | some (i, f), none => s.accessFail n i f 1 w
    | none, some (j, g) => s.accessFail n j g 2 w
    | none, none =>
      (s.modCtx n fun c => { c with xfer := { c.xfer with condCmp := some true } }).endMember n 0 none
        (decide (a.length ≠ 0)) w

/-- COMPARE (R91, R92): BYTES or WORD, one member. -/
def execCompare (ctx : Nat) (w : Wr) (s : State) : Res :=
  let c := s.ctx ctx
  let a := s.input ctx
  let b := if c.cmd.mod = 0 then s.readRange c.me c.cmd.spaceB (c.cmd.cb + c.xfer.off) c.left
           else ((leBytes c.cmd.cnt c.cmd.cc).drop c.xfer.off, none)
  whenB s (s.mayRun ctx (isOp 3)) "no COMPARE may run" (s.compared ctx a.1 b.1 a.2 b.2 w)

/-! ### DIGEST (R93, R150) -/

/-- Feed the bytes of a member of count `cnt` to the running digest of a chain. A chain has a digest when some member without SKIP
has a count other than 0, also when the stream gives it no byte (R93). -/
def Xfer.feed (x : Xfer) (alg cnt : Nat) (bs : List Byte) : Xfer :=
  if cnt = 0 then x
  else
    let h := if x.begun then x.dig else digestInit alg
    let (h, rest) := digestFeed alg h (x.part ++ bs)
    { x with dig := h, part := rest, digLen := x.digLen + bs.length, begun := true }

/-- The chain of a DIGEST ends: the result is written and compared (R93). A chain that digested nothing writes nothing. -/
def State.digestEnd (s : State) (n residual : Nat) (mis : Option Byte) (progress : Bool) (w : Wr) : State :=
  let c := s.ctx n
  let x := c.xfer
  let alg := bits c.cmd.mod 0 2
  let h := digestDone alg x.dig x.part x.digLen
  let cond := if bit c.cmd.mod 2 then some (x.begun && decide (h = c.cmd.c)) else none
  let s := s.modCtx n fun c => { c with xfer := { c.xfer with condDig := cond } }
  if !x.begun || bit c.cmd.mod 3 then s.endMember n residual mis progress w
  else match s.writeRange n c.me c.cmd.spaceB c.cmd.cb (leBytes 8 h.toNat) with
    | (s, some (_, why)) => s.dataFail n c.member (failEnding why).1 (failEnding why).2 2 residual w
    | (s, none) => s.endMember n residual mis true w

/-- A mismatch ends the program at a DIGEST: which bytes of the result are written is open (R54, R93, log 153). -/
def State.digestCut (s : State) (n : Nat) : State :=
  let c := s.ctx n
  let x := c.xfer
  if !x.begun || bit c.cmd.mod 3 then s
  else State.mixOut n c.cmd.spaceB c.me c.cmd.cb (leBytes 8 (digestDone (bits c.cmd.mod 0 2) x.dig x.part x.digLen).toNat) s

/-- DIGEST (R93): one member. -/
def execDigest (ctx : Nat) (w : Wr) (s : State) : Res :=
  let c := s.ctx ctx
  let (bs, f) := s.input ctx
  let fed := if c.cmd.skip then s
    else s.modCtx ctx fun c => { c with xfer := c.xfer.feed (bits c.cmd.mod 0 2) c.cmd.cnt bs }
  let fed := if c.cmd.consumer then fed.accept ctx bs.length else fed
  let short := c.shortBy bs.length
  let mis := (fed.ctx ctx).mismatch short
  let progress := decide (bs.length ≠ 0)
  whenB s (s.mayRun ctx (isOp 4)) "no DIGEST may run"
    (match f with
     | some (o, why) => s.accessFail ctx o why 1 w
     | none =>
       let ends := !c.cmd.cont || (mis.isSome && c.cmd.lenok)
       if ends && (mis.isNone || c.cmd.lenok) then fed.digestEnd ctx short mis progress w
       else (if mis.isSome then fed.digestCut ctx else fed).endMember ctx short mis progress w)

/-! ### ATOMIC (R104 to R106) -/

/-- The first failure of the atomic access to A: an atomic access of FAR needs the atomic right. -/
def State.atomicFail (s : State) (w : Who) (space a n : Nat) : Option AccFail :=
  let chk := if space = 2 then s.farCheck w .atomic a n else lowerFail (s.readFail w space a n) (s.writeFail w space a n)
  let f := lowerFail chk (lowerFail (w.reported false space a n) (w.reported true space a n))
  f.map Prod.snd

/-- An ATOMIC whose new value of A is a function of the old value, OPERAND1 and OPERAND2, as numbers of COUNT bytes. -/
def State.atomic (s : State) (n : Nat) (new : Nat → Nat → Nat → Nat) (w : Wr) : State :=
  let c := s.ctx n
  let me := c.me
  let k := c.cmd.cnt
  match s.readRange me c.cmd.spaceB c.cmd.cb 32 with
  | (_, some (_, why)) => s.accessFail n 0 why 2 w
  | (blk, none) =>
    match s.atomicFail me c.cmd.spaceA c.cmd.ca k with
    | some why => s.accessFail n 0 why 1 w
    | none =>
      let old := s.bytesIn me c.cmd.spaceA c.cmd.ca k
      let v := new (leVal old) (field blk 0 k) (field blk 16 k)
      let s := s.ctxOut n me c.cmd.spaceA c.cmd.ca (leBytes k v)
      match s.writeRange n me c.cmd.spaceB c.cmd.cb old with
      | (s, some (_, why)) => s.accessFail n 0 why 2 w
      | (s, none) => s.endMember n 0 none true w

/-- The opcode and the modifier. -/
def isMod (o m : Nat) (c : Cmd) : Bool := decide (c.opn = o) && decide (c.mod = m)

/-- ATOMIC CAS (R104): A takes OPERAND2 when A equals OPERAND1. -/
def execAtomicCas (ctx : Nat) (w : Wr) (s : State) : Res :=
  whenB s (s.mayRun ctx (isMod 0x14 0)) "no ATOMIC CAS may run"
    (s.atomic ctx (fun old cmp new => if old = cmp then new else old) w)

/-- ATOMIC FETCH-ADD (R104): A takes A + OPERAND2 modulo 2^64. -/
def execAtomicFetchAdd (ctx : Nat) (w : Wr) (s : State) : Res :=
  whenB s (s.mayRun ctx (isMod 0x14 1)) "no ATOMIC FETCH-ADD may run"
    (s.atomic ctx (fun old _ add => (old + add) % 2 ^ 64) w)

/-- ATOMIC SWAP (R104): A takes OPERAND2. -/
def execAtomicSwap (ctx : Nat) (w : Wr) (s : State) : Res :=
  whenB s (s.mayRun ctx (isMod 0x14 2)) "no ATOMIC SWAP may run" (s.atomic ctx (fun _ _ new => new) w)

end Sys2Proof.Machine
end

