-- ==== Sys2Proof/Machine/Units.lean ====
section
/-! DEFINITION. Transforms that cut a joined source into units: partial units, failures of a unit, overlap, and SHRED, WEAVE,
SLICE and UNSLICE (04 R146 to R149, 03 R99 to R101). -/

namespace Sys2Proof.Machine

/-! ### Units of a joined source -/

/-- The member and the offset in it of the byte at position `p` of the partial unit followed by the present member's input. -/
def Ctx.unitAt (c : Ctx) (p : Nat) : Nat × Nat :=
  if p < c.xfer.part.length then (c.xfer.partMember, c.xfer.partOff)
  else (c.xfer.members.length - 1, c.xfer.off + (p - c.xfer.part.length))

/-- Split bytes into whole units of `len` bytes; the rest is left over. -/
def chunks : Nat → Nat → List Byte → List (List Byte)
  | 0, _, _ => []
  | fuel + 1, len, bs => if bs.length < len ∨ len = 0 then [] else bs.take len :: chunks fuel len (bs.drop len)

/-- The stream gives what the units before position `p` took; bytes of a partial unit go back (R72, R144). -/
def State.acceptTo (s : State) (n p : Nat) : State :=
  let c := s.ctx n
  if !c.cmd.consumer then s
  else
    let k := c.xfer.part.length
    if k ≤ p then s.accept n (p - k) else s.giveBack n (c.xfer.part.drop p)

/-- The unit at position `p` failed: the ending names the member that holds its first byte, and RESIDUAL counts from that byte
(04 R128, R75). -/
def State.unitFail (s : State) (n p : Nat) (dev qual : Byte) (operand : BitVec 3) (w : Wr) : State :=
  let c := s.ctx n
  let (mi, off) := c.unitAt p
  let m := c.memberAt mi
  (s.acceptTo n p).dataFail n m dev qual operand (m.cmd.cnt - off) w

/-- A failed read of the source at the unit at position `p` (04 R128). -/
def State.sourceFail (s : State) (n p : Nat) (why : AccFail) (w : Wr) : State :=
  s.unitFail n p (failEnding why).1 (failEnding why).2 1 w

/-- Bytes of the chain from a member's offset on, the later members whole; a later member with the to-end count adds 0 (R50, R54,
R87). -/
def Ctx.fromUnit (c : Ctx) (mi off : Nat) : Nat :=
  ((c.xfer.members.drop (mi + 1)).map fun m => if m.cmd.toEnd then 0 else m.cmd.cnt).foldl (· + ·) ((c.memberAt mi).cmd.cnt - off)

/-- RESIDUAL of a PARTIAL mismatch at the unit that begins at a member's offset: under LENOK the chain ends at it; without LENOK that
member fails (R54, R75, 03 R97). -/
def Ctx.partialLeft (c : Ctx) (mi off : Nat) : Nat :=
  if c.cmd.lenok then c.fromUnit mi off else (c.memberAt mi).cmd.cnt - off

/-- The units of a member are done up to position `p` of `all`; the rest is a partial unit, and at the end of the chain a
PARTIAL mismatch (R54, R87). Answers the state, RESIDUAL and the mismatch. -/
def State.unitsTaken (s : State) (n : Nat) (all : List Byte) (p got : Nat) : State × Nat × Option Byte :=
  let c := s.ctx n
  let (mi, off) := c.unitAt p
  let s := if c.cmd.consumer then s.accept n got else s
  let rest := all.drop p
  let s := s.modCtx n fun c => { c with xfer := { c.xfer with part := rest, partMember := mi, partOff := off } }
  let short := c.shortBy got
  let ends := !c.cmd.cont || decide (short ≠ 0)
  if ends && !rest.isEmpty then (s, c.partialLeft mi off, some 3) else (s, short, (s.ctx n).mismatch short)

/-- A member with SKIP of a command that cuts its joined source into units (R51): its segment is no part of the joined source. When
the chain ends here, `close` ends it, with RESIDUAL and the mismatch. -/
def State.skipGathered (s : State) (n : Nat) (w : Wr) (close : State → Nat → Option Byte → Bool → State) : State :=
  let c := s.ctx n
  match s.input n with
  | (_, some (o, why)) => s.accessFail n o why 1 w
  | (bs, none) =>
    let s := if c.cmd.consumer then s.accept n bs.length else s
    let short := c.shortBy bs.length
    let ends := !c.cmd.cont || decide (short ≠ 0)
    let progress := decide (bs.length ≠ 0)
    if ends && !c.xfer.part.isEmpty then close s (c.partialLeft c.xfer.partMember c.xfer.partOff) (some 3) progress
    else close s short ((s.ctx n).mismatch short) progress

/-! ### Overlap of source and destination (R149) -/

/-- Source bytes from address `a` on, as a transform reads them. A byte that the transform has written already is read as its original
value where the result is exact, and otherwise as that or as the value that stands there now (Table 04.17). -/
def State.sourceBytes (n : Nat) (exact : Nat → Bool) (space : Nat) : Nat → List Byte → State → List Byte × State
  | _, [], s => ([], s)
  | a, b :: bs, s =>
    let c := s.ctx n
    let (b, s) := match c.xfer.was.find? fun p => decide (p.1 = space) && decide (p.2.1 = a) with
      | none => (b, s)
      | some (_, _, old) =>
        if exact a then (old, s)
        else
          let (f, s) := s.drawBytes 1
          (if (f.getD 0 0).getLsbD 0 then old else s.byteIn c.me space a, s)
    let (t, s) := State.sourceBytes n exact space (a + 1) bs s
    (b :: t, s)

/-- The bytes of a unit at position `p` of the joined source; those before the present member were read with it. -/
def State.unitBytes (s : State) (n : Nat) (exact : Nat → Bool) (p : Nat) (bs : List Byte) : List Byte × State :=
  let c := s.ctx n
  if c.xfer.was.isEmpty || c.cmd.consumer then (bs, s)
  else
    let k := c.xfer.part.length - p
    let (t, s) := State.sourceBytes n exact c.cmd.spaceA (c.cmd.ca + c.xfer.off + (p - c.xfer.part.length)) (bs.drop k) s
    (bs.take k ++ t, s)

/-- The same for the first record of the bytes from position `p` on. -/
def State.recordBytes (s : State) (n : Nat) (exact : Nat → Bool) (format reclen p : Nat) (bs : List Byte) : List Byte × State :=
  let c := s.ctx n
  if c.xfer.was.isEmpty || c.cmd.consumer then (bs, s)
  else if format = 0 then
    let (r, s) := s.unitBytes n exact p (bs.take reclen)
    (r ++ bs.drop reclen, s)
  else
    let pre := if format = 1 then 2 else 4
    let (h, s) := s.unitBytes n exact p (bs.take pre)
    let l := leVal h
    let (r, s) := s.unitBytes n exact (p + pre) ((bs.drop pre).take l)
    (h ++ r ++ bs.drop (pre + l), s)

/-- No result of the command is exact. -/
def noneExact (_ : Nat) : Bool := false

/-- Write, or, beyond a failure, let a free value say which bytes are written. -/
def State.put (s : State) (n : Nat) (mix : Bool) (space a : Nat) (bs : List Byte) : State × Option (Nat × AccFail) :=
  let me := (s.ctx n).me
  if mix then (State.mixOut n space me a bs s, none) else s.writeRange n me space a bs

/-! ### SHRED and WEAVE (R99, R146, R147) -/

/-- Write the fields of row `i`. -/
def State.shredRow (n : Nat) (mix : Bool) (i : Nat) (row : List Byte) : List LayField → State → State × Option AccFail
  | [], s => (s, none)
  | f :: fs, s =>
    let c := s.ctx n
    match s.put n mix c.cmd.spaceB (c.cmd.cb + f.col + i * f.width) ((row.drop f.off).take f.width) with
    | (s, some (_, why)) => (s, some why)
    | (s, none) => State.shredRow n mix i row fs s

/-- Write rows from row `i` on, `p` the position of its first byte; answers the rows done and the failure. -/
def State.shredRows (n : Nat) (mix : Bool) (l : Layout) : Nat → Nat → List (List Byte) → State → Nat × Option AccFail × State
  | i, _, [], s => (i, none, s)
  | i, p, row :: rows, s =>
    let (row, s) := s.unitBytes n noneExact p row
    match State.shredRow n mix i row l.fields s with
    | (s, some why) => (i, some why, s)
    | (s, none) => State.shredRows n mix l (i + 1) (p + l.rowLen) rows s

/-- Count the units taken. -/
def State.setOrdinal (s : State) (n k : Nat) : State :=
  s.modCtx n fun c => { c with xfer := { c.xfer with ordinal := k, begun := true } }

/-- A SHRED member without SKIP. -/
def State.shred (s : State) (n : Nat) (w : Wr) : State :=
  let c := s.ctx n
  let l := layoutOf c.xfer.desc
  let (bs, f) := s.input n
  let all := c.xfer.part ++ bs
  let rows := chunks all.length l.rowLen all
  let i0 := c.xfer.ordinal
  let (i, why, s) := State.shredRows n false l i0 0 rows s
  let s := s.setOrdinal n i
  let p := (i - i0) * l.rowLen
  match why, f with
  | some why, _ =>
    let (_, _, s) := State.shredRows n true l (i + 1) (p + l.rowLen) (rows.drop (i - i0 + 1)) s
    s.unitFail n p (failEnding why).1 (failEnding why).2 2 w
  | none, some (_, why) => s.sourceFail n p why w
  | none, none =>
    let (s, residual, mis) := s.unitsTaken n all p bs.length
    s.endMember n residual mis (decide (bs.length ≠ 0)) w

/-- SHRED (R99): one member. -/
def execShred (ctx : Nat) (w : Wr) (s : State) : Res :=
  whenB s (s.mayRun ctx (isOp 0xA)) "no SHRED may run"
    (if (s.ctx ctx).cmd.skip then s.skipGathered ctx w fun s k mis prog => s.endMember ctx k mis prog w else s.shred ctx w)

/-- The elements of row `i` of the column arrays, in field order. -/
def State.weaveRow (n i : Nat) :
    List LayField → List Byte → State → List Byte × Option AccFail × State
  | [], row, s => (row, none, s)
  | f :: fs, row, s =>
    let c := s.ctx n
    let a := c.cmd.ca + f.col + i * f.width
    match s.readRange c.me c.cmd.spaceA a f.width with
    | (_, some (_, why)) => (row, some why, s)
    | (bs, none) =>
      let (bs, s) := State.sourceBytes n noneExact c.cmd.spaceA a bs s
      State.weaveRow n i fs (patch row f.off bs) s

/-- A unit of a command that produces units: into the stream, or to B. -/
def State.deliver (s : State) (n : Nat) (mix : Bool) (i len : Nat) (bs : List Byte) : State × Option AccFail :=
  let c := s.ctx n
  if c.cmd.producer then (if mix then s else s.produce n bs false, none)
  else match s.put n mix c.cmd.spaceB (c.cmd.cb + i * len) bs with
    | (s, f) => (s, f.map Prod.snd)

/-- Weave `k` rows from row `i` on; answers the first row not done, and the failure with its operand. -/
def State.weaveRows (n : Nat) (mix : Bool) (l : Layout) :
    Nat → Nat → State → Nat × Option (AccFail × BitVec 3) × State
  | i, 0, s => (i, none, s)
  | i, k + 1, s =>
    match State.weaveRow n i l.fields (List.replicate l.rowLen l.filler) s with
    | (_, some why, s) => (i, some (why, 1), s)
    | (row, none, s) =>
      if (s.ctx n).cmd.skip then State.weaveRows n mix l (i + 1) k s
      else match s.deliver n mix i l.rowLen row with
        | (s, some why) => (i, some (why, 2), s)
        | (s, none) => State.weaveRows n mix l (i + 1) k s

/-- A command that counts its output units ends, or fails at unit `i` (R75). -/
def State.countedEnd (s : State) (n i : Nat) (f : Option (AccFail × BitVec 3)) (w : Wr) : State :=
  let c := s.ctx n
  match f with
  | some (why, op) => s.dataFail n c.member (failEnding why).1 (failEnding why).2 op (c.cmd.cnt - i) w
  | none => s.endMember n 0 none (decide (c.cmd.cnt ≠ 0)) w

/-- WEAVE (R99, R147). -/
def execWeave (ctx : Nat) (w : Wr) (s : State) : Res :=
  let c := s.ctx ctx
  let l := layoutOf c.xfer.desc
  let (i, f, s1) := State.weaveRows ctx false l c.xfer.off c.left s
  let s2 := if f.isSome && !c.cmd.skip then (State.weaveRows ctx true l (i + 1) (c.cmd.cnt - i - 1) s1).2.2 else s1
  whenB s (s.mayRun ctx (isOp 0xB)) "no WEAVE may run" (s2.countedEnd ctx i f w)

/-! ### SLICE and UNSLICE (R100, R101, R148) -/

/-- W, the stride and the container of SLICE and UNSLICE. -/
def Cmd.bitsW (c : Cmd) : Nat := c.cf 0 6 + 1
def Cmd.stride (c : Cmd) : Nat := c.cf 8 56

/-- Write the byte at index `j` of each plane from plane `k` on. -/
def State.putPlanes (n : Nat) (mix : Bool) (j : Nat) : Nat → List Byte → State → State × Option AccFail
  | _, [], s => (s, none)
  | k, b :: bs, s =>
    let c := s.ctx n
    match s.put n mix c.cmd.spaceB (c.cmd.cb + k * c.cmd.stride + j) [b] with
    | (s, some (_, why)) => (s, some why)
    | (s, none) => State.putPlanes n mix j (k + 1) bs s

/-- Set bit `i mod 8` of each plane's byte from the bits of an integer. -/
def spreadBits (planes : List Byte) (i v : Nat) : List Byte :=
  (List.range planes.length).map fun k =>
    (planes.getD k 0) ||| (if bit v k then BitVec.ofNat 8 (2 ^ (i % 8)) else 0)

/-- Slice integers from integer `i` on, `p` their position; answers the integers done, the failing integer and why. -/
def State.sliceInts (n : Nat) (mix : Bool) : Nat → Nat → List (List Byte) → State → Nat × Option AccFail × State
  | i, _, [], s => (i, none, s)
  | i, p, v :: vs, s =>
    let c := s.ctx n
    if 8 * c.cmd.stride ≤ i then (i, none, s)
    else
      let (v, s) := s.unitBytes n noneExact p v
      let x := c.xfer
      let fresh := decide (i % 8 = 0)
      let planes := spreadBits (if fresh then List.replicate c.cmd.bitsW 0 else x.planes) i (leVal v)
      let at_ := if fresh then c.unitAt p else (x.octMember, x.octOff)
      let s := s.modCtx n fun c => { c with xfer := { c.xfer with planes := planes, octMember := at_.1, octOff := at_.2 } }
      if i % 8 = 7 then
        match State.putPlanes n mix (i / 8) 0 planes s with
        | (s, some why) => (i, some why, s)
        | (s, none) => State.sliceInts n mix (i + 1) (p + v.length) vs s
      else State.sliceInts n mix (i + 1) (p + v.length) vs s

/-- A write of plane bytes failed: its lowest integer is the first of the byte (R75). -/
def State.sliceFail (s : State) (n p : Nat) (why : AccFail) (w : Wr) : State :=
  let c := s.ctx n
  let m := c.memberAt c.xfer.octMember
  (s.acceptTo n p).dataFail n m (failEnding why).1 (failEnding why).2 2 (m.cmd.cnt - c.xfer.octOff) w

/-- A SLICE member without SKIP. -/
def State.slice (s : State) (n : Nat) (w : Wr) : State :=
  let c := s.ctx n
  let z := c.cmd.width
  let (bs, f) := s.input n
  let all := c.xfer.part ++ bs
  let ints := chunks all.length z all
  let i0 := c.xfer.ordinal
  let (i, why, s) := State.sliceInts n false i0 0 ints s
  let s := s.setOrdinal n i
  let p := (i - i0) * z
  let past := decide (8 * c.cmd.stride ≤ i) && decide (i - i0 < ints.length)
  -- the byte being filled is written at the end of a member that has taken an integer
  let (s, tail) := if why.isSome || i % 8 = 0 || i = i0 || !(s.ctx n).xfer.begun then (s, none)
    else State.putPlanes n false (i / 8) 0 (s.ctx n).xfer.planes s
  match why, tail with
  | some why, _ =>
    let (_, _, s) := State.sliceInts n true (i + 1) (p + z) (ints.drop (i - i0 + 1)) s
    s.sliceFail n p why w
  | none, some why => s.sliceFail n p why w
  | none, none =>
    if past && !c.cmd.lenok then s.unitFail n p deLength 2 0 w
    else
      let q := if past then ints.length * z else p
      let s := if past then s.modCtx n fun c => { c with r := { c.r with chan := c.r.chan ||| 1 } } else s
      match f with
      | some (_, why) => s.sourceFail n q why w
      | none =>
        let (s, residual, mis) := s.unitsTaken n all q bs.length
        s.endMember n residual mis (decide (bs.length ≠ 0)) w

/-- SLICE (R100): one member. -/
def execSlice (ctx : Nat) (w : Wr) (s : State) : Res :=
  whenB s (s.mayRun ctx (isOp 0xC)) "no SLICE may run"
    (if (s.ctx ctx).cmd.skip then s.skipGathered ctx w fun s k mis prog => s.endMember ctx k mis prog w else s.slice ctx w)

/-- Bits of integer `i` from plane `k` on, `k` planes remaining; the value so far. -/
def State.gatherBits (n i : Nat) : Nat → Nat → Nat → State → Nat × Option AccFail × State
  | _, 0, v, s => (v, none, s)
  | k, m + 1, v, s =>
    let c := s.ctx n
    let a := c.cmd.ca + k * c.cmd.stride + i / 8
    match s.readRange c.me c.cmd.spaceA a 1 with
    | (_, some (_, why)) => (v, some why, s)
    | (bs, none) =>
      let (bs, s) := State.sourceBytes n noneExact c.cmd.spaceA a bs s
      State.gatherBits n i (k + 1) m (v + b2n ((bs.getD 0 0).getLsbD (i % 8)) * 2 ^ k) s

/-- Unslice `k` integers from integer `i` on. -/
def State.unsliceInts (n : Nat) (mix : Bool) :
    Nat → Nat → State → Nat × Option (AccFail × BitVec 3) × State
  | i, 0, s => (i, none, s)
  | i, k + 1, s =>
    let c := s.ctx n
    match State.gatherBits n i 0 c.cmd.bitsW 0 s with
    | (_, some why, s) => (i, some (why, 1), s)
    | (v, none, s) =>
      if c.cmd.skip then State.unsliceInts n mix (i + 1) k s
      else
        let v := if bit c.cmd.mod 2 then signExtN v c.cmd.bitsW (8 * c.cmd.width) else v
        match s.deliver n mix i c.cmd.width (leBytes c.cmd.width v) with
        | (s, some why) => (i, some (why, 2), s)
        | (s, none) => State.unsliceInts n mix (i + 1) k s

/-- UNSLICE (R100, R101, R148). -/
def execUnslice (ctx : Nat) (w : Wr) (s : State) : Res :=
  let c := s.ctx ctx
  let (i, f, s1) := State.unsliceInts ctx false c.xfer.off c.left s
  let s2 := if f.isSome && !c.cmd.skip then (State.unsliceInts ctx true (i + 1) (c.cmd.cnt - i - 1) s1).2.2 else s1
  whenB s (s.mayRun ctx (isOp 0xD)) "no UNSLICE may run" (s2.countedEnd ctx i f w)

end Sys2Proof.Machine
end

