-- ==== Sys2Proof/Machine/Sieve.lean ====
section
/-! DEFINITION. Records, SIEVE and SIEVE-MAP: cutting, judging, the output forms, deciding ordinals, piste maps and MAPCHECK
(04 R122 to R138, 03 R94 to R98). -/

namespace Sys2Proof.Machine

/-! ### Records (R122, R123) -/

/-- What stands at the front of a joined source. -/
inductive Cut where
  | partial_                  -- no whole record
  | badPrefix                 -- a PREFIX32 prefix above 16,777,216
  | record (pre len : Nat)    -- a record: bytes of its prefix, bytes of its data

/-- Cut one record. -/
def cutRecord (format reclen : Nat) (bs : List Byte) : Cut :=
  if format = 0 then (if bs.length < reclen then .partial_ else .record 0 reclen)
  else
    let pre := if format = 1 then 2 else 4
    if bs.length < pre then .partial_
    else
      let l := field bs 0 pre
      if 16777216 < l then .badPrefix else if bs.length < pre + l then .partial_ else .record pre l

/-- Program-check qualifiers of chapter 3, Table 03.6. -/
def qBudget : Byte := 0x60
def qTrap : Byte := 0x61
def qPrefix : Byte := 0x62
def qOrdinal : Byte := 0x63
def qKeyShort : Byte := 0x64

/-! ### Judging and the output forms (R96, R125, R128) -/

/-- Why record k fails: the program broke a rule, or a write of output failed; `octet`: the write held BITMAP byte j, so k is 8j. -/
inductive RecFail where
  | prog (qual : Byte)
  | write (why : AccFail) (octet : Bool)

/-- A judged program: the result of INIT, the handle, the budget. -/
structure Judge where
  init : Except Nat Core
  handle : Nat
  budget : Nat

/-- The judge of SIEVE's operand C, or of a range descriptor. -/
def State.judgeOf (s : State) (c : Ctx) : Judge :=
  if c.cmd.opn = 9 then
    { init := s.runInit (rangeHandle c.xfer.desc) (rangeParam c.xfer.desc), handle := rangeHandle c.xfer.desc,
      budget := rangeBudget c.xfer.desc }
  else
    { init := s.runInit (c.cmd.cf 0 16) (BitVec.ofNat 16 (c.cmd.cf 48 16)), handle := c.cmd.cf 0 16,
      budget := if c.cmd.cf 32 16 = 0 then 4096 else c.cmd.cf 32 16 }

/-- The output of a record in RECORDS form; none for a record that does not survive (Table 04.2). -/
def survivorBytes (verdict : Nat) (prefix_ data emitted : List Byte) : Option (List Byte) :=
  if verdict = 0 then none
  else if verdict = 1 then some (prefix_ ++ data)
  else some (leBytes prefix_.length emitted.length ++ emitted)

/-- The verdict on one record: the survivor's bytes, or the qualifier of the ending. -/
def State.verdictOf (s : State) (j : Judge) (ordinal : Nat) (prefix_ data : List Byte) : Except Byte (Option (List Byte)) :=
  match j.init with
  | .error v => .error (if v = 4 then qBudget else qTrap)
  | .ok c =>
    let (v, e) := s.judge j.handle c ordinal j.budget data
    if v = 3 then .error qTrap else if v = 4 then .error qBudget else .ok (survivorBytes v prefix_ data e)

/-- Count a survivor of a command that writes to memory. -/
def Ctx.survive (c : Ctx) (k : Int) : Ctx :=
  { c with xfer := { c.xfer with surv := (c.xfer.surv + k).toNat },
           r := { c.r with survivors := BitVec.ofInt 64 (c.r.survivors.toNat + k) } }

/-- Write output whole, or not at all (R129). -/
def State.writeWhole (s : State) (n space a : Nat) (bs : List Byte) : State × Option AccFail :=
  let me := (s.ctx n).me
  match s.writeFail me space a bs.length with
  | some (_, why) => (s, some why)
  | none => ((s.writeRange n me space a bs).1, none)

/-- The bit of record `x.ordinal` is put into the BITMAP byte being filled; `at_` is the record's place. -/
def State.bitmapBit (s : State) (n : Nat) (at_ : Nat × Nat) (hit : Bool) : State :=
  s.modCtx n fun c =>
    let x := c.xfer
    let fresh := decide (x.ordinal % 8 = 0)
    let old := if fresh then 0 else x.bits
    { c with xfer := { x with
        bits := old + (if hit then 2 ^ (x.ordinal % 8) else 0)
        octMember := if fresh then at_.1 else x.octMember
        octOff := if fresh then at_.2 else x.octOff } }

/-- Survivors in the BITMAP byte being filled. -/
def Xfer.octSurvivors (x : Xfer) : Nat := countP (fun i => bit x.bits i) (List.range 8)

/-- The next record. -/
def State.nextOrdinal (s : State) (n : Nat) : State :=
  s.modCtx n fun c => { c with xfer := { c.xfer with ordinal := c.xfer.ordinal + 1 } }

/-- Record `x.ordinal` has been judged: its output is written, and the next ordinal comes. A failure leaves the ordinal. -/
def State.output (s : State) (n : Nat) (at_ : Nat × Nat) (out : Option (List Byte)) : State × Option RecFail :=
  let c := s.ctx n
  let x := c.xfer
  if c.cmd.producer then
    ((match out with | none => s | some bs => s.produce n bs true).nextOrdinal n, none)
  else if c.cmd.form = 1 then
    let s := s.bitmapBit n at_ out.isSome
    let s := if out.isSome then s.modCtx n fun c => c.survive 1 else s
    if x.ordinal % 8 = 7 then
      match s.writeWhole n c.cmd.spaceB (c.cmd.cb + x.ordinal / 8) [BitVec.ofNat 8 (s.ctx n).xfer.bits] with
      | (s, some why) => (s, some (.write why true))
      | (s, none) => (s.nextOrdinal n, none)
    else (s.nextOrdinal n, none)
  else match out with
    | none => (s.nextOrdinal n, none)
    | some bs =>
      if c.cmd.form = 3 then ((s.modCtx n fun c => c.survive 1).nextOrdinal n, none)
      else if c.cmd.form = 2 ∧ 0x100000000 ≤ x.ordinal then (s, some (.prog qOrdinal))
      else
        let bs := if c.cmd.form = 2 then leBytes 4 x.ordinal else bs
        match s.writeWhole n c.cmd.spaceB (c.cmd.cb + x.outPos) bs with
        | (s, some why) => (s, some (.write why false))
        | (s, none) => ((s.modCtx n fun c =>
            { (c.survive 1) with xfer := { (c.survive 1).xfer with outPos := x.outPos + bs.length } }).nextOrdinal n, none)

/-! ### The end of a SIEVE chain (R128, R129) -/

/-- The first member whose bytes stand in the joined source. -/
def Ctx.firstMember (c : Ctx) : Nat :=
  (firstFrom (fun i => match c.xfer.members[i]? with
    | none => false
    | some m => !m.cmd.skip && decide (m.cmd.cnt ≠ 0)) 0 c.xfer.members.length).getD 0

/-- Nothing of the chain's output remains to be written. -/
def State.tailDone (s : State) (n : Nat) : State :=
  s.modCtx n fun c => { c with xfer := { c.xfer with begun := false } }

/-- A write of BITMAP byte j failed: record 8j decides (R128). -/
def State.octetFail (s : State) (n : Nat) (why : AccFail) (w : Wr) : State :=
  let c := s.ctx n
  let x := c.xfer
  let m := c.memberAt x.octMember
  let s := s.modCtx n fun c => c.survive (-(x.octSurvivors : Int))
  (s.tailDone n).dataFail n m (failEnding why).1 (failEnding why).2 2 (m.cmd.cnt - x.octOff) w

/-- A write of the COUNT value failed: record 0 decides (R128). -/
def State.countFail (s : State) (n : Nat) (why : AccFail) (w : Wr) : State :=
  let c := s.ctx n
  let m := c.memberAt c.firstMember
  let s := s.modCtx n fun c => c.survive (-(c.xfer.surv : Int))
  (s.tailDone n).dataFail n m (failEnding why).1 (failEnding why).2 2 m.cmd.cnt w

/-- Output waits for the chain's end: a BITMAP byte being filled, or the COUNT value (R129). -/
def Ctx.tailWaits (c : Ctx) : Bool :=
  c.xfer.begun && decide (c.cmd.spaceB ≠ 3) && (decide (c.cmd.form = 3) || (decide (c.cmd.form = 1) && decide (c.xfer.ordinal % 8 ≠ 0)))

/-- The output that waits for the chain's end is written; its failure decides the ending (R128), otherwise `go` goes on. -/
def State.closeSieve (s : State) (n : Nat) (w : Wr) (go : State → State) : State :=
  match s.sieveTail n with
  | (s, none) => go (s.tailDone n)
  | (s, some (_, why)) => if (s.ctx n).cmd.form = 3 then s.countFail n why w else s.octetFail n why w

/-- Record k at a member's offset fails the command (R97, R128). -/
def State.recordFail (s : State) (n mi off : Nat) (dev qual : Byte) (operand : BitVec 3) (w : Wr) : State :=
  let m := (s.ctx n).memberAt mi
  s.closeSieve n w fun s => s.dataFail n m dev qual operand (m.cmd.cnt - off) w

/-- A record fails for the reason that its judging or its output gave. -/
def State.recFail (s : State) (n mi off : Nat) (f : RecFail) (w : Wr) : State :=
  match f with
  | .prog q => s.recordFail n mi off deProgram q 0 w
  | .write why true => s.octetFail n why w
  | .write why false => s.recordFail n mi off (failEnding why).1 (failEnding why).2 2 w

/-- The chain of a SIEVE, or a SIEVE-MAP, ends with a member: what waits is written, then the member ends (R96, R129). The
conditions take the survivors of this command. -/
def State.sieveEnd (s : State) (n residual : Nat) (mis : Option Byte) (progress : Bool) (w : Wr) : State :=
  let c := s.ctx n
  let ends := !c.cmd.cont || mis.isSome
  if !ends then s.endMember n residual mis progress w
  else
  let progress := progress || c.tailWaits
  if mis.isSome && !c.cmd.lenok then s.closeSieve n w fun s => s.endMember n residual mis progress w
  else s.closeSieve n w fun s =>
    let s := if c.cmd.producer then s
      else s.modCtx n fun c => { c with grp := { c.grp with sieves := false, lastSurv := some c.xfer.surv } }
    s.endMember n residual mis progress w

/-! ### SIEVE (R94 to R97) -/

/-- The output of a SIEVE or SIEVE-MAP is exact where B lies at or below A, but for INDEX form and for what a report area holds
(Table 04.17). -/
def Ctx.exactAt (c : Ctx) (a : Nat) : Bool :=
  decide (c.cmd.form ≠ 2) && decide (c.cmd.cb ≤ c.cmd.ca) &&
  match (if c.cmd.opn = 9 then reportArea c.xfer.desc else none) with
  | none => true
  | some (sp, r) => decide (sp ≠ c.cmd.spaceA) || decide (a < r)

/-- Judge records from position `p` on: answers the position of the first record not done, and its failure. -/
def State.sieveLoop (n format reclen : Nat) (j : Judge) : Nat → List Byte → Nat → State → Nat × Option RecFail × State
  | 0, _, p, s => (p, none, s)
  | fuel + 1, bs, p, s =>
    let (bs, s) := s.recordBytes n (s.ctx n).exactAt format reclen p bs
    match cutRecord format reclen bs with
    | .partial_ => (p, none, s)
    | .badPrefix => (p, some (.prog qPrefix), s)
    | .record pre len =>
      let c := s.ctx n
      match s.verdictOf j c.xfer.ordinal (bs.take pre) ((bs.drop pre).take len) with
      | .error q => (p, some (.prog q), s)
      | .ok out =>
        match s.output n (c.unitAt p) out with
        | (s, some f) => (p, some f, s)
        | (s, none) => State.sieveLoop n format reclen j fuel (bs.drop (pre + len)) (p + pre + len) s

/-- A member with bytes that are judged: the chain's output has begun (R51, R81). -/
def State.sieveBegins (s : State) (n : Nat) : State :=
  s.modCtx n fun c => if c.cmd.cnt = 0 then c else { c with xfer := { c.xfer with begun := true } }

/-- A SIEVE member without SKIP. -/
def State.sieveMember (s : State) (n : Nat) (w : Wr) : State :=
  let s := s.sieveBegins n
  let c := s.ctx n
  let j := s.judgeOf c
  let (bs, f) := s.input n
  let all := c.xfer.part ++ bs
  let (p, why, s) := State.sieveLoop n c.cmd.format (c.cmd.cf 16 13) j all.length all 0 s
  let (mi, off) := (s.ctx n).unitAt p
  match why, f with
  | some why, _ => (s.acceptTo n p).recFail n mi off why w
  | none, some (_, why) => (s.acceptTo n p).recordFail n mi off (failEnding why).1 (failEnding why).2 1 w
  | none, none =>
    let (s, residual, mis) := s.unitsTaken n all p bs.length
    s.sieveEnd n residual mis (decide (bs.length ≠ 0)) w

/-- SIEVE (R94): one member. -/
def execSieve (ctx : Nat) (w : Wr) (s : State) : Res :=
  whenB s (s.mayRun ctx (isOp 8)) "no SIEVE may run"
    (if (s.ctx ctx).cmd.skip then s.skipGathered ctx w fun s k mis prog => s.sieveEnd ctx k mis prog w
     else s.sieveMember ctx w)

/-! ### Piste maps (R130, R135) -/

/-- Fields of a map entry (Table 04.5). -/
def entryRows (e : List Byte) : Nat := field e 0 4
def entryNoSkip (e : List Byte) : Bool := bit (byteAt e 4) 0
def entryGen (e : List Byte) : Nat := field e 4 4 / 2
def entryMin (e : List Byte) (c : Nat) : W64 := BitVec.ofNat 64 (field e (8 + 24 * c) 8)
def entryMax (e : List Byte) (c : Nat) : W64 := BitVec.ofNat 64 (field e (16 + 24 * c) 8)
/-- NULLS, at most ROWS (R130). -/
def entryNulls (e : List Byte) (c : Nat) : Nat := min (field e (24 + 24 * c) 8) (entryRows e)

/-- A binary64 value is a NaN. -/
def isNan (x : W64) : Bool := decide (0x7FF0000000000000 < x.toNat % 2 ^ 63)

/-- The order of binary64 values that are not NaN, as integers; the two zeros are equal. -/
def floatKey (x : W64) : Int := if x.msb then -((x.toNat % 2 ^ 63 : Nat) : Int) else (x.toNat : Int)

/-- less of R135. -/
def keyLess (type : Nat) (x y : W64) : Bool :=
  if type = 0 then decide (x.toNat < y.toNat)
  else if type = 1 then decide (x.toInt < y.toInt)
  else !isNan x && !isNan y && decide (floatKey x < floatKey y)

/-- A run may hold a record that satisfies a term (R135). -/
def termPossible (e : List Byte) (t : Term) : Bool :=
  let rows := entryRows e
  let nulls := entryNulls e t.column
  (decide (nulls < rows) && !keyLess t.type t.hi (entryMin e t.column) && !keyLess t.type (entryMax e t.column) t.lo) ||
  (decide (0 < nulls) && t.nullsPass)

/-- decide of R135: true for READ. -/
def decideRun (ts : List Term) (e : List Byte) : Bool := entryNoSkip e || ts.all (termPossible e)

/-- Runs of a SIEVE-MAP, bytes of a run, size and address of an entry. -/
def Xfer.runSize (x : Xfer) : Nat := 2 ^ byteAt x.maph 1
def Ctx.runCount (c : Ctx) : Nat := c.cmd.cnt / c.xfer.runSize
def Xfer.entrySize (x : Xfer) : Nat := 8 + 24 * byteAt x.maph 0
def Xfer.entryAddr (x : Xfer) (run : Nat) : Nat := field x.maph 8 8 + (rangeFirst x.desc + run) * x.entrySize

/-- MAP_ENTRY_READ_COMPLETE (R135): the next run's entry arrives and the run is decided, or its read failed. -/
def execMapEntryReadComplete (ctx : Nat) (s : State) : Res :=
  let c := s.ctx ctx
  let x := c.xfer
  let (e, f) := s.readRange c.me (field x.desc 0 8 % 4) (x.entryAddr x.runs.length) x.entrySize
  whenB s (s.mayRun ctx (isOp 9) && decide (x.runs.length < c.runCount) && x.mapFail.isNone) "no map entry is awaited"
    (match f with
     | some (_, why) => s.modCtx ctx fun c => { c with xfer := { c.xfer with mapFail := some why }, fails := [] }
     | none => s.modCtx ctx fun c => { c with
         xfer := { c.xfer with runs := c.xfer.runs ++ [{ entry := e, read := decideRun (termsOf x.desc) e }] }
         fails := [] })

/-! ### SIEVE-MAP (R98, R133, R134, R136) -/

/-- How a run ended. -/
inductive RunEnd where
  | done (s : State)
  | failed (s : State) (off : Nat) (f : RecFail)             -- record at this offset of the run
  | source (s : State) (off : Nat) (why : AccFail)
  | overrun (s : State) (off : Nat)                          -- a record does not end within the run (R134)
  | report (s : State) (why : AccFail)                       -- a failed report access

/-- Judge the records of a run that is read: `rows` records from offset `off` on, in the bytes that could be read. -/
def State.judgeRun (n format reclen size base : Nat) (j : Judge) (f : Option AccFail) :
    Nat → Nat → List Byte → State → RunEnd
  | 0, _, _, s => .done s
  | rows + 1, off, bs, s =>
    let (bs, s) := s.recordBytes n (s.ctx n).exactAt format reclen (base + off) bs
    match cutRecord format reclen bs with
    | .badPrefix => .failed s off (.prog qPrefix)
    | .partial_ =>
      (match f with
       | some why =>
         -- the record may lie in the run, or its prefix may already say that it does not
         let pre := if format = 1 then 2 else 4
         if format = 0 then (if size < off + reclen then .overrun s off else .source s off why)
         else if pre ≤ bs.length ∧ size < off + pre + field bs 0 pre then .overrun s off
         else .source s off why
       | none => .overrun s off)
    | .record pre len =>
      let c := s.ctx n
      match s.verdictOf j c.xfer.ordinal (bs.take pre) ((bs.drop pre).take len) with
      | .error q => .failed s off (.prog q)
      | .ok out =>
        match s.output n (0, base + off) out with
        | (s, some f) => .failed s off f
        | (s, none) => State.judgeRun n format reclen size base j f rows (off + pre + len) (bs.drop (pre + len)) s

/-- BITMAP bits of records of a skipped run, which are 0. The place of a record is known in FIXED format, `step` its length; in a
prefixed format it counts as the run's first byte (log 24). -/
def State.skipBits (n step : Nat) : Nat → Nat → State → State × Option AccFail
  | 0, _, s => (s, none)
  | rows + 1, at_, s =>
    match s.output n (0, at_) none with
    | (s, some (.write why _)) => (s, some why)
    | (s, some (.prog _)) => (s, none)
    | (s, none) => State.skipBits n step rows (at_ + step) s

/-- The records of a skipped run yield no survivors (R98). Answers the failure of a write. -/
def State.skipRows (n step rows at_ : Nat) (s : State) : State × Option AccFail :=
  let c := s.ctx n
  if !c.cmd.producer && decide (c.cmd.form = 1) then State.skipBits n step rows at_ s
  else (s.modCtx n fun c => { c with xfer := { c.xfer with ordinal := c.xfer.ordinal + rows } }, none)

/-- Records of a run that are read without being judged: offsets, ordinals and data of the whole records; then the offset of the
first that is not whole, if any (R136, R137). -/
def runRecords (format reclen : Nat) : Nat → Nat → List Byte → List (List Byte) × Option Nat
  | 0, _, _ => ([], none)
  | rows + 1, off, bs =>
    match cutRecord format reclen bs with
    | .record pre len =>
      let (rs, o) := runRecords format reclen rows (off + pre + len) (bs.drop (pre + len))
      ((bs.drop pre).take len :: rs, o)
    | _ => ([], some off)

/-! ### MAPCHECK (R137, R138) -/

/-- The key of a term in a record's data; none when it is null. -/
def termKey (t : Term) (data : List Byte) : Option W64 :=
  if data.length < t.koff + t.klen then none
  else if t.hasNull && (decide (data.length ≤ t.nullPos) || bit (byteAt data t.nullPos) t.nullBit) then none
  else
    let k := field data t.koff t.klen
    some (BitVec.ofNat 64 (if t.type = 1 then signExtN k (8 * t.klen) 64 else k))

/-- A record satisfies a term (R131). -/
def termHolds (t : Term) (data : List Byte) : Bool :=
  match termKey t data with
  | none => t.nullsPass
  | some k => !keyLess t.type k t.lo && !keyLess t.type t.hi k && !(decide (t.type = 2) && (isNan k || isNan t.lo || isNan t.hi))

/-- A disagreement: ordinal within the run, key, kind, term (Table 04.8). -/
structure Disagree where
  rel : Nat
  key : W64
  kind : Nat
  term : Nat

/-- The key lies outside the entry's range. -/
def keyOutside (e : List Byte) (t : Term) (data : List Byte) : Option W64 :=
  match termKey t data with
  | none => none
  | some k => if keyLess t.type k (entryMin e t.column) || keyLess t.type (entryMax e t.column) k then some k else none

/-- The disagreements of a skipped run, one a kind, in the order of the kinds (R137, R138). `over` is true when its records
overrun the run. -/
def disagreements (ts : List Term) (e : List Byte) (rs : List (List Byte)) (past : Bool) : List Disagree :=
  let idx := List.range rs.length
  let inRange := (idx.find? fun i => ts.all fun t => termHolds t (rs.getD i [])).map fun i =>
    ({ rel := i, key := (((ts.head?).bind fun t => termKey t (rs.getD i [])).getD 0), kind := 1, term := 0 } : Disagree)
  let outside := idx.findSome? fun i =>
    (List.range ts.length).findSome? fun k => ((ts[k]?).bind fun t => keyOutside e t (rs.getD i [])).map fun key =>
      ({ rel := i, key := key, kind := 2, term := k } : Disagree)
  let nulls := (List.range ts.length).findSome? fun k => (ts[k]?).bind fun t =>
    let found := countP (fun d => (termKey t d).isNone) rs
    if t.hasNull && decide (found ≠ entryNulls e t.column) then
      some ({ rel := 0, key := BitVec.ofNat 64 found, kind := 3, term := k } : Disagree) else none
  let rows : Option Disagree := if past then some { rel := rs.length, key := 0, kind := 4, term := 0 } else none
  inRange.toList ++ outside.toList ++ (if past then [] else nulls.toList) ++ rows.toList

/-- The 32 bytes of a report record (Table 04.10). -/
def Disagree.bytes (d : Disagree) (first run gen : Nat) : List Byte :=
  leBytes 8 (first + d.rel) ++ leBytes 8 d.key.toNat ++ leBytes 4 run ++ [BitVec.ofNat 8 d.kind, BitVec.ofNat 8 d.term, 0, 0] ++
  leBytes 4 gen ++ zeros 4

/-- Report one disagreement: a record while the area has a free slot (R138). It counts in DISAGREE whether its record is written or
not. -/
def State.reportOne (s : State) (n first run gen : Nat) (d : Disagree) : State × Option AccFail :=
  let c := s.ctx n
  let x := c.xfer
  match reportArea x.desc with
  | none => (s, none)
  | some (sp, a) =>
    let s := s.modCtx n fun c => { c with xfer := { c.xfer with disagree := x.disagree + 1 } }
    match s.readRange c.me sp a 4 with
    | (_, some (_, why)) => (s, some why)
    | (cap, none) =>
      if x.written < leVal cap then
        match s.writeWhole n sp (a + 32 + 32 * x.written) (d.bytes first run gen) with
        | (s, some why) => (s, some why)
        | (s, none) => (s.modCtx n fun c => { c with xfer := { c.xfer with written := x.written + 1 } }, none)
      else (s, none)

/-- Report the disagreements of a run; those after a failed report access count as found, too. -/
def State.reportAll (n first run gen : Nat) : List Disagree → State → State × Option AccFail
  | [], s => (s, none)
  | d :: ds, s =>
    match s.reportOne n first run gen d with
    | (s, some why) => (s.modCtx n fun c => { c with xfer := { c.xfer with disagree := c.xfer.disagree + ds.length } }, some why)
    | (s, none) => State.reportAll n first run gen ds s

/-- A run that is read without being judged: under SKIP, or under MAPCHECK (R136, R137). -/
def State.passRun (s : State) (n i : Nat) (d : RunDec) (bs : List Byte) (f : Option AccFail) (format reclen : Nat) : RunEnd :=
  let c := s.ctx n
  let size := c.xfer.runSize
  let rows := entryRows d.entry
  let (bs, s) := s.unitBytes n c.exactAt (i * size) bs
  let (rs, stop) := runRecords format reclen rows 0 bs
  let past := match stop, f with
    | none, _ => false
    | some _, none => true
    | some o, some _ =>
      let pre := if format = 1 then 2 else 4
      let rest := bs.drop o
      if format = 0 then decide (size < o + reclen)
      else decide (pre ≤ rest.length) && decide (size < o + pre + field rest 0 pre)
  let step := if format = 0 then reclen else 0
  match stop, f, past with
  | some o, some why, false =>
    if c.cmd.skip then .source s o why
    else (match State.skipRows n step rs.length (i * size) s with
      | (s, some why) => .failed s 0 (.write why true)
      | (s, none) => .source s o why)
  | _, _, _ =>
    if c.cmd.skip then .done s
    else
      let first := c.xfer.ordinal
      match State.reportAll n first (rangeFirst c.xfer.desc + i) (entryGen d.entry)
          (disagreements (termsOf c.xfer.desc) d.entry rs past) s with
      | (s, some why) => .report s why
      | (s, none) => match State.skipRows n step rows (i * size) s with
        | (s, some why) => .failed s 0 (.write why true)
        | (s, none) => .done s

/-- One decided run of a SIEVE-MAP. -/
def State.mapRun (s : State) (n i : Nat) (d : RunDec) (j : Judge) : RunEnd :=
  let c := s.ctx n
  let x := c.xfer
  let size := x.runSize
  let format := c.cmd.format
  let reclen := rangeRecLen x.desc
  let a := c.cmd.ca + i * size
  let (bs, f) := s.readRange c.me c.cmd.spaceA a size
  let f := f.map Prod.snd
  if c.cmd.skip then s.passRun n i d bs f format reclen
  else if d.read then
    State.judgeRun n format reclen size (i * size) j f (entryRows d.entry) 0 bs s
  else if bit c.cmd.mod 4 then s.passRun n i d bs f format reclen
  else match State.skipRows n (if format = 0 then reclen else 0) (entryRows d.entry) (i * size) s with
    | (s, some why) => .failed s 0 (.write why true)
    | (s, none) => .done s

/-- Runs up to run `i` count as decided. -/
def State.runsTo (s : State) (n i : Nat) : State :=
  s.modCtx n fun c => { c with xfer := { c.xfer with runs := c.xfer.runs.take i } }

/-- The end of a SIEVE-MAP: what waits is written, then the report header, then the command ends (R96, R138). -/
def State.mapEnd (s : State) (n residual : Nat) (mis : Option Byte) (w : Wr) : State :=
  let c := s.ctx n
  s.closeSieve n w fun s =>
    if mis.isSome && !c.cmd.lenok then s.endMember n residual mis true w
    else match s.reportHeader n with
    | (s, some (_, why)) => s.dataFail n c.member (failEnding why).1 (failEnding why).2 3 residual w
    | (s, none) =>
      let s := if c.cmd.producer then s
        else s.modCtx n fun c => { c with grp := { c.grp with sieves := false, lastSurv := some c.xfer.surv } }
      s.endMember n residual mis (decide (c.cmd.cnt ≠ 0)) w

/-- A SIEVE-MAP fails at a byte of its source (R128, R138): RESIDUAL counts from that byte. -/
def State.mapFailAt (s : State) (n pos : Nat) (dev qual : Byte) (operand : BitVec 3) (w : Wr) : State :=
  let c := s.ctx n
  s.closeSieve n w fun s => s.dataFail n c.member dev qual operand (c.cmd.cnt - pos) w

/-- The runs of a SIEVE-MAP from run `i` on. -/
def State.mapRuns (n : Nat) (j : Judge) (w : Wr) : Nat → List RunDec → State → State
  | i, [], s =>
    let c := s.ctx n
    (match c.xfer.mapFail with
     | some why => s.mapFailAt n (i * c.xfer.runSize) (failEnding why).1 (failEnding why).2 3 w
     | none => s.mapEnd n 0 none w)
  | i, d :: ds, s =>
    let size := (s.ctx n).xfer.runSize
    match s.mapRun n i d j with
    | .done s => State.mapRuns n j w (i + 1) ds s
    | .failed s off (.prog q) => (s.runsTo n (i + 1)).mapFailAt n (i * size + off) deProgram q 0 w
    | .failed s _ (.write why true) => (s.runsTo n (i + 1)).octetFail n why w
    | .failed s off (.write why false) =>
      (s.runsTo n (i + 1)).mapFailAt n (i * size + off) (failEnding why).1 (failEnding why).2 2 w
    | .source s off why => (s.runsTo n (i + 1)).mapFailAt n (i * size + off) (failEnding why).1 (failEnding why).2 1 w
    | .report s why => (s.runsTo n (i + 1)).mapFailAt n ((i + 1) * size) (failEnding why).1 (failEnding why).2 3 w
    | .overrun s off => (s.runsTo n (i + 1)).mapEnd n ((s.ctx n).cmd.cnt - (i * size + off)) (some 3) w

/-- SIEVE_MAP (R98): every run has been decided, or the read of an entry has failed. Runs that were done before a migration interrupted the
command are not judged again (05 R173). -/
def execSieveMap (ctx : Nat) (w : Wr) (s : State) : Res :=
  let c := s.ctx ctx
  let s0 := if c.cmd.skip then s else s.sieveBegins ctx
  whenB s (s.mayRun ctx (isOp 9) && (decide (c.runCount ≤ c.xfer.runs.length) || c.xfer.mapFail.isSome)) "no SIEVE_MAP may run"
    (let i := c.xfer.off / c.xfer.runSize
     State.mapRuns ctx (s.judgeOf c) w i (c.xfer.runs.drop i) s0)

end Sys2Proof.Machine
end

