-- ==== Sys2Proof/Machine/Fold.lean ====
section
/-! DEFINITION. FOLD: buckets, placement, overflow suspension (04 R139 to R145, 03 R102, R103). -/

namespace Sys2Proof.Machine

/-- Fields of FOLD's operand C (Table 03.14). -/
def Cmd.foldReclen (c : Cmd) : Nat := c.cf 0 13
def Cmd.foldLogb (c : Cmd) : Nat := c.cf 16 4
def Cmd.foldKoff (c : Cmd) : Nat := c.cf 24 12
def Cmd.foldKl (c : Cmd) : Nat := c.cf 36 6 + 1
def Cmd.foldShift (c : Cmd) : Nat := c.cf 42 6

/-- The bucket of a key (R141). -/
def foldBucket (c : Cmd) (key : List Byte) : Nat :=
  let b := c.foldLogb
  if bits c.mod 0 2 = 0 then (if b = 0 then 0 else (th64 key 0).toNat / 2 ^ (64 - b))
  else leVal (key.take 8) / 2 ^ c.foldShift % 2 ^ b

/-- Why placing stops at record r: a check, a failed write whose lowest record is the one given, or a full bucket. -/
inductive FoldStop where
  | prog (qual : Byte)
  | write (x : Placed) (why : AccFail)
  | full (k len : Nat)

/-- The bucket after a record of `len` bytes. -/
def Bucket.take (b : Bucket) (len : Nat) : Bucket := { b with fill := b.fill + len, records := b.records + 1 }

/-- Bucket `k` of the chain. -/
def Xfer.bucket (x : Xfer) (k : Nat) : Bucket := (x.buckets[k]?).getD { base := 0, cap := 0, fill := 0 }

/-- A record is placed: it stands in its bucket's buffer, or, when it has been written, in the region. -/
def Xfer.place (x : Xfer) (e : Placed) : Xfer :=
  { x with
    placing := prunePlaced (x.placing ++ [e])
    buckets := x.buckets.set e.bucket ((x.bucket e.bucket).take e.bytes.length)
    ordinal := x.ordinal + 1 }

/-- Place the record that begins at position `p` in bucket `k` (R142): a buffer that cannot take it is flushed first, and a record
longer than a buffer is written directly. -/
def State.foldPlace (s : State) (n k p : Nat) (rec_ : List Byte) : State × Option (Placed × AccFail) :=
  let c := s.ctx n
  let q := c.cmd.bufBytes
  let b := c.xfer.bucket k
  let (mi, off) := c.unitAt p
  let e : Placed := { ord := c.xfer.ordinal, bucket := k, addr := b.base + b.fill, bytes := rec_, member := mi, off := off, kept := false }
  let used := ((c.xfer.buffered k).flatMap Placed.bytes).length
  let (s, f) := if q < used + rec_.length then s.flushBucket n k else (s, none)
  match f with
  | some f => (s, some f)
  | none =>
    if q < rec_.length then
      match s.writeRange n c.me c.xfer.rspace e.addr rec_ with
      | (s, some (_, why)) => (s, some (e, why))
      | (s, none) => (s.modCtx n fun c => { c with xfer := c.xfer.place { e with kept := true } }, none)
    else
      let at_ := c.bufAt k + (if q < used + rec_.length then 0 else used)
      ((s.modBlock (s.workBlock n) fun b => b.sramPut at_ rec_).modCtx n fun c =>
        { c with xfer := c.xfer.place e }, none)

/-- The bucket and the bytes of the first record. -/
inductive FoldCut where
  | none_
  | prog (qual : Byte)
  | rec_ (k : Nat) (bs : List Byte)

/-- Cut the first record and compute its bucket (R141). -/
def foldCut (c : Cmd) (bs : List Byte) : FoldCut :=
  match cutRecord c.format c.foldReclen bs with
  | .partial_ => .none_
  | .badPrefix => .prog qPrefix
  | .record pre len =>
    if len < c.foldKoff + c.foldKl then .prog qKeyShort
    else .rec_ (foldBucket c ((((bs.drop pre).take len).drop c.foldKoff).take c.foldKl)) (bs.take (pre + len))

/-- Place records from position `p` on: answers the position of the first record that is not placed, and why. -/
def State.foldLoop (n : Nat) : Nat → List Byte → Nat → State → Nat × Option FoldStop × State
  | 0, _, p, s => (p, none, s)
  | fuel + 1, bs, p, s =>
    let c := s.ctx n
    let (bs, s) := s.recordBytes n noneExact c.cmd.format c.cmd.foldReclen p bs
    match foldCut c.cmd bs with
    | .none_ => (p, none, s)
    | .prog q => (p, some (.prog q), s)
    | .rec_ k r =>
      let b := c.xfer.bucket k
      if b.cap < b.fill + r.length then (p, some (.full k r.length), s)
      else match s.foldPlace n k p r with
        | (s, some (x, why)) => (p, some (.write x why), s)
        | (s, none) => State.foldLoop n fuel (bs.drop r.length) (p + r.length) s

/-- Bytes of the record that was not placed, and of later records, may have been written (R142): the buckets given stand for the
places that they would take. -/
def State.foldMix (n : Nat) : Nat → List Bucket → List Byte → State → State
  | 0, _, _, s => s
  | fuel + 1, bks, bs, s =>
    let c := s.ctx n
    match foldCut c.cmd bs with
    | .rec_ k r =>
      let b := (bks[k]?).getD { base := 0, cap := 0, fill := 0 }
      if b.cap < b.fill + r.length then s
      else State.foldMix n fuel (bks.set k (b.take r.length)) (bs.drop r.length)
        (State.mixOut n c.xfer.rspace c.me (b.base + b.fill) r s)
    | _ => s

/-- A region write failed (R140): the records below the lowest failing one are flushed and counted, the rest is not placed. Before
it the stream has given what the placed records took and `back`; the records not placed were not accepted (R103). -/
def State.foldFail (s : State) (n : Nat) (x : Placed) (why : AccFail) (back rest : List Byte) (w : Wr) : State :=
  let c := s.ctx n
  let s := State.foldMix n (rest.length + 1) c.xfer.buckets rest s
  let (f, s) := State.foldSettle n (c.xfer.placing.length + 1) (some (x, why)) s
  let (x, why) := f.getD (x, why)
  let gone := ((c.xfer.placing.filter fun p => decide (x.ord ≤ p.ord)).flatMap Placed.bytes) ++ back
  let s := if c.cmd.consumer then s.giveBack n gone else s
  let m := c.memberAt x.member
  s.dataFail n m (failEnding why).1 (failEnding why).2 2 (m.cmd.cnt - x.off) w

/-- Bucket `k` when the records from ordinal `r` on count as not placed: those that the model still lists leave it exactly, and of the
earlier ones a free number (R140). -/
def State.dropFrom (s : State) (n r k : Nat) (b : Bucket) : Bucket × State :=
  let c := s.ctx n
  let x := c.xfer
  let gone := x.placing.filter fun p => decide (p.bucket = k) && decide (r ≤ p.ord)
  let b := { b with fill := b.fill - (gone.flatMap Placed.bytes).length, records := b.records - gone.length }
  let older := match x.placing.head? with | some p => p.ord - r | none => x.ordinal - r
  let (v, s) := s.drawWord
  let (u, s) := s.drawWord
  let j := v.toNat % (min older b.records + 1)
  if j = 0 then (b, s)
  else if c.cmd.format = 0 then ({ b with fill := b.fill - j * c.cmd.foldReclen, records := b.records - j }, s)
  else ({ b with fill := b.fill - (j + u.toNat % (b.fill + 1 - j)), records := b.records - j }, s)

/-- Every bucket from number `k` on. -/
def State.dropAll (n r : Nat) : Nat → List Bucket → State → List Bucket × State
  | _, [], s => ([], s)
  | k, b :: bs, s =>
    let (b, s) := s.dropFrom n r k b
    let (bs, s) := State.dropAll n r (k + 1) bs s
    (b :: bs, s)

/-- The records from a free ordinal on count as not placed, because writes that carried them are not known to have arrived (R140, 10
R321); answers the first of them when the model still lists it. -/
def State.dropPlaced (s : State) (n : Nat) : Option Placed × State :=
  let x := (s.ctx n).xfer
  let (v, s) := s.drawWord
  let r := x.ordinal - v.toNat % (x.ordinal + 1)
  let (bs, s) := State.dropAll n r 0 x.buckets s
  (x.placing.find? fun p => decide (p.ord = r),
   s.modCtx n fun c => { c with xfer := { c.xfer with
     buckets := bs, placing := c.xfer.placing.filter (fun p => decide (p.ord < r)), ordinal := r } })

/-- The context is HELD by an overflow (Table 04.13 steps 5, 6). -/
def State.overflowHeld (s : State) (n : Nat) (w : Wr) : State :=
  let s := s.modCtx n fun c => { c with
    phase := if c.cmd.consumer then .paused else .none
    goal := .none
    fails := []
    r := { c.r with state := stHeld, qual := 0x12 } }
  let c := s.ctx n
  let s := match s.boundRing n with
    | none => s
    | some i =>
      ((s.queueUp n).modCtx n fun x => { x with owed := x.owed ++ [c.r] }).postOwed n i w
  s.nowHeld n w

/-- Record r, at a member's offset, does not fit (R144): the table is written and the context waits for its writes. -/
def State.foldSuspend (s : State) (n mi off k len : Nat) (placed : Bool) (w : Wr) : State :=
  let c := s.ctx n
  let m := c.memberAt mi
  match s.foldTable n k len c.xfer.placed with
  | (s, some (_, why)) => s.dataFail n m (failEnding why).1 (failEnding why).2 2 (m.cmd.cnt - off) w
  | (s, none) =>
    let s := s.modCtx n fun c => { c with
      pc := m.addr
      cmd := m.cmd
      chain := decide (0 < mi)
      join := decide (mi = 0) && m.cmd.consumer
      grp := { c.grp with count := if mi = 0 && m.cmd.consumer then c.grp.count - 1 else c.grp.count }
      xfer := { c.xfer with members := c.xfer.members.take mi, expect := some m.cmd, off := off, part := [] }
      r := { c.r with
        lastCmd := m.addr
        lastSpace := c.space
        residual := BitVec.ofNat 32 (m.cmd.cnt - off)
        noprog := if placed then 0 else c.r.noprog + 1
        chan := (c.r.chan &&& 0xF9) ||| (if m.cmd.cont then 2 else 0) ||| (if m.cmd.consumer then 4 else 0) } }
    if (s.ctx n).dirty.isEmpty then s.overflowHeld n w else s.modCtx n fun c => { c with phase := .arrive, goal := .overflow }

/-- A FOLD member ends. At the chain's end, and at the end of a member with MARK (02 R53), the buffers are flushed; at the chain's end
the table is written, then the member ends (R140, R142). -/
def State.foldEnd (s : State) (n residual : Nat) (mis : Option Byte) (progress : Bool) (w : Wr) : State :=
  let c := s.ctx n
  let ends := !c.cmd.cont || mis.isSome
  let (f, s) := if ends || c.cmd.mark then s.foldFlush n else (none, s)
  match f with
  | some (x, why) => s.foldFail n x why c.xfer.part [] w
  | none =>
  if !ends || (mis.isSome && !c.cmd.lenok) then s.endMember n residual mis progress w
  else match s.foldTable n noBucket 0 noOrdinal with
    | (s, some (_, why)) => s.dataFail n c.member (failEnding why).1 (failEnding why).2 2 residual w
    | (s, none) => s.endMember n residual mis (progress || c.xfer.begun) w

/-- The fold cell of a chain whose buffers are empty: the lower-numbered one of its block that is live and serves no other chain
(04 R143, 05 R169, log 156). -/
def State.takeCell (s : State) (n : Nat) : State :=
  let c := s.ctx n
  if !c.xfer.placing.isEmpty then s
  else
    let b := s.workBlock n
    let others := ((s.ctxsAt b).filter fun k => decide (k ≠ n) && (s.ctx k).usesCell).map fun k => (s.ctx k).xfer.fd
    let open_ := fun i => !(s.block b).retired.getLsbD (13 + i) && !others.contains i
    let same := c.chain && open_ c.xfer.fd
    s.modCtx n fun c => { c with xfer := { c.xfer with fd := if same then c.xfer.fd else if open_ 0 then 0 else 1 } }

/-- A FOLD member without SKIP. -/
def State.foldMember (s : State) (n : Nat) (w : Wr) : State :=
  let s := s.sieveBegins n
  let c := s.ctx n
  let (bs, f) := s.input n
  let all := c.xfer.part ++ bs
  let (p, why, s) := State.foldLoop n (all.length + 1) all 0 s
  let (mi, off) := (s.ctx n).unitAt p
  let stops := why.isSome || f.isSome
  let (bad, s) := match why with
    | some (.write x why) => (some (x, why), s)
    | _ => if stops then s.foldFlush n else (none, s)
  match bad with
  | some (x, why) => (s.acceptTo n p).foldFail n x why [] (all.drop p) w
  | none =>
    match why with
    | some (.prog q) => s.unitFail n p deProgram q 0 w
    | some (.full k len) =>
      let s := s.acceptTo n p
      (match c.grp.failed with
       | some e => (s.foldTable n k len (s.ctx n).xfer.placed).1.finishProgram n e w
       | none => s.foldSuspend n mi off k len (decide (0 < p)) w)
    | _ =>
      match f with
      | some (_, why) => s.sourceFail n p why w
      | none =>
        let (s, residual, mis) := s.unitsTaken n all p bs.length
        s.foldEnd n residual mis (decide (bs.length ≠ 0)) w

/-- FOLD (R102): one member. One that finds no fold cell waits in its in-flight place (05 R169). -/
def execFold (ctx : Nat) (w : Wr) (s : State) : Res :=
  whenB s (s.mayRun ctx (isOp 0xE)) "no FOLD may run"
    (if !s.cellFree ctx then s.modCtx ctx fun c => { c with placed := true }
     else if (s.ctx ctx).cmd.skip then (s.takeCell ctx).skipGathered ctx w fun s k mis prog => s.foldEnd ctx k mis prog w
     else (s.takeCell ctx).foldMember ctx w)

end Sys2Proof.Machine
end

