-- ==== Sys2Proof/Machine/Partial.lean ====
section
/-! DEFINITION. A data command that is left before its end: the units that it has delivered, and the bytes beyond them (02 R65, R75, 05
R172, R173). The model runs a member in one step (log 40); here it runs a free number of the member's units. -/

namespace Sys2Proof.Machine

/-- Run the data command of a context: one member, or the whole of a command that is no chain. NVMe commands leave through their pieces,
and ATOMIC runs whole or not at all (R172). -/
def State.dataRun (s : State) (n : Nat) : Res :=
  match (s.ctx n).cmd.opn with
  | 0x01 => execMove n {} s
  | 0x02 => execFill n {} s
  | 0x03 => execCompare n {} s
  | 0x04 => execDigest n {} s
  | 0x08 => execSieve n {} s
  | 0x0A => execShred n {} s
  | 0x0B => execWeave n {} s
  | 0x0C => execSlice n {} s
  | 0x0D => execUnslice n {} s
  | 0x0E => execFold n {} s
  | _ => .next s

/-- Units of the present member that may be delivered before it is left. A copy in descending order delivers none: its first byte is
written last (10 R320). -/
def Ctx.roomFor (c : Ctx) : Nat :=
  if c.cmd.producer || (decide (c.cmd.opn = 1) && c.cmd.descends) then 0
  else if c.cmd.consumer then min c.left c.grp.data.length else c.left

/-- The first `k` units of the present member, as a member of a chain that goes on: nothing is posted, and nothing ends with it. -/
def Ctx.firstUnits (c : Ctx) (k : Nat) : Ctx :=
  { c with
    cmd := { c.cmd with
      flags := (c.cmd.flags &&& 4) ||| 2
      count := if c.cmd.consumer && c.cmd.toEnd then c.cmd.count else BitVec.ofNat 32 (c.xfer.off + k) }
    grp := { c.grp with data := if c.cmd.consumer then c.grp.data.take k else c.grp.data, failed := none, marks := [] }
    marks := [], halt := .none, frozenFn := false, next := some (c.space, c.pc + 32) }

/-- The units were delivered: the command went on to the next member. -/
def Ctx.wentOn (d : Ctx) : Bool :=
  (decide (d.phase = .fetch) || (match d.phase, d.goal with | .arrive, .member _ => true | _, _ => false)) && d.ended.isNone &&
  (decide (d.rest = .none) || decide (d.rest = .dry)) && d.grp.failed.isNone

/-- The context after its units, standing in the same member. -/
def Ctx.stays (c d : Ctx) (k : Nat) : Ctx :=
  { c with
    xfer := { d.xfer with off := c.xfer.off + k, members := c.xfer.members, quiet := c.xfer.quiet, cut := c.xfer.cut }
    grp := { c.grp with data := if c.cmd.consumer then c.grp.data.drop (d.grp.pos - c.grp.pos) else c.grp.data, pos := d.grp.pos }
    r := { c.r with survivors := d.r.survivors }
    dirty := d.dirty, farTags := d.farTags, hostNew := d.hostNew, hostOld := d.hostOld }

/-- The first `k` units of the present member are delivered, if it delivers them. -/
def State.units (s : State) (n k : Nat) : Option State :=
  let c := s.ctx n
  if k = 0 ∨ c.roomFor < k then none
  else match (s.setCtx n (c.firstUnits k)).dataRun n with
    | .next t => if (t.ctx n).wentOn then some (t.setCtx n (c.stays (t.ctx n) k)) else none
    | _ => none

/-- Integers of a SLICE reach B by whole bytes of the planes: the units that fill them. -/
def Ctx.wholeOctets (c : Ctx) (k : Nat) : Nat :=
  if c.cmd.opn = 0x0C && !c.cmd.skip then
    let z := c.cmd.width
    let i := (c.xfer.ordinal + (c.xfer.part.length + k) / z) / 8 * 8
    if c.xfer.ordinal < i then (i - c.xfer.ordinal) * z - c.xfer.part.length else 0
  else k

/-- A number of units below what the member has room for (log 40). -/
def State.someUnits (s : State) (n : Nat) : Nat × State :=
  let c := s.ctx n
  let (v, s) := s.drawWord
  (c.wholeOctets (v.toNat % max c.roomFor 1), s)

/-- Bytes in which `b` differs from `a` take the value of `b` where `pick` says so. -/
def Mem.blend (pick : Nat → Bool) (a b : Mem) : Mem :=
  let m := b.foldl (fun (m : Mem) p => if pick p.1 then m.write p.1 p.2 else m) a
  a.foldl (fun (m : Mem) p => if pick p.1 && decide (b.read p.1 = 0) then m.write p.1 0 else m) m

/-- Bytes beyond the units delivered: each holds its earlier value or the one that further units would have written, as free values say
(R65). -/
def State.blurTo (s t : State) (n : Nat) : State :=
  let pick := fun (kind : Nat) (a : Nat) => decide (Config.hostPick (s.free + kind) a % 2 = 1)
  { s with
    hbm := s.hbm.blend (pick 0) t.hbm
    hostMem := s.hostMem.blend (pick 1) t.hostMem
    farMem := s.farMem.blend (pick 2) t.farMem
    free := max s.free t.free + 3 } |>.modCtx n fun c => { c with dirty := (t.ctx n).dirty, hostNew := (t.ctx n).hostNew }

/-- The records that the member holds back: those in bucket buffers, of a BITMAP byte, of a COUNT value, and a partial unit. The place
of the first of them: a member, and the offset in it (R65 step 6, Table 02.14). -/
def Ctx.heldBack (c : Ctx) : Option (Nat × Nat) :=
  let x := c.xfer
  let sieve := decide (c.cmd.opn = 8) || decide (c.cmd.opn = 9)
  if !c.cmd.isData || c.cmd.producer then none
  else if c.cmd.opn = 0xE && x.placing.any (fun p => !p.kept) then
    (x.placing.find? fun p => !p.kept).map fun p => (p.member, p.off)
  else if sieve && x.begun && c.cmd.form = 3 then some (c.firstMember, 0)
  else if sieve && x.begun && c.cmd.form = 1 && x.ordinal % 8 ≠ 0 then some (x.octMember, x.octOff)
  else if !x.part.isEmpty && c.cmd.opn ≠ 4 then some (x.partMember, x.partOff)
  else none

/-- The first unit that is not fully delivered, while a command executes or its chain has begun. -/
def Ctx.undelivered (c : Ctx) : Option (Nat × Nat) :=
  if c.phase ≠ .exec && !c.chain then none
  else match c.heldBack with
    | some p => some p
    | none => if c.phase = .exec ∧ c.cmd.isData ∧ !c.cmd.producer then some (c.xfer.members.length - 1, c.xfer.off) else none

/-- CLEAR stops a data command that executes: some of its units are delivered, and bytes beyond them may be (R65 steps 2, 3). -/
def State.clearUnits (s : State) (n : Nat) : State :=
  if (s.ctx n).phase ≠ .exec then s
  else
    let (k, s) := s.someUnits n
    let (v, s) := s.drawWord
    let room := (s.ctx n).roomFor
    let more := k + v.toNat % (room + 1 - k)
    let t := (s.units n more).getD s
    ((s.units n k).getD s).blurTo t n

/-- The first `i` runs of a SIEVE-MAP from run `from_` on, each judged to its end. -/
def State.runsDone (n : Nat) (j : Judge) : Nat → List RunDec → State → Option State
  | _, [], s => some s
  | i, d :: ds, s =>
    match s.mapRun n i d j with
    | .done s => State.runsDone n j (i + 1) ds s
    | _ => none

/-- Some of the decided runs of a SIEVE-MAP are done (log 40). -/
def State.someRuns (s : State) (n : Nat) : State :=
  let c := s.ctx n
  let size := c.xfer.runSize
  let i := c.xfer.off / size
  let (v, s) := s.drawWord
  let k := v.toNat % (c.xfer.runs.length - i + 1)
  if c.phase ≠ .exec ∨ c.cmd.opn ≠ 9 ∨ c.cmd.producer ∨ k = 0 ∨ c.runCount ≤ i + k ∨ !s.mayRun n (isOp 9) then s
  else
    let s0 := if c.cmd.skip then s else s.sieveBegins n
    match State.runsDone n (s.judgeOf c) i ((c.xfer.runs.drop i).take k) s0 with
    | none => s
    | some t => t.modCtx n fun d => { d with xfer := { d.xfer with off := (i + k) * size } }

/-- An interrupting migration leaves a data command after some of its units: the bytes of a partial unit are read again (05 R172, R173
step 3). A partial unit that began in an earlier member leaves the command where it stood. -/
def State.migrateUnits (s : State) (n : Nat) : State :=
  if (s.ctx n).phase ≠ .exec then s
  else
    let s := s.someRuns n
    let (k, s) := s.someUnits n
    match s.units n k with
    | none => s
    | some t =>
      let x := (t.ctx n).xfer
      if x.part.isEmpty || (t.ctx n).cmd.opn = 4 then t
      else if x.partMember + 1 = x.members.length then
        let t := if (t.ctx n).cmd.consumer then t.giveBack n x.part else t
        t.modCtx n fun d => { d with xfer := { d.xfer with part := [], off := x.partOff } }
      else s

end Sys2Proof.Machine
end

