-- ==== Sys2Proof/Machine/Entries.lean ====
section
/-! DEFINITION. Queues, polling and entries: the groomer, START, RESUME, HALT, CLEAR, SENSE, WRAP and NOP, and the last steps of a
freeze (02 R36, R37, R52, R63 to R65, 06 R193 to R210). -/

namespace Sys2Proof.Machine

/-! ### The groomer (R198 to R202) -/

/-- The poll interval of a queue in ns (R201). -/
def Queue.interval (q : Queue) : Nat := 64 * 2 ^ q.pollK

/-- Slots of a ring. -/
def Queue.slots (q : Queue) : Nat := 2 ^ q.logSize

/-- The groomer polls the function's queues: it is ENABLED and R180 does not stop it (R201). -/
def State.grooms (s : State) (fn : Nat) : Bool :=
  s.up && s.fnExists fn && decide ((s.fn fn).state = 0) && !(s.fn fn).stopped

/-- QUEUE_POLL (R201). -/
def execQueuePoll (fn q t : Nat) (s : State) : Res :=
  match (s.fn fn).queue q with
  | none => idleB s "the queue does not exist"
  | some x =>
    match x.stage with
    | .due lo =>
      whenB s (s.grooms fn && s.notBefore t && reached t lo) "no poll of the queue is due"
        ((s.at_ t).modFn fn fun f => f.setQueue q (some { x with stage := .reading false, chased := 0, polled := t }))
    | _ => idleB s "a read of the queue is outstanding"

/-- The bytes of a ring access in local placement, or its failure (R208): outside the extent, or poisoned. -/
def State.ringLocal (s : State) (fn a n : Nat) : ReadBytes :=
  let f := s.fn fn
  if f.extLen < a + n then .fail .extent
  else if (s.poisonIn (f.extBase + a) n).isSome then .fail .poisoned
  else .ok (s.localRead (f.extBase + a) n)

/-- What a ring read of `n` bytes returned is possible: of a local ring it is what HBM holds, or a failure. -/
def State.ringAgrees (s : State) (fn : Nat) (q : Queue) (a n : Nat) (r : ReadBytes) : Bool :=
  if q.loc then match s.ringLocal fn a n, r with
    | .ok bs, .ok cs => decide (bs = cs)
    | _, .fail _ => true
    | .fail _, .ok _ => false
  else match r with | .ok cs => decide (cs.length = n) | .fail _ => true

/-- What the device has read of host memory is what host memory holds (log 4). -/
def State.learnHost (s : State) (fn : Nat) (q : Queue) (a : Nat) (bs : List Byte) : State :=
  if q.loc then s else { s with hostMem := s.hostMem.writeN (s.hostKey fn a) bs }

/-- The queue waits for its next poll, one interval after the latest poll or chase read (R201, R202). -/
def Queue.rest (q : Queue) : Queue := { q with stage := .due (q.polled + q.interval), chased := 0 }

/-- A ring access failed: the function freezes with RING-ACCESS (R187, R208). -/
def State.ringReadFail (s : State) (fn q : Nat) (x : Queue) (hdr : Nat) : State :=
  (s.modFn fn fun f => f.setQueue q (some x.rest)).freeze fn 6 (freezeAt q x.f hdr 0) .freeze none {}

/-- POLL_READ_COMPLETE (R198): a poll or chase read of byte 0 of slot f. -/
def execPollReadComplete (fn q : Nat) (r : ReadByte) (s : State) : Res :=
  match (s.fn fn).queue q with
  | none => idleB s "the queue does not exist"
  | some x =>
    match x.stage with
    | .reading _ =>
      let a := x.base + 16 * x.f
      let rb : ReadBytes := match r with | .ok b => .ok [b] | .fail f => .fail f
      whenB s (s.grooms fn && s.ringAgrees fn x a 1 rb) "the read cannot have returned this"
        (match r with
         | .fail _ => s.ringReadFail fn q x 0
         | .ok b =>
           let s := s.learnHost fn x a [b]
           let takes := b.getLsbD 7 && decide (b.getLsbD 6 = x.e)
           s.modFn fn fun f => f.setQueue q (some (if takes then { x with stage := .entry b } else x.rest)))
    | _ => idleB s "no poll or chase read is outstanding"

/-! ### Structural checks (R195, R196, R208) -/

/-- The kind may stand on the queue (Table 06.23). -/
def kindOk (admin : Bool) (k : Nat) : Bool :=
  decide (k = 6) || decide (k = 7) || (if admin then decide (k = 0x10) else decide (1 ≤ k) && decide (k ≤ 5))

/-- LEN is what Table 06.23 gives for the kind. -/
def lenOk (k len slot slots : Nat) : Bool :=
  if k = 1 ∨ k = 5 then decide (len = 2)
  else if k = 2 ∨ k = 3 ∨ k = 4 then decide (len = 0)
  else if k = 6 then decide (len = slots - 1 - slot)
  else if k = 0x10 then decide (1 ≤ len)
  else true

/-- The reserved fields and bits of Table 06.24 are 0. -/
def reservedOk (bs : List Byte) : Bool :=
  let k := byteAt bs 1
  let w := field bs 4 4
  let kfl := w / 0x100000
  if k = 0x10 then true
  else if k = 1 then decide (kfl < 4) && allZero (bs.drop 16)
  else if k = 3 then decide (kfl < 2) && allZero (bs.drop 8)
  else if k = 6 ∨ k = 7 then decide (w = 0) && allZero (bs.drop 8)
  else decide (kfl = 0) && allZero (bs.drop 8)

/-- The first structural fault of an entry, in the order 0x01, 0x02, 0x04, 0x03, 0x05 (R208). -/
def structural (admin : Bool) (b0 : Byte) (f slots : Nat) (bs : List Byte) : Option Nat :=
  let len := b0.toNat % 64
  if slots ≤ f + len then some 1
  else if !kindOk admin (byteAt bs 1) then some 2
  else if !lenOk (byteAt bs 1) len f slots then some 4
  else if !reservedOk bs then some 3
  else if bs.getD 0 0 ≠ b0 then some 5
  else none

/-- The queue after an entry of `n` slots is taken: f, E and the chase (R198 step 4, R202). -/
def Queue.took (q : Queue) (n now : Nat) : Queue :=
  let wraps := decide (q.f + n = q.slots)
  let q := { q with f := if wraps then 0 else q.f + n, e := q.e ^^ wraps, chased := q.chased + n }
  if 64 ≤ q.chased then q.rest else { q with stage := .reading true, polled := now }

/-- ACODE of an ADMIN entry (07 Table 07.1). -/
def Taken.acode (t : Taken) : Nat := field t.bytes 4 2

/-- The admin command codes (07 Table 07.4). -/
def adminCodes : List Nat :=
  [0x0101, 0x0102, 0x0103, 0x0104, 0x0105, 0x0201, 0x0202, 0x0203, 0x0204, 0x0205, 0x0206, 0x0207, 0x0301, 0x0302, 0x0401,
   0x0402, 0x0403, 0x0404, 0x0501, 0x0502, 0x0503, 0x0504, 0x0505, 0x0506, 0x0507, 0x0601, 0x0602, 0x0603, 0x0701, 0x0901,
   0x0902, 0x0A01, 0x0A02]

/-- The body of an ADMIN completion (07 Table 07.3): CLASS, CODE, then bytes 16 to the entry's end with ARG and the result words. -/
def adminBody (len code arg : Nat) (q : List Nat) : List Byte :=
  [3, BitVec.ofNat 8 code] ++ (List.range len).flatMap fun k =>
    [BitVec.ofNat 8 (if k = 0 then arg else 0)] ++ zeros 7 ++ leBytes 8 (q.getD k 0)

/-- The ADMIN entry of the function that is executed, or comes next (07 R221). -/
def Fn.adminFront (f : Fn) : Option Taken := f.taken.find? fun t => decide (t.kind = 0x10)

/-- Entries at the front whose ACODE no command has are rejected (07 R219). -/
def State.adminDrain (fn : Nat) (w : Wr) : Nat → State → State
  | 0, s => s
  | n + 1, s => match (s.fn fn).adminFront with
    | none => s
    | some t =>
      if t.stage = .waiting && !adminCodes.contains t.acode then State.adminDrain fn w n (s.complete fn t (adminBody t.len 1 0 []) w)
      else s

/-- ENTRY_READ_COMPLETE (R198). -/
def execEntryReadComplete (fn q : Nat) (r : ReadBytes) (w : Wr) (s : State) : Res :=
  match (s.fn fn).queue q with
  | none => idleB s "the queue does not exist"
  | some x =>
    match x.stage with
    | .entry b0 =>
      let n := b0.toNat % 64 + 1
      let a := x.base + 16 * x.f
      whenB s (s.grooms fn && s.ringAgrees fn x a (16 * n) r) "the read cannot have returned this"
        (match r with
         | .fail _ => s.ringReadFail fn q x b0.toNat
         | .ok bs =>
           let s := s.learnHost fn x a bs
           match structural (decide (q = 0)) b0 x.f x.slots bs with
           | some cause =>
             (s.modFn fn fun f => f.setQueue q (some x.rest)).freeze fn cause
               (freezeAt q x.f (byteAt bs 0) (byteAt bs 1)) .freeze none w
           | none =>
             let s := { (s.modFn fn fun f => { f.setQueue q (some (x.took n s.time)) with
               taken := f.taken ++ [{ q := q, slot := x.f, bytes := bs, seq := s.takes }] }) with takes := s.takes + 1 }
             if byteAt bs 1 = 0x10 then State.adminDrain fn w 64 (s.stir.cic (512 + fn)) else s)
    | _ => idleB s "no entry read is outstanding"

/-! ### Entries -/

/-- The taken entry at a slot that waits for its effect, when it is of the kind given (R71). -/
def Fn.waits (f : Fn) (q slot kind : Nat) : Option Taken :=
  f.taken.find? fun t => decide (t.q = q) && decide (t.slot = slot) && decide (t.stage = .waiting) && decide (t.kind = kind)

/-- No entry that names the same context was taken before it and still waits (R71). -/
def Fn.oldest (f : Fn) (t : Taken) : Bool :=
  (f.taken.takeWhile fun x => !(decide (x.q = t.q) && decide (x.slot = t.slot))).all fun x =>
    !(x.names t.ctx && decide (x.stage = .waiting))

/-- Entries for a context wait at the region controller while it migrates (R176) or its record is rebuilt (R162), in Coast and in Park (14 R411). -/
def State.entryOpen (s : State) (fn : Nat) (t : Taken) : Bool :=
  s.up && (s.fn fn).oldest t && decide (s.power.state = 0) && decide ((s.ctx t.ctx).phase ≠ .migrating) &&
  decide ((s.ctx t.ctx).goal ≠ .recover)

/-- The effect of the entry has begun. -/
def State.act (s : State) (fn : Nat) (t : Taken) : State :=
  s.stir.modFn fn fun f => { f with
    taken := f.taken.map fun x => if x.q = t.q ∧ x.slot = t.slot then { x with stage := .acting } else x }

/-- The context is not allotted to the function, or is a supervisor context (R164, R205). -/
def State.notAllotted (s : State) (fn n : Nat) : Bool :=
  let r := (s.ctx n).r
  r.supervisor || decide (r.state = stFree) || decide (r.ownerFn.toNat ≠ fn)

/-- Complete an entry with CLASS FAULT (R205); START and SENSE write bytes 16 to 47 with 0 (R200, R204). -/
def State.entryFault (s : State) (fn : Nat) (t : Taken) (code : Byte) (w : Wr) : State :=
  s.complete fn t ([2, code] ++ (if t.kind = 1 ∨ t.kind = 5 then zeros 32 else [])) w

/-- Run `act` on the entry when its context is allotted to the function and not FROZEN (R64, R207). -/
def State.semantic (s : State) (fn : Nat) (t : Taken) (w : Wr) (act : State) : State :=
  if s.notAllotted fn t.ctx then s.entryFault fn t 1 w
  else if (s.ctx t.ctx).r.state = stFrozen then s.entryFault fn t 5 w
  else act

/-- Space and address of a START's program (Table 06.24). -/
def Taken.space (t : Taken) : Nat := t.kflags % 4
def Taken.addr (t : Taken) : Nat := field t.bytes 8 8

/-- The program address is bad (R36). -/
def Taken.badAddress (t : Taken) : Bool :=
  decide (t.space = 3) || decide (t.addr % 32 ≠ 0) || !widthOk t.space t.addr

/-- A program starts in context `n` (R37). -/
def State.startCtx (s : State) (n space addr queue slot tag : Nat) : State :=
  s.modCtx n fun c => { c.idle (c.r.started space addr s.domain.ec queue slot tag) with
    phase := .ready, pc := BitVec.ofNat 64 addr, space := BitVec.ofNat 2 space }

/-- The chip-wide id of a queue (R36): 0 of the admin queue. -/
def Fn.chipOf (f : Fn) (q : Nat) : Nat := match f.queue q with | none => 0 | some x => x.chipId.getD 0

/-- The context's home slot is being substituted (05 R172). -/
def State.substituted (s : State) (n : Nat) : Bool :=
  let r := (s.ctx n).r
  match (s.region r.region.toNat).subst with | none => false | some (sl, _, _) => decide (sl = r.slot.toNat)

/-- START (R36, R37, R207). A program of a function that has frozen meanwhile is frozen at once (R160). -/
def execStart (fn q slot : Nat) (w : Wr) (s : State) : Res :=
  match (s.fn fn).waits q slot 1 with
  | none => idleB s "no START entry waits there"
  | some t =>
    let n := t.ctx
    let c := s.ctx n
    let waits := s.substituted n || (decide (c.r.state = stIdle) && c.late.contains (c.r.bib + 1))
    whenB s (s.entryOpen fn t && (!waits || s.notAllotted fn n)) "the START waits"
      (s.semantic fn t w
        (if c.r.state ≠ stIdle then s.entryFault fn t 2 w
         else if t.badAddress then s.entryFault fn t 4 w
         else
           let s := (s.act fn t).startCtx n t.space t.addr ((s.fn fn).chipOf q) slot t.tag
           if (s.fn fn).state = 0 then s else s.freezeCtx fn n w))

/-- RESUME of a HELD context (R52, R145, R170): the command is fetched again, and a member that holds a partial unit before it. -/
def Ctx.resume (c : Ctx) : Ctx :=
  let again := c.chain && !c.xfer.part.isEmpty && decide (c.cmd.opn ≠ 4) && !c.cmd.consumer
  { c with
    r := { c.r with state := stActive, qual := 0 }
    phase := .ready
    noHold := decide (c.r.qual ≠ 0x11)
    heldCmd := none
    again := true
    rest := if again then .reread else c.rest
    pc := if again then (c.memberAt c.xfer.partMember).addr else c.pc
    xfer := if again then { c.xfer with part := [], rr := c.xfer.partMember } else c.xfer }

/-- RESUME (R52, Table 02.7). -/
def execResume (fn q slot : Nat) (w : Wr) (s : State) : Res :=
  match (s.fn fn).waits q slot 2 with
  | none => idleB s "no RESUME entry waits there"
  | some t =>
    whenB s (s.entryOpen fn t) "the RESUME waits"
      (s.semantic fn t w
        (if (s.ctx t.ctx).r.state ≠ stHeld || (s.ctx t.ctx).ended.isSome then s.entryFault fn t 3 w
         else (s.stir.modCtx t.ctx Ctx.resume).complete fn t [0, 0] w))

/-! ### HALT (R53, R63, R64) -/

/-- A HALT acts on an ACTIVE or HALTING context: at the boundary where it stands, or at the next one (R63). -/
def State.haltActive (s : State) (n : Nat) (suspend : Bool) (w : Wr) : State :=
  let c := s.ctx n
  let s := s.modCtx n fun c => { c with
    r := { c.r with state := stHalting }
    halt := if suspend && decide (c.halt ≠ .stop) then .suspend else .stop }
  if !c.atBoundary then s else s.haltHere n w

/-- HALT and HALT with SUSPEND, by the context's state (Table 02.7). -/
def State.haltEntry (s : State) (fn : Nat) (t : Taken) (suspend : Bool) (w : Wr) : State :=
  let n := t.ctx
  let st := (s.ctx n).r.state
  if st = stIdle ∨ st = stPending then s.complete fn t [0, 1] w
  else if st = stHeld then
    if suspend then s.complete fn t [0, 0] w else (s.act fn t).endHeld n w
  else if st = stQueued then
    if suspend then (s.act fn t).holdCtx n 0x11 w else (s.act fn t).finishProgram n (s.ctx n).haltEnding w
  else (s.act fn t).haltActive n suspend w

/-- A HALT entry with the SUSPEND flag given is the oldest of its context. -/
def State.haltWith (s : State) (fn q slot : Nat) (suspend : Bool) (w : Wr) : Res :=
  match (s.fn fn).waits q slot 3 with
  | none => idleB s "no HALT entry waits there"
  | some t =>
    whenB s (s.entryOpen fn t && decide (bit t.kflags 0 = suspend)) "the HALT waits, or has the other SUSPEND flag"
      (s.semantic fn t w (s.haltEntry fn t suspend w))

/-- HALT (R63). -/
def execHalt (fn q slot : Nat) (w : Wr) (s : State) : Res := s.haltWith fn q slot false w

/-- HALT with SUSPEND (R63). -/
def execHaltSuspend (fn q slot : Nat) (w : Wr) (s : State) : Res := s.haltWith fn q slot true w

/-! ### CLEAR (R65) -/

/-- NVMe pieces that have no good completion: the lowest block among them, relative to the command (R108). -/
def Ctx.lowestPiece (c : Ctx) : Option Nat :=
  (c.pieces.filter fun p => !p.done || p.failed).foldl
    (fun m p => match m with | none => some p.first | some k => some (min k p.first)) none

/-- The head of the last command of a stream group, found from the command at `a` on; `head` is the head of the chain that stands
there when it is not the chain that produces now. -/
def State.groupLast (s : State) (c : Ctx) : Nat → Option W64 → W64 → Option Member
  | 0, _, _ => none
  | fuel + 1, head, a =>
    let read := fun (x : W64) => Cmd.decode (s.bytesIn (c.who 0) c.space.toNat x.toNat 32)
    let m := read a
    if m.cont then s.groupLast c fuel head (a + 32)
    else if m.producer then s.groupLast c fuel (some (a + 32)) (a + 32)
    else head.map fun h => ⟨h, read h⟩

/-- The last command of the stream group that executes or is held, when it has not begun (Table 02.14). -/
def State.clearLast (s : State) (c : Ctx) : Option Member :=
  let at_ := decide (c.phase = .ready) || decide (c.phase = .fetch) || decide (c.phase = .lodging)
  let held := decide (c.r.state = stHeld)
  if c.grp.count = 0 && c.heldCmd.isNone then none
  else if (at_ || held) && c.join then s.groupLast c 0x100000 (some c.pc) c.pc
  else if held && (c.heldCmd.getD c.cmd).producer then s.groupLast c 0x100000 none c.pc
  else if ((at_ && c.chain) || decide (c.phase = .exec) || decide (c.phase = .desc) || decide (c.phase = .nvm) || decide (c.phase = .arrive) ||
      decide (c.phase = .paused)) && c.cmd.producer then s.groupLast c 0x100000 none c.pc
  else none

/-- The record at CLEAR when the last command of its group has not begun: LAST_CMD names it, and nothing of it is delivered. -/
def CtxRec.named (r : CtxRec) (m : Member) (space : BitVec 2) : CtxRec :=
  { r with lastCmd := m.addr, lastSpace := space, residual := m.cmd.count, chan := (r.chan &&& 0xF9) ||| 4 ||| (if m.cmd.cont then 2 else 0) }

/-- The record at CLEAR when a unit at a member's offset is the first that is not fully delivered. -/
def CtxRec.stoppedAt (r : CtxRec) (m : Member) (off : Nat) (space : BitVec 2) : CtxRec :=
  { r with lastCmd := m.addr, lastSpace := space, residual := BitVec.ofNat 32 (m.cmd.cnt - off),
           chan := (r.chan &&& 0xED) ||| (if m.cmd.cont then 2 else 0) ||| (if m.cmd.skip then 0x10 else 0) }

/-- The record at CLEAR: LAST_CMD and RESIDUAL (Table 02.14, R65 step 6). -/
def Ctx.clearRec (c : Ctx) (last : Option Member) : CtxRec :=
  let k := BitVec.ofNat 32 (c.cmd.cnt - c.xfer.off)
  let r := match c.undelivered with
    | some (mi, off) => c.r.stoppedAt (c.memberAt mi) off c.space
    | none => match c.phase with
      | .desc => { c.r with lastCmd := c.pc, lastSpace := c.space, residual := if c.cmd.isData then k else c.r.residual }
      | .exec => { c.r with residual := if c.cmd.isData then k else c.r.residual }
      | .nvm => { c.r with residual := match c.lowestPiece with | none => 0 | some b => BitVec.ofNat 32 (c.cmd.cnt - b) }
      | _ => match c.heldCmd with
        | some h => if h.isData then { c.r with residual := h.count } else c.r
        | none => c.r
  let r := match last with | some m => r.named m c.space | none => r
  if c.losesMark || !c.marks.isEmpty then { r with chan := r.chan ||| 8 } else r

/-- The CLEAR sequence from step 2 on (Table 02.8). -/
def State.clearProgram (s : State) (n : Nat) (w : Wr) : State :=
  let s := (s.someRuns n).clearUnits n
  let c := s.ctx n
  let r := c.clearRec (s.clearLast c)
  let e : Ending := { dev := deAttention, qual := 2, lastCmd := r.lastCmd, lastSpace := r.lastSpace,
                      inCont := r.chan.getLsbD 1, inGroup := r.chan.getLsbD 2 }
  let s := (({ s with waitOrder := s.waitOrder.filter fun p => decide (p.2 ≠ n) }).dropAsk n).dropPieces n
  let s := s.modCtx n fun c => { c with
    r := r
    marks := []
    grp := { c.grp with marks := [] }
    wait := none
    readAhead := []
    halt := .none
    fails := []
    late := if c.asks then addLate c.r.bib c.late else c.late }
  s.finishProgram n (c.grp.failed.getD e) w

/-- CLEAR (R65, Table 02.7). -/
def execClear (fn q slot : Nat) (w : Wr) (s : State) : Res :=
  match (s.fn fn).waits q slot 4 with
  | none => idleB s "no CLEAR entry waits there"
  | some t =>
    let st := (s.ctx t.ctx).r.state
    whenB s (s.entryOpen fn t) "the CLEAR waits"
      (s.semantic fn t w
        (if st = stIdle || st = stPending then s.complete fn t [0, 1] w else (s.act fn t).clearProgram t.ctx w))

/-! ### SENSE, WRAP, NOP -/

/-- SENSE (R64): of a migrating context it reports the last written record and the bib before the migration (R176). -/
def execSense (fn q slot : Nat) (w : Wr) (s : State) : Res :=
  match (s.fn fn).waits q slot 5 with
  | none => idleB s "no SENSE entry waits there"
  | some t =>
    let c := s.ctx t.ctx
    let r := if c.phase = .migrating then { c.r with bib := c.r.bib - 1 } else c.r
    whenB s (s.up && (s.fn fn).oldest t) "the SENSE waits"
      (s.semantic fn t w (s.complete fn t ([0, 0] ++ r.completionTail) w))

/-- WRAP (R199). -/
def execWrap (fn q slot : Nat) (w : Wr) (s : State) : Res :=
  match (s.fn fn).waits q slot 6 with
  | none => idleB s "no WRAP entry waits there"
  | some t => whenB s s.up "the part is down" (s.complete fn t [0, 0] w)

/-- NOP entry (R195). -/
def execEntryNop (fn q slot : Nat) (w : Wr) (s : State) : Res :=
  match (s.fn fn).waits q slot 7 with
  | none => idleB s "no NOP entry waits there"
  | some t => whenB s s.up "the part is down" (s.complete fn t [0, 0] w)

/-! ### The end of a freeze (R209, R210) -/

/-- The FUNCTION-ERROR record (Table 06.30). -/
def Fn.errorRecord (f : Fn) : List Byte :=
  let at_ := f.freezeAt.toNat
  plainStatus 4 ([BitVec.ofNat 8 f.freezeCause, 0] ++ leBytes 2 (bits at_ 0 12) ++ leBytes 2 (bits at_ 32 16))

/-- Step 5 of Table 06.28: the message of FN_ERR_VEC; no other message of the function's queues and rings follows (R210). -/
def State.freezeEnd (s : State) (fn : Nat) : State :=
  let s := s.modFn fn fun f => { f with
    errPosted := false
    vecs := f.vecs.mapV fun (x : Vec) => { x with pending := 0, since := none, held := false } }
  let f := s.fn fn
  let s := if f.errVecEn then (s.modFn fn fun f => f.setVec f.errVec { f.vec f.errVec with err := true }).deliverMsg fn f.errVec else s
  s.modFn fn fun f => { f with freezing := false }

/-- FREEZE_FINISH (Table 06.28 steps 4 and 5): the last record of step 3 has been written. Step 5 follows when the record of step 4 has
been written, which a host ring of a stopped function delays (R214 step 1). -/
def execFreezeFinish (fn : Nat) (w : Wr) (s : State) : Res :=
  let f := s.fn fn
  let idle := (s.ctxsOf fn).all fun n => !(s.ctx n).hasProgram
  let s1 := if f.errPosted then s else (s.postStatus fn 0 f.errorRecord w).modFn fn fun f => { f with errPosted := true }
  whenB s (s.up && f.freezing && decide (f.state = 1) && f.taken.isEmpty && f.held.isEmpty && idle)
    "the function is not at the end of a freeze"
    (if (s1.fn fn).held.isEmpty then s1.freezeEnd fn else s1)

end Sys2Proof.Machine
end

