-- ==== Sys2Proof/Machine/Events.lean ====
section
/-! DEFINITION. The event fabric: firings, their arrival at channels and vectors, deliveries to consumers, bindings, and the rows of
the interrupt controllers (chapter 11). -/

namespace Sys2Proof.Machine

/-! ### Registers (Tables 11.1, 11.3, 11.4) -/

/-- EVT_CH[c] as a read returns it (Table 11.1). -/
def Ech.word (e : Ech) : W64 :=
  BitVec.ofNat 64 (e.from_ * 2 ^ 52 + e.hop * 2 ^ 48 + e.busy * 2 ^ 40 + e.loop * 2 ^ 32 + e.coal * 2 ^ 24 + e.merged * 2 ^ 16 +
    e.ownerFn * 2 ^ 8 + 4 * b2n e.attrS + 2 * b2n e.supervisor + b2n e.flag)

/-- The counters that a read clears, at 0. -/
def Ech.counted (e : Ech) : Ech := { e with busy := 0, loop := 0, coal := 0, merged := 0 }

/-- EVT_BIND[c][i] as a read returns it (Table 11.3). -/
def EvtBind.word (b : EvtBind) : W64 :=
  BitVec.ofNat 64 (b2n b.valid * 2 ^ 63 + b.fn * 2 ^ 24 + b2n b.toVector * 2 ^ 16 + b.dest)

/-- EVT_CTL as a read returns it (Table 11.4). -/
def State.evtCtl (s : State) : W64 := BitVec.ofNat 64 (s.evtLoop * 2 ^ 32 + s.evtCoal * 2 ^ 16 + s.hopLimit)

/-- Change a channel. -/
def State.modEch (s : State) (c : Nat) (g : Ech → Ech) : State := s.setEch c (g (s.ech c))

/-- A channel's owner and attribute are set: a change of owner clears FLAG and the counters (R333). -/
def Ech.ownedBy (e : Ech) (fn : Nat) (attr sup : Bool) : Ech :=
  let e := if e.supervisor = sup ∧ e.ownerFn = fn then e
    else { e with flag := false, busy := 0, loop := 0, coal := 0, merged := 0 }
  { e with ownerFn := fn, attrS := attr, supervisor := sup }

/-- A busy consumer ignored a delivery of the channel (R340). -/
def State.busyEch (s : State) (c : Nat) : State := s.modEch c fun e => { e with busy := satInc e.busy 255 }

/-! ### Register channels as consumers (Table 10.8) -/

def RegChan.trig (x : RegChan) : Nat := bits x.ctrl.toNat 26 2
def RegChan.trigEv (x : RegChan) : Nat := bits x.ctrl.toNat 28 12
def RegChan.doneEv (x : RegChan) : Option Nat := if bit x.ctrl.toNat 21 then some (bits x.ctrl.toNat 48 12) else none

/-- The channel listens to its trigger channel. -/
def RegChan.listens (x : RegChan) (c : Nat) : Bool :=
  (decide (x.trig = 1) || decide (x.trig = 2)) && decide (x.trigEv = c)

/-! ### Consumers of a channel (R336 step 3) -/

/-- The view bits of a subscription table that follow channel `c`: their keys 64 i + b. -/
def subscribed (t : Table ViewSub) (c : Nat) : List Nat :=
  Table.keys (t.filter fun p : Nat × ViewSub => p.2.en && decide (p.2.chan = c))

/-- The register channels of a block that listen to `c`. -/
def Block.listeners (b : Block) (k c : Nat) : List Consumer :=
  b.movers.flatMap fun m => (m.2.regs.filter fun r : Nat × RegChan => r.2.listens c).map fun r => .rc k m.1 r.1

/-- Every consumer that names channel `c`. -/
def State.consumers (s : State) (c : Nat) : List Consumer :=
  (s.blocks.flatMap fun p => (subscribed p.2.viewSub c).map (fun v => Consumer.blkView p.1 (v / 64) (v % 64)) ++
    p.2.listeners p.1 c) ++
  (s.regions.flatMap fun p => (subscribed p.2.viewSub c).map fun v => Consumer.rsView p.1 (v / 64) (v % 64)) ++
  (subscribed s.chip.viewSub c).map fun v => Consumer.csView (v / 64) (v % 64)

/-! ### Firing (R335 to R341) -/

/-- A firing starts at an origin: channel `c`, hop count 0 (Table 11.2). -/
def State.fire (s : State) (c : Nat) (attrS : Bool) (ctx : Option Nat := none) : State :=
  { s with firings := s.firings ++ [{ toVector := false, dest := c, origin := c, hop := 0, attrS := attrS, ctx := ctx }] }

/-- Take the first `k` firings that satisfy `p`; answers them and the rest. -/
def takeFirings (p : Firing → Bool) : Nat → List Firing → List Firing × List Firing
  | _, [] => ([], [])
  | 0, l => ([], l)
  | k + 1, f :: l =>
    if p f then let (a, b) := takeFirings p k l; (f :: a, b)
    else let (a, b) := takeFirings p (k + 1) l; (a, f :: b)

/-- The firing that several become: the one with the lowest origin channel (R341). -/
def lowestOrigin : List Firing → Option Firing
  | [] => none
  | f :: l => match lowestOrigin l with
    | none => some f
    | some g => if g.origin < f.origin then some g else some f

/-- A WAIT ends on its event (R114). -/
def State.wakeWait (s : State) (n : Nat) (w : Wr) : State :=
  ({ s with waitOrder := s.waitOrder.filter fun p => decide (p.2 ≠ n) }).modCtx n (fun c => { c with wait := none })
    |>.memberDone n true w

/-- The WAITs on channel `c` that a setting of its flag ends: those without CLEAR, and the first with CLEAR (R114). -/
def State.endedWaits (s : State) (c : Nat) : List Nat × Bool :=
  let here := (s.waitOrder.filter fun p => decide (p.1 = c)).map Prod.snd
  let clears := fun n => match (s.ctx n).wait with | none => false | some x => x.clear
  let first := here.find? clears
  (here.filter fun n => !clears n || decide (first = some n), first.isSome)

/-- The forwards of channel `c` along its bindings (R336 step 4, R337). -/
def State.forwards (s : State) (c : Nat) (f : Firing) : State :=
  (List.range 4).foldl (fun s i =>
    let b := s.bind c i
    if !b.valid then s
    else if s.hopLimit < f.hop + 1 then
      { s.modEch c (fun e => { e with loop := satInc e.loop 255 }) with evtLoop := satInc s.evtLoop 0xFFFFFFFF }
    else { s with firings := s.firings ++ [{ toVector := b.toVector, fn := b.fn, dest := b.dest, origin := f.origin,
                                             hop := f.hop + 1, attrS := (s.ech c).attrS, via := some c }] }) s

/-- A firing arrives at channel `c` (R336). -/
def State.arriveAt (s : State) (c : Nat) (f : Firing) (w : Wr) : State :=
  let s := s.modEch c fun e => { e with
    flag := true, from_ := f.origin, hop := f.hop, merged := if e.flag then satInc e.merged 255 else e.merged }
  let (ended, clear) := s.endedWaits c
  let s := if clear then s.modEch c fun e => { e with flag := false } else s
  let s := { s with deliveries := s.deliveries ++ (s.consumers c).map fun x => ({ chan := c, who := x } : Delivery) }
  let s := s.forwards c f
  ended.foldl (fun s n => s.wakeWait n w) s

/-- The SIGNAL of a context has fired its channel: it completes (R115). -/
def State.signalled (s : State) (n : Nat) (w : Wr) : State :=
  if (s.ctx n).phase = .signal then s.memberDone n false w else s

/-- EVENT_FIRING_ARRIVAL (R336, R341): `k` firings arrive at the channel in one cycle. An N firing never reaches an S channel (R335). -/
def execEventFiringArrival (c k : Nat) (w : Wr) (s : State) : Res :=
  let (all, rest) := takeFirings (fun f => !f.toVector && decide (f.dest = c)) k s.firings
  let fs := all.filter fun f => f.attrS || !(s.ech c).attrS
  match lowestOrigin fs with
  | none =>
    whenB s (s.up && decide (1 ≤ k) && decide (all.length = k)) "no firing is on its way to the channel"
      ((all.filterMap Firing.ctx).foldl (fun s n => s.signalled n w) { s with firings := rest })
  | some f =>
    let extra := fs.length - 1
    let s1 := { (({ s with firings := rest }).modEch c fun e => { e with coal := satAdd e.coal extra 255 }) with
      evtCoal := satAdd s.evtCoal extra 0xFFFF }
    whenB s (s.up && decide (all.length = k)) "fewer firings are on their way"
      ((all.filterMap Firing.ctx).foldl (fun s n => s.signalled n w) (s1.arriveAt c f w))

/-- A vector ignores a firing: its function does not exist, is FROZEN or RESETTING or in D3hot, or has no such vector (R339). -/
def State.vectorBusy (s : State) (fn v : Nat) : Bool :=
  let f := s.fn fn
  !s.fnExists fn || decide (f.state ≠ 0) || !f.d0 || decide (f.vecCount ≤ v)

/-- VECTOR_FIRING_ARRIVAL (R339, R341). -/
def execVectorFiringArrival (fn v k : Nat) (s : State) : Res :=
  let (fs, rest) := takeFirings (fun f => f.toVector && decide (f.fn = fn) && decide (f.dest = v)) k s.firings
  match lowestOrigin fs with
  | none => idleB s "no firing is on its way to the vector"
  | some f =>
    let s1 := { s with firings := rest, evtCoal := satAdd s.evtCoal (k - 1) 0xFFFF }
    whenB s (s.up && decide (fs.length = k)) "fewer firings are on their way"
      (if s.vectorBusy fn v then (match f.via with | none => s1 | some c => s1.busyEch c) else s1.countEvent fn (some v))

/-! ### Deliveries (R340, R342) -/

/-- Set a view bit; answers whether it was set already. -/
def setViewBit (views : Table W64) (i b : Nat) : Bool × Table W64 :=
  let v := Table.get w64Def views i
  (v.getLsbD b, Table.set w64Def views i (v ||| BitVec.ofNat 64 (2 ^ b)))

/-- A delivery reaches a register channel; answers whether it was busy (Table 11.6). -/
def RegChan.triggered (x : RegChan) : Bool × RegChan :=
  if x.trig = 1 then (!x.armed, if x.armed then { x with armed := false, ready := true } else x)
  else
    let busy := !x.busy || x.ready || x.running
    (busy, if busy then x else { x with ready := true })

/-- A delivery reaches its consumer; answers whether it was busy (R340). -/
def State.deliverTo (s : State) : Consumer → Bool × State
  | .blkView k i b =>
    let (busy, vs) := setViewBit (s.block k).views i b
    (busy, s.modBlock k fun x => { x with views := vs })
  | .rsView r i b =>
    let (busy, vs) := setViewBit (s.region r).views i b
    (busy, s.setRegion r { s.region r with views := vs })
  | .csView j b =>
    let (busy, vs) := setViewBit s.chip.views j b
    (busy, { s with chip := { s.chip with views := vs } })
  | .rc k m j =>
    let (busy, x) := (((s.block k).mover m).reg j).triggered
    (busy, s.modBlock k fun b => b.setMover m ((b.mover m).setReg j x))

/-- CONSUMER_DELIVERY (R340). -/
def execConsumerDelivery (c : Nat) (who : Consumer) (s : State) : Res :=
  let d : Delivery := { chan := c, who := who }
  let (busy, s1) := ({ s with deliveries := s.deliveries.erase d }).deliverTo who
  whenB s (s.up && s.deliveries.contains d) "no such delivery is on its way" (if busy then s1.busyEch c else s1)

/-- BLK_EVT_FIRE (R335): a supervisor's write to the register of a block instance; one that is powered down raises no event (01 R17). -/
def execBlkEvtFire (blk : Nat) (v : W32) (s : State) : Res :=
  whenB s (s.up && s.blockOn blk) "no such block, or it is powered down" (s.fire (bits v.toNat 0 12) true)

/-- GT_TIMER_EXPIRY (R335): timer `k` of a gate cell fires its channel at its deadline; the firing disarms it. -/
def execGtTimerExpiry (blk k t : Nat) (s : State) : Res :=
  let x := Table.get timerDef (s.block blk).timers k
  whenB s (s.up && s.blockOn blk && x.armed && s.notBefore t && decide (x.deadline ≤ (s.at_ t).uptime)) "the timer has not expired"
    (((s.at_ t).modBlock blk fun b => { b with timers := Table.set timerDef b.timers k { x with armed := false } }).fire
      x.chan true)

/-- FLAG_CLEAR (R336): a W1C of EVT_CH[c].FLAG. -/
def execFlagClear (c : Nat) (s : State) : Res :=
  whenB s (s.up && decide (c < 4096)) "no such channel" (s.modEch c fun e => { e with flag := false })

/-- EVT_CH_READ (R334): the counters read and clear. -/
def execEvtChRead (c : Nat) (s : State) : Res :=
  whenB s (s.up && decide (c < 4096)) "no such channel" ((s.emit (.value (s.ech c).word)).modEch c Ech.counted)

/-- EVT_CTL_READ (R337). -/
def execEvtCtlRead (s : State) : Res :=
  whenB s s.up "the part is down" { s.emit (.value s.evtCtl) with evtLoop := 0, evtCoal := 0 }

/-- The binding that a word spells (Table 11.3). -/
def bindOfWord (v : W64) : EvtBind :=
  let n := v.toNat
  { valid := bit n 63, fn := bits n 24 8, toVector := decide (bits n 16 2 = 1), dest := bits n 0 16 }

/-- A binding of channel `c` in slot `i` is refused (R338). -/
def State.bindRefused (s : State) (c i : Nat) (b : EvtBind) : Bool :=
  let e := s.ech c
  let same := (List.range 4).any fun j =>
    let o := s.bind c j
    decide (j ≠ i) && o.valid && decide (o.toVector = b.toVector) && decide (o.dest = b.dest) && (!b.toVector || decide (o.fn = b.fn))
  same ||
  (if b.toVector then decide ((s.fn b.fn).vecCount ≤ b.dest) || (!e.supervisor && decide (b.fn ≠ e.ownerFn))
   else decide (b.dest = c) || decide (4095 < b.dest) || (!e.attrS && (s.ech b.dest).attrS))

/-- EVT_BIND_WRITE (R338, R10). -/
def State.writeBind (s : State) (c i : Nat) (v : W64) : State :=
  let b := bindOfWord v
  if 2 ≤ bits v.toNat 16 2 || (b.valid && s.bindRefused c i b) || (!b.toVector && decide (b.fn ≠ 0)) then s.accessErrUnlisted
  else s.setBind c i b

/-- EVT_BIND_WRITE (R338). -/
def execEvtBindWrite (c i : Nat) (v : W64) (s : State) : Res :=
  whenB s (s.up && decide (c < 4096) && decide (i < 4)) "no such binding slot" (s.writeBind c i v)

/-! ### Interrupt controllers (R345 to R354) -/

/-- The controller and the source exist (Table 11.9). -/
def ctlHas (k i : Nat) : Bool := decide (k ≤ 8) && decide (i < ctlSources k)

/-- SOURCE_EDGE (R345): the input of a source, or `samples` samples of it, up to device time `t`. -/
def execSourceEdge (ctl s : Nat) (level : Bool) (samples t : Nat) (st : State) : Res :=
  whenB st (st.up && ctlHas ctl s && st.notBefore t) "no such source, or the time has passed"
    ((st.at_ t).modCtl ctl fun c => c.setSrc s ((c.src s).sample level samples t))

/-- GROUP_HOLDOFF_EXPIRY (R346). -/
def execGroupHoldoffExpiry (ctl g t : Nat) (s : State) : Res :=
  let u := Table.get natDef (s.ctl ctl).until_ g
  whenB s (s.up && decide (u ≠ 0) && s.notBefore t && reached t u) "the group is not in hold-off"
    ((s.at_ t).modCtl ctl fun c => { c with until_ := Table.set natDef c.until_ g 0 })

/-- The level of a source that stuck detection watches (R347). -/
def Src.high (x : Src) : Bool := x.input

/-- STUCK_SOURCE (R347): the source is disabled and marked, and its level's capture records the error. -/
def execStuckSource (ctl s t : Nat) (st : State) : Res :=
  let c := st.ctl ctl
  let x := c.src s
  let hold := Table.get natDef c.holdoff (s / 32)
  let e : ErrIn := { code := .stuckSource, source := s }
  whenB st (st.up && ctlHas ctl s && decide (hold ≠ 0) && x.high && (x.enabled || !x.stuck) && st.notBefore t &&
      !reached (x.since + 1600 * hold) t)
    "the source is not stuck"
    (((st.at_ t).modCtl ctl fun c => c.setSrc s { c.src s with enabled := false, stuck := true, target := none }).error
      (if ctl < 8 then .region ctl else .chip) e)

/-- CLAIM read (R350). -/
def execClaimRead (ctl tgt : Nat) (s : State) : Res :=
  let (v, _) := (s.ctl ctl).claim s.time tgt
  whenB s (s.up && decide (ctl ≤ 8) && decide (tgt < ctlTargets ctl)) "no such target"
    ((s.emit (.value (BitVec.ofNat 64 v))).modCtl ctl fun c => (c.claim s.time tgt).2)

/-- DONE write (R351). -/
def execDoneWrite (ctl tgt : Nat) (v : W32) (s : State) : Res :=
  whenB s (s.up && decide (ctl ≤ 8) && decide (tgt < ctlTargets ctl)) "no such target" (s.doneWrite ctl tgt (bits v.toNat 0 16))

/-- The word of a bitmap register of a controller exists (Table 11.10). -/
def ctlWord (ctl word : Nat) : Bool := decide (ctl ≤ 8) && decide (32 * word < ctlSources ctl)

/-- PEND_SET (CIC only, Table 11.14). -/
def execPendSet (ctl word : Nat) (v : W32) (s : State) : Res :=
  whenB s (s.up && decide (ctl = 8) && ctlWord ctl word) "no such register"
    (s.modCtl ctl fun c => c.onWord word v fun x => { x with pending := true })

/-- PEND_CLR (Table 11.15). -/
def execPendClr (ctl word : Nat) (v : W32) (s : State) : Res :=
  whenB s (s.up && ctlWord ctl word) "no such register"
    (s.modCtl ctl fun c => c.onWord word v fun x => { x with pending := false, target := none })

/-- ENABLE_SET (Table 11.16). -/
def execEnableSet (ctl word : Nat) (v : W32) (s : State) : Res :=
  whenB s (s.up && ctlWord ctl word) "no such register"
    (s.modCtl ctl fun c => c.onWord word v fun x => { x with enabled := true })

/-- ENABLE_CLR (Table 11.17). -/
def execEnableClr (ctl word : Nat) (v : W32) (s : State) : Res :=
  whenB s (s.up && ctlWord ctl word) "no such register"
    (s.modCtl ctl fun c => c.onWord word v fun x => { x with enabled := false, target := none })

/-- STACK_FAULT_CLEAR (R351). -/
def execStackFaultClear (ctl tgt : Nat) (s : State) : Res :=
  whenB s (s.up && decide (ctl ≤ 8) && decide (tgt < ctlTargets ctl)) "no such target" (s.modCtl ctl fun c => c.clearFault tgt)

/-- SRC_CFG[s] as a read returns it (Table 11.11). -/
def Src.word (x : Src) : W64 :=
  BitVec.ofNat 64 (b2n x.active * 2 ^ 44 + b2n x.pending * 2 ^ 43 + b2n x.enabled * 2 ^ 42 + b2n x.input * 2 ^ 41 +
    b2n x.stuck * 2 ^ 40 + x.extra * 2 ^ 32 + x.targets * 2 ^ 16 + x.filter * 2 ^ 8 + x.sense * 2 ^ 4 + x.prio)

/-- SRC_CFG_READ (R352): EXTRA reads and clears. -/
def execSrcCfgRead (ctl s : Nat) (st : State) : Res :=
  whenB st (st.up && ctlHas ctl s) "no such source"
    ((st.emit (.value ((st.ctl ctl).src s).word)).modCtl ctl fun c => c.setSrc s { c.src s with extra := 0 })

end Sys2Proof.Machine
end

