-- ==== Sys2Proof/Machine/Control.lean ====
section
/-! DEFINITION. The control commands: JUMP, CALL, RETURN, WAIT, SIGNAL, POST, FENCE, EPOCH, FINISH and NOP (02 R57 to R60, 03 R111
to R121, 12 R372, R373). -/

namespace Sys2Proof.Machine

/-! ### JUMP, CALL, RETURN, NOP, EPOCH (R57, R58, R111, R112, R118, R121) -/

/-- The condition of a JUMP holds (Table 03.19). -/
def State.condition (s : State) (n : Nat) : Bool :=
  let c := s.ctx n
  let flag := (s.ech (c.cmd.cf 0 12)).flag
  match c.cmd.mod with
  | 0 => true
  | 1 => c.resZero
  | 2 => !c.resZero
  | 3 => c.survZero
  | 4 => !c.survZero
  | 5 => c.r.cmpEq
  | 6 => !c.r.cmpEq
  | 7 => flag
  | 8 => !flag
  | 9 => c.r.digestMatch
  | 10 => !c.r.digestMatch
  | _ => false

/-- Control goes to operand A, in its space (R57); the commands read ahead beyond this one are discarded (R39). -/
def Ctx.jumpsTo (c : Ctx) : Ctx := { c with next := some (BitVec.ofNat 2 c.cmd.spaceA, c.cmd.a), readAhead := [] }

/-- JUMP (R57, R111). -/
def execJump (ctx : Nat) (w : Wr) (s : State) : Res :=
  whenB s (s.mayRun ctx (isOp 0x20)) "no JUMP may run"
    ((if s.condition ctx then s.modCtx ctx Ctx.jumpsTo else s).memberDone ctx false w)

/-- Push a return address and its space on the call stack (R58). -/
def CtxRec.push (r : CtxRec) (space : BitVec 2) (a : W64) : CtxRec :=
  let d := r.callDepth.toNat
  let keep := r.stackSpaces.toNat - bits r.stackSpaces.toNat (2 * d) 2 * 2 ^ (2 * d)
  let r := { r with callDepth := r.callDepth + 1, stackSpaces := BitVec.ofNat 8 (keep + space.toNat * 2 ^ (2 * d)) }
  match d with
  | 0 => { r with stack0 := a }
  | 1 => { r with stack1 := a }
  | 2 => { r with stack2 := a }
  | _ => { r with stack3 := a }

/-- The top of the call stack: space and address. -/
def CtxRec.top (r : CtxRec) : BitVec 2 × W64 :=
  let d := r.callDepth.toNat - 1
  (BitVec.ofNat 2 (bits r.stackSpaces.toNat (2 * d) 2),
   match d with | 0 => r.stack0 | 1 => r.stack1 | 2 => r.stack2 | _ => r.stack3)

/-- CALL (R57, R58). -/
def execCall (ctx : Nat) (w : Wr) (s : State) : Res :=
  whenB s (s.mayRun ctx (isOp 0x21)) "no CALL may run"
    ((s.modCtx ctx fun c => { c with r := c.r.push c.space (c.pc + 32) }.jumpsTo).memberDone ctx false w)

/-- RETURN (R57, R58). -/
def execRet (ctx : Nat) (w : Wr) (s : State) : Res :=
  whenB s (s.mayRun ctx (isOp 0x22)) "no RETURN may run"
    ((s.modCtx ctx fun c => { c with next := some c.r.top, readAhead := [], r := { c.r with callDepth := c.r.callDepth - 1 } }).memberDone
      ctx false w)

/-- NOP (R121). -/
def execNop (ctx : Nat) (w : Wr) (s : State) : Res :=
  whenB s (s.mayRun ctx (isOp 0x30)) "no NOP may run" (s.memberDone ctx false w)

/-- EPOCH (R118). -/
def execEpoch (ctx : Nat) (w : Wr) (s : State) : Res :=
  whenB s (s.mayRun ctx (isOp 0x2A)) "no EPOCH may run"
    ((s.modCtx ctx fun c => { c with r := { c.r with epochTag := BitVec.ofNat 32 (c.cmd.cf 0 32) } }).memberDone ctx false w)

/-! ### WAIT (R113, R114) -/

/-- The WAIT begins to wait; it stands at a boundary from now on (R63). -/
def State.beginWait (s : State) (n : Nat) (w : Wr) : State :=
  let c := s.ctx n
  let chan := if bit c.cmd.mod 0 then some (c.cmd.cf 0 12) else none
  let x : Waiting := { chan := chan, clear := bit c.cmd.mod 2, began := s.time,
                       deadline := if bit c.cmd.mod 1 then some (s.time + c.cmd.cnt * 1000) else none }
  let s := match chan with
    | none => s
    | some ch =>
      let first := fun p : Nat × Nat => decide (((s.ctx p.2).wait.map Waiting.began).getD 0 ≠ s.time) || decide (p.2 < n)
      let before := s.waitOrder.filter first
      let after := s.waitOrder.filter fun p => !first p
      { s with waitOrder := before ++ (ch, n) :: after }
  (s.modCtx n fun c => { c with wait := some x, phase := .waiting }).waitsHere n w

/-- WAIT (R113, R114): a flag already set, or a time of 0, ends it at once without progress. -/
def execWait (ctx : Nat) (w : Wr) (s : State) : Res :=
  let cmd := (s.ctx ctx).cmd
  let ch := cmd.cf 0 12
  whenB s (s.mayRun ctx (isOp 0x24)) "no WAIT may run"
    (if bit cmd.mod 0 && (s.ech ch).flag then
       (if bit cmd.mod 2 then s.modEch ch fun e => { e with flag := false } else s).memberDone ctx false w
     else if bit cmd.mod 1 && decide (cmd.cnt = 0) then s.memberDone ctx false w
     else s.beginWait ctx w)

/-- The next waiting command sets the flag of channel `ch`: the flag becomes set in this same moment (R114). -/
def State.firesNext (s : State) (ch : Nat) : Bool :=
  match s.pending with
  | .eventFiringArrival c k _ :: _ =>
    decide (c = ch) && decide (k ≠ 0) && decide ((takeFirings (fun f => !f.toVector && decide (f.dest = c)) k s.firings).1.length = k)
  | _ => false

/-- The time of a WAIT has passed at `t`: at least COUNT µs and at most 1 µs more, or at once when the part has gone beyond that
already (R114). -/
def State.waitOver (s : State) (d t : Nat) : Bool :=
  reached t d && (reached (d + 1000) t || (!reached (d + 1000) s.time && decide (t % timeMod = s.time)))

/-- WAIT_TIMEOUT (R114): COUNT µs have passed since the WAIT began. A flag that becomes set in the same moment ends it instead. -/
def execWaitTimeout (ctx t : Nat) (w : Wr) (s : State) : Res :=
  let x := (s.ctx ctx).wait
  match x.bind Waiting.deadline with
  | none => idleB s "no timed WAIT waits"
  | some d => whenB s (s.up && decide ((s.ctx ctx).phase = .waiting) && s.notBefore t && s.waitOver d t) "the time has not passed"
      (if (match x.bind Waiting.chan with | none => false | some ch => s.firesNext ch) then s.at_ t else (s.at_ t).wakeWait ctx w)

/-! ### SIGNAL, FENCE, POST (R115 to R117) -/

/-- Every earlier write of the context has arrived: what the control command does then. -/
def State.signalNow (s : State) (n : Nat) : State :=
  let c := s.ctx n
  (s.fire (c.cmd.cf 0 12) c.r.supervisor (some n)).modCtx n fun c => { c with phase := .signal, goal := .none }

/-- The command waits until the context's writes have arrived. -/
def State.whenArrived (s : State) (n : Nat) (goal : Goal) (now : State) : State :=
  if (s.ctx n).dirty.isEmpty then now else s.modCtx n fun c => { c with phase := .arrive, goal := goal }

/-- SIGNAL (R115): it fires once every earlier write has arrived; attribute S in a supervisor context (Table 11.2). -/
def execSignal (ctx : Nat) (w : Wr) (s : State) : Res :=
  let _ := w
  whenB s (s.mayRun ctx (isOp 0x25)) "no SIGNAL may run" (s.whenArrived ctx .complete (s.signalNow ctx))

/-- FENCE (R117): read-ahead copies of HOST commands are discarded (Table 02.10). -/
def State.fenceNow (s : State) (n : Nat) (w : Wr) : State :=
  (s.modCtx n fun c => { c with readAhead := c.readAhead.filter fun p => decide (p.1 ≠ 0) }).memberDone n false w

/-- FENCE (R117). -/
def execFence (ctx : Nat) (w : Wr) (s : State) : Res :=
  whenB s (s.mayRun ctx (isOp 0x28)) "no FENCE may run" (s.whenArrived ctx .complete (s.fenceNow ctx w))

/-- The status ring of a POST (R116). -/
def State.postRing (s : State) (n : Nat) : Option Nat :=
  let cmd := (s.ctx n).cmd
  if cmd.mod = 0 then s.boundRing n else some (cmd.cf 0 4)

/-- The POST record is posted, or waits for ring space (R53, R116). -/
def State.postNow (s : State) (n : Nat) (w : Wr) : State :=
  let c := s.ctx n
  let fn := c.r.ownerFn.toNat
  match s.postRing n with
  | none => s.memberDone n true w
  | some i =>
    if ((s.fn fn).ring i).isSome && !(s.fn fn).ringFree i then
      ((s.queueUp n).modCtx n fun c => { c with phase := .ringWait, goal := .post }).waitsHere n w
    else
      (s.postStatus fn i (postRecord c.r.hostTag.toNat n c.r c.cmd.a (c.cmd.cf 32 32)) w).memberDone n true w

/-- POST (R116). -/
def execPost (ctx : Nat) (w : Wr) (s : State) : Res :=
  whenB s (s.mayRun ctx (isOp 0x26)) "no POST may run" (s.whenArrived ctx .post (s.postNow ctx w))

/-- SIGNAL and FENCE go on when their read-back has completed. -/
def State.completeNow (s : State) (n : Nat) (w : Wr) : State :=
  if (s.ctx n).cmd.opn = 0x25 then s.signalNow n else s.fenceNow n w

/-- A ring of the function has a free record again: what waits for it in context `n` goes on. A chain or group that is not at its end
needs a dispatch turn again (05 R157). -/
def State.ringGoesOn (s : State) (fn i n : Nat) (w : Wr) : State :=
  let c := s.ctx n
  if c.r.ownerFn.toNat ≠ fn || c.r.supervisor then s
  else if c.phase = .ringWait && c.goal = .post then (if s.postRing n = some i then s.postNow n w else s)
  else if s.boundRing n ≠ some i then s
  else if c.phase = .ringWait && c.goal = .finish then
    (s.modCtx n fun c => { c with phase := .none, goal := .none }).endArrived n (c.ended.getD c.haltEnding) w
  else
    let s := s.postOwed n i w
    if c.phase ≠ .ringWait then s
    else (s.marksOut n w).modCtx n fun c => { c with phase := if c.phase = .fetch then .ready else c.phase }

/-- A ring of the function has a free record again: the contexts that wait for it go on, in the order in which their records arose
(R53, 06 R212). -/
def State.ringFreed (s : State) (fn i : Nat) (w : Wr) : State :=
  let s := s.ringOrder.foldl (fun s n => s.ringGoesOn fn i n w) s
  { s with ringOrder := s.ringOrder.filter fun n => (s.ctx n).waitsRing }

/-! ### FINISH (R119, R120, R372, R373) -/

/-- Tag `t` counts as `e` or earlier (R119). -/
def epochBefore (e t : W32) : Bool := decide ((e - t).toNat < 2 ^ 31)

/-- The name of a ring channel among those whose FAR writes a snapshot holds; a context's name is its id. -/
def snapRing (blk m c : Nat) : Nat := 0x100000 + 64 * blk + 8 * m + c

/-- Contexts and ring channels with FAR writes tagged `e` or earlier that have not arrived (Table 12.12 step 1). -/
def State.snapshot (s : State) (e : W32) : List Nat :=
  (Table.keys (s.ctxs.filter fun p : Nat × Ctx => p.2.farTags.any (epochBefore e))) ++
  s.blocks.flatMap fun b => b.2.movers.flatMap fun m =>
    (m.2.rings.filter fun c : Nat × RingChan => c.2.farTags.any (epochBefore e)).map fun c => snapRing b.1 m.1 c.1

/-- The FAR writes of `who` have arrived: no snapshot waits for them any more. -/
def State.farArrived (s : State) (who : Nat) : State :=
  { s with
    ctxs := s.ctxs.mapV fun (c : Ctx) => { c with snapshot := c.snapshot.filter fun k => decide (k ≠ who) }
    domain := { s.domain with
      answering := s.domain.answering.map fun (m, a, e, l) => (m, a, e, l.filter fun k => decide (k ≠ who)) } }

/-- The domain links: CXL mode, partner kind 5 (12 R370). -/
def State.domainLinks (s : State) : List Nat :=
  (List.range 24).filter fun l => decide ((s.link l).mode = 2) && decide ((s.link l).kind = 5)

/-- Send a domain message on every domain link (12 R370). -/
def State.sendDomain (s : State) (m : DomMsg) : State := s.emit (.domain m s.domainLinks)

/-- The configured members other than the device. -/
def Domain.others (d : Domain) : List Nat :=
  (List.range 32).filter fun m => d.members.getLsbD m && decide (m ≠ d.member)

/-- FINISH (Table 12.12 steps 1 and 2). -/
def execFinish (ctx : Nat) (w : Wr) (s : State) : Res :=
  let _ := w
  let e := BitVec.ofNat 32 ((s.ctx ctx).cmd.cf 0 32)
  let d := s.domain
  let waiting := if d.joined then (d.others.filter fun m => d.present.getLsbD m).map fun m => (m, s.domainLimit) else []
  let free := firstFrom (fun k => (Table.get noneDef d.asks (k % 65536)).isNone) d.nextAsk 1025
  match free with
  | none => idleB s "every ask number is taken"
  | some k =>
    let a := k % 65536
    let s1 := { s with domain := { d with
      asks := Table.set noneDef d.asks a (some { epoch := e, waiting := waiting }), nextAsk := (a + 1) % 65536 } }
    let s2 := s1.modCtx ctx fun c => { c with phase := .finishing, ask := some a, snapshot := s.snapshot e }
    whenB s (s.mayRun ctx (isOp 0x29) && decide (d.asks.length < 1024)) "no FINISH may run"
      (if d.joined then s2.sendDomain { type := 2, sender := d.member, dest := 0xFF, epoch := e, askId := a } else s2)

/-- The lowest configured member that is absent. -/
def Domain.lost (d : Domain) : Option Nat :=
  if d.joined then d.others.find? fun m => !d.present.getLsbD m else none

/-- FINISH_COMPLETE (Table 12.12 step 6, R372). -/
def execFinishComplete (ctx : Nat) (w : Wr) (s : State) : Res :=
  let c := s.ctx ctx
  match c.ask with
  | none => idleB s "the context has no ask"
  | some a =>
    match Table.get noneDef s.domain.asks a with
    | none => idleB s "the ask is not outstanding"
    | some x =>
      let d := { s.domain with asks := Table.erase s.domain.asks a }
      let done := ({ s with domain := d }).modCtx ctx fun c => { c with ask := none, snapshot := [] }
      whenB s (s.up && decide (c.phase = .finishing) && c.snapshot.isEmpty && x.waiting.isEmpty) "the FINISH waits"
        (match d.lost with
         | some m => done.checkFail ctx deMemberLost (BitVec.ofNat 8 m) 0 none w
         | none =>
           let ec := if (x.epoch - d.ec).toNat < 2 ^ 31 then x.epoch + 1 else d.ec
           ({ done with domain := { d with ec := ec } }).memberDone ctx false w)

end Sys2Proof.Machine
end

