-- ==== Sys2Proof/Machine/Movers.lean ====
section
/-! DEFINITION. Mover cells: ring descriptors, their scheduling, checks and endings, register channels, and what a read response or a
read-back does (10 R301 to R327). -/

namespace Sys2Proof.Machine

/-! ### Ends of a transfer -/

/-- A source or a destination: memory as an accessor sees it, far physical memory, or the BLOCK addresses of a register channel
(R304, R324). -/
inductive MEnd where
  | mem (w : Who) (space : Nat)
  | phys (fails : List AccessFail)
  | block (blk : Nat)

/-- One byte of the SQ data address map that BLOCK reaches: block SRAM and the lodge (Table 09.3). -/
def State.blockByte (s : State) (blk a : Nat) : Byte :=
  if a < 0x200000 then (s.block blk).sram.read a
  else match s.inLodge blk ((a - 0x400000) / 256) with
    | none => 0
    | some n => ((s.ctx n).r.bytes).getD (a % 256) 0

/-- Write one byte of BLOCK. -/
def State.blockPut (s : State) (blk a : Nat) (b : Byte) : State :=
  if a < 0x200000 then s.modBlock blk fun x => { x with sram := x.sram.write a b }
  else match s.inLodge blk ((a - 0x400000) / 256) with
    | none => s
    | some n => s.modCtx n fun c => { c with r := recOfBytes (patch c.r.bytes (a % 256) [b]) }

/-- Write bytes of BLOCK. -/
def State.blockPuts (s : State) (blk a : Nat) (bs : List Byte) : State :=
  if a + bs.length ≤ 0x200000 then s.modBlock blk fun x => x.sramPut a bs
  else (List.range bs.length).foldl (fun s i => s.blockPut blk (a + i) (bs.getD i 0)) s

/-- The first byte of a range of BLOCK that lies in a word of block SRAM with an uncorrectable error (13 R381). -/
def State.blockBad (s : State) (blk a n : Nat) : Option Nat :=
  if a < 0x200000 then firstBad (s.block blk).sramBad a n else none

/-- The BLOCK addresses of a range exist. -/
def blockRange (a n : Nat) : Bool :=
  decide (a + n ≤ 0x200000) || (decide (0x400000 ≤ a) && decide (a + n ≤ 0x440000))

/-- The first byte of a far physical range whose target is unavailable (12 R364, R365). -/
def State.physFail (s : State) (fails : List AccessFail) (write : Bool) (a n : Nat) : Option (Nat × AccFail) :=
  let w : Who := { fn := 0, sup := true, key := 0, fails := fails }
  let bad := (List.range (n / 256 + 2)).findSome? fun j =>
    let x := if j = 0 then a else (a / 256 + j) * 256
    if x < a + n ∧ !s.farReach x then some (x - a, AccFail.unavailable) else none
  if n = 0 then none else lowerFail (w.reported write 2 a n) bad

/-- A read at an end: the bytes before the failing access, and the failure. -/
def State.endRead (s : State) (e : MEnd) (a n : Nat) : List Byte × Option (Nat × AccFail) :=
  match e with
  | .mem w sp => s.readRange w sp a n
  | .phys fs =>
    let f := s.physFail fs false a n
    let k := match f with | none => n | some (o, _) => o
    (s.farMem.readN a k, f)
  | .block b =>
    let f := (s.blockBad b a n).map fun x => (x - a, AccFail.uncorrectable)
    let k := match f with | none => n | some (o, _) => o
    ((List.range k).map fun i => s.blockByte b (a + i), f)

/-- Store bytes at an end, without checks. -/
def State.endPut (s : State) (e : MEnd) (a : Nat) (bs : List Byte) : State :=
  match e with
  | .mem w sp => s.bytesOut w sp a bs
  | .phys _ => { s with farMem := s.farMem.writeN a bs }
  | .block b => s.blockPuts b a bs

/-- The first failure of a write at an end. -/
def State.endFail (s : State) (e : MEnd) (a n : Nat) : Option (Nat × AccFail) :=
  match e with
  | .mem w sp => s.writeFail w sp a n
  | .phys fs => s.physFail fs true a n
  | .block _ => none

/-- A write at an end: the bytes before the failing access are stored. -/
def State.endWrite (s : State) (e : MEnd) (a : Nat) (bs : List Byte) : State × Option (Nat × AccFail) :=
  let f := s.endFail e a bs.length
  let k := match f with | none => bs.length | some (o, _) => o
  (if k = 0 then s else s.endPut e a (bs.take k), f)

/-- Bytes beyond the delivered prefix hold their earlier value or the new one, as a free value says (R312). -/
def State.endMix (e : MEnd) : Nat → List Byte → State → State
  | _, [], s => s
  | a, b :: bs, s =>
    let (pick, s) := s.drawBytes 1
    let s := if (pick.getD 0 0).getLsbD 0 && (s.endFail e a 1).isNone then s.endPut e a [b] else s
    State.endMix e (a + 1) bs s

/-! ### Descriptors (Tables 10.1 to 10.3) -/

/-- A descriptor. -/
structure Desc where
  state : Nat
  flags : Nat
  op : Nat
  count : Nat
  src : Nat
  dst : Nat
  param : Nat
  bytes : List Byte

/-- The block SRAM address of slot `k` of ring `c` of mover `m` (R301). -/
def slotAddr (m c k : Nat) : Nat := 0x1E0000 + 2048 * (8 * m + c) + 32 * k

/-- The descriptor in a slot. -/
def State.desc (s : State) (blk m c k : Nat) : Desc :=
  let bs := (s.block blk).sram.readN (slotAddr m c k) 32
  { state := byteAt bs 0, flags := byteAt bs 2, op := byteAt bs 3, count := field bs 4 4, src := field bs 8 8,
    dst := field bs 16 8, param := field bs 24 8, bytes := bs }

def Desc.own (d : Desc) : Bool := bit d.state 7
def Desc.kind (d : Desc) : Nat := d.op / 16
def Desc.ss (d : Desc) : Nat := d.op % 4
def Desc.ds (d : Desc) : Nat := bits d.op 2 2
def Desc.evt (d : Desc) : Bool := bit d.flags 0
def Desc.bar (d : Desc) : Bool := bit d.flags 1
def Desc.chain (d : Desc) : Bool := bit d.flags 2
def Desc.sext (d : Desc) : Bool := bit d.flags 3
/-- CUT, ABORT and STOP. -/
def Desc.isControl (d : Desc) : Bool := decide (0xC ≤ d.kind) && decide (d.kind ≤ 0xE)
def Desc.isData (d : Desc) : Bool := decide (d.kind < 0xC)

/-- Element, ways and lane stride of DEAL and MERGE; bits, container and stride of PLANES and UNPLANES (Table 10.2). -/
def Desc.elem (d : Desc) : Nat := bits d.param 0 6 + 1
def Desc.ways (d : Desc) : Nat := bits d.param 6 6 + 1
def Desc.lane (d : Desc) : Nat := bits d.param 16 48
def Desc.planes (d : Desc) : Nat := bits d.param 0 6 + 1
def Desc.container (d : Desc) : Nat := 2 ^ bits d.param 6 2
def Desc.stride (d : Desc) : Nat := bits d.param 8 56

/-- The unit of R312. -/
def Desc.unit (d : Desc) : Nat :=
  if d.kind = 1 ∨ d.kind = 2 then d.elem else if d.kind = 3 ∨ d.kind = 4 then d.container else 1

/-- An address fits its space; under STREAM it names a stream FIFO (Table 10.1, R31). -/
def mAddrOk (space a : Nat) : Bool := if space = 3 then decide (a < 32) else widthOk space a

/-- The space codes that the kind allows (Table 10.2). -/
def Desc.spacesOk (d : Desc) : Bool :=
  match d.kind with
  | 0 => true
  | 5 => decide (d.ss = 0)
  | 6 => decide (d.ds = 0) && decide (d.dst = 0)
  | _ => decide (d.ss < 3) && decide (d.ds < 3)

/-- PARAM is in range, and its reserved bits are 0. -/
def Desc.paramOk (d : Desc) : Bool :=
  match d.kind with
  | 1 | 2 => decide (bits d.param 12 4 = 0)
  | 3 | 4 => decide (d.planes ≤ 8 * d.container) && decide (d.stride ≠ 0) && decide (d.stride % 64 = 0)
  | 5 => decide (d.param < 4)
  | _ => decide (d.param = 0)

/-- Check 2 of R314. -/
def Desc.formatOk (d : Desc) : Bool :=
  decide (d.state % 64 = 0) && decide (d.flags < 16) && (!d.sext || decide (d.kind = 4)) && decide (d.kind ≤ 6) &&
  d.spacesOk && (decide (d.kind = 5) || mAddrOk d.ss d.src) && mAddrOk d.ds d.dst && decide (d.count ≠ 0) &&
  decide (d.count ≤ 16777216) && d.paramOk && decide (d.count % d.unit = 0)

/-- The smallest range that holds a footprint: base and length (R320). -/
def Desc.srcFoot (d : Desc) : Nat × Nat :=
  let n := d.count / d.unit
  if d.kind = 2 then (d.src, (d.ways - 1) * d.lane + (n + d.ways - 1) / d.ways * d.elem)
  else if d.kind = 4 then (d.src, (d.planes - 1) * d.stride + (n + 7) / 8)
  else (d.src, d.count)
def Desc.dstFoot (d : Desc) : Nat × Nat :=
  let n := d.count / d.unit
  if d.kind = 1 then (d.dst, (d.ways - 1) * d.lane + (n + d.ways - 1) / d.ways * d.elem)
  else if d.kind = 3 then (d.dst, (d.planes - 1) * d.stride + (n + 7) / 8)
  else (d.dst, d.count)

/-- Source and destination overlap (R320). -/
def Desc.overlaps (d : Desc) : Bool :=
  let a := d.srcFoot
  let b := d.dstFoot
  decide (d.ss = d.ds) && decide (d.ss < 3) && decide (a.1 < b.1 + b.2) && decide (b.1 < a.1 + a.2)

/-- The checks of R313 and R314: the REASON of the first that fails. -/
def Desc.check (d : Desc) (x : RingChan) : Option Nat :=
  if d.chain && x.prevBad then some 0x22
  else if !x.bound then some 0x26
  else if !d.formatOk then some 0x20
  else if d.bar && !x.sup then some 0x27
  else if decide (1 ≤ d.kind) && decide (d.kind ≤ 4) && d.overlaps then some 0x21
  else none

/-! ### Change of a channel -/

def State.ringCh (s : State) (blk m c : Nat) : RingChan := ((s.block blk).mover m).ring c
def State.modMover (s : State) (blk m : Nat) (g : Mover → Mover) : State :=
  s.modBlock blk fun b => b.setMover m (g (b.mover m))
def State.modRingCh (s : State) (blk m c : Nat) (g : RingChan → RingChan) : State :=
  s.modMover blk m fun x => x.setRing c (g (x.ring c))
def State.regCh (s : State) (blk m j : Nat) : RegChan := ((s.block blk).mover m).reg j
def State.modRegCh (s : State) (blk m j : Nat) (g : RegChan → RegChan) : State :=
  s.modMover blk m fun x => x.setReg j (g (x.reg j))

/-- The mover works: the part is up, the block is active, and the cell is neither retired nor power-gated. -/
def State.moverUp (s : State) (blk m : Nat) : Bool :=
  s.up && decide (s.power.state = 0) && s.blockOn blk && decide (m < 8) && !(s.block blk).retired.getLsbD (1 + m)

/-- The mover waits for room in the sequencer's control FIFO (R329). -/
def State.moverWaits (s : State) (blk m : Nat) : Bool := (s.block blk).evWait.any fun p => decide (p.1 = m)

/-- The mover works, and does not wait for room. -/
def State.moverGoes (s : State) (blk m : Nat) : Bool := s.moverUp blk m && !s.moverWaits blk m

/-- The accessor that a ring binding is (R304). -/
def RingChan.who (x : RingChan) : Who := { fn := x.fn, sup := x.sup, key := x.key, fails := x.fails }

/-! ### The end of a descriptor (R306, R309, R315) -/

/-- FETCH passes the slots that have ended. -/
def passDone : Nat → Nat → List Nat → Nat × List Nat
  | 0, k, l => (k, l)
  | fuel + 1, k, l => if l.contains k then passDone fuel ((k + 1) % 64) (l.filter (· ≠ k)) else (k, l)

/-- Post the notice of an ended descriptor: it names the mover, the channel, the slot, BAD and REASON (R306). -/
def State.noticeSq (s : State) (blk m c k reason : Nat) : State :=
  let x := ((s.block blk).mover m).ring c
  s.tellSeq blk m [0, m, c, k, b2n (decide (reason ≠ 0)), reason] (if x.bound then some x.ctx else none)

/-- The space and address of an error's failing access (Table 13.3). -/
def State.errPlace (s : State) (w : Who) (space a : Nat) : Nat × W64 :=
  if space = 0 then (1, BitVec.ofNat 64 a)
  else if space = 1 then (2, BitVec.ofNat 64 (s.absLocal w a))
  else if space = 2 && ((s.fn w.fn).fttEntry a).isSome then (3, BitVec.ofNat 64 (s.farPa w a))
  else (0, 0)

/-- Write the ending of a slot: REASON and the residual when BAD, then byte 0; the notice, the error event (R306). -/
def State.endSlot (s : State) (blk m c k reason residual : Nat) (always : Bool) (place : Nat × W64) : State :=
  let d := s.desc blk m c k
  let a := slotAddr m c k
  let bad := decide (reason ≠ 0)
  let s := if bad then s.modBlock blk fun b => { b with
      sram := (b.sram.writeN (a + 1) [BitVec.ofNat 8 reason]).writeN (a + 4) (leBytes 4 residual) } else s
  let st := d.state % 64 + 64 * b2n bad
  let s := s.modBlock blk fun b => { b with sram := b.sram.write a (BitVec.ofNat 8 st) }
  let s := s.modRingCh blk m c fun x =>
    let (n, l) := passDone 64 x.next (x.done ++ [k])
    { x with next := n, done := l, prevBad := if d.isData then bad else x.prevBad }
  let s := if d.evt || bad || always then s.noticeSq blk m c k reason else s
  let x := s.ringCh blk m c
  if bad then s.cellError blk (1 + m) { code := .descBad, source := c, fn := if x.bound then some x.fn else none,
                                        ctx := if x.bound then some x.ctx else none, space := place.1, addr := place.2 }
  else s

/-- The slots from FETCH up to slot `k` that hold a data descriptor which has not started (R309). -/
def State.before (s : State) (blk m c k : Nat) : List Nat :=
  let x := s.ringCh blk m c
  let n := (k + 64 - x.next) % 64
  ((List.range n).map fun i => (x.next + i) % 64).filter fun j =>
    (s.desc blk m c j).own && (s.desc blk m c j).isData && !x.done.contains j && decide (x.running ≠ some j)

/-- Mark the descriptors before a control descriptor STOPPED, and complete it (R309, R310). -/
def State.stopBefore (s : State) (blk m c k : Nat) : State :=
  let s := (s.before blk m c k).foldl (fun s j => s.endSlot blk m c j 0x23 (s.desc blk m c j).count false (0, 0)) s
  (s.endSlot blk m c k 0 0 true (0, 0)).modRingCh blk m c fun x => { x with control := x.control.filter (· ≠ k) }

/-- The operands of a command that an access to a source, or to a destination, may have served: which of them a descriptor serves is its
place in the command, which the sequencer's firmware knows (R315, log 27). -/
def operandsOf (opn : Nat) (dest : Bool) : List (BitVec 3) :=
  if opn = 0x14 ∨ opn = 0x1A ∨ (dest = false ∧ (opn = 0x03 ∨ opn = 0x0E)) then [1, 2]
  else if dest then (if opn = 0x09 then [2, 3] else [2])
  else if opn = 0x09 ∨ opn = 0x0A ∨ opn = 0x0B then [1, 3]
  else [1]

/-- The ending that a descriptor gives its context's program (R315): REASON 0x01 to 0x10. Which of the operands of its side the access
served and how much of the command is left the sequencer knows alone: free values (log 27). -/
def State.endProgramOf (s : State) (blk m c reason : Nat) (w : Wr) : State :=
  let x := s.ringCh blk m c
  let cx := s.ctx x.ctx
  let why := [AccFail.ats, .hostAbort, .hostTimeout, .poisoned, .uncorrectable, .extent, .unpopulated, .farInvalid, .farRight,
    .key, .farUr, .farCa, .memError, .unavailable, .farTimeout, .fifo]
  match why[reason % 128 - 1]? with
  | none => s
  | some f =>
    let works := decide (cx.phase = .exec) || decide (cx.phase = .desc) || decide (cx.phase = .nvm) || decide (cx.phase = .arrive)
    if reason % 128 = 0 || !x.bound || !works || cx.r.bib ≠ x.bib then s
    else
      let (v, s) := s.drawWord
      let (o, s) := s.drawWord
      let ops := operandsOf cx.cmd.opn (decide (128 ≤ reason))
      s.finishProgram x.ctx (cx.endingAt cx.member (failEnding f).1 (failEnding f).2 (ops.getD (o.toNat % ops.length) 1)
        (some (v.setWidth 32))) w

/-- The running descriptor has ended and its read-back, if any, has completed: its slot is written, a CUT or ABORT that stopped
it follows, and the mover is free for its next unit. -/
def State.unitOver (s : State) (blk m c reason residual : Nat) (place : Nat × W64) (w : Wr) : State :=
  let x := s.ringCh blk m c
  match x.running with
  | none => s
  | some k =>
    let s := s.endSlot blk m c k reason residual false place
    let s := s.modRingCh blk m c fun x => { x with running := none, off := 0, ended := none, cutBy := none, fails := [] }
    let s := s.modMover blk m fun v => { v with unit := none }
    let s := match x.cutBy with | none => s | some j => s.stopBefore blk m c j
    s.endProgramOf blk m c reason w

/-- The running descriptor ends with `reason` and `residual`: a tenant's waits for its read-back, and so does one with BAR (R322);
one that failed a check of R314, or wrote nothing, needs none. -/
def State.descEnds (s : State) (blk m c reason residual : Nat) (bar checked : Bool) (place : Nat × W64) (w : Wr) : State :=
  let x := s.ringCh blk m c
  if checked && (!x.sup || bar) && !x.dirty.isEmpty then
    s.modRingCh blk m c fun x => { x with ended := some (reason, residual) }
  else s.unitOver blk m c reason residual place w

/-! ### Data of a descriptor -/

/-- How far a unit came: units written, and the failure with its side (true: the destination), its unit, and its address. -/
structure Run where
  units : Nat
  fail : Option (AccFail × Bool × Nat × Nat)

/-- The first failing access of each range that a transform reads: its address and why (R317). -/
def State.laneFails (s : State) (e : MEnd) (lanes : List (Nat × Nat)) : List (Option (Nat × AccFail)) :=
  lanes.map fun p => (s.endRead e p.1 p.2).2.map fun f => (p.1 + f.1, f.2)

/-- Read the pieces of one unit or group, each with the range in which it lies; a failure names its position among the bytes read. An
access of the funnel serves all its bytes, so that a piece which reaches the failing access fails (R311, R317). -/
def State.readPieces (s : State) (e : MEnd) (fl : List (Option (Nat × AccFail))) : Nat → List (Nat × Nat × Nat) → List Byte × Option (Nat × AccFail × Nat)
  | _, [] => ([], none)
  | p, (lane, a, n) :: l =>
    match (fl.getD lane none).bind fun f => if f.1 < a + n then some f else none with
    | some (x, f) => ([], some (p + (x - a), f, x))
    | none =>
      let (cs, f) := s.readPieces e fl (p + n) l
      ((s.endRead e a n).1 ++ cs, f)

/-- Write the pieces of one unit or group. -/
def State.writePieces (e : MEnd) (mix : Bool) : List (Nat × List Byte) → State → State × Option (AccFail × Nat)
  | [], s => (s, none)
  | (a, bs) :: l, s =>
    if mix then State.writePieces e mix l (State.endMix e a bs s)
    else match s.endWrite e a bs with
      | (s, some (o, f)) => (s, some (f, a + o))
      | (s, none) => State.writePieces e mix l s

/-- Move `n` groups of `per` units of `len` bytes: read the pieces `rd g`, write the pieces `wr g bytes`. -/
def State.groups (src dst : MEnd) (fl : List (Option (Nat × AccFail))) (per len : Nat) (rd : Nat → List (Nat × Nat × Nat)) (wr : Nat → List Byte → List (Nat × List Byte))
    (mix : Bool) : Nat → Nat → State → Run × State
  | 0, g, s => ({ units := g * per, fail := none }, s)
  | n + 1, g, s =>
    match s.readPieces src fl 0 (rd g) with
    | (_, some (p, f, a)) => ({ units := g * per, fail := some (f, false, g * per + p / len, a) }, s)
    | (bs, none) =>
      match State.writePieces dst mix (wr g bs) s with
      | (s, some (f, a)) => ({ units := g * per, fail := some (f, true, g * per, a) }, s)
      | (s, none) => State.groups src dst fl per len rd wr mix n (g + 1) s

/-- Bit `j` of up to 8 integers, packed into one byte. -/
def planeByte (ints : List Nat) (j : Nat) : Byte :=
  BitVec.ofNat 8 ((List.range 8).foldl (fun v i => v + 2 ^ i * b2n (bit (ints.getD i 0) j)) 0)

/-- The ranges that a transform reads: one, or one of each way or plane (R317, R318). -/
def Desc.lanes (d : Desc) : List (Nat × Nat) :=
  let n := d.count / d.unit
  match d.kind with
  | 2 => (List.range d.ways).map fun w => (d.src + w * d.lane, (n + d.ways - 1 - w) / d.ways * d.elem)
  | 4 => (List.range d.planes).map fun j => (d.src + j * d.stride, (n + 7) / 8)
  | _ => [(d.src, d.count)]

/-- The pieces that each group of a transform reads, each with its range (R318). -/
def Desc.rd (d : Desc) (g : Nat) : List (Nat × Nat × Nat) :=
  let n := d.count / d.unit
  match d.kind with
  | 1 => [(0, d.src + g * d.elem, d.elem)]
  | 2 => [(g % d.ways, d.src + g % d.ways * d.lane + g / d.ways * d.elem, d.elem)]
  | 3 => (List.range (min 8 (n - 8 * g))).map fun i => (0, d.src + (8 * g + i) * d.container, d.container)
  | _ => (List.range d.planes).map fun j => (j, d.src + j * d.stride + g / 8, 1)

/-- The pieces that each group of a transform writes (R318). -/
def Desc.wr (d : Desc) (g : Nat) (bs : List Byte) : List (Nat × List Byte) :=
  match d.kind with
  | 1 => [(d.dst + g % d.ways * d.lane + g / d.ways * d.elem, bs)]
  | 2 => [(d.dst + g * d.elem, bs)]
  | 3 =>
    let ints := (List.range (bs.length / d.container)).map fun i => field bs (i * d.container) d.container
    (List.range d.planes).map fun j => (d.dst + j * d.stride + g, [planeByte ints j])
  | _ =>
    let v := (List.range d.planes).foldl (fun v j => v + 2 ^ j * b2n (bit (byteAt bs j) (g % 8))) 0
    let v := if d.sext then signExtN v d.planes (8 * d.container) else v
    [(d.dst + g * d.container, leBytes d.container v)]

/-- Groups of a transform, and units in a group. -/
def Desc.perGroup (d : Desc) : Nat := if d.kind = 3 then 8 else 1
def Desc.groupCount (d : Desc) : Nat := (d.count / d.unit + d.perGroup - 1) / d.perGroup
/-- Bytes of a unit in the order in which a group reads them. -/
def Desc.readLen (d : Desc) : Nat := if d.kind = 4 then max d.planes 1 else d.unit

/-- DEAL, MERGE, PLANES and UNPLANES of the first `lim` groups (R318); beyond the delivered prefix bytes are mixed. -/
def State.shuffle (s : State) (d : Desc) (src dst : MEnd) (lim : Nat) : Run × State :=
  let n := min lim d.groupCount
  let fl := s.laneFails src d.lanes
  let (r, s) := State.groups src dst fl d.perGroup d.readLen d.rd d.wr false n 0 s
  let from_ := r.units / d.perGroup
  let s := if from_ < d.groupCount then (State.groups src dst fl d.perGroup d.readLen d.rd d.wr true (d.groupCount - from_) from_ s).2
           else s
  ({ r with units := min r.units (d.count / d.unit) }, s)

/-- The pattern of a FILL from byte `o` on (R90, Table 10.2). -/
def Desc.pattern (d : Desc) (o n : Nat) : List Byte :=
  let w := 2 ^ (d.param % 4)
  let p := leBytes w d.src
  (List.range n).map fun j => p.getD ((o + j) % w) 0

/-- Copy the first `lim` of `n` bytes (R316, R320): the destination ends equal to the source's original contents. A copy in descending
order that fails has delivered a prefix that a free value gives (R312). -/
def State.copyBytes (s : State) (src dst : MEnd) (sa da n lim : Nat) (descending : Bool) : Run × State :=
  let (bs, rf) := s.endRead src sa n
  let m := min lim bs.length
  let wf := s.endFail dst da m
  let f := match wf, rf with
    | some (o, f), _ => some (o, f, true)
    | none, some (o, f) => if o < lim then some (o, f, false) else none
    | none, none => none
  let p := match f with | some (o, _, _) => o | none => m
  let (p, s) := if descending && f.isSome then
      let (v, s) := s.drawWord
      (v.toNat % (p + 1), s)
    else (p, s)
  let s := if p = 0 then s else s.endPut dst da (bs.take p)
  let s := if p < n then State.endMix dst (da + p) (bs.drop p) s else s
  ({ units := p, fail := f.map fun (o, f, side) => (f, side, o, (if side then da else sa) + o) }, s)

/-- Write the first `lim` bytes of a pattern. -/
def State.fillBytes (s : State) (dst : MEnd) (da : Nat) (bs : List Byte) (lim : Nat) : Run × State :=
  let (s, f) := s.endWrite dst da (bs.take lim)
  let p := match f with | some (o, _) => o | none => min lim bs.length
  let s := if p < bs.length then State.endMix dst (da + p) (bs.drop p) s else s
  ({ units := p, fail := f.map fun (o, f) => (f, true, o, da + o) }, s)

/-- Read bytes without writing. -/
def State.readOnly (s : State) (src : MEnd) (sa n lim : Nat) : Run :=
  let (bs, f) := s.endRead src sa (min lim n)
  { units := bs.length, fail := f.map fun (o, f) => (f, false, o, sa + o) }

/-- The residual of R312. -/
def Desc.residual (d : Desc) (r : Run) : Nat := d.count - r.units * d.unit

/-- REASON of a failed unit; bit 7 says that the destination failed. -/
def Run.reason (r : Run) : Nat :=
  match r.fail with
  | none => 0
  | some (f, side, _, _) => failReason f + 128 * b2n side

/-- Execute the data of a memory descriptor, at most `lim` units of it. -/
def State.runDesc (s : State) (d : Desc) (src dst : MEnd) (lim : Nat) : Run × State :=
  match d.kind with
  | 0 => s.copyBytes src dst d.src d.dst d.count lim (d.overlaps && decide (d.src < d.dst))
  | 5 => s.fillBytes dst d.dst (d.pattern 0 d.count) lim
  | 6 => (s.readOnly src d.src d.count lim, s)
  | _ => s.shuffle d src dst (if lim < d.count / d.unit then lim / d.perGroup else d.groupCount)

/-! ### Streams of a COPY, FILL or READ (R303, R329) -/

/-- Take `n` bytes from the oldest words; a word that is not taken whole stays with its rest. -/
def takeWords : Nat → List (List Byte × Bool) → List Byte × List (List Byte × Bool)
  | _, [] => ([], [])
  | n, (w, e) :: l =>
    if n = 0 then ([], (w, e) :: l)
    else if n < w.length then (w.take n, (w.drop n, e) :: l)
    else let (bs, r) := takeWords (n - w.length) l; (w ++ bs, r)

/-- Bytes that the consumer may take now. -/
def Fifo.ready (x : Fifo) : Nat := ((x.words.take x.committed).map fun w => w.1.length).foldl (· + ·) 0

/-- Cut bytes from offset `off` of a transfer on into words of 64 bytes, an end mark at every 16th of the transfer and at its
last one (log 28). -/
def wordsOf (off : Nat) (bs : List Byte) (last : Bool) : List (List Byte × Bool) :=
  let ws := chunks (bs.length + 1) 64 (bs ++ zeros ((64 - bs.length % 64) % 64))
  let k := ws.length
  (List.range k).map fun i =>
    ((ws.getD i []).take (bs.length - 64 * i), decide ((off / 64 + i) % 16 = 15) || (last && decide (i + 1 = k)))

/-- What the stream side of a COPY gives or takes now: bytes moved and the state; none: it waits. -/
def State.streamStep (s : State) (blk : Nat) (x : RingChan) (d : Desc) : Option (Nat × Option (AccFail × Bool × Nat × Nat) × State) :=
  let left := d.count - x.off
  let sf := (s.block blk).fifo d.src
  let df := (s.block blk).fifo d.dst
  let m := min left (min (if d.ss = 3 then sf.ready else left) (if d.ds = 3 then (64 - df.level) * 64 else left))
  let n := if d.ds = 3 && decide (m < left) then m / 64 * 64 else m
  if n = 0 then none
  else
    let a := d.src + x.off
    let (bs, f) := if d.ss = 3 then ((takeWords n sf.words).1, none)
                   else if d.kind = 5 then (d.pattern x.off n, none)
                   else s.endRead (.mem x.who d.ss) a n
    let fr := f.map fun (o, f) => (f, false, x.off + o, a + o)
    let s := if d.ss = 3 then s.modBlock blk fun b => b.setFifo d.src { b.fifo d.src with words := (takeWords n sf.words).2 } else s
    if d.kind = 6 then some (bs.length, fr, s)
    else if d.ds = 3 then
      let ws := wordsOf x.off bs (decide (x.off + n = d.count) || f.isSome)
      some (bs.length, fr, s.modBlock blk fun b => b.setFifo d.dst ((b.fifo d.dst).write ws (if x.bound then some x.ctx else none)))
    else
      let (s, wf) := s.endWrite (.mem x.who d.ds) (d.dst + x.off) bs
      match wf with
      | some (o, f) => some (o, some (f, true, x.off + o, d.dst + x.off + o), s)
      | none => some (bs.length, fr, s)

/-! ### The rows of running descriptors -/

/-- The running descriptor of the channel, when its data has still to move. -/
def State.runningDesc (s : State) (blk m c : Nat) : Option Desc :=
  let x := s.ringCh blk m c
  if x.ended.isSome || ((s.block blk).mover m).unit ≠ some (.ring blk m c) then none
  else x.running.map fun k => s.desc blk m c k

/-- HOST requests of a stopped function wait (06 R180). -/
def State.hostWaits (s : State) (fn : Nat) (hosts : Bool) : Bool := hosts && (s.fn fn).stopped

/-- The spaces that a unit has written: a read-back is due in each; FAR writes carry the binding's epoch tag (R304). -/
def RingChan.wrote (x : RingChan) (d : Desc) (k : Nat) : RingChan :=
  if d.kind = 6 || d.ds = 3 || k = 0 then x
  else { x with dirty := dirtied d.ds x.dirty
                farTags := if d.ds = 2 && !x.farTags.contains x.epoch then x.farTags ++ [x.epoch] else x.farTags }

/-- The place of a failure for the error event. -/
def State.failPlace (s : State) (x : RingChan) (d : Desc) (r : Run) : Nat × W64 :=
  match r.fail with
  | none => (0, 0)
  | some (_, side, _, a) => s.errPlace x.who (if side then d.ds else d.ss) a

/-- Run the data descriptor of a kind, of which no part has moved yet, up to `lim` units; then it ends, with `cut` as its REASON when
a CUT or ABORT stopped it. -/
def State.runRing (s : State) (blk m c lim : Nat) (cut : Option Nat) (w : Wr) : State :=
  let x := s.ringCh blk m c
  match s.runningDesc blk m c with
  | none => s
  | some d =>
    match d.check x with
    | some q => s.descEnds blk m c (cut.getD q) d.count false false (0, 0) w
    | none =>
      if d.ss = 3 || d.ds = 3 then
        let moved := fun (s : State) (k : Nat) (f : Option (AccFail × Bool × Nat × Nat)) =>
          let s := s.modRingCh blk m c fun x => ({ x with off := x.off + k } : RingChan).wrote d k
          let r : Run := { units := x.off + k, fail := f }
          if f.isSome || decide (x.off + k = d.count) || cut.isSome then
            s.descEnds blk m c (cut.getD r.reason) (d.residual r) d.bar true (s.failPlace x d r) w
          else s
        if cut.isSome then moved s 0 none
        else match s.streamStep blk x d with
          | none => s
          | some (k, f, s) => moved s k f
      else
        let (r, s) := s.runDesc d (.mem x.who d.ss) (.mem x.who d.ds) lim
        let s := s.modRingCh blk m c fun x => x.wrote d (max r.units 1)
        s.descEnds blk m c (cut.getD r.reason) (d.residual r) d.bar true (s.failPlace x d r) w

/-- The row of a data kind: the channel runs a descriptor of that kind, and its requests may issue. -/
def State.ringRow (s : State) (blk m c kind : Nat) : Res :=
  match s.runningDesc blk m c with
  | none => idleB s "the channel runs no descriptor"
  | some d =>
    let x := s.ringCh blk m c
    let hosts := (decide (d.ss = 0) && decide (d.kind ≠ 5)) || (decide (d.ds = 0) && decide (d.kind ≠ 6))
    let checked := (d.check x).isNone
    let waits := checked && (s.hostWaits x.fn hosts || ((d.ss = 3 || d.ds = 3) && (s.streamStep blk x d).isNone))
    whenB s (s.moverGoes blk m && decide (d.kind = kind) && !waits) "the descriptor waits, or is of another kind"
      (s.runRing blk m c (d.count / d.unit) none {})

/-- COPY (R316). -/
def execCopy (blk m c : Nat) (s : State) : Res := s.ringRow blk m c 0
/-- DEAL (R318). -/
def execDeal (blk m c : Nat) (s : State) : Res := s.ringRow blk m c 1
/-- MERGE (R318). -/
def execMerge (blk m c : Nat) (s : State) : Res := s.ringRow blk m c 2
/-- PLANES (R318). -/
def execPlanes (blk m c : Nat) (s : State) : Res := s.ringRow blk m c 3
/-- UNPLANES (R318). -/
def execUnplanes (blk m c : Nat) (s : State) : Res := s.ringRow blk m c 4
/-- FILL descriptor (R303). -/
def execDescFill (blk m c : Nat) (s : State) : Res := s.ringRow blk m c 5
/-- READ descriptor (R303). -/
def execDescRead (blk m c : Nat) (s : State) : Res := s.ringRow blk m c 6

/-- The reserved fields of a BIND descriptor are 0 (Table 10.3). -/
def Desc.bindOk (d : Desc) : Bool :=
  let b := d.bytes
  decide (d.state % 64 = 0) && decide (d.flags = 0) && decide (d.op = 0xF0) && decide (field b 4 4 < 0x100000) && decide (byteAt b 10 < 16) &&
  decide (byteAt b 11 < 2) && decide (field b 16 2 < 1024) && allZero (b.drop 18)

/-- BIND (R304). -/
def execBindChan (blk m c : Nat) (s : State) : Res :=
  match s.runningDesc blk m c with
  | none => idleB s "the channel runs no descriptor"
  | some d =>
    let b := d.bytes
    let s1 := s.modRingCh blk m c fun x => { x with
      bound := true, ctx := field b 4 4 % 0x100000, fn := byteAt b 8, bib := b.getD 9 0, key := byteAt b 10 % 16,
      sup := bit (byteAt b 11) 0, epoch := BitVec.ofNat 32 (field b 12 4), lslot := field b 16 2 % 1024 }
    whenB s (s.moverGoes blk m && decide (d.kind = 0xF)) "the descriptor is no BIND"
      (if d.bindOk then
         match x_running s1 blk m c with
         | none => s1
         | some k => ((s1.endSlot blk m c k 0 0 true (0, 0)).modRingCh blk m c fun x => { x with running := none }).modMover blk m
             fun v => { v with unit := none }
       else s.descEnds blk m c 0x20 d.count false false (0, 0) {})
where
  x_running (s : State) (blk m c : Nat) : Option Nat := (s.ringCh blk m c).running

/-! ### Notices and scheduling (R305, R307) -/

/-- DESCRIPTOR_NOTICE (R305): the mover takes its oldest notice. -/
def execDescriptorNotice (blk m c slot : Nat) (s : State) : Res :=
  let d := s.desc blk m c slot
  match (((s.block blk).fifo (toMover m)).takeItem).1 with
  | none => idleB s "no notice is on its way to the mover"
  | some n =>
    let s1 := s.modFifo blk (toMover m) fun x => x.takeItem.2
    whenB s (s.moverGoes blk m && decide (byteAt n 10 % 8 = c) && decide (byteAt n 11 % 64 = slot)) "the oldest notice names another slot"
      (if !d.own then s1.cellError blk (1 + m) { code := .access, source := c }
       else if d.isControl then s1.modRingCh blk m c fun x => { x with control := x.control ++ [slot] }
       else s1)

/-- A ring channel is ready (R307). -/
def State.ringReady (s : State) (blk m c : Nat) : Bool :=
  let x := s.ringCh blk m c
  let d := s.desc blk m c x.next
  x.control.isEmpty && x.running.isNone && d.own && !d.isControl && !x.done.contains x.next

/-- The next unit of a mover (R307): a register channel, or a ring channel. -/
def State.nextUnit (s : State) (blk m : Nat) : Option (Bool × Nat) :=
  let v := (s.block blk).mover m
  let reg := firstFrom (fun j => (v.reg (j % 2)).ready && !(v.reg (j % 2)).running) (v.lastReg + 1) 2
  let ring := firstFrom (fun c => s.ringReady blk m (c % 8)) (v.lastRing + 1) 8
  match reg, ring with
  | some j, none => some (true, j % 2)
  | some j, some c => if v.lastWasReg then some (false, c % 8) else some (true, j % 2)
  | none, some c => some (false, c % 8)
  | none, none => none

/-- A descriptor with a reserved XFORM ends at once by its check (R314). -/
def State.refuseKind (s : State) (blk m c : Nat) : State :=
  let x := s.ringCh blk m c
  match s.runningDesc blk m c with
  | none => s
  | some d =>
    if (s.blockBad blk (slotAddr m c (x.running.getD 0)) 32).isSome then s.descEnds blk m c 5 d.count false false (0, 0) {}
    else if 7 ≤ d.kind ∧ d.kind ≤ 0xB then
      match d.check x with
      | none => s
      | some q => s.descEnds blk m c q d.count false false (0, 0) {}
    else s

/-- MOVER_UNIT_START (R307). -/
def execMoverUnitStart (blk m : Nat) (s : State) : Res :=
  match s.nextUnit blk m with
  | none => idleB s "no unit is ready"
  | some (reg, k) =>
    whenB s (s.moverGoes blk m && ((s.block blk).mover m).unit.isNone && !s.islandGated blk (1 + m)) "the mover runs a unit"
      (if reg then
         (s.modMover blk m fun v => { v with unit := some (.reg blk m k), lastReg := k, lastWasReg := true }).modRegCh blk m k
           fun x => { x with running := true, ready := false, ended := none }
       else
         ((s.modMover blk m fun v => { v with unit := some (.ring blk m k), lastRing := k, lastWasReg := false }).modRingCh blk m k
           fun x => { x with running := some x.next, off := 0, ended := none }).refuseKind blk m k)

/-! ### STOP, CUT, ABORT (R309, R310) -/

/-- The control descriptor at a slot has been read, is of the kind given, and its boundary has come. -/
def State.controlRead (s : State) (blk m c slot kind : Nat) : Bool :=
  let x := s.ringCh blk m c
  s.moverGoes blk m && x.control.contains slot && decide ((s.desc blk m c slot).kind = kind)

/-- STOP (R309): it acts once the channel runs no descriptor. -/
def execStopChan (blk m c slot : Nat) (s : State) : Res :=
  whenB s (s.controlRead blk m c slot 0xE && (s.ringCh blk m c).running.isNone) "the STOP has not been read, or waits for its boundary"
    (s.stopBefore blk m c slot)

/-- CUT or ABORT of a running descriptor: it has delivered a prefix that a free value gives (R310, R312). -/
def State.cutRunning (s : State) (blk m c slot reason : Nat) : State :=
  let x := s.ringCh blk m c
  let s := s.modRingCh blk m c fun x => { x with cutBy := some slot }
  match x.ended with
  | some (_, res) => s.modRingCh blk m c fun x => { x with ended := some (reason, res) }
  | none =>
    let d := match x.running with | none => s.desc blk m c 0 | some k => s.desc blk m c k
    if d.kind = 0xF then s.descEnds blk m c reason d.count false false (0, 0) {}
    else
      let (v, s) := s.drawWord
      s.runRing blk m c (v.toNat % (d.count / d.unit + 1)) (some reason) {}

/-- CUT (R310). -/
def execCutChan (blk m c slot : Nat) (s : State) : Res :=
  let x := s.ringCh blk m c
  whenB s (s.controlRead blk m c slot 0xC && x.cutBy.isNone) "the CUT has not been read"
    (if x.running.isNone then s.stopBefore blk m c slot else s.cutRunning blk m c slot 0x24)

/-- ABORT (R310): the outstanding reads, at most 64 (R308), are abandoned; how many there are is a free value. -/
def execAbortChan (blk m c slot : Nat) (s : State) : Res :=
  let x := s.ringCh blk m c
  let (v, s1) := s.drawWord
  let s1 := s1.modRingCh blk m c fun x => { x with lost := x.lost ++ List.replicate (v.toNat % 65) x.bib }
  whenB s (s.controlRead blk m c slot 0xD && x.cutBy.isNone) "the ABORT has not been read"
    (if x.running.isNone then s.stopBefore blk m c slot
     else if x.ended.isSome then s.cutRunning blk m c slot 0x25
     else s1.cutRunning blk m c slot 0x25)

/-! ### Register channels (R323 to R327) -/

def RegChan.xform (x : RegChan) : Nat := bits x.ctrl.toNat 4 4
def RegChan.ds (x : RegChan) : Nat := bits x.ctrl.toNat 2 2
def RegChan.ss (x : RegChan) : Nat := bits x.ctrl.toNat 0 2
def RegChan.bar (x : RegChan) : Bool := bit x.ctrl.toNat 20
def RegChan.fn (x : RegChan) : Nat := bits x.ctrl.toNat 40 8
def RegChan.chunk (x : RegChan) : Nat := 4096 * 2 ^ bits x.ctrl.toNat 22 4

/-- The RW fields of RC_CTRL (Table 10.8). -/
def rcCtrlMask : W64 := 0x0FFFFFFFFFF000FF

/-- A write of RC_CTRL gives a field a reserved value: XFORM, LOGCHUNK, TRIG (Table 10.8, 00 R10). -/
def rcCtrlBad (v : W64) : Bool :=
  let x := bits v.toNat 4 4
  !(decide (x = 0) || decide (x = 5) || decide (x = 6)) || decide (8 < bits v.toNat 22 4) || decide (bits v.toNat 26 2 = 3)

/-- An address of a register channel fits its space. -/
def rcAddrOk (space a n : Nat) : Bool := if space = 3 then blockRange a n else widthOk space a

/-- Check 2 of R314 on a register channel (R324). -/
def RegChan.formatOk (x : RegChan) : Bool :=
  decide (x.count ≠ 0) && decide (x.count ≤ 16777216) &&
  (decide (x.xform = 5) || rcAddrOk x.ss x.src.toNat x.count) && (decide (x.xform = 6) || rcAddrOk x.ds x.dst.toNat x.count) &&
  (decide (x.xform ≠ 6) || decide (x.dst = 0))

/-- The end of a register channel's side. -/
def RegChan.side (x : RegChan) (blk space : Nat) : MEnd :=
  if space = 3 then .block blk else if space = 2 then .phys x.fails
  else .mem { fn := x.fn, sup := true, key := 0, fails := x.fails } space

/-- The DESC-BAD event of a register channel (R324, Table 13.1). -/
def State.rcError (s : State) (blk m j : Nat) : State :=
  s.cellError blk (1 + m) { code := .descBad, source := 8 + j }

/-- A transfer ends: RC_STATUS, BUSY, DONE_EV, the error event (R324, R325). -/
def State.rcEnd (s : State) (blk m j reason residual : Nat) (fire : Bool) : State :=
  let x := s.regCh blk m j
  let s := s.modRegCh blk m j fun x => { x with
    residual := residual, reason := reason, bad := decide (reason ≠ 0), done := true, busy := false, ready := false,
    armed := false, running := false, stop := false, lodge := false, ended := none, fails := [], moved := 0 }
  let s := if x.running then s.modMover blk m fun v => { v with unit := none } else s
  let s := match x.doneEv with | some e => if fire then s.fire e true else s | none => s
  if reason ≠ 0 then s.rcError blk m j else s

/-- A refused write of a register channel's registers (R323). -/
def State.rcRefuse (s : State) (blk m j : Nat) : State :=
  s.cellError blk (1 + m) { code := .access, source := 8 + j }

/-- The transfer copies in descending address order: DST lies above SRC and they overlap (R320). -/
def RegChan.down (x : RegChan) : Bool :=
  decide (x.xform = 0) && decide (x.ss = x.ds) && decide (x.src < x.dst) && decide (x.dst.toNat < x.src.toNat + x.count)

/-- The residual of a transfer of which `left` bytes are still to be moved: what a descending copy has moved is no prefix (R312). -/
def RegChan.resid (x : RegChan) (left : Nat) : Nat := if x.down && decide (left ≠ 0) then x.count else left

/-- RC_START (R324): a supervisor's write of RC_CTRL with START. -/
def execRcStart (blk m j : Nat) (v : W64) (s : State) : Res :=
  let x := s.regCh blk m j
  let y := { x with ctrl := v &&& rcCtrlMask, busy := true, done := false, bad := false, reason := 0, residual := 0, moved := 0,
                    fails := [] }
  let s1 := s.stir.modRegCh blk m j fun _ => y
  whenB s (s.moverUp blk m && decide (j < 2) && v.getLsbD 63) "no such register channel, or no START"
    (if x.busy || x.lodge || rcCtrlBad v then s.rcRefuse blk m j
     else if !y.formatOk then s1.rcEnd blk m j 0x20 x.count true
     else s1.modRegCh blk m j fun y => if y.trig = 0 then { y with ready := true } else { y with armed := decide (y.trig = 1) })

/-- RC_STOP (R325): at once when the channel waits for its trigger, otherwise at the next boundary. -/
def execRcStop (blk m j : Nat) (s : State) : Res :=
  let x := s.regCh blk m j
  whenB s (s.moverUp blk m && decide (j < 2)) "no such register channel"
    (if !x.busy then s
     else if !x.running && !x.ready then s.rcEnd blk m j 0x23 (x.resid (x.count - x.moved)) false
     else s.modRegCh blk m j fun x => { x with stop := true })

/-- Bytes of the present unit: a chunk under PACE, otherwise the whole transfer. -/
def RegChan.unitLen (x : RegChan) : Nat := if x.trig = 2 then min x.chunk (x.count - x.moved) else x.count - x.moved

/-- Move the data of the present unit of a register channel. -/
def State.rcData (s : State) (blk m j : Nat) : Run × State :=
  let x := s.regCh blk m j
  let n := x.unitLen
  let off := if x.down then x.count - x.moved - n else x.moved
  let sa := x.src.toNat + off
  let da := x.dst.toNat + off
  let d : Desc := { state := 0, flags := 0, op := x.xform * 16, count := x.count, src := x.src.toNat, dst := x.dst.toNat,
                    param := 3, bytes := [] }
  match x.xform with
  | 5 => s.fillBytes (x.side blk x.ds) da (d.pattern x.moved n) n
  | 6 => (s.readOnly (x.side blk x.ss) sa n n, s)
  | _ => s.copyBytes (x.side blk x.ss) (x.side blk x.ds) sa da n n (decide (x.ss = x.ds) && decide (sa < da) && decide (da < sa + n))

/-- The data of a register channel's unit has moved: its REASON, and what is left of the whole transfer, or its residual when it failed. -/
def State.rcMoved (s : State) (blk m j : Nat) : State :=
  let x := s.regCh blk m j
  let (r, s) := s.rcData blk m j
  let last := decide (x.count - x.moved = x.unitLen)
  let left := if r.fail.isSome && x.down then x.count - (if last then r.units else 0) else x.count - x.moved - r.units
  s.modRegCh blk m j fun y => { y with
    ended := some (r.reason, left)
    dirty := if x.xform = 6 then y.dirty else dirtied x.ds y.dirty }

/-- HOST requests of the unit would wait (R324). -/
def State.rcWaits (s : State) (x : RegChan) : Bool :=
  s.hostWaits x.fn ((decide (x.ss = 0) && decide (x.xform ≠ 5)) || (decide (x.ds = 0) && decide (x.xform ≠ 6)))

/-- A unit of a register channel is over: the transfer ends, or waits for the next firing of a PACE (R324, R325). -/
def State.rcUnitOver (s : State) (blk m j : Nat) (fail : Option AccFail) : State :=
  let x := s.regCh blk m j
  match x.ended with
  | none => s
  | some (reason, res) =>
    let (v, s) := if fail.isSome then s.drawWord else (0, s)
    let rest := x.count - x.moved - x.unitLen
    let (reason, res) := match fail with
      | none => (reason, res)
      | some f => (failReason f + 128, if x.down then x.count - (if rest = 0 then v.toNat % (x.unitLen + 1) else 0)
          else x.count - x.moved - v.toNat % (x.unitLen - (res - rest) + 1))
    if reason ≠ 0 then s.rcEnd blk m j reason res true
    else if res = 0 then s.rcEnd blk m j 0 0 true
    else if x.stop then s.rcEnd blk m j 0x23 (x.resid res) false
    else
      (s.modRegCh blk m j fun y => { y with moved := x.count - res, running := false, ended := none }).modMover blk m
        fun v => { v with unit := none }

/-- RC_TRANSFER_END (R324): the end of a transfer, or of a chunk; under BAR the read-back has completed. `fail` reports a failed write;
its unit is a free value. -/
def execRcTransferEnd (blk m j : Nat) (fail : Option AccFail) (s : State) : Res :=
  let x := s.regCh blk m j
  let s1 := if x.ended.isSome then s else s.rcMoved blk m j
  whenB s (s.moverUp blk m && x.running && (!x.bar || decide (x.xform = 6) || (x.ended.isSome && x.dirty.isEmpty)) && (fail.isNone || decide (x.xform ≠ 6)) && !s.rcWaits x)
    "no unit of the register channel is at its end" (s1.rcUnitOver blk m j fail)

/-- RCH_STAT as a read returns it (Table 10.10). -/
def RingChan.stat (x : RingChan) : W64 :=
  BitVec.ofNat 64 (x.abandoned * 2 ^ 48 + x.ctx * 2 ^ 24 + b2n x.sup * 1024 + b2n x.bound * 512 + b2n x.running.isSome * 256 + x.next)

/-- RCH_STAT_READ (R327). -/
def execRchStatRead (blk m c : Nat) (s : State) : Res :=
  whenB s (s.up && decide (blk < 72) && decide (m < 8) && decide (c < 8)) "no such ring channel"
    ((s.emit (.value (s.ringCh blk m c).stat)).modRingCh blk m c fun x => { x with abandoned := 0 })

/-! ### Responses and read-backs (R310, R311, R321, 05 R175) -/

/-- What a read response shows of memory outside the device: host memory, or far memory (log 4). -/
def State.learn (s : State) (e : MEnd) (a : Nat) (bs : List Byte) : State :=
  match e with
  | .mem w 0 => s.bytesOut w 0 a bs
  | .mem w 2 => if (s.fn w.fn).fttEntry a |>.isSome then s.bytesOut w 2 a bs else s
  | .phys _ => { s with farMem := s.farMem.writeN a bs }
  | _ => s

/-- An abandoned request of the context is over: by its response or its completion timeout. Whether another one still carries its bib is
a free value; a rebuild that waited goes on (05 R162, log 122). -/
def State.lateOver (s : State) (n : Nat) (bib : Byte) : State :=
  if !(s.ctx n).late.contains bib then s
  else
    let (v, s) := s.drawWord
    if v.getLsbD 0 then s
    else
      let s := s.modCtx n fun c => { c with late := c.late.filter fun b => decide (b ≠ bib) }
      if (s.ctx n).goal = .recover && (s.ctx n).phase = .none && (s.ctx n).r.state ≠ stPending then s.rebuild n false else s

/-- A response that no live request of the context awaits is discarded and counted (05 R175, 13 R385). -/
def State.staleResponse (s : State) (n : Nat) (bib : Byte) : State :=
  let s := s.modCtx n fun c => { c with r := { c.r with stale := if c.r.stale = 0xFFFF then c.r.stale else c.r.stale + 1 } }
  let r := (s.ctx n).r.region.toNat
  (s.setRegion r { s.region r with stale := satInc (s.region r).stale 0xFFFFFFFFFFFFFFFF }).lateOver n bib

/-- The request of context `n` that a response with a bib answers has been abandoned: the bib is not the current one, or CLEAR or FLR
abandoned its requests (05 R175, 02 R65, 06 R215). -/
def Ctx.abandoned (c : Ctx) (bib : Byte) : Bool := decide (bib ≠ c.r.bib) || c.late.contains bib

/-- A response or a timeout of a request of context `n`: one of an abandoned request has `stale`'s effect, any other `live`'s. -/
def State.replyTo (s : State) (n : Nat) (bib : Byte) (stale live : State) : State :=
  let c := s.ctx n
  if c.abandoned bib then stale else if c.asks then live else s

/-- The space of an access that a response or a failure answers: a write is one of the destination's (R311). -/
def answerSide (r : Answer) (ss ds : Nat) : Nat := match r with | .data _ => ss | .fail _ wr => if wr then ds else ss

/-- A response to a ring channel's read. One with the bib of abandoned reads answers one of them, unless a read of the running descriptor
may have been at its address: then a free value says which (R310). -/
def State.ringResponse (s : State) (blk m c : Nat) (bib : Byte) (a : Nat) (r : Answer) : State :=
  let x := s.ringCh blk m c
  let d := s.desc blk m c (x.running.getD 0)
  let f := d.srcFoot
  let g := d.dstFoot
  let inFoot := (decide (f.1 ≤ a) && decide (a < f.1 + f.2)) || (decide (g.1 ≤ a) && decide (a < g.1 + g.2))
  let live := x.running.isSome && x.ended.isNone && decide (bib = x.bib) && inFoot
  let (v, s1) := if live && x.lost.contains bib then s.drawWord else (0, s)
  if x.lost.contains bib && (!live || v.getLsbD 0) then s1.modRingCh blk m c fun x => { x with
    lost := x.lost.erase bib, abandoned := satInc x.abandoned 0xFFFF }
  else if x.bound && bib ≠ x.bib then s1.staleResponse x.ctx bib
  else
    let sp := answerSide r d.ss d.ds
    match r with
    | .data bs => s1.learn (.mem x.who sp) a bs
    | .fail why wr => s1.modRingCh blk m c fun x => { x with fails := x.fails ++ [{ space := sp, addr := a, len := 1, why := why, write := some wr }] }

/-- A response to a register channel's read. -/
def State.regResponse (s : State) (blk m j a : Nat) (r : Answer) : State :=
  let x := s.regCh blk m j
  let sp := answerSide r x.ss x.ds
  match r with
  | .data bs => s.learn (x.side blk sp) a bs
  | .fail why wr => s.modRegCh blk m j fun x => { x with fails := x.fails ++ [{ space := sp, addr := a, len := 1, why := why, write := some wr }] }

/-- A LOCAL response to a context's command. -/
def State.ctxResponse (s : State) (n : Nat) (bib : Byte) (a : Nat) (r : Answer) : State :=
  s.replyTo n bib (s.staleResponse n bib)
    (match r with
    | .data _ => s
    | .fail why wr => s.modCtx n fun c => { c with fails := c.fails ++ [{ space := 1, addr := a, len := 1, why := why, write := some wr }] })

/-- MOVER_READ_RESPONSE (R311). -/
def execMoverReadResponse (who : Requester) (bib : Byte) (addr : Nat) (r : Answer) (s : State) : Res :=
  match who with
  | .ctx n => whenB s s.up "the part is down" (s.ctxResponse n bib addr r)
  | .ring b m c => whenB s (s.up && ((s.ringCh b m c).running.isSome || !(s.ringCh b m c).lost.isEmpty))
      "the channel has no read outstanding" (s.ringResponse b m c bib addr r)
  | .reg b m j => whenB s (s.up && (s.regCh b m j).running) "the channel has no read outstanding" (s.regResponse b m j addr r)

/-- Every write of the context has arrived. -/
def Ctx.arrived (c : Ctx) : Ctx := { c with dirty := [], farTags := [], hostNew := [], hostOld := [] }

/-- The read-back of a context's writes has completed (02 R69): what waited for it goes on. -/
def State.ctxArrived (s : State) (n : Nat) (w : Wr) : State :=
  let s := (s.modCtx n Ctx.arrived).farArrived n
  let c := s.ctx n
  if c.phase ≠ .arrive then s
  else match c.goal with
    | .none => s
    | .freeze => s.freezeNow c.r.ownerFn.toNat n w
    | .recover => match c.ended with
      | some e => s.recoverEnd n e w
      | none => s
    | .member progress => s.memberArrived n progress w
    | .advance => s.goOn n w
    | .mark => s.marksOut n w
    | .post => s.postNow n w
    | .complete => s.completeNow n w
    | .overflow => s.overflowHeld n w
    | .finish | .clear => match c.ended with
      | some e => s.endArrived n e w
      | none => s

/-- Descriptors of at most 65,536 bytes that a run of bytes needs (10 R308). -/
def unitsOf (n : Nat) : Nat := (n + 65535) / 65536

/-- RESIDUAL when the read-back of a member's unit fails (10 R321, 02 R75): from the first unit of the failing descriptor. MOVE and
FILL are cut at multiples of 65,536 bytes, and which descriptor failed is a free value; of the transforms the spec does not say how
their output is cut, so that RESIDUAL is a free value up to the units of the member; DIGEST has taken its whole input
(log 7, log 37). -/
def State.unitResidual (s : State) (n : Nat) : Nat × State :=
  let c := s.ctx n
  let (v, s1) := s.drawWord
  match c.cmd.opn with
  | 1 | 2 =>
    let k := if c.cmd.toEnd then 0 else c.left
    (k - 65536 * (v.toNat % max (unitsOf k) 1), s1)
  | 4 => (c.r.residual.toNat, s)
  | 0x14 => (c.cmd.cnt, s)
  | _ => (v.toNat % (c.left + 1), s1)

/-- A failed read-back of what SIEVE and SIEVE-MAP wrote (10 R321, 04 R128): the survivors below a free record k stay, none in COUNT form.
What failed may be the report area instead (04 R138, OPERAND 3). -/
def State.sieveUnarrived (s : State) (n k : Nat) (dev qual : Byte) (w : Wr) : State :=
  let c := s.ctx n
  let (v, s) := s.drawWord
  let atB := !c.cmd.producer && decide (c.cmd.spaceB ≠ 3)
  let report := decide (c.cmd.opn = 9) && (reportArea c.xfer.desc).isSome && (!atB || v.getLsbD 0)
  if report then s.dataFail n c.member dev qual 3 k w
  else if c.cmd.form = 3 then
    let m := c.memberAt c.firstMember
    ((s.modCtx n fun c => c.survive (-(c.xfer.surv : Int))).tailDone n).dataFail n m dev qual 2 m.cmd.cnt w
  else (s.modCtx n fun c => c.survive (-((v.toNat / 2 % (c.xfer.surv + 1) : Nat) : Int))).dataFail n c.member dev qual 2 k w

/-- A failed read-back of what FOLD wrote (10 R321, 04 R140): the records from a free one on count as not placed. -/
def State.foldUnarrived (s : State) (n k : Nat) (dev qual : Byte) (w : Wr) : State :=
  let (at_, s) := s.dropPlaced n
  let c := s.ctx n
  let m := match at_ with | none => c.member | some x => c.memberAt x.member
  let (_, s) := s.foldFlush n
  let (s, _) := s.foldTable n noBucket 0 noOrdinal
  (s.modCtx n fun c => { c with xfer := { c.xfer with begun := false } }).dataFail n m dev qual 2
    (match at_ with | none => k | some x => m.cmd.cnt - x.off) w

/-- A failed read-back of a data member's units (10 R321): a failure at the destination, operand B. -/
def State.memberUnarrived (s : State) (n : Nat) (f : AccFail) (w : Wr) : State :=
  let (k, s) := s.unitResidual n
  let (dev, qual) := failEnding f
  match (s.ctx n).cmd.opn with
  | 8 | 9 => s.sieveUnarrived n k dev qual w
  | 0xE => s.foldUnarrived n k dev qual w
  | _ => s.dataFail n (s.ctx n).member dev qual 2 k w

/-- A failed read-back of a context's writes ends its program (02 R69, 10 R321); the ending recorded first is kept (R66). -/
def State.ctxReadBackFails (s : State) (n : Nat) (f : AccFail) (w : Wr) : State :=
  let s := (s.modCtx n Ctx.arrived).farArrived n
  let c := s.ctx n
  let e := c.ended.getD (c.endingAt c.member (failEnding f).1 (failEnding f).2 2 (if c.cmd.isData then some c.cmd.count else none))
  if c.phase ≠ .arrive then s
  else match c.goal with
  | .member _ => s.memberUnarrived n f w
  | .mark | .advance | .overflow => if c.cmd.isData then s.memberUnarrived n f w else s.endArrived n e w
  | .freeze => (s.modCtx n fun c => { c with r := c.r.ended e c.r.state, ended := some e }).freezeNow c.r.ownerFn.toNat n w
  | .recover => s.recoverEnd n e w
  | _ => s.endArrived n e w

/-- The read-back of a ring channel's unit (R321): a failure leaves nothing of the unit known to have arrived. -/
def State.ringReadBack (s : State) (blk m c : Nat) (fail : Option AccFail) (w : Wr) : State :=
  let x := s.ringCh blk m c
  let s := (s.modRingCh blk m c fun x => { x with dirty := [], farTags := [] }).farArrived (snapRing blk m c)
  match x.ended, x.running with
  | some (reason, res), some k =>
    let d := s.desc blk m c k
    match fail with
    | none => s.unitOver blk m c reason res (0, 0) w
    | some f => s.unitOver blk m c (failReason f + 128) d.count (s.errPlace x.who d.ds d.dst) w
  | _, _ => s

/-- A read-back may issue: something was written, and LOCAL writes have been acknowledged (R321). -/
def readable (dirty : List Nat) : Bool := !dirty.isEmpty && !dirty.contains unacked

/-- READ_BACK_COMPLETE (R321). -/
def execReadBackComplete (who : Requester) (fail : Option AccFail) (w : Wr) (s : State) : Res :=
  match who with
  | .ctx n =>
    let c := s.ctx n
    whenB s (s.up && readable c.dirty && (c.r.supervisor || !s.hostWaits c.r.ownerFn.toNat (c.dirty.contains 0)))
      "the context has no write to read back"
      (match fail with | none => s.ctxArrived n w | some f => s.ctxReadBackFails n f w)
  | .ring b m c =>
    let x := s.ringCh b m c
    whenB s (s.up && readable x.dirty && !s.hostWaits x.fn (x.dirty.contains 0)) "the channel has no write to read back"
      (s.ringReadBack b m c fail w)
  | .reg b m j =>
    let x := s.regCh b m j
    let s1 := if x.ended.isSome then s else s.rcMoved b m j
    whenB s (s.moverUp b m && x.running && x.bar && decide (x.xform ≠ 6) && !s.rcWaits x && readable (s1.regCh b m j).dirty)
      "no read-back of the register channel is due"
      (match fail with
       | none => s1.modRegCh b m j fun y => { y with dirty := [] }
       | some f => s1.modRegCh b m j fun y => { y with dirty := [], ended := some (failReason f + 128, x.resid (x.count - x.moved)) })

/-- LOCAL_WRITE_ACKNOWLEDGED (R321): the HBM controller has acknowledged the LOCAL writes, and their read-back may issue. -/
def execLocalWriteAcknowledged (who : Requester) (s : State) : Res :=
  let acked := fun l : List Nat => l.filter fun k => decide (k ≠ unacked)
  match who with
  | .ctx n => whenB s (s.up && (s.ctx n).dirty.contains unacked) "no LOCAL write is outstanding"
      (s.modCtx n fun c => { c with dirty := acked c.dirty })
  | .ring b m c => whenB s (s.up && (s.ringCh b m c).dirty.contains unacked) "no LOCAL write is outstanding"
      (s.modRingCh b m c fun x => { x with dirty := acked x.dirty })
  | .reg b m j =>
    let x := s.regCh b m j
    let s1 := if x.dirty.contains unacked then s else s.rcMoved b m j
    whenB s (s.moverUp b m && (x.dirty.contains unacked ||
        (x.running && x.bar && decide (x.xform ≠ 6) && decide (x.ds = 1) && x.ended.isNone && !s.rcWaits x)))
      "no LOCAL write is outstanding" (s1.modRegCh b m j fun y => { y with dirty := acked y.dirty })

end Sys2Proof.Machine
end

