-- ==== Sys2Proof/Machine/Fifos.lean ====
section
/-! DEFINITION. The FIFO hub: items, misuse, flush, reset and status (10 R328 to R332). -/

namespace Sys2Proof.Machine

/-- The newest word belongs to an item whose end mark has not been written. -/
def Fifo.partly (x : Fifo) : Bool := match x.words.getLast? with | none => false | some (_, e) => !e

/-- Discard every word; a producer in the middle of an item discards the rest of it (R330). -/
def Fifo.flush (x : Fifo) : Fifo := { x with words := [], ctxs := [], midItem := x.midItem || x.partly }

/-- The REASON that a reset of stream FIFO `f` gives the running descriptor of a channel: its destination or its source (R331). -/
def State.fifoSide (s : State) (blk m c f : Nat) : Option Nat :=
  match s.runningDesc blk m c with
  | none => none
  | some d => if d.ds = 3 ∧ d.dst = f then some 0x90 else if d.ss = 3 ∧ d.src = f then some 0x10 else none

/-- Mark BAD the descriptors that read or write the FIFO (R331 step 4). -/
def State.failStreams (s : State) (blk f : Nat) (w : Wr) : State :=
  if 32 ≤ f then s
  else (List.range 64).foldl (fun s i =>
    match s.fifoSide blk (i / 8) (i % 8) f with
    | none => s
    | some q =>
      let x := s.ringCh blk (i / 8) (i % 8)
      let d := s.desc blk (i / 8) (i % 8) (x.running.getD 0)
      s.descEnds blk (i / 8) (i % 8) q (d.count - x.off) d.bar true (0, 0) w) s

/-- An affected context ends with CONTROL-CHECK, FIFO-POINTER (R331 step 5). -/
def State.fifoEnds (s : State) (w : Wr) (n : Nat) : State :=
  let c := s.ctx n
  if c.hasProgram then
    s.finishProgram n (c.endingAt c.member deControl 1 0 (if c.cmd.isData then some c.cmd.count else none)) w
  else s

/-- A reset of the FIFO (R331). -/
def State.fifoReset (s : State) (blk f : Nat) (w : Wr) : State :=
  let who := ((s.block blk).fifo f).ctxs
  let s := s.modFifo blk f fun x => { x.flush with reset := true }
  let s := s.cellError blk 15 { code := .fifoReset, source := f }
  who.foldl (fun s n => s.fifoEnds w n) (s.failStreams blk f w)

/-- Misuse by a cell: UNIT at that cell's capture, then a reset (R329). Which cell it is the row does not name: a free value (log 29). -/
def State.fifoMisuse (s : State) (blk f : Nat) : State :=
  let (v, s) := s.drawWord
  (s.cellUnitError blk (v.toNat % 16) { code := .fifoMisuse, source := 0 }).fifoReset blk f {}

/-- Bytes of a word (R328). -/
def wordLen (f : Nat) : Nat := if f < 32 then 64 else 16

/-- FIFO_ITEM_WRITE (R329, R330). -/
def execFifoItemWrite (blk f : Nat) (data : List Byte) (last : Bool) (s : State) : Res :=
  let x := (s.block blk).fifo f
  whenB s (s.up && decide (blk < 72) && decide (f < 64) && decide (data.length = wordLen f)) "no such FIFO or word"
    (if x.midItem then s.modFifo blk f fun x => { x with midItem := !last }
     else if x.level = fifoCap f then (s.modFifo blk f fun x => { x with overrun := true }).fifoMisuse blk f
     else s.modFifo blk f fun x => x.write [(data, last)] none)

/-- FIFO_ITEM_READ (R329): `n` words. -/
def execFifoItemRead (blk f n : Nat) (s : State) : Res :=
  let x := (s.block blk).fifo f
  let k := min n x.committed
  let s1 := if k = 0 then s else s.modFifo blk f fun x => { x with
    words := x.words.drop k
    last := ((x.words[k - 1]?).map Prod.fst).getD x.last
    ctxs := if k = x.words.length then [] else x.ctxs }
  whenB s (s.up && decide (blk < 72) && decide (f < 64) && decide (1 ≤ n)) "no such FIFO"
    (if n ≤ k then s1 else (s1.modFifo blk f fun x => { x with underrun := true }).fifoMisuse blk f)

/-- FIFO_POINTER_MISMATCH (R331). -/
def execFifoPointerMismatch (blk f : Nat) (w : Wr) (s : State) : Res :=
  whenB s (s.up && decide (blk < 72) && decide (f < 64)) "no such FIFO" (s.fifoReset blk f w)

/-- The status word (Table 10.11). -/
def Fifo.stat (x : Fifo) (f : Nat) : W64 :=
  BitVec.ofNat 64 (x.crossings * 2 ^ 32 + x.mark * 2 ^ 24 + b2n x.reset * 2 ^ 22 + b2n x.underrun * 2 ^ 21 + b2n x.overrun * 2 ^ 20 +
    b2n x.wm * 2 ^ 19 + b2n (decide (x.mark ≤ x.level)) * 2 ^ 18 + b2n (decide (x.committed = 0)) * 2 ^ 17 +
    b2n (decide (x.level = fifoCap f)) * 2 ^ 16 + x.committed * 2 ^ 8 + x.level)

/-- FH_STAT_READ (R332): the read clears CROSSINGS. -/
def execFhStatRead (blk f : Nat) (s : State) : Res :=
  whenB s (s.up && decide (blk < 72) && decide (f < 64)) "no such FIFO"
    ((s.emit (.value (((s.block blk).fifo f).stat f))).modFifo blk f fun x => { x with crossings := 0 })

end Sys2Proof.Machine
end

