-- ==== Sys2Proof/Machine/Nvm.lean ====
section
/-! DEFINITION. The NVMe host: NVM-READ, NVM-WRITE and NVM-PASS, their pieces, completions, timeouts and controllers (03 R107 to R110,
12 R367 to R369). Submission queue entries have the layout of NVMe 2.0, which R367 names. -/

namespace Sys2Proof.Machine

/-! ### Controllers -/

/-- CIC source `k` of link `l` (Table 11.12). -/
def State.linkCic (s : State) (l k : Nat) : State := s.cic (768 + 5 * l + k)

/-- The controller serves commands: it is ready, present, and its link is up (Table 03.4). -/
def State.ctrlReady (s : State) (k : Nat) : Bool :=
  match s.ctrl k with
  | none => false
  | some x => x.ready && !x.removed && (decide ((s.link x.link).mode = 1) || decide ((s.link x.link).mode = 2))

/-- The contexts with a piece at a controller. -/
def State.nvmUsers (s : State) (k : Nat) : List Nat :=
  Table.keys (s.ctxs.filter fun p : Nat × Ctx => p.2.pieces.any fun x => decide (x.ctrl = k))

/-- A command identifier of controller `k` that is free. -/
def State.freeCid (s : State) (k : Nat) (x : NvmeCtrl) : Nat :=
  let used := (s.nvmUsers k).flatMap fun n => ((s.ctx n).pieces.filter fun p => decide (p.ctrl = k) && !p.done).map Piece.cid
  (firstFrom (fun c => !(used.contains (c % 65536) || x.reserved.contains (c % 65536) || x.dropped.contains (c % 65536)))
    x.nextCid 65536).getD x.nextCid % 65536

/-! ### Submission -/

/-- A submission queue entry; the data pointer names staging buffers, whose places are not given: a free value (R368). -/
def sqeBytes (op cid nsid : Nat) (prp : W64 × W64) (cdw10 cdw11 cdw12 : Nat) : List Byte :=
  leBytes 2 op ++ leBytes 2 cid ++ leBytes 4 nsid ++ zeros 16 ++ leBytes 8 prp.1.toNat ++ leBytes 8 prp.2.toNat ++
  leBytes 4 cdw10 ++ leBytes 4 cdw11 ++ leBytes 4 cdw12 ++ zeros 12

/-- Issue one piece of context `n`: the submission and the piece (R108, R367, R368). -/
def State.issuePiece (s : State) (n : Nat) (h : NvmHandle) (first blocks bytes : Nat) (mk : Nat → W64 × W64 → List Byte)
    (data : List Byte) : State :=
  match s.ctrl h.ctrl with
  | none => s
  | some x =>
    let cid := s.freeCid h.ctrl x
    let (p1, s) := s.drawWord
    let (p2, s) := s.drawWord
    let s := s.setCtrl h.ctrl (some { x with nextCid := (cid + 1) % 65536 })
    (s.emit (.nvmeSubmit h.ctrl cid (mk cid (p1, p2)) data)).modCtx n fun c => { c with
      pieces := c.pieces ++ [{ ctrl := h.ctrl, cid := cid, first := first, blocks := blocks, bytes := bytes, issued := s.time, limit := s.farTimeout }] }

/-- Blocks of one piece (R108). -/
def pieceBlocks (mdts bs : Nat) : Nat := max 1 (min 65536 (mdts / max bs 1))

/-- The pieces of `n` blocks: first block and blocks. -/
def cutPieces (per : Nat) : Nat → Nat → Nat → List (Nat × Nat)
  | 0, _, _ => []
  | fuel + 1, first, n =>
    if n = 0 then [] else (first, min per n) :: cutPieces per fuel (first + min per n) (n - min per n)

/-- Blocks of the command: the stream decides under the count that takes it to its end (02 R50). -/
def State.nvmPieces (s : State) (h : NvmHandle) (blocks : Nat) : List (Nat × Nat) :=
  let per := pieceBlocks (((s.ctrl h.ctrl).map NvmeCtrl.mdts).getD 0) h.blockSize
  cutPieces per (blocks + 1) 0 blocks

/-- The operand through which the namespace is addressed: A, B, or C which names it. -/
def Cmd.nvOperand (c : Cmd) : BitVec 3 :=
  if c.opn = 0x18 then 1 else if c.opn = 0x19 ∧ c.mod ≠ 2 then 2 else 3

/-- A failure of a piece is recorded; the first one decides the ending (02 R66). -/
def Ctx.nvFails (c : Ctx) (dev qual : Byte) (operand : BitVec 3) : Ctx :=
  { c with nvFail := some (c.nvFail.getD (dev, qual, operand)) }

/-! ### The end of an NVMe command -/

/-- Blocks that count as not transferred after a failure: from the lowest block of a piece that failed or was not issued (R108). -/
def Ctx.nvResidual (c : Ctx) : Nat :=
  if c.cmd.opn = 0x1A then c.cmd.cnt
  else match c.lowestPiece with | none => 0 | some b => c.cmd.cnt - b

/-- Every piece has an ending: the command ends, and what a stream carried is accounted for (R108, R110, 02 R54). -/
def State.nvmOver (s : State) (n : Nat) (mis : Option (Byte × Nat)) (w : Wr) : State :=
  let c := s.ctx n
  let all := c.pieces.flatMap Piece.data
  let res := c.nvResidual
  let s := s.modCtx n fun c => { c with pieces := [], nvFail := none }
  match c.nvFail with
  | some (dev, qual, op) =>
    let good := (c.pieces.takeWhile fun p => p.done && !p.failed).flatMap Piece.data
    let s := if c.cmd.producer then s.produce n good false else s
    s.dataFail n c.member dev qual op res w
  | none =>
    let s := if c.cmd.producer && !c.cmd.skip then s.produce n all false else s
    match mis with
    | none => s.endMember n 0 none (decide (c.cmd.cnt ≠ 0) && (!c.cmd.consumer || !c.pieces.isEmpty)) w
    | some (q, k) => s.endMember n k (some q) (!c.pieces.isEmpty) w

/-- A piece changed: when none is outstanding the command ends. `rest` blocks, with a mismatch, stand in the context's transfer. -/
def State.nvmCheck (s : State) (n : Nat) (w : Wr) : State :=
  let c := s.ctx n
  if c.phase = .nvm && c.pieces.all Piece.done then
    let mis := if c.xfer.written = 0 then none else some (BitVec.ofNat 8 c.xfer.written, c.xfer.disagree)
    s.nvmOver n mis w
  else s

/-- The command has issued its pieces. -/
def State.nvmWaits (s : State) (n : Nat) (w : Wr) : State := (s.modCtx n fun c => { c with phase := .nvm }).nvmCheck n w

/-- The namespace's controller does not serve: the command ends UNAVAILABLE (R368). -/
def State.nvmUnavailable (s : State) (n : Nat) (w : Wr) : State :=
  let c := s.ctx n
  let s := if c.cmd.consumer then s.accept n 0 else s
  s.dataFail n c.member deDevice 5 c.cmd.nvOperand c.cmd.cnt w

/-- Run an NVMe row: the command is of the opcode and modifier, and its handle passed its check when the command began. -/
def State.nvmRow (s : State) (n : Nat) (is : Cmd → Bool) (act : NvmHandle → State) (w : Wr) : Res :=
  let c := s.ctx n
  match s.nvm (c.cmd.cf 0 16) with
  | none => idleB s "the command names no namespace"
  | some h =>
    whenB s (s.mayRun n is) "no such NVMe command may run"
      (if s.ctrlReady h.ctrl then act h else s.nvmUnavailable n w)

/-- The command has an opcode and a modifier. -/
def isNvm (o m : Nat) (c : Cmd) : Bool := decide (c.opn = o) && decide (c.mod = m)

/-- The entry that reads or writes blocks. -/
def ioSqe (op nsid lba blocks : Nat) (fua : Bool) (cid : Nat) (prp : W64 × W64) : List Byte :=
  sqeBytes op cid nsid prp (lba % 0x100000000) (lba / 0x100000000) ((blocks - 1) + (if fua then 0x40000000 else 0))

/-- NVM-READ (R107, R108). -/
def execNvmRead (ctx : Nat) (w : Wr) (s : State) : Res :=
  let c := s.ctx ctx
  s.nvmRow ctx (isNvm 0x18 0) (fun h =>
    ((s.nvmPieces h c.cmd.cnt).foldl (fun s p =>
      s.issuePiece ctx h p.1 p.2 (p.2 * h.blockSize) (ioSqe 2 h.nsid (c.cmd.ca + p.1) p.2 false) []) s).nvmWaits ctx w) w

/-- Issue the pieces of a write, each with its bytes; a piece whose source cannot be read is not issued, nor is any after it. -/
def State.issueWrites (n : Nat) (h : NvmHandle) (fua : Bool) (src : Nat → Nat → State → List Byte × Option AccFail) :
    List (Nat × Nat) → State → State
  | [], s => s
  | (first, k) :: l, s =>
    let c := s.ctx n
    match src first k s with
    | (_, some why) =>
      let p : Piece := { ctrl := h.ctrl, cid := 0, first := first, blocks := k, bytes := 0, failed := true, done := true }
      s.modCtx n fun c => { c with pieces := c.pieces ++ [p] }.nvFails (failEnding why).1 (failEnding why).2 1
    | (bs, none) =>
      State.issueWrites n h fua src l
        (s.issuePiece n h first k (k * h.blockSize) (ioSqe 1 h.nsid (c.cmd.cb + first) k fua) bs)

/-- WRITE and WRITE-FUA (R107, R108): from memory, or from the stream with its mismatches. -/
def State.nvmWriteAct (s : State) (n : Nat) (h : NvmHandle) (fua : Bool) (w : Wr) : State :=
  let c := s.ctx n
  let bs := h.blockSize
  if !c.cmd.consumer then
    let src := fun first k (s : State) =>
      let (d, f) := s.readRange c.me c.cmd.spaceA (c.cmd.ca + first * bs) (k * bs)
      (d, f.map Prod.snd)
    (State.issueWrites n h fua src (s.nvmPieces h c.cmd.cnt) s).nvmWaits n w
  else
    let all := if c.cmd.toEnd then c.grp.data else c.grp.data.take (c.cmd.cnt * bs)
    let full := all.length / bs
    let part := all.length % bs
    let pad := decide (part ≠ 0) && c.cmd.lenok
    let blocks := full + b2n pad
    let mis : Option (Byte × Nat) :=
      if part ≠ 0 then some (3, if c.cmd.toEnd then 0 else c.cmd.cnt - blocks)
      else if c.cmd.toEnd then none
      else if full < c.cmd.cnt then some (1, c.cmd.cnt - full)
      else if c.grp.data.length ≠ all.length then some (2, 0) else none
    if h.blocks < c.cmd.cb + blocks then s.checkFail n deProgram 0x4C 0 none w
    else
      let data := all ++ zeros (bs - part)
      let src := fun first k (_ : State) => ((data.drop (first * bs)).take (k * bs), (none : Option AccFail))
      let s := s.accept n all.length
      let s := s.modCtx n fun c => { c with xfer := { c.xfer with
        written := match mis with | none => 0 | some (q, _) => q.toNat, disagree := match mis with | none => 0 | some (_, k) => k } }
      (State.issueWrites n h fua src (s.nvmPieces h blocks) s).nvmWaits n w

/-- NVM-WRITE WRITE (R107). -/
def execNvmWrite (ctx : Nat) (w : Wr) (s : State) : Res := s.nvmRow ctx (isNvm 0x19 0) (fun h => s.nvmWriteAct ctx h false w) w

/-- NVM-WRITE WRITE-FUA (R107). -/
def execNvmWriteFua (ctx : Nat) (w : Wr) (s : State) : Res := s.nvmRow ctx (isNvm 0x19 1) (fun h => s.nvmWriteAct ctx h true w) w

/-- NVM-WRITE FLUSH (R107). -/
def execNvmFlush (ctx : Nat) (w : Wr) (s : State) : Res :=
  s.nvmRow ctx (isNvm 0x19 2) (fun h =>
    (s.issuePiece ctx h 0 0 0 (fun cid _ => sqeBytes 0 cid h.nsid (0, 0) 0 0 0) []).nvmWaits ctx w) w

/-- NVM-WRITE DEALLOCATE (R107): Dataset Management with one range and the deallocate attribute. -/
def execNvmDeallocate (ctx : Nat) (w : Wr) (s : State) : Res :=
  let c := s.ctx ctx
  s.nvmRow ctx (isNvm 0x19 3) (fun h =>
    ((s.nvmPieces h c.cmd.cnt).foldl (fun s p =>
      s.issuePiece ctx h p.1 p.2 0 (fun cid prp => sqeBytes 9 cid h.nsid prp 0 4 0)
        (zeros 4 ++ leBytes 4 p.2 ++ leBytes 8 (c.cmd.cb + p.1))) s).nvmWaits ctx w) w

/-- The image of an NVM-PASS with its four fields replaced (R110). -/
def passSqe (img : List Byte) (nsid cid : Nat) (prp : W64 × W64) : List Byte :=
  (img.take 2) ++ leBytes 2 cid ++ leBytes 4 nsid ++ (img.drop 8).take 8 ++ zeros 8 ++ leBytes 8 prp.1.toNat ++
  leBytes 8 prp.2.toNat ++ img.drop 40

/-- NVM-PASS (R109, R110): data to the controller comes from B. -/
def execNvmPass (ctx : Nat) (w : Wr) (s : State) : Res :=
  let c := s.ctx ctx
  let img := c.xfer.desc
  let dir := byteAt img 0 % 4
  s.nvmRow ctx (isOp 0x1A) (fun h =>
    match (if dir = 1 then s.readRange c.me c.cmd.spaceB c.cmd.cb c.cmd.cnt else ([], none)) with
    | (_, some (o, why)) => s.dataFail ctx c.member (failEnding why).1 (failEnding why).2 2 (c.cmd.cnt - o) w
    | (bs, none) =>
      (s.issuePiece ctx h 0 0 c.cmd.cnt (passSqe img h.nsid) bs).nvmWaits ctx w) w

/-! ### Completions -/

/-- The context that waits for a command identifier of a controller. -/
def State.pieceOwner (s : State) (k cid : Nat) : Option Nat :=
  (s.nvmUsers k).find? fun n => (s.ctx n).pieces.any fun p => decide (p.ctrl = k) && decide (p.cid = cid) && !p.done

/-- Change the outstanding piece of a context. -/
def Ctx.modPiece (c : Ctx) (k cid : Nat) (g : Piece → Piece) : Ctx :=
  { c with pieces := c.pieces.map fun p => if p.ctrl = k ∧ p.cid = cid ∧ !p.done then g p else p }

/-- The bytes that a good completion of a piece brings. -/
def Ctx.pieceData (c : Ctx) (p : Piece) : Nat :=
  if c.cmd.opn = 0x18 then p.bytes
  else if c.cmd.opn = 0x1A then 16 + (if byteAt c.xfer.desc 0 % 4 = 2 then p.bytes else 0)
  else 0

/-- Data of an NVM-READ's piece goes to B, to the stream when the command ends, or nowhere under SKIP. -/
def State.pieceToB (s : State) (n : Nat) (p : Piece) (data : List Byte) : State × Option AccFail :=
  let c := s.ctx n
  if c.cmd.skip then (s, none)
  else if c.cmd.producer then (s.modCtx n fun c => c.modPiece p.ctrl p.cid fun x => { x with data := data }, none)
  else
    let bs := if p.blocks = 0 then 0 else p.bytes / p.blocks
    let (s, f) := s.writeRange n c.me c.cmd.spaceB (c.cmd.cb + p.first * bs) data
    (s, f.map Prod.snd)

/-- NVM-PASS: the CQE is written, then the data that came (R110). -/
def State.passDone (s : State) (n : Nat) (data : List Byte) (ok : Bool) : State × Option (AccFail × BitVec 3) :=
  let c := s.ctx n
  match s.writeRange n c.me c.cmd.spaceA (c.cmd.ca + 64) (data.take 16) with
  | (s, some (_, f)) => (s, some (f, 1))
  | (s, none) =>
    if !ok || byteAt c.xfer.desc 0 % 4 ≠ 2 then (s, none)
    else
      let (s, f) := s.writeRange n c.me c.cmd.spaceB c.cmd.cb (data.drop 16)
      (s, f.map fun p => (p.2, 2))

/-- The completion entry of an outstanding piece (R108, Table 03.4). -/
def State.pieceDone (s : State) (n : Nat) (p : Piece) (status : NvmeStatus) (data : List Byte) (w : Wr) : State :=
  let c := s.ctx n
  let read := decide (c.cmd.opn = 0x18)
  let ok := decide (status = .success)
  let (s, f) : State × Option (AccFail × BitVec 3) :=
    if c.cmd.opn = 0x1A then s.passDone n data ok
    else if ok && read then let (s, f) := s.pieceToB n p data; (s, f.map fun f => (f, 2))
    else (s, none)
  let bad : Option (Byte × Byte × BitVec 3) := match f, status with
    | some (f, op), _ => some ((failEnding f).1, (failEnding f).2, op)
    | none, .success => none
    | none, .media _ => if read then some (deData, 3, c.cmd.nvOperand) else some (deDevice, 4, c.cmd.nvOperand)
    | none, .other _ => some (deDevice, 4, c.cmd.nvOperand)
  let s := s.modCtx n fun c =>
    let c := c.modPiece p.ctrl p.cid fun x => { x with done := true, failed := bad.isSome }
    match bad with | none => c | some (d, q, op) => c.nvFails d q op
  s.nvmCheck n w

/-- A late response: discarded and counted (R369). -/
def State.lateOn (s : State) (l : Nat) : State :=
  (s.setLink l { s.link l with late := satInc (s.link l).late 0xFFFF }).linkCic l 3

/-- NVME_COMPLETION (R108, R369). -/
def execNvmeCompletion (ctrl cid : Nat) (status : NvmeStatus) (data : List Byte) (w : Wr) (s : State) : Res :=
  match s.ctrl ctrl with
  | none => idleB s "no such controller"
  | some x =>
    match s.pieceOwner ctrl cid with
    | some n =>
      let c := s.ctx n
      match c.pieces.find? fun p => decide (p.ctrl = ctrl) && decide (p.cid = cid) && !p.done with
      | none => idleB s "no such piece"
      | some p =>
        let need := c.pieceData p
        let sound := if status = .success then decide (data.length = need)
                     else decide (c.cmd.opn ≠ 0x1A) || decide (data.length = 16)
        whenB s (s.up && sound && !(c.r.supervisor = false && (s.fn c.r.ownerFn.toNat).stopped && c.cmd.touchesHost))
          "the completion cannot have brought this" (s.pieceDone n p status data w)
    | none =>
      if x.reserved.contains cid then
        whenB s s.up "the part is down" ((s.setCtrl ctrl (some { x with reserved := x.reserved.filter (· ≠ cid) })).lateOn x.link)
      else if x.dropped.contains cid then
        whenB s s.up "the part is down" (s.setCtrl ctrl (some { x with dropped := x.dropped.filter (· ≠ cid) }))
      else idleB s "nobody waits for the completion"

/-- Outstanding pieces at a controller end UNAVAILABLE (R358, R368). -/
def State.piecesLost (s : State) (k : Nat) (w : Wr) : State :=
  (s.nvmUsers k).foldl (fun s n =>
    let c := s.ctx n
    if c.pieces.any fun p => decide (p.ctrl = k) && !p.done then
      let lose := fun (p : Piece) => if p.ctrl = k ∧ !p.done then { p with done := true, failed := true } else p
      (s.modCtx n fun c => ({ c with pieces := c.pieces.map lose } : Ctx).nvFails deDevice 5 c.cmd.nvOperand).nvmCheck n w
    else s) s

/-- NVME_CONTROLLER_FAIL (R368): a fatal or not-ready controller is reset. -/
def execNvmeControllerFail (ctrl : Nat) (why : CtrlFail) (w : Wr) (s : State) : Res :=
  match s.ctrl ctrl with
  | none => idleB s "no such controller"
  | some x =>
    let removed := decide (why = .removed)
    let s1 := s.setCtrl ctrl (some { x with ready := false, removed := x.removed || removed, reserved := [], dropped := [] })
    let s1 := if removed then s1 else s1.emit (.ctrlReset ctrl)
    whenB s (s.up && x.ready) "the controller does not serve" (s1.piecesLost ctrl w)

/-- NVME_CONTROLLER_READY (R368): the queues are created again. -/
def execNvmeControllerReady (ctrl : Nat) (s : State) : Res :=
  match s.ctrl ctrl with
  | none => idleB s "no such controller"
  | some x => whenB s (s.up && !x.ready && !x.removed) "the controller is not in reset"
      (s.setCtrl ctrl (some { x with ready := true }))

/-- An ATTENTION record on status ring 0 of FN[0] (Tables 06.30, 12.10). -/
def State.attention (s : State) (l source rid type data : Nat) (addr : W64) (w : Wr) : State :=
  s.postStatus 0 0 (plainStatus 3 ([BitVec.ofNat 8 l, BitVec.ofNat 8 source] ++ zeros 6 ++ leBytes 2 rid ++
    [BitVec.ofNat 8 type, 0] ++ leBytes 4 data ++ leBytes 8 addr.toNat)) w

/-- NVME_ASYNC_EVENT (R367). -/
def execNvmeAsyncEvent (ctrl : Nat) (data : W32) (w : Wr) (s : State) : Res :=
  match s.ctrl ctrl with
  | none => idleB s "no such controller"
  | some x => whenB s (s.up && s.ctrlReady ctrl) "the controller does not serve"
      ((s.attention x.link 1 x.rid 0 data.toNat 0 w).linkCic x.link 2)

/-- The link that serves the far virtual address of a context's access. -/
def State.linkAt (s : State) (n a : Nat) : Option Nat := s.linkOf (s.farPa (s.ctx n).me a)

/-- DOWNSTREAM_TIMEOUT (R369). -/
def execDownstreamTimeout (who : Downstream) (t : Nat) (w : Wr) (s : State) : Res :=
  match who with
  | .far n bib a len =>
    let s0 := s.at_ t
    let s1 := s0.modCtx n fun c => { c with fails := c.fails ++ [{ space := 2, addr := a, len := len, why := .farTimeout }] }
    whenB s (s.up && s.notBefore t) "the part is down, or the time has passed"
      (s0.replyTo n bib (s0.lateOver n bib) (match s.linkAt n a with | none => s1 | some l => s1.linkCic l 3))
  | .piece k cid =>
    match s.pieceOwner k cid, s.ctrl k with
    | some n, some x =>
      let c := s.ctx n
      let late := (c.pieces.filter fun p => decide (p.ctrl = k) && decide (p.cid = cid)).all fun p => reached t (p.issued + p.limit * 1000)
      let s1 := ((s.at_ t).setCtrl k (some { x with reserved := insertNat cid x.reserved })).emit (.nvmeAbort k cid)
      let s1 := s1.modCtx n fun c => (c.modPiece k cid fun p => { p with done := true, failed := true }).nvFails deTimeout 3 c.cmd.nvOperand
      whenB s (s.up && s.notBefore t && late) "the timeout has not passed"
        ((s1.linkCic x.link 3).nvmCheck n w)
    | _, _ => idleB s "no such piece is outstanding"

end Sys2Proof.Machine
end

