-- ==== Sys2Proof/Machine/Fabric.lean ====
section
/-! DEFINITION. Fabric links, CXL devices, dynamic capacity and the domain (12 R358 to R366, R370 to R374), and what responses show
(03 R86, 02 R62). -/

namespace Sys2Proof.Machine

/-! ### Responses to a context's accesses (03 R86, 02 R62) -/

/-- A failure of an outstanding access of context `n` is known. -/
def State.addFail (s : State) (n space a len : Nat) (why : AccFail) (write : Option Bool) : State :=
  s.modCtx n fun c => { c with fails := c.fails ++ [{ space := space, addr := a, len := len, why := why, write := write }] }

/-- HOST_COMPLETION (R86): data shows what host memory holds. A write is posted and has no completion: the only failure of one is found
before it issues, by address translation. -/
def execHostCompletion (tag : CtxTag) (addr : Nat) (r : Answer) (s : State) : Res :=
  whenB s s.up "the part is down"
    (s.replyTo tag.ctx tag.bib (s.staleResponse tag.ctx tag.bib)
      (match r with
       | .data bs => s.learn (.mem (s.ctx tag.ctx).me 0) addr bs
       | .fail why wr => if wr && decide (why ≠ .ats) then s else s.addFail tag.ctx 0 addr 1 why (some wr)))

/-- HOST_COMPLETION_TIMEOUT (R62): of a non-posted request; that of a request that waits for D0 does not run (06 R180). -/
def execHostCompletionTimeout (tag : CtxTag) (addr len : Nat) (s : State) : Res :=
  let c := s.ctx tag.ctx
  whenB s (s.up && (c.abandoned tag.bib || c.r.supervisor || !(s.fn c.r.ownerFn.toNat).stopped)) "the part is down, or the request waits"
    (s.replyTo tag.ctx tag.bib (s.lateOver tag.ctx tag.bib) (s.addFail tag.ctx 0 addr len .hostTimeout (some false)))

/-- FAR_RESPONSE (R86): data shows what far memory holds. -/
def execFarResponse (tag : CtxTag) (addr : Nat) (r : Answer) (s : State) : Res :=
  whenB s s.up "the part is down"
    (s.replyTo tag.ctx tag.bib (s.staleResponse tag.ctx tag.bib)
      (match r with
       | .data bs => s.learn (.mem (s.ctx tag.ctx).me 2) addr bs
       | .fail why wr => s.addFail tag.ctx 2 addr 1 why (some wr)))

/-- LATE_RESPONSE (R369). -/
def execLateResponse (l : Nat) (s : State) : Res :=
  whenB s (s.up && decide (l < 24)) "no such link" (s.lateOn l)

/-! ### Links (R358, R359) -/

/-- FL[2n + 1] of an unbifurcated port is absent (Table 12.3, 15 R433). -/
def State.absent (s : State) (l : Nat) : Bool := decide (l % 2 = 1) && !s.board.fpbif.getLsbD (l / 2)

/-- Lanes of a link: 8, or 4 of a bifurcated port. -/
def State.lanes (s : State) (l : Nat) : Nat := if s.board.fpbif.getLsbD (l / 2) then 4 else 8

/-- MODE as FL_STAT shows it. -/
def State.linkMode (s : State) (l : Nat) : Nat := if s.absent l then 3 else (s.link l).mode

/-- FL_STAT (Table 12.3). -/
def State.flStat (s : State) (l : Nat) : W64 :=
  let x := s.link l
  BitVec.ofNat 64 (x.late * 2 ^ 48 + x.downs * 2 ^ 40 + x.retrains * 2 ^ 32 + b2n x.lanesLost * 2 ^ 16 + x.rate * 2 ^ 12 +
    x.width * 2 ^ 8 + x.retimers * 16 + s.linkMode l)

/-- FL_PARTNER (Table 12.4). -/
def Link.partner (x : Link) : W64 :=
  BitVec.ofNat 64 (x.vendor.toNat * 2 ^ 48 + x.device.toNat * 2 ^ 32 + x.kind * 2 ^ 28 + b2n x.dcd * 2 ^ 27 + b2n x.mld * 2 ^ 26 +
    b2n x.mh * 2 ^ 25 + b2n x.flit256 * 2 ^ 24 + x.pMaxRate * 2 ^ 20 + x.pMaxWidth * 2 ^ 16)

/-- LCLASS (Table 12.6): LOSS is in quarters of a dB. -/
def lengthClass (loss : Nat) : Nat := if loss ≤ 48 then 0 else if loss ≤ 96 then 1 else if loss ≤ 132 then 2 else 3

/-- FL_MEAS (Table 12.5). -/
def Link.meas (x : Link) : W64 := BitVec.ofNat 64 (lengthClass x.loss * 256 + x.loss)

/-- FL_CTL (Table 12.2). -/
def Link.ctl (x : Link) : W32 :=
  BitVec.ofNat 32 (x.maxRate * 16 + b2n x.allowCxl * 4 + b2n x.allowPcie * 2 + b2n x.en)

/-- The mode in which a link comes up with a partner (R358). -/
def Link.trains (x : Link) (cxl : Bool) : Option Nat :=
  if !x.en then none
  else if cxl && x.allowCxl then some 2
  else if x.allowPcie then some 1
  else none

/-- Scepica takes the controllers found on a link, up to 96, in order of discovery (R367). -/
def State.takeCtrls (s : State) (l : Nat) : List (Nat × Nat × Nat) → State
  | [] => s
  | (rid, mdts, pairs) :: rest =>
    let known := (s.ctrls.find? fun p => match p.2 with | some x => decide (x.link = l) && decide (x.rid = rid) | none => false)
    let s := match known with
      | some (k, some x) => (s.setCtrl k (some { x with mdts := mdts, pairs := min 64 pairs, ready := true, removed := false,
                                                        reserved := [], dropped := [] })).emit (.ctrlReset k)
      | _ => match firstFrom (fun k => (s.ctrl k).isNone) 0 96 with
        | none => s
        | some k => (s.setCtrl k (some { link := l, rid := rid, mdts := mdts, pairs := min 64 pairs })).emit (.ctrlReset k)
    s.takeCtrls l rest

/-- LINK_UP (R357 to R359, R365, R367): CXL runs at 8 to 64 GT/s (Table 12.1). -/
def execLinkUp (l : Nat) (tr : Training) (s : State) : Res :=
  let x := s.link l
  let top := min x.maxRate tr.pMaxRate
  match x.trains (tr.partnerCxl && decide (3 ≤ top)) with
  | none => idleB s "the link does not come up"
  | some m =>
    let rate := if m = 2 then min top 6 else top
    let lost := decide (tr.width < s.lanes l) && decide (s.lanes l ≤ tr.pMaxWidth)
    let y := { x with mode := m, rate := rate, width := tr.width, retimers := tr.retimers, vendor := tr.vendor, device := tr.device,
                      kind := tr.kind, dcd := tr.dcd, mld := tr.mld, mh := tr.mh, flit256 := tr.flit256, pMaxRate := tr.pMaxRate,
                      pMaxWidth := tr.pMaxWidth, loss := tr.loss.toNat, lanesLost := x.lanesLost || lost,
                      memOn := decide (m = 2) && (decide (tr.kind = 4) || decide (tr.kind = 5)) }
    whenB s (s.up && decide (l < 24) && !s.absent l && decide (x.mode = 0) && decide (tr.rate = rate) && decide (1 ≤ tr.width) &&
        decide (tr.width ≤ s.lanes l) && decide (tr.retimers ≤ 2) && decide (tr.kind ≤ 6)) "the link cannot have trained so"
      ((((s.setLink l y).linkCic l 0).takeCtrls l tr.ctrls).publishHealth {})

/-- The controllers of a link. -/
def State.ctrlsOf (s : State) (l : Nat) : List Nat :=
  Table.keys (s.ctrls.filter fun p => match p.2 with | some x => decide (x.link = l) | none => false)

/-- LINK_DOWN (R358): outstanding requests end UNAVAILABLE; those of data commands do when their row runs, because the link's
memory is not reachable any more. -/
def execLinkDown (l : Nat) (s : State) : Res :=
  let x := s.link l
  let y := { x with mode := 0, rate := 0, width := 0, downs := satInc x.downs 255, memOn := false, downAt := s.time }
  whenB s (s.up && decide (l < 24) && (decide (x.mode = 1) || decide (x.mode = 2))) "the link is not up"
    ((s.ctrlsOf l).foldl (fun s k => s.piecesLost k {}) ((s.setLink l y).linkCic l 0))

/-- LINK_RETRAIN_TIMER (R358): a down link retrains every 100 ms while EN is 1. -/
def execLinkRetrainTimer (l t : Nat) (s : State) : Res :=
  let x := s.link l
  whenB s (s.up && decide (l < 24) && !s.absent l && decide (x.mode = 0) && x.en && s.notBefore t &&
      reached t (x.downAt + 100000000)) "no retraining is due"
    (((s.at_ t).setLink l { x with downAt := t % timeMod }).linkCic l 0)

/-- PRESENCE_CHANGE (15 R434). -/
def execPresenceChange (l : Nat) (present : Bool) (s : State) : Res :=
  whenB s (s.up && decide (l < 24) && decide ((s.link l).present ≠ present)) "the presence has not changed"
    ((s.setLink l { s.link l with present := present }).linkCic l 4)

/-- FL_STAT_READ (R358): LATE, DOWNS and RETRAINS clear. -/
def execFlStatRead (l : Nat) (s : State) : Res :=
  whenB s (s.up && decide (l < 24)) "no such link"
    ((s.emit (.value (s.flStat l))).setLink l { s.link l with late := 0, downs := 0, retrains := 0 })

/-- FL_LANE (Table 12.7). -/
def Link.lane (x : Link) (i : Nat) : W64 :=
  BitVec.ofNat 64 (Table.get natDef x.corr i * 2 ^ 32 + Table.get natDef x.berExp i)

/-- FL_LANE_READ (R359): CORR clears. -/
def execFlLaneRead (l i : Nat) (s : State) : Res :=
  let x := s.link l
  whenB s (s.up && decide (l < 24) && decide (i < 8)) "no such lane"
    ((s.emit (.value (x.lane i))).setLink l { x with corr := Table.set natDef x.corr i 0 })

/-- FABRIC_ERROR (13 R377). -/
def execFabricError (l : Nat) (k : AerKind) (s : State) : Res :=
  let code := if k = .cor then ErrCode.fabricCor else .fabricUncor
  whenB s (s.up && decide (l < 24)) "no such link"
    ((s.linkCic l 1).error .chip { code := code, source := 768 + 5 * l + 1 })

/-! ### CXL devices (R365, R366) -/

/-- The link has a memory device or a CXL switch. -/
def Link.hasMem (x : Link) : Bool := x.memOn && (decide (x.kind = 4) || decide (x.kind = 5))

/-- CXL_EVENT_LOG (R365). -/
def execCxlEventLog (l : Nat) (rid : BitVec 16) (log : Nat) (data : W32) (addr : W64) (w : Wr) (s : State) : Res :=
  whenB s (s.up && decide (l < 24) && (s.link l).hasMem && decide (log < 4)) "no such device"
    (((s.attention l 2 rid.toNat log data.toNat addr w).emit (.eventCleared l)).linkCic l 2)

/-- The ATTENTION record of a dynamic capacity event (R366). -/
def State.dcNote (s : State) (e : Extent) (type : Nat) (w : Wr) : State :=
  (s.attention e.link 3 e.rid.toNat type e.len2m (BitVec.ofNat 64 e.base) w).linkCic e.link 2

/-- The extent that an event names. -/
def Extent.named (e : Extent) (l : Nat) (rid : BitVec 16) (base len2m : Nat) : Bool :=
  decide (e.link = l) && decide (e.rid = rid) && decide (e.base = base) && decide (e.len2m = len2m)

/-- DC_ADD (R366). -/
def execDcAdd (l : Nat) (rid : BitVec 16) (base len2m : Nat) (w : Wr) (s : State) : Res :=
  let e : Extent := { link := l, rid := rid, base := base, len2m := len2m }
  let s1 := { s with extents := (s.extents.filter fun (x : Extent) =>
    !(decide (x.link = l) && decide (x.base < base + len2m * 0x200000) && decide (base < x.base + x.len2m * 0x200000))) ++ [e] }
  whenB s (s.up && decide (l < 24) && (s.link l).hasMem && decide (len2m ≠ 0)) "no such device"
    ((s1.emit (.dcAnswer l 0 base len2m)).dcNote e 0 w)

/-- A valid far translation entry of some function maps a byte of the range (R366). -/
def State.rangeMapped (s : State) (base len : Nat) : Bool :=
  let hit := fun size (p : Nat × W64) => p.2.getLsbD 0 &&
    decide (bits p.2.toNat 21 29 * 0x200000 < base + len) && decide (base < bits p.2.toNat 21 29 * 0x200000 + size)
  s.fns.any fun f => f.2.ftt2m.any (hit 0x200000) || f.2.ftt1g.any (hit 0x40000000)

/-- The extent is released: the device has it back, and its range is not usable any more (R366). -/
def State.dcRelease (s : State) (e : Extent) (w : Wr) : State :=
  let s := { s with extents := s.extents.map fun x => if x = e then { x with withdrawn := true, releasing := false } else x }
  (s.emit (.dcAnswer e.link 3 e.base e.len2m)).dcNote e 3 w

/-- DC_RELEASE_REQUEST (R366). -/
def execDcReleaseRequest (l : Nat) (rid : BitVec 16) (base len2m : Nat) (w : Wr) (s : State) : Res :=
  match s.extents.find? fun e => e.named l rid base len2m && !e.withdrawn with
  | none => idleB s "no such extent"
  | some e =>
    whenB s (s.up && (s.link l).hasMem && !e.releasing) "the extent is being released"
      (if s.rangeMapped base (len2m * 0x200000) then
         ({ s with extents := s.extents.map fun x => if x = e then { x with releasing := true } else x }).dcNote e 1 w
       else s.dcRelease e w)

/-- Extents whose release waits are released once nothing maps them (R366). -/
def State.dcSettle (s : State) (w : Wr) : State :=
  (s.extents.filter fun e => e.releasing && !s.rangeMapped e.base (e.len2m * 0x200000)).foldl (fun s e => s.dcRelease e w) s

/-- DC_FORCED_RELEASE (R366). -/
def execDcForcedRelease (l : Nat) (rid : BitVec 16) (base len2m : Nat) (w : Wr) (s : State) : Res :=
  match s.extents.find? fun e => e.named l rid base len2m && !e.withdrawn with
  | none => idleB s "no such extent"
  | some e =>
    whenB s (s.up && decide (l < 24)) "no such link"
      (({ s with extents := s.extents.map fun x => if x = e then { x with withdrawn := true, releasing := false } else x }).dcNote e 2 w)

/-- FTT_WALK_COMPLETE (R362): a region's cache takes the entry of a page, or the walk met an uncorrectable error and the leaf's
4,096 entries become invalid. -/
def execFttWalkComplete (region fn : Nat) (page1g : Bool) (page : Nat) (r : RecordRead) (s : State) : Res :=
  let f := s.fn fn
  let x := s.region region
  let e := Table.get w64Def (if page1g then f.ftt1g else f.ftt2m) page
  let key := fun p : Nat × Bool × Nat × W64 => decide (p.1 = fn) && decide (p.2.1 = page1g) && decide (p.2.2.1 = page)
  let set := fun p : Nat × Bool × Nat × W64 => decide (p.2.2.1 % 256 = page % 256)
  let others := x.ftc.filter fun p => !key p
  let full := decide (16 ≤ (others.filter set).length)
  let oldest := others.find? set
  let kept := if full then others.filter fun p => decide (some p ≠ oldest) else others
  let bad := match r with | .good | .shadowBad => false | .bad | .lost _ => true
  let gone := fun (t : Table W64) => t.filter fun p => decide (p.1 / 4096 ≠ page / 4096)
  let f' := if page1g then { f with ftt1g := gone f.ftt1g } else { f with ftt2m := gone f.ftt2m }
  whenB s (s.up && decide (region < 8) && s.fnExists fn && (decide (e ≠ 0) || bad)) "no leaf holds the page"
    (if bad then ((s.setFn fn f').cic (64 * region + 11)).error (.region region) { code := .fttLeaf, source := 8, fn := some fn }
     else s.setRegion region { x with ftc := kept ++ [(fn, page1g, page, e)] })

/-! ### The domain (R370 to R374) -/

def State.modDomain (s : State) (g : Domain → Domain) : State := { s with domain := g s.domain }

/-- Presence of another member changes (R371). -/
def State.setPresent (s : State) (m : Nat) (here : Bool) : State :=
  let d := s.domain
  let b := BitVec.ofNat 32 (2 ^ m)
  if d.present.getLsbD m = here then s
  else (s.modDomain fun d => { d with present := if here then d.present ||| b else d.present &&& ~~~b }).cic 889

/-- A waiting ask is sent again to a member that became present (Table 12.12 step 5). -/
def State.askAgain (s : State) (m : Nat) : State :=
  let d := s.domain
  d.asks.foldl (fun s p => match p.2 with
    | none => s
    | some a =>
      let a := { a with waiting := (a.waiting.filter fun x => decide (x.1 ≠ m)) ++ [(m, s.domainLimit)] }
      (s.modDomain fun d => { d with asks := Table.set noneDef d.asks p.1 (some a) }).sendDomain
        { type := 2, sender := d.member, dest := m, epoch := a.epoch, askId := p.1 }) s

/-- An accepted message other than LEAVE: its sender was heard, and is present (R371). -/
def State.heardFrom (s : State) (m : Nat) : State :=
  let was := s.domain.present.getLsbD m
  let s := s.modDomain fun d => { d with silentAt := Table.set natDef d.silentAt m s.domainLimit }
  let s := s.setPresent m true
  if was then s else s.askAgain m

/-- What becomes of a received message (R371). -/
inductive Hearing where
  | ignored | own | mismatch | accepted
deriving DecidableEq, Repr

/-- The discards of R371, in their order. -/
def Domain.hears (d : Domain) (m : DomMsg) : Hearing :=
  if !d.joined then .ignored
  else if m.sender = d.member then .own
  else if m.type = 0 ∨ 4 < m.type ∨ 32 ≤ m.sender ∨ !d.members.getLsbD m.sender ∨ (m.type = 1 ∧ m.members ≠ d.members) then .mismatch
  else if m.dest ≠ d.member ∧ m.dest ≠ 0xFF then .ignored
  else .accepted

/-- Receive a message: count a discard, or do `act`. -/
def State.receive (s : State) (m : DomMsg) (act : State → State) : State :=
  match s.domain.hears m with
  | .ignored => s
  | .own => s.modDomain fun d => { d with own := satInc d.own 0xFFFF }
  | .mismatch => s.modDomain fun d => { d with mismatch := satInc d.mismatch 0xFFFF }
  | .accepted => act s

/-- HELLO (R371). A message of a reserved type is received here. -/
def execHello (msg : DomMsg) (s : State) : Res :=
  whenB s (s.up && decide (msg.type ≠ 2) && decide (msg.type ≠ 3) && decide (msg.type ≠ 4)) "the message is no HELLO"
    (s.receive msg fun s => s.heardFrom msg.sender)

/-- ASK (Table 12.12 step 3). -/
def execAsk (msg : DomMsg) (s : State) : Res :=
  whenB s (s.up && decide (msg.type = 2)) "the message is no ASK"
    (s.receive msg fun s =>
      ((s.heardFrom msg.sender).modDomain fun d => { d with
        answering := (d.answering.filter fun a => !(decide (a.1 = msg.sender) && decide (a.2.1 = msg.askId))) ++
          [(msg.sender, msg.askId, msg.epoch, s.snapshot msg.epoch)] }).cic 888)

/-- ASK_REPLY_SEND (Table 12.12 step 3): the snapshot has arrived. -/
def execAskReplySend (sender askId : Nat) (s : State) : Res :=
  let d := s.domain
  match d.answering.find? fun a => decide (a.1 = sender) && decide (a.2.1 = askId) with
  | none => idleB s "no such ask is being answered"
  | some (_, _, e, l) =>
    let s1 := s.modDomain fun d => { d with
      answering := d.answering.filter fun a => !(decide (a.1 = sender) && decide (a.2.1 = askId)) }
    whenB s (s.up && d.joined && l.isEmpty) "the snapshot has not arrived"
      (s1.sendDomain { type := 3, sender := d.member, dest := sender, epoch := e, askId := askId })

/-- REPLY (Table 12.12 step 4). -/
def execReply (msg : DomMsg) (s : State) : Res :=
  whenB s (s.up && decide (msg.type = 3)) "the message is no REPLY"
    (s.receive msg fun s =>
      let s := (s.heardFrom msg.sender).cic 888
      let late := s.modDomain fun d => { d with late := satInc d.late 0xFFFF }
      match Table.get noneDef s.domain.asks msg.askId with
      | none => late
      | some a =>
        let a' : Ask := { a with waiting := a.waiting.filter fun x => decide (x.1 ≠ msg.sender) }
        if a.epoch = msg.epoch && (a.waiting.any fun x => decide (x.1 = msg.sender)) then
          s.modDomain fun d => { d with asks := Table.set noneDef d.asks msg.askId (some a') }
        else late)

/-- LEAVE (R371). -/
def execLeave (msg : DomMsg) (s : State) : Res :=
  whenB s (s.up && decide (msg.type = 4)) "the message is no LEAVE" (s.receive msg fun s => s.setPresent msg.sender false)

/-- HELLO_TIMER (R371): HELLO every 1 ms while joined. -/
def execHelloTimer (t : Nat) (s : State) : Res :=
  let d := s.domain
  whenB s (s.up && d.joined && s.notBefore t && reached t (d.helloDue)) "no HELLO is due"
    (((s.at_ t).modDomain fun d => { d with helloDue := t + 1000000 }).sendDomain
      { type := 1, sender := d.member, dest := 0xFF, members := d.members })

/-- DOMAIN_TIMEOUT (R371, Table 12.12 step 5): the member was not heard, or did not answer an ask. -/
def execDomainTimeout (member : Nat) (t : Nat) (s : State) : Res :=
  let d := s.domain
  let silent := d.present.getLsbD member && reached t (Table.get natDef d.silentAt member)
  let late := fun (x : Nat × Nat) => decide (x.1 = member) && reached t x.2
  let owes := d.asks.any fun p => match p.2 with | none => false | some a => a.waiting.any late
  let drop := fun (a : Ask) => { a with waiting := a.waiting.filter fun x => !late x }
  let s1 := (s.at_ t).modDomain fun d => { d with asks := d.asks.mapV (Option.map drop) }
  whenB s (s.up && d.joined && s.notBefore t && decide (member < 32) && decide (member ≠ d.member) && (silent || owes))
    "the member's time has not passed" (s1.setPresent member false)

/-- DOM_CNT (Table 12.15). -/
def Domain.cnt (d : Domain) : W64 :=
  BitVec.ofNat 64 (d.late * 2 ^ 48 + d.mismatch * 2 ^ 32 + d.own * 2 ^ 16 + d.asks.length)

/-- DOM_CNT_READ (R374). -/
def execDomCntRead (s : State) : Res :=
  whenB s s.up "the part is down"
    ((s.emit (.value s.domain.cnt)).modDomain fun d => { d with late := 0, mismatch := 0, own := 0 })

end Sys2Proof.Machine
end

