-- ==== Sys2Proof/Machine/ErrorRows.lean ====
section
/-! DEFINITION. The rows of chapter 13: errors as they arrive, captures, HBM repair, scrubbing, aging, and the retries of the store
(13 R375 to R395, 14 R418). -/

namespace Sys2Proof.Machine

/-! ### Effects of an error (R376, R386 to R388) -/

/-- The supervisor cores: RS[i] of region r from 432, CS[j] from 448. -/
def rsCore (r i : Nat) : Nat := 432 + 2 * r + i
def csCore (j : Nat) : Nat := 448 + j

/-- A supervisor core resets and starts again at START (R388). -/
def State.restartCore (s : State) (id : Nat) : State :=
  let c := s.core id
  let boot := if id < 448 then Table.get w32Def (s.region ((id - 432) / 2)).rsBoot ((id - 432) % 2)
              else Table.get w32Def s.chip.csBoot (id - 448)
  s.setCore id { coreDef id with pc := boot.zeroExtend 64, asleep := false, started := true, code := c.code, data := c.data,
                                 dataPoison := c.dataPoison, mbx := c.mbx }

/-- No core of the group runs. -/
def State.noneRuns (s : State) (ids : List Nat) : Bool := ids.all fun i => (s.core i).stopped

/-- A supervisor core stops by a double trap: once within an hour it is restarted (R388). -/
def State.superStops (s : State) (id : Nat) : State :=
  let recent := (Table.get (fun _ => ([] : List Nat)) s.chip.doubleTraps id).filter fun t => !reached s.time (t + 3600000000000)
  let s := { s with chip := { s.chip with
    doubleTraps := Table.set (fun _ => ([] : List Nat)) s.chip.doubleTraps id (recent ++ [s.time]) } }
  if recent.isEmpty then s.restartCore id
  else
    let s := s.setCore id { s.core id with stopped := true }
    let r := (id - 432) / 2
    if id < 448 then
      if s.noneRuns [rsCore r 0, rsCore r 1] then s.fatalError { code := .deviceFault, source := 64 * r } (64 * r) false else s
    else if s.noneRuns ((List.range 4).map csCore) then s.fatalError { code := .deviceFault, source := 1024 } 1024 false else s

/-- The double trap of core `id` (08 R275, Table 13.8): UNIT at its cell, or the fault of a supervisor. -/
def State.coreDoubleTrap (s : State) (id : Nat) : State :=
  if 448 ≤ id then
    let (v, s) := s.drawWord
    (s.error .chip { code := .supervisorFault, source := 1024 + v.toNat % 64512 }).superStops id
  else if 432 ≤ id then
    (s.error (.region ((id - 432) / 2)) { code := .supervisorFault, source := 9 + (id - 432) % 2 }).superStops id
  else
    let k := match coreKind id with | .sq => 0 | .gt => 15 | _ => 8 + id % 6
    s.cellUnitError (id / 6) k { code := .doubleTrap, source := 0 }

/-- The pseudo-channel of an absolute LOCAL offset (01 R27). -/
def pchOf (a : Nat) : Nat := bits a 8 7

/-- A word of HBM takes the poison code (R380). -/
def State.poisonWord (s : State) (k : Nat) : State := { s with poison := insertNat k s.poison }

/-- An ECC event of a pseudo-channel is counted, and its CIC source asserts (Tables 11.12, 13.11). -/
def State.eccEvent (s : State) (n : Nat) (bad : Bool) : State :=
  let x := s.pch n
  (s.setPch n (if bad then { x with uncorr := satInc x.uncorr 0xFFFF } else { x with corr := satInc x.corr 0xFFFF })).cic
    (896 + n / 2)

/-- Words of 8 bytes of a core's data RAM (Table 09.3). -/
def ramWords : CoreKind → Nat
  | .sq => 8192 | .sup => 32768 | _ => 2048

/-- An uncorrectable error of a memory of core `id`: whether it lies in a word of its data RAM, and in which, is a free value
(R381, log 7). -/
def State.ramError (s : State) (id : Nat) : State :=
  let (v, s) := s.drawWord
  if v.getLsbD 0 then
    let c := s.core id
    s.setCore id { c with dataPoison := insertNat (v.toNat / 2 % ramWords (coreKind id)) c.dataPoison }
  else s

/-- The core of cell `k` of block `b`: SQ 0, SV 9 to 12, GT 15 (Table 01.4). -/
def coreOfCell (b k : Nat) : Option Nat :=
  if k = 0 then some (6 * b) else if k = 15 then some (6 * b + 5) else if 9 ≤ k ∧ k ≤ 12 then some (6 * b + (k - 8)) else none

/-- An uncorrectable error of a memory of a cell. -/
def State.cellRamError (s : State) (b k : Nat) : State := match coreOfCell b k with | none => s | some id => s.ramError id

/-- Uncorrectable staging data of a context: its data command ends with DATA-CHECK, UNCORRECTABLE; the operand and how much is left are
free values (R381, log 159). -/
def State.stagingError (s : State) (n : Nat) : State :=
  let c := s.ctx n
  if c.cmd.isData && (decide (c.phase = .exec) || decide (c.phase = .nvm) || decide (c.phase = .arrive)) then
    let (v, s) := s.drawWord
    let (o, s) := s.drawWord
    s.finishProgram n (c.endingAt c.member deData 1 (o.setWidth 3 &&& 3#3) (some (v.setWidth 32))) {}
  else s

/-- An uncorrectable error in the storage of a FIFO: each context whose items it holds ends with CONTROL-CHECK, STATE-PARITY (R381). -/
def State.fifoStorageError (s : State) (b f : Nat) : State :=
  ((s.block b).fifo f).ctxs.foldl (fun s n =>
    let c := s.ctx n
    if c.hasProgram then
      s.finishProgram n (c.endingAt c.member deControl 2 0 (if c.cmd.isData then some c.cmd.count else none)) {}
    else s) s

/-- The memory of a block in which an uncorrectable error lies: a free value says whether it is a lodge entry, staging data of the
context concerned, or a word of block SRAM, which its readers then find bad (R381, R158, log 159). -/
def State.blockRamError (s : State) (b : Nat) (e : ErrIn) : State :=
  let (v, s) := s.drawWord
  let (k, s) := s.drawWord
  match v.toNat % 3, e.ctx with
  | 0, some n => if (s.ctx n).lodged && decide (s.workBlock n = b) then s.recoverCtx n {} else s
  | 0, none => (match s.inLodge b (k.toNat % 1024) with | none => s | some n => s.recoverCtx n {})
  | 1, some n => if decide (s.workBlock n = b) then s.stagingError n else s
  | _, _ => s.modBlock b fun x => { x with sramBad := insertNat (k.toNat % 0x40000) x.sramBad }

/-- An uncorrectable error of a memory of a cell: of its core, or of the FIFO storage that the GT cell holds (R381, log 159). -/
def State.cellMemory (s : State) (b k : Nat) (e : ErrIn) : State :=
  let (v, s) := s.drawWord
  if k = 15 ∧ v.getLsbD 0 = false then s.fifoStorageError b (e.source % 64) else s.cellRamError b k

/-- An error arrives, is reported, and has its effect (R376, R378). -/
def State.errorIn (s : State) (l : CapId) (e : ErrIn) : State :=
  match l, e.code with
  | .cell r t k, .sramUncorrectable => (match s.blockOf r t with | none => s | some b => (s.cellMemory b k e).sramError b k e)
  | .block r t, .sramUncorrectable =>
    (match s.blockOf r t with | none => s | some b => if e.source = 16 then (s.blockRamError b e).sramError b 16 e else s.error l e)
  | .cell r t k, .cellFault | .cell r t k, .doubleTrap | .cell r t k, .fifoMisuse =>
    (match s.blockOf r t with | none => s | some b => (s.error l e).retireCell b k)
  | .block r t, .blockFault => (match s.blockOf r t with | none => s | some b => (s.error l e).retireBlock b)
  | .region r, .supervisorFault =>
    if e.source = 9 ∨ e.source = 10 then (s.error l e).superStops (rsCore r (e.source - 9)) else s.error l e
  | .region r, .sramUncorrectable =>
    if e.source = 9 ∨ e.source = 10 then (s.error l e).ramError (rsCore r (e.source - 9)) else s.error l e
  | .chip, .sramUncorrectable =>
    let (v, s) := s.drawWord
    (s.error l e).ramError (csCore (v.toNat % 4))
  | .region r, .hbmUncorrectable =>
    let s := if e.space = 2 then s.poisonWord (e.addr.toNat / 32) else s
    (s.eccEvent (16 * r + (e.source - 16) % 16) true).error l e
  | .region r, .eccCorrected =>
    (if 16 ≤ e.source then s.eccEvent (16 * r + (e.source - 16) % 16) false else s).error l e
  | .chip, .ctxLost => (match e.fn with | some f => s.freeze f 8 0 .ctxLost e.ctx {} | none => s.error l e)
  | _, _ => s.error l e

/-- Errors of one cycle: from the highest severity down, then from the lowest SOURCE up (R378). -/
def insertErr (e : ErrIn) : List ErrIn → List ErrIn
  | [] => [e]
  | f :: l =>
    if errSev f.code < errSev e.code || (decide (errSev f.code = errSev e.code) && decide (e.source < f.source)) then e :: f :: l
    else f :: insertErr e l

/-- The capture exists: an active cell or block, a region, the chip (R375). -/
def State.capLive (s : State) (l : CapId) : Bool :=
  match l with
  | .cell r t k => decide (r < 8) && decide (t < 8) && decide (k < 16) && (s.blockOf r t).isSome
  | .block r t => decide (r < 8) && decide (t < 8) && (s.blockOf r t).isSome
  | .region r => decide (r < 8)
  | .chip => true

/-- ERROR_ARRIVAL (R378): errors that arrive at one capture in one cycle. A FREEZE is reported by the row that freezes. -/
def execErrorArrival (at_ : CapId) (errs : List ErrIn) (s : State) : Res :=
  whenB s (!s.board.cold && s.capLive at_ && !errs.isEmpty && errs.all fun e => decide (e.code ≠ .freeze)) "no such capture or error"
    ((errs.foldr insertErr []).foldl (fun s e => s.errorIn at_ e) s)

/-- ERR_ACK (R378): a W1C of VALID; the input of the cell's source falls (11 R353). -/
def execErrAck (at_ : CapId) (s : State) : Res :=
  whenB s (!s.board.cold && s.capLive at_) "no such capture"
    (let s1 := s.setCap { s.cap at_ with valid := false } at_
     match at_ with
     | .cell r t k => s1.modCtl r fun c => c.setSrc (16 * t + k) { c.src (16 * t + k) with raw := false }
     | _ => s1)

/-- ERR_CNT (Table 13.6). -/
def Cap.cnt (c : Cap) : W64 := BitVec.ofNat 64 (c.escOut * 2 ^ 16 + c.count)

/-- ERR_CNT_READ (R375). -/
def execErrCntRead (at_ : CapId) (s : State) : Res :=
  whenB s (!s.board.cold && s.capLive at_) "no such capture"
    ((s.emit (.value (s.cap at_).cnt)).setCap { s.cap at_ with escOut := 0, count := 0 } at_)

/-! ### HBM (R383, R384) -/

/-- ROW_REPAIR (R384): with a spare row the row is repaired; without one it counts as unrepairable. -/
def execRowRepair (pch row : Nat) (spare : Bool) (s : State) : Res :=
  let x := s.pch pch
  let s1 := (s.setPch pch (if spare then { x with rows := satInc x.rows 0xFFFF } else { x with unrep := satInc x.unrep 255 })).cic
    (896 + pch / 2)
  whenB s (s.up && decide (pch < 128) && !x.retired) "the pseudo-channel is not in service"
    (if spare then (s1.ledgerNote 3 0xFF 0xFF (leBytes 2 pch ++ leBytes 4 row)).keepMap else s1.keepMap)

/-- PCH_RETIREMENT (R384): its pieces move to the survivors' spare capacity, and no LOCAL offset changes (01 R27). -/
def execPchRetirement (pch : Nat) (s : State) : Res :=
  let x := s.pch pch
  let retired := countP (fun n => (s.pch n).retired) (List.range 128)
  let s1 := (s.setPch pch { x with retired := true }).error (.region (pch / 16)) { code := .pchRetired, source := 16 + pch % 16 }
  whenB s (s.up && decide (pch < 128) && !x.retired && decide (retired < 4)) "the pseudo-channel stays in service"
    (((s1.ledgerNote 1 (pch / 16) 0xFF (leBytes 2 pch)).keepMap).publishHealth {})

/-- PCH_STAT (Table 13.11). -/
def Pch.stat (x : Pch) : W64 :=
  BitVec.ofNat 64 (b2n x.retired * 2 ^ 63 + x.unrep * 2 ^ 48 + x.rows * 2 ^ 32 + x.uncorr * 2 ^ 16 + x.corr)

/-- PCH_STAT_READ (R384). -/
def execPchStatRead (pch : Nat) (s : State) : Res :=
  whenB s (!s.board.cold && decide (pch < 128)) "no such pseudo-channel"
    ((s.emit (.value (s.pch pch).stat)).setPch pch { s.pch pch with uncorr := 0, corr := 0 })

/-- REG_STALE_READ (R385). -/
def execRegStaleRead (region : Nat) (s : State) : Res :=
  whenB s (!s.board.cold && decide (region < 8)) "no such region"
    ((s.emit (.value (BitVec.ofNat 64 (s.region region).stale))).setRegion region { s.region region with stale := 0 })

/-- PATROL_SCRUB (R383): corrected words are written back, uncorrectable ones take the poison code; words are named by offset ÷ 32. -/
def execPatrolScrub (corrected uncorrectable : List Nat) (s : State) : Res :=
  let err := fun (code : ErrCode) (s : State) (k : Nat) =>
    let n := pchOf (k * 32)
    let e : ErrIn := { code := code, source := 16 + n % 16, space := 2, addr := BitVec.ofNat 64 (k * 32) }
    s.errorIn (.region (n / 16)) e
  whenB s (s.up && (corrected ++ uncorrectable).all fun k => decide (k * 32 < unpopBase)) "no such words"
    (uncorrectable.foldl (err .hbmUncorrectable) (corrected.foldl (err .eccCorrected) s))

/-- LODGE_SCRUB (R383): scrubbing never changes a value. -/
def execLodgeScrub (blk : Nat) (s : State) : Res := whenB s (s.up && s.blockActive blk) "the block is not active" s

/-! ### Aging (R392) -/

/-- The margin of an electromigration counter (R392). -/
def emMargin (used : W32) : Nat := 100 * (2 ^ 32 - used.toNat) / 2 ^ 32

/-- AGING_MEASUREMENT (R392): `freqs` gives the frequency and the margin of each of the 64 monitors, whose f_0 and f_fail are
recorded at manufacture. -/
def execAgingMeasurement (freqs : List (Nat × Nat)) (used : List W32) (mv t : Nat) (w : Wr) (s : State) : Res :=
  let set := fun (f : Nat × Nat → Nat) => (List.range 64).foldl (fun tb i => Table.set natDef tb i (f (freqs.getD i (0, 0)))) []
  let margins := used.map emMargin
  let emT := (List.range 32).foldl (fun tb j => Table.set w32Def tb j (used.getD j 0)) []
  let s1 := s.at_ t
  let s1 := { s1 with
    chip := { s1.chip with
      ageFreq := set Prod.fst
      ageMargin := set fun p => min p.2 100
      emUsed := emT
      emMargin := (List.range 32).foldl (fun tb j => Table.set natDef tb j (margins.getD j 0)) []
      agingDue := t + 60000000000 }
    board := { s1.board with vddRequest := mv, avsPendingAt := some t } }
  let s1 := s1.emit (.avs mv)
  let s1 := if freqs.any fun p => decide (p.2 < 10) then s1.cic 994 else s1
  let s1 := if margins.any fun m => decide (m < 10) then s1.cic 995 else s1
  let s1 := if s1.supplyOk then { s1 with store := { s1.store with emUsed := emT } }
            else ({ s1 with store := { s1.store with jobs := s1.store.jobs ++ [({ area := 2, data := [] } : StoreJob)] } }).refuseStore
  whenB s (s.up && decide (freqs.length = 64) && decide (used.length = 32) && decide (700 ≤ mv) && decide (mv ≤ 800) &&
      decide (mv % 5 = 0) && s.notBefore t && reached t (s.chip.agingDue)) "no measurement is due"
    (s1.publishHealth w)

/-! ### The store's retries (R395, 14 R418) -/

/-- LEDGER_RETRY (R395): the oldest waiting record is tried again. -/
def execLedgerRetry (t : Nat) (s : State) : Res :=
  match s.store.ledgerQueue with
  | [] => idleB s "no ledger record waits"
  | r :: rest =>
    let s1 := s.at_ t
    whenB s (!s.board.cold && s.notBefore t) "the time has passed"
      (if s.supplyOk then { s1 with store := ({ s1.store with ledgerQueue := rest }).putLedger r } else s1.refuseStore)

/-- STORE_COMPLETE (14 R418). -/
def execStoreComplete (s : State) : Res := whenB s (!s.board.cold) "cold reset is in progress" (s.cic 963)

/-- A configuration, counter or map record is stored as it stands now. -/
def State.runJob (s : State) (j : StoreJob) : State :=
  if j.area = 1 then s.keepMap
  else if j.area = 2 then { s with store := { s.store with emUsed := s.chip.emUsed } }
  else { s with store := { s.store with config := s.store.config.writeN 0 j.data } }

/-- STORE_RETRY (14 R418). -/
def execStoreRetry (t : Nat) (s : State) : Res :=
  match s.store.jobs with
  | [] => idleB s "no store waits"
  | j :: rest =>
    let s1 := s.at_ t
    whenB s (!s.board.cold && s.notBefore t) "the time has passed"
      (if s.supplyOk then ({ s1 with store := { s1.store with jobs := rest } }).runJob j else s1.refuseStore)

end Sys2Proof.Machine
end

