-- ==== Sys2Proof/Machine/Power.lean ====
section
/-! DEFINITION. Power states: Glide, Coast and Park, and the power and security state words (14 R410 to R416). -/

namespace Sys2Proof.Machine

/-! ### Registers (Tables 14.11, 14.12) -/

/-- Cells that work: those of the blocks that fill a slot, but for the retired ones, by island number 16 × block + cell. -/
def State.islands (s : State) : List Nat :=
  (List.range 72).flatMap fun b => if s.blockActive b then
    ((List.range 16).filter fun k => !(s.block b).retired.getLsbD k).map (16 * b + ·) else []

/-- The core of an island is halted by debug. -/
def State.haltedIsland (s : State) (i : Nat) : Bool :=
  match coreOfCell (i / 16) (i % 16) with | none => false | some c => (s.core c).halted

/-- The device is in Glide: every island but those of halted cores gates its clock (R410, R415; log 30). -/
def State.glides (s : State) : Bool :=
  let l := s.islands.filter fun i => !s.haltedIsland i
  !s.power.gated.isEmpty && l.all fun i => s.power.gated.contains i

/-- PWR_STAT.STATE (Table 14.11). -/
def State.powerCode (s : State) : Nat :=
  if s.power.state = 1 then 2 else if s.power.state = 2 then 3 else if s.glides then 1 else 0

/-- PWR_STAT (Table 14.11). -/
def State.pwrStat (s : State) : W32 :=
  BitVec.ofNat 32 (s.power.refusals * 2 ^ 24 + s.power.reason * 2 ^ 16 + 8 * b2n s.power.refused + s.powerCode)

/-- SEC_STATE (Table 14.12). -/
def State.secState (s : State) : W32 :=
  BitVec.ofNat 32 (b2n s.sec.extestBlocked * 2 ^ 9 + b2n s.sec.zeroised * 2 ^ 8 + s.sec.debug * 2 ^ 4 + s.store.lifecycle)

/-- PWR_STAT_READ (R414). -/
def execPwrStatRead (s : State) : Res :=
  whenB s (!s.board.cold) "cold reset is in progress"
    { s.emit (.value (s.pwrStat.zeroExtend 64)) with power := { s.power with refusals := 0 } }

/-! ### Glide (R410) -/

/-- The cell has no work: its core sleeps, no unit runs, no context of the block is at work in it. -/
def State.idleCell (s : State) (b k : Nat) : Bool :=
  (match coreOfCell b k with | none => true | some c => let x := s.core c; !x.halted && (x.asleep || x.stopped)) &&
  (if 1 ≤ k ∧ k ≤ 8 then ((s.block b).mover (k - 1)).unit.isNone
   else (s.ctxsAt b).all fun n => !(s.ctx n).dispatched && !(s.ctx n).isReady)

/-- GLIDE_ENTRY (R410). -/
def execGlideEntry (island t : Nat) (s : State) : Res :=
  whenB s (s.up && s.notBefore t && decide (s.power.state = 0) && s.islands.contains island &&
      !s.power.gated.contains island && s.idleCell (island / 16) (island % 16)) "the island is not idle"
    { s.at_ t with power := { s.power with gated := insertNat island s.power.gated } }

/-- GLIDE_EXIT (R410). -/
def execGlideExit (island : Nat) (s : State) : Res :=
  whenB s (!s.board.cold && s.power.gated.contains island) "the island's clock runs"
    { s with power := { s.power with gated := s.power.gated.filter fun k => decide (k ≠ island) } }

/-! ### Coast and Park (R411, R412) -/

/-- The Coast conditions (R411). -/
def State.coastCond (s : State) : Bool :=
  (s.ctxs.all fun p : Nat × Ctx =>
    decide (p.2.r.state ≠ stQueued) && decide (p.2.r.state ≠ stActive) && decide (p.2.r.state ≠ stHalting) &&
    decide (p.2.r.state ≠ stPending) && decide (p.2.phase ≠ .paused)) &&
  (s.fns.all fun p : Nat × Fn => p.2.taken.all fun t => decide (t.kind ≠ 0x10)) &&
  (s.blocks.all fun p : Nat × Block => p.2.movers.all fun m : Nat × Mover => m.2.regs.all fun r : Nat × RegChan =>
    !r.2.busy && !r.2.lodge) &&
  s.domain.asks.isEmpty

/-- Every existing function is in D3hot. -/
def State.allD3 (s : State) : Bool := (List.range 256).all fun n => !s.fnExists n || !(s.fn n).d0

/-- PWR_CTL (Table 14.10). -/
def State.coastIdle (s : State) : Nat := bits s.power.ctl.toNat 0 8
def State.parkEn (s : State) : Bool := s.power.ctl.getLsbD 8

/-- The entry is refused at debug level FULL: it is counted once for each time the conditions become true (R414). -/
def State.refuseEntry (s : State) : State :=
  { s with power := { s.power with refusals := satInc s.power.refusals 255, reason := 1, refused := true } }

/-- Every lodged context is evicted (Table 14.9 step 2); the blocks with contexts are the active ones. -/
def State.evictAll (s : State) : State :=
  let s := (s.ctxs.map fun p : Nat × Ctx => p.1).foldl State.evict s
  { s with ctxs := s.ctxs.mapV fun (c : Ctx) => { c with readAhead := [] } }

/-- The entry to Coast (1) or Park (2) in the order of Table 14.9; Park puts the region supervisors to sleep. -/
def State.enterPower (s : State) (st : Nat) : State :=
  let s := s.evictAll
  let s := if st = 2 then
      (List.range 16).foldl (fun s i => let c := s.core (432 + i)
                                        if c.started && !c.stopped then s.setCore (432 + i) { c with asleep := true } else s) s
    else s
  { s with power := { s.power with state := st, refused := false, reason := 0, gated := [] } }

/-- COAST_ENTRY (R411, R412, R414). -/
def execCoastEntry (t : Nat) (s : State) : Res :=
  let s1 := s.at_ t
  whenB s (s.up && s.notBefore t && decide (s.power.state = 0) && decide (s.coastIdle ≠ 0) && s.coastCond &&
      (decide (s.sec.debug ≠ 2) || !s.power.coastTold)) "the Coast conditions do not hold, or their entry has been refused"
    (if s.sec.debug = 2 then { s1.refuseEntry with power := { s1.refuseEntry.power with coastTold := true } }
     else s1.enterPower 1)

/-- PARK_ENTRY (R411, R412, R414). -/
def execParkEntry (t : Nat) (s : State) : Res :=
  let s1 := s.at_ t
  whenB s (s.up && s.notBefore t && decide (s.power.state ≠ 2) && decide (s.coastIdle ≠ 0) && s.parkEn && s.allD3 &&
      s.coastCond && (decide (s.sec.debug ≠ 2) || !s.power.parkTold))
    "the Park conditions do not hold, or their entry has been refused"
    (if s.sec.debug = 2 then { s1.refuseEntry with power := { s1.refuseEntry.power with parkTold := true } }
     else s1.enterPower 2)

/-- A core of a power-gated cell that had been started starts again at the START of its CELL_BOOT (Table 14.9 step 3; what of
its cell's memories outlives the gating is log 31). -/
def State.restartCell (s : State) (b k : Nat) : State :=
  match coreOfCell b k with
  | none => s
  | some id =>
    let c := s.core id
    if !c.started then s
    else
      let boot := Table.get w32Def (s.block b).bootStart k
      s.setCore id { coreDef id with pc := boot.zeroExtend 64, asleep := false, started := true, code := c.code, data := c.data,
                                     dataPoison := c.dataPoison }

/-- The exit from Coast or Park (Table 14.9): the SQ and SV cores start again, and Park wakes the region supervisors. -/
def State.leaveLowPower (s : State) : State :=
  if s.power.state = 0 then s
  else
    let park := decide (s.power.state = 2)
    let s := { s with power := { s.power with state := 0 } }
    let blks := (List.range 72).filter s.blockActive
    let s := blks.foldl (fun s b => [0, 9, 10, 11, 12].foldl (fun s k => s.restartCell b k) s) s
    if park then
      (List.range 16).foldl (fun s i => let c := s.core (432 + i)
                                        if c.started then s.setCore (432 + i) { c with asleep := false, deadline := none }
                                        else s) s
    else s

/-- The trigger is there (R411, Table 14.8). -/
def State.triggered (s : State) (why : WakeTrigger) : Bool :=
  let taken := s.fns.flatMap fun p : Nat × Fn => p.2.taken
  match why with
  | .entry => decide (s.power.state = 1) && taken.any fun t =>
      decide (t.kind = 1) || decide (t.kind = 2) || decide (t.kind = 3) || decide (t.kind = 4)
  | .adminContext => decide (s.power.state = 1) && taken.any fun t =>
      decide (t.kind = 0x10) && decide (bits (field t.bytes 4 4) 8 8 = 2)
  | .supervisorContext => decide (s.power.state = 1) && s.ctxs.any fun p : Nat × Ctx =>
      p.2.r.supervisor && decide (p.2.r.state = stQueued)
  | .firing => decide (s.power.state = 1) && s.deliveries.any fun d => match d.who with
      | .blkView _ i _ => decide (i < 5)
      | .rc _ _ _ => true
      | _ => false
  | .management => decide (s.power.state ≠ 0)
  | .functionD0 => decide (s.power.state = 2) && !s.allD3

/-- COAST_PARK_EXIT (R412). -/
def execCoastParkExit (why : WakeTrigger) (s : State) : Res :=
  whenB s (s.up && decide (s.power.state ≠ 0) && s.triggered why) "the trigger has not come" s.leaveLowPower

end Sys2Proof.Machine
end

