-- ==== Sys2Proof/Machine/Security.lean ====
section
/-! DEFINITION. The management commands, the life cycle, the unlock protocol and zeroisation, attestation, TDISP, the firmware update
over PLDM, and the test access port (14 R396 to R409, 06 R179). -/

namespace Sys2Proof.Machine

/-! ### Management commands (R398, Tables 14.2, 14.3) -/

/-- Completion codes (Table 14.3). -/
def mgOk : Nat := 0
def mgState : Nat := 1
def mgSignature : Nat := 2
def mgSupply : Nat := 3
def mgBad : Nat := 4
def mgBusy : Nat := 5

/-- Answer a management command. -/
def State.answer (s : State) (code : Nat) (data : List Nat := []) : State := s.emit (.reply code data)

/-- The management interfaces work: the device is out of cold reset, and not refusing to leave it. -/
def State.mgUp (s : State) : Bool := !s.board.cold

/-- A state-changing command carried in MCTP: its carrier, then the command that may be executing (R398; order: log 32). -/
def State.mgGate (s : State) (carrier : Carrier) (ok : Bool) (go : State) : State :=
  if carrier ≠ .mctp then s.answer mgBad
  else if !ok then s.answer mgBad
  else if s.sec.zeroising.isSome then s.answer mgBusy
  else go

/-- A store that the command needs is refused when a supply margin is too low (R418). -/
def State.mgStore (s : State) (go : State) : State := if s.supplyOk then go else s.refuseStore.answer mgSupply

/-- A transition of the life cycle (R397). -/
def State.lifecycle (s : State) (dest_ : Nat) : State := ({ s with store := { s.store with lifecycle := dest_ } }).cic 962

/-- GET_STATE (R398, R414). -/
def execGetState (carrier : Carrier) (s : State) : Res :=
  whenB s s.mgUp "cold reset is in progress"
    (if carrier ≠ .mctp then s.answer mgBad else s.answer mgOk [s.secState.toNat, s.pwrStat.toNat])

/-- SET_DEBUG (R406). -/
def execSetDebug (carrier : Carrier) (level : Nat) (s : State) : Res :=
  whenB s s.mgUp "cold reset is in progress"
    (s.mgGate carrier (decide (level ≤ 2))
      (let s := s.leaveLowPower
       if s.store.lifecycle = 2 && !(decide (s.sec.debug = 1) && decide (level = 0)) then s.answer mgState
       else ({ s with sec := { s.sec with debug := level } }).answer mgOk))

/-- PROVISION (Table 14.2): the secret comes from the random number generator; the DeviceID public key is what the boot ROM derives
from it. -/
def execProvision (carrier : Carrier) (secret publicKey : Nat) (s : State) : Res :=
  whenB s s.mgUp "cold reset is in progress"
    (s.mgGate carrier true
      (let s := s.leaveLowPower
       if s.store.lifecycle ≠ 0 then s.answer mgState
       else s.mgStore
         (({ s with store := { s.store with secret := some secret, publicKey := publicKey } }).answer mgOk [publicKey])))

/-- INSTALL_CERT (R397): BLANK becomes OPEN. -/
def execInstallCert (carrier : Carrier) (chain : List Byte) (s : State) : Res :=
  whenB s s.mgUp "cold reset is in progress"
    (s.mgGate carrier (decide (chain.length ≤ 16384) && !chain.isEmpty)
      (let s := s.leaveLowPower
       if s.store.lifecycle ≠ 0 || s.store.secret.isNone then s.answer mgState
       else s.mgStore ((({ s with store := { s.store with chain := chain } }).lifecycle 1).answer mgOk)))

/-- LOCK (R397): OPEN becomes LOCKED, and the debug level NONE. -/
def execLockDevice (carrier : Carrier) (s : State) : Res :=
  whenB s s.mgUp "cold reset is in progress"
    (s.mgGate carrier true
      (let s := s.leaveLowPower
       if s.store.lifecycle ≠ 1 then s.answer mgState
       else s.mgStore ((({ s with sec := { s.sec with debug := 0 } }).lifecycle 2).answer mgOk)))

/-- One ledger slot as it is read: the header, or a record (13 R394). -/
def Store.ledgerSlot (st : Store) (k : Nat) : List Byte :=
  if k = 0 then
    let h := leBytes 4 st.nextSeq ++ leBytes 4 st.dropped ++ leBytes 4 st.boots ++ zeros 48
    h ++ leBytes 4 (crc32c h).toNat
  else
    let r := Table.get (fun _ => ([] : List Byte)) st.ledger k
    (r ++ zeros 64).take 64

/-- READ_LEDGER (R398). -/
def execReadLedger (carrier : Carrier) (slot n : Nat) (s : State) : Res :=
  whenB s s.mgUp "cold reset is in progress"
    (if carrier ≠ .mctp || decide (n = 0) || decide (16 < n) || decide (16384 < slot + n) then s.answer mgBad
     else s.answer mgOk ((List.range n).flatMap fun i => (s.store.ledgerSlot (slot + i)).map BitVec.toNat))

/-! ### The unlock protocol (R407) -/

/-- A secured session: its id, whether it is secured over MCTP, and the signatures that failed in it. -/
def State.session (s : State) (id : Nat) : Option (Nat × Bool × Nat) := s.sec.sessions.find? fun x => decide (x.1 = id)

/-- The session that a secured command travels in: only one secured over MCTP (R398). -/
def State.securedIn (s : State) (carrier : Carrier) : Option Nat :=
  match carrier with
  | .session id => (match s.session id with | some (_, true, _) => some id | _ => none)
  | _ => none

/-- End a session: its live nonces die with it (R407). -/
def State.endSession (s : State) (id : Nat) : State :=
  { s with sec := { s.sec with sessions := s.sec.sessions.filter fun x => decide (x.1 ≠ id)
                               nonces := s.sec.nonces.filter fun x => decide (x.session ≠ id) } }

/-- How long a nonce lives: 60 s (R407). -/
def nonceLife : Nat := 60000000000

/-- The nonce, live in the session at device time `t`. -/
def State.liveNonce (s : State) (id value t : Nat) : Option Nonce :=
  s.sec.nonces.find? fun x => decide (x.value = value) && decide (x.session = id) && reached (x.born + nonceLife) t

/-- The nonce is consumed. -/
def State.useNonce (s : State) (id value : Nat) : State :=
  { s with sec := { s.sec with nonces := s.sec.nonces.filter fun x => !(decide (x.value = value) && decide (x.session = id)) } }

/-- A signature failed: the third failure ends the session (R407). -/
def State.badSignature (s : State) (id : Nat) : State :=
  let fails := match s.session id with | none => 0 | some (_, _, k) => k
  let s := s.answer mgSignature
  if 3 ≤ fails + 1 then s.endSession id
  else { s with sec := { s.sec with sessions := s.sec.sessions.map fun x => if x.1 = id then (x.1, x.2.1, fails + 1) else x } }

/-- UNLOCK_CHALLENGE (R407): `nonce` is what the random number generator gives. -/
def execUnlockChallenge (carrier : Carrier) (purpose nonce t : Nat) (s : State) : Res :=
  let s1 := s.at_ t
  whenB s (s.mgUp && s.notBefore t && decide (nonce < 2 ^ 384)) "cold reset, a past time, or no 48-byte nonce"
    (match s.securedIn carrier with
     | none => s1.answer mgBad
     | some id =>
       let s1 := s1.cic 960
       if purpose = 0 || decide (3 < purpose) then s1.answer mgBad
       else if s.store.lifecycle ≠ 2 then s1.answer mgState
       else
         let x : Nonce := { value := nonce, session := id, purpose := purpose, born := t }
         (({ s1 with sec := { s1.sec with nonces := s1.sec.nonces ++ [x] } }).cic 961).answer mgOk [nonce])

/-- Zeroisation begins: the device is in RUN, and every function freezes (Table 14.7 steps 1 and 2). -/
def State.beginZeroise (s : State) (purpose id : Nat) : State :=
  let s := s.leaveLowPower
  let s := (List.range 256).foldl (fun s n => if s.fnExists n then s.freeze n 7 0 .freeze none {} else s) s
  { s with sec := { s.sec with zeroising := some (purpose, id) } }

/-- UNLOCK_RESPONSE (R406, R407): OBSERVE takes effect at once, FULL after zeroisation. -/
def execUnlockResponse (carrier : Carrier) (nonce : Nat) (sigGood : Bool) (t : Nat) (s : State) : Res :=
  let s1 := s.at_ t
  whenB s (s.mgUp && s.notBefore t) "cold reset, or a past time"
    (match s.securedIn carrier with
     | none => s1.answer mgBad
     | some id =>
       let s1 := s1.cic 960
       if s.sec.zeroising.isSome then s1.answer mgBusy
       else if s.store.lifecycle ≠ 2 then s1.answer mgState
       else match s.liveNonce id nonce t with
         | none => s1.answer mgSignature
         | some x =>
           let s2 := s1.useNonce id nonce
           if !sigGood then s2.badSignature id
           else if x.purpose = 3 then s2.answer mgSignature
           else if x.purpose ≤ s.sec.debug then s2.answer mgState
           else if x.purpose = 1 then
             ({ s2.leaveLowPower with sec := { s2.leaveLowPower.sec with debug := 1 } }).answer mgOk
           else s2.beginZeroise 2 id)

/-- RETIRE (R397, R407). -/
def execRetire (carrier : Carrier) (nonce : Nat) (sigGood : Bool) (t : Nat) (s : State) : Res :=
  let s1 := s.at_ t
  whenB s (s.mgUp && s.notBefore t) "cold reset, or a past time"
    (match s.securedIn carrier with
     | none => s1.answer mgBad
     | some id =>
       let s1 := s1.cic 960
       if s.sec.zeroising.isSome then s1.answer mgBusy
       else if s.store.lifecycle ≠ 2 then s1.answer mgState
       else match s.liveNonce id nonce t with
         | none => s1.answer mgSignature
         | some x =>
           let s2 := s1.useNonce id nonce
           if !sigGood then s2.badSignature id
           else if x.purpose ≠ 3 then s2.answer mgSignature
           else s2.beginZeroise 3 id)

/-- A record with its keys erased. -/
def CtxRec.noKeys (r : CtxRec) : CtxRec := { r with keys := 0 }

/-- Steps 3 to 5 of zeroisation (Table 14.7). -/
def State.erase (s : State) (id : Nat) : State :=
  let key := fun (c : Ctx) => ({ c with r := c.r.noKeys, hbmCopy := c.hbmCopy.map CtxRec.noKeys } : Ctx)
  let tdi := (List.range 255).foldl (fun (t : Table Fn) i =>
    Table.set fnDef t (i + 1) { Table.get fnDef t (i + 1) with tdi := .error, ideSecure := false }) s.fns
  { s with
    fns := tdi
    sec := { s.sec with sessions := s.sec.sessions.filter fun x => decide (x.1 = id)
                        nonces := s.sec.nonces.filter fun x => decide (x.session = id) }
    ctxs := s.ctxs.mapV key
    hbm := s.hbm.clearRange 0 tenantSize
    poison := s.poison.filter fun k => decide (tenantSize ≤ k * 32) }

/-- Every context of every function has stopped (Table 06.28 step 3). -/
def State.allStopped (s : State) : Bool := s.ctxs.all fun p : Nat × Ctx => p.2.r.supervisor || !p.2.hasProgram

/-- ZEROISATION (R408): the contexts have stopped; the device erases, and the unlock takes effect. -/
def execZeroisation (s : State) : Res :=
  match s.sec.zeroising with
  | none => idleB s "no unlock waits for zeroisation"
  | some (purpose, id) =>
    let s1 := s.erase id
    let s1 := { s1 with sec := { s1.sec with zeroising := none, zeroised := true } }
    whenB s (s.up && s.allStopped) "a context has not stopped"
      (if purpose = 3 then
         (if s1.supplyOk then
            let st := { s1.store with secret := none, publicKey := 0, chain := [] }
            let s1 := ({ s1 with store := st }).lifecycle 3
            ({ s1 with sec := { s1.sec with debug := 2 } }).answer mgOk
          else s1.refuseStore.answer mgSupply)
       else ({ s1 with sec := { s1.sec with debug := 2 } }).answer mgOk)

/-- NONCE_EXPIRY (R407). -/
def execNonceExpiry (nonce t : Nat) (s : State) : Res :=
  whenB s (s.mgUp && s.notBefore t && s.sec.nonces.any fun x => decide (x.value = nonce) && reached t (x.born + nonceLife))
    "no such nonce is 60 s old"
    (let s := s.at_ t
     { s with sec := { s.sec with nonces := s.sec.nonces.filter fun x =>
        !(decide (x.value = nonce) && reached t (x.born + nonceLife)) } })

/-! ### Attestation (R400, R401) -/

/-- SPDM error codes that the device answers with (log 33). -/
def spdmInvalid : Nat := 1
def spdmUnspecified : Nat := 5
def spdmSessionLimit : Nat := 0xA

/-- The identity is provisioned: OPEN or LOCKED (Table 14.1). -/
def State.provisioned (s : State) : Bool := decide (s.store.lifecycle = 1) || decide (s.store.lifecycle = 2)

/-- A number that stands for the contents of a memory. -/
def Mem.ident (m : Mem) : Nat := m.foldl (fun a p => (a * 0x2000000 + p.1) * 256 + p.2.toNat + 1) 0

/-- Draw a number that only the device's keys determine: a signature or a certificate of the Alias key (R399; log 34). -/
def State.drawKey (s : State) (purpose : Nat) : Nat × State :=
  (Config.keyMaterial purpose s.free, { s with free := s.free + 1 })

/-- Measurement index 5 (Table 14.4). -/
def State.measure5 (s : State) : Nat := s.store.lifecycle + 256 * s.sec.debug + 65536 * b2n s.sec.zeroised

/-- The measurement blocks 1 to 5 (Table 14.4). -/
def State.measurements (s : State) : List Nat :=
  [Config.digest384 1 0, Config.digest384 2 s.sec.measuredFw, Config.digest384 3 s.sec.measuredFw,
   Config.digest384 4 s.store.config.ident, s.measure5]

/-- The message travels in no session (0) or in one that is open. -/
def State.sessionOpen (s : State) (id : Nat) : Bool := decide (id = 0) || (s.session id).isSome

/-- GET_MEASUREMENTS (R400, R401). -/
def execGetMeasurements (session : Nat) (signed : Bool) (s : State) : Res :=
  whenB s (s.mgUp && s.sessionOpen session) "no such session"
    (let s := s.cic 960
     if signed && !s.provisioned then s.answer spdmUnspecified
     else if signed then
       let (g, s) := s.drawKey 1
       s.answer mgOk (s.measurements ++ [g])
     else s.answer mgOk s.measurements)

/-- GET_CERTIFICATE (R400): slot 0 holds the DeviceID chain and the Alias certificate. -/
def execGetCertificate (session slot : Nat) (s : State) : Res :=
  whenB s (s.mgUp && s.sessionOpen session) "no such session"
    (let s := s.cic 960
     if !s.provisioned then s.answer spdmUnspecified
     else if slot ≠ 0 then s.answer spdmInvalid
     else
       let (g, s) := s.drawKey 2
       s.answer mgOk (s.store.chain.map BitVec.toNat ++ [g]))

/-- CHALLENGE (R400): answered with a signature of the Alias key. -/
def execChallenge (session slot : Nat) (s : State) : Res :=
  whenB s (s.mgUp && s.sessionOpen session) "no such session"
    (let s := s.cic 960
     if !s.provisioned then s.answer spdmUnspecified
     else if slot ≠ 0 then s.answer spdmInvalid
     else
       let (g, s) := s.drawKey 3
       s.answer mgOk [g])

/-- KEY_EXCHANGE (R400): at most 4 sessions, one of them on the management interfaces. -/
def execKeyExchange (session : Nat) (mgmt : Bool) (s : State) : Res :=
  whenB s (s.mgUp && decide (session ≠ 0) && (s.session session).isNone) "the session id is in use"
    (let s := s.cic 960
     if !s.provisioned then s.answer spdmUnspecified
     else if decide (4 ≤ s.sec.sessions.length) || (mgmt && s.sec.sessions.any fun x => x.2.1) then s.answer spdmSessionLimit
     else
       let (g, s) := s.drawKey 4
       ({ s with sec := { s.sec with sessions := s.sec.sessions ++ [(session, mgmt, 0)] } }).answer mgOk [g])

/-- SPDM_SESSION_END (R407). -/
def execSpdmSessionEnd (session : Nat) (s : State) : Res :=
  whenB s (s.mgUp && (s.session session).isSome) "no such session" (s.endSession session)

/-! ### TDISP (06 R179, R396) -/

/-- TDISP error codes (R396; log 33). -/
def tdispInvalid : Nat := 1
def tdispState : Nat := 4

/-- The function has a TDI: an existing virtual function. -/
def State.isTdi (s : State) (fn : Nat) : Bool := decide (1 ≤ fn) && s.fnExists fn

/-- TDISP_LOCK_INTERFACE (R396, Table 14.1). -/
def execTdispLockInterface (fn : Nat) (s : State) : Res :=
  whenB s (s.mgUp && s.isTdi fn) "the function has no TDI"
    (let s := s.cic 960
     if s.store.lifecycle ≠ 2 || decide (2 ≤ s.sec.debug) then s.answer tdispInvalid
     else if (s.fn fn).tdi ≠ .configUnlocked then s.answer tdispState
     else (s.modFn fn fun f => { f with tdi := .configLocked, ideSecure := true }).answer mgOk)

/-- TDISP_START_INTERFACE (06 R179). -/
def execTdispStartInterface (fn : Nat) (s : State) : Res :=
  whenB s (s.mgUp && s.isTdi fn) "the function has no TDI"
    (let s := s.cic 960
     if (s.fn fn).tdi ≠ .configLocked then s.answer tdispState
     else (s.modFn fn fun f => { f with tdi := .run }).answer mgOk)

/-- TDI_ERROR (06 R179): the function freezes with TDI-ERROR. -/
def execTdiError (fn : Nat) (s : State) : Res :=
  whenB s (s.up && s.isTdi fn && (decide ((s.fn fn).tdi = .configLocked) || decide ((s.fn fn).tdi = .run))) "the TDI is not locked"
    ((s.modFn fn fun f => { f with tdi := .error, ideSecure := false }).freeze fn 7 0 .freeze none {})

/-! ### Firmware update over PLDM (R404, R417, R418) -/

/-- PLDM completion codes (log 33). -/
def pldmInvalid : Nat := 2
def pldmNotReady : Nat := 4

/-- The bank that a firmware update writes: A in recovery, otherwise the one that does not run. -/
def State.updateBank (s : State) : Nat := if s.sec.recovery then 0 else 1 - s.sec.bank

/-- Bytes of a bank. -/
def Store.bank (st : Store) (k : Nat) : Mem := if k = 0 then st.bankA else st.bankB

/-- Write into a bank; what it held is no longer an authentic image. -/
def Store.writeBank (st : Store) (k off : Nat) (bs : List Byte) : Store :=
  if k = 0 then { st with bankA := st.bankA.writeN off bs, validA := false }
  else { st with bankB := st.bankB.writeN off bs, validB := false }

/-- The bank has been authenticated and is the one to boot (07 R237). -/
def Store.commitBank (st : Store) (k : Nat) (version : W32) : Store :=
  if k = 0 then { st with bootBank := 0, validA := true, versionA := version }
  else { st with bootBank := 1, validB := true, versionB := version }

/-- Size of a bank. -/
def bankSize : Nat := 0x800000

/-- A chunk of bank `k` is staged whole again. -/
def restaged (k off n : Nat) (l : List (Nat × Nat × Nat)) : List (Nat × Nat × Nat) :=
  l.filter fun p => !(decide (p.1 = k) && decide (off ≤ p.2.1) && decide (p.2.1 + p.2.2 ≤ off + n))

/-- An FW-STAGE or an FW-COMMIT executes: it is the next ADMIN entry of FN[0] (07 R221, R237). -/
def State.fwExecutes (s : State) : Bool :=
  match (s.fn 0).adminFront with
  | none => false
  | some t => decide (t.acode = 0x0A01) || decide (t.acode = 0x0A02)

/-- PLDM_FIRMWARE_UPDATE (R404, R418). -/
def execPldmFirmwareUpdate (req : PldmFw) (s : State) : Res :=
  whenB s s.mgUp "cold reset is in progress"
    (match req, s.sec.fwBusy with
     | .begin, none =>
       if s.fwExecutes then s.answer pldmNotReady
       else if s.supplyOk then ({ s with sec := { s.sec with fwBusy := some s.updateBank } }).answer mgOk
       else s.refuseStore.answer pldmNotReady
     | .begin, some _ => s.answer pldmNotReady
     | .chunk off bs, some k =>
       if bs.isEmpty || decide (bankSize < off + bs.length) then s.answer pldmInvalid
       else if s.supplyOk then
         let st := s.store.writeBank k off bs
         ({ s with store := { st with torn := restaged k off bs.length st.torn } }).answer mgOk
       else s.refuseStore.answer pldmNotReady
     | .activate len authentic version, some k =>
       if len = 0 || decide (bankSize < len) || !authentic then
         ({ s with sec := { s.sec with fwBusy := none } }).answer pldmInvalid
       else if s.supplyOk then
         ({ s with store := s.store.commitBank k version, sec := { s.sec with fwBusy := none } }).answer mgOk
       else s.refuseStore.answer pldmNotReady
     | .cancel, some _ => ({ s with sec := { s.sec with fwBusy := none } }).answer mgOk
     | _, none => s.answer pldmNotReady)

/-! ### The test access port (R405, R409) -/

/-- SYS_RST_N is asserted. -/
def State.sysRst (s : State) : Bool := s.board.cold && decide (s.board.coldWhy = 1)

/-- Select a JTAG instruction, by the model's own number (log 36): 0 BYPASS, 1 IDCODE, 2 SAMPLE/PRELOAD, 3 EXTEST, 4 CLAMP, 5 HIGHZ,
6 internal scan, 7 memory built-in self-test. -/
def State.loadIr (s : State) (k : Nat) : State := { s with sec := { s.sec with ir := k } }

/-- EXTEST, CLAMP and HIGHZ act only under SYS_RST_N; otherwise BYPASS, and SEC_STATE.EXTEST_BLOCKED sets (R409). -/
def State.pinTest (s : State) (k : Nat) : State :=
  if s.sysRst then s.loadIr k else { s with sec := { s.sec with ir := 0, extestBlocked := true } }

/-- A private instruction acts at debug level FULL only (R405). -/
def State.privateTest (s : State) (k : Nat) : State := s.loadIr (if s.sec.debug = 2 then k else 0)

/-- IDCODE (R409). -/
def execIdcode (s : State) : Res := .next ((s.loadIr 1).emit (.value 0x19400553))

/-- BYPASS, also for a code that the BSDL file does not list (R409). -/
def execBypass (_ : W32) (s : State) : Res := .next (s.loadIr 0)

/-- SAMPLE/PRELOAD (R409). -/
def execSamplePreload (boundary : Nat) (s : State) : Res :=
  .next { s with sec := { s.sec with ir := 2, boundary := boundary } }

/-- EXTEST (R409). -/
def execExtest (s : State) : Res := .next (s.pinTest 3)

/-- CLAMP (R409). -/
def execClamp (s : State) : Res := .next (s.pinTest 4)

/-- HIGHZ (R409). -/
def execHighz (s : State) : Res := .next (s.pinTest 5)

/-- Internal scan (R405). -/
def execInternalScan (s : State) : Res := .next (s.privateTest 6)

/-- Memory built-in self-test (R405). -/
def execMemoryBist (s : State) : Res := .next (s.privateTest 7)

/-- TEST_LOGIC_RESET (R409): IDCODE is the instruction selected. -/
def execTestLogicReset (s : State) : Res := .next (s.loadIr 1)

end Sys2Proof.Machine
end

