-- ==== Sys2Proof/Machine/Resets.lean ====
section
/-! DEFINITION. Function level reset, the enable bits of the host link's functions, warm and cold reset, and the start of the device
(05 R161, 06 R180 to R182, R213 to R217, 14 R403, R404, 15 R423, R427 to R433). -/

namespace Sys2Proof.Machine

/-! ### Function level reset (05 R161, Table 06.32, 07 Table 07.13) -/

/-- The record of a context whose function is reset (R161). -/
def CtxRec.flr (r : CtxRec) : CtxRec :=
  { state := stIdle, bib := r.bib, ownerFn := r.ownerFn, supervisor := r.supervisor, pinned := r.pinned, region := r.region,
    slot := r.slot, budget := r.budget, stale := r.stale }

/-- FLR stops the program of a context (R161). -/
def State.flrCtx (s : State) (n : Nat) : State :=
  let s := ({ s with waitOrder := s.waitOrder.filter fun p => decide (p.2 ≠ n) }).dropAsk n
  ((s.dropPieces n).modCtx n fun c => { c.idle c.r.flr with
    hbmCopy := c.hbmCopy.map CtxRec.flr, dirty := [], farTags := [],
    late := if c.asks then addLate c.r.bib c.late else c.late }).farArrived n

/-- A function after reset: what FN[0] granted it stays (Table 07.13). -/
def Fn.flr (f : Fn) (n : Nat) : Fn :=
  { fnDef n with vecCount := f.vecCount, extBase := f.extBase, extLen := f.extLen, nvmPolicy := f.nvmPolicy, ftt2m := f.ftt2m,
                 ftt1g := f.ftt1g }

/-- A free handle keeps its SERIAL (09 Table 09.14). -/
def SieveHandle.free (h : SieveHandle) : SieveHandle := { owner := 0, state := 0, serial := h.serial }

/-- Steps 1 to 6 of Table 06.32 for one function: it is RESETTING until step 7 (log 39). -/
def State.resetFn (s : State) (n : Nat) : State :=
  let s := (s.ctxsOf n).foldl State.flrCtx s
  let free := fun (x : Option SieveHandle) => match x with
    | some h => if h.owner = n ∧ h.state ≠ 0 then some h.free else some h
    | none => none
  let made := fun (p : Nat × EvtBind) => decide (p.2.maker = some n)
  let s := s.setFn n { ((s.fn n).flr n) with state := 2, resetAt := s.time }
  let s := { s with
    sieves := s.sieves.mapV free
    binds := s.binds.filter fun p => !made p }
  s.cic (512 + n)

/-- Every existing virtual function is reset (R182). -/
def State.resetVfs (s : State) : State :=
  (List.range 255).foldl (fun s i => if s.fnExists (i + 1) then s.resetFn (i + 1) else s) s

/-- FLR (R215, R216): that of FN[0] clears VF Enable and so resets every virtual function; no command is left in flight, and a
DETACH-NAMESPACE that executes finishes its effect (07 R221). -/
def State.beginFlr (s : State) (n : Nat) : State :=
  if n = 0 then
    let s := ({ s.resetVfs with vfEnable := false, numVfs := 0 }).resetFn 0
    { s with nvms := s.nvms.filter fun p => match p.2 with | some x => !x.detaching | none => true }
  else s.resetFn n

/-- Step 7 of Table 06.32 of function `n` may come: a free value says when, and it comes within 100 ms of step 1 (R215, log 39). -/
def State.endReset (s : State) (n : Nat) : State :=
  let (v, s) := s.drawWord
  if v.getLsbD 0 || decide (100000000 ≤ (s.time + timeMod - (s.fn n).resetAt) % timeMod) then
    s.modFn n fun f => { f with state := 0 }
  else s

/-- Step 7 may come for every RESETTING function. -/
def State.endResets (s : State) : State :=
  ((s.fns.filter fun p => decide (p.2.state = 2)).map Prod.fst).foldl State.endReset s

/-- A configuration request: while the device is in reset it completes with Request Retry Status and does nothing else (15 R428). -/
def State.config (s : State) (c : Bool) (why : String) (s' : State) : Res :=
  if s.board.cold || s.board.warm then .next (s.emit .requestRetry) else whenB s c why s'

/-- FLR (R215): in the device-fatal state it has no effect (13 R379). -/
def execFlr (fn : Nat) (s : State) : Res :=
  s.config (s.fnExists fn) "the function does not exist"
    (if s.chip.fatal then s else s.beginFlr fn)

/-- TDISP_STOP_INTERFACE (06 R179): it acts on the function as an FLR. -/
def execTdispStopInterface (fn : Nat) (s : State) : Res :=
  whenB s (s.mgUp && !s.board.warm && s.isTdi fn) "the function has no TDI"
    (let s := s.cic 960
     if s.chip.fatal then s else (s.beginFlr fn).answer mgOk)

/-- VF_ENABLE_CLEAR (R182): what FN[0] granted stays for when the functions exist again. -/
def execVfEnableClear (s : State) : Res :=
  s.config (s.up && s.vfEnable) "VF Enable is 0" { s.resetVfs with vfEnable := false }

/-- VF_ENABLE_SET (R182). -/
def execVfEnableSet (numVfs : Nat) (s : State) : Res :=
  s.config (s.up && !s.vfEnable && decide (numVfs ≤ 255)) "VF Enable is 1" { s with vfEnable := true, numVfs := numVfs }

/-! ### Configuration space (R180, R213, R214) -/

/-- A message or a record of the function waits (Table 06.31). -/
def Fn.someWaits (f : Fn) : Bool := !f.held.isEmpty || f.vecs.any fun p : Nat × Vec => p.2.held

/-- D_STATE_CHANGE (R180): a write of the power state with PME_En, which stand in one register. Entering D0 lets what waits go; in D3hot
what waits asks for PME (Table 06.31 step 4). The chip's source of the function asserts (Table 11.12). -/
def execDStateChange (fn : Nat) (pm : PowerWrite) (w : Wr) (s : State) : Res :=
  let f := s.fn fn
  let s1 := s.modFn fn fun f => { f with d0 := pm.d0, pmeEn := pm.pmeEn }
  let s2 := if f.d0 = pm.d0 then s1 else s1.cic (512 + fn)
  s.config (s.up && s.fnExists fn) "the function does not exist"
    (if pm.d0 then (if f.d0 then s2 else s2.stir.releaseHeld fn w) else if f.someWaits then s2.askPme fn else s2)

/-- BUS_MASTER_ENABLE_CHANGE (R180). -/
def execBusMasterEnableChange (fn : Nat) (on : Bool) (w : Wr) (s : State) : Res :=
  let s1 := (s.modFn fn fun f => { f with busMaster := on }).cic (512 + fn)
  s.config (s.up && s.fnExists fn && decide ((s.fn fn).busMaster ≠ on)) "Bus Master Enable has not changed"
    (if on then s1.releaseHeld fn w else s1)

/-- A message whose PBA bit is 1 is sent when nothing masks it (R213). -/
def State.unmask (s : State) (fn v : Nat) : State := if ((s.fn fn).vec v).pba then s.deliverMsg fn v else s

/-- MSIX_MASK_CLEAR (R213). -/
def execMsixMaskClear (fn : Nat) (which : MaskClear) (s : State) : Res :=
  whenB s (s.up && s.fnExists fn &&
      (match which with | .vector v => decide (v < (s.fn fn).vecCount) | _ => true)) "no such function or vector"
    (match which with
     | .vector v => (s.modFn fn fun f => f.setVec v { f.vec v with masked := false }).unmask fn v
     | .function =>
       let s := s.modFn fn fun f => { f with fnMask := false }
       (Table.keys (s.fn fn).vecs).foldl (fun s v => s.unmask fn v) s
     | .enable =>
       let s := s.modFn fn fun f => { f with msixEn := true }
       (Table.keys (s.fn fn).vecs).foldl (fun s v => s.unmask fn v) s)

/-- PME_STATUS_CLEAR (Table 06.31 step 4). -/
def execPmeStatusClear (fn : Nat) (s : State) : Res :=
  let f := s.fn fn
  s.config (s.up && s.fnExists fn && f.pmeStatus) "PME_Status is 0"
    (if !f.d0 && f.pmeEn && f.someWaits then s.emit (.pmPme fn) else s.setFn fn { f with pmeStatus := false })

/-- PME_TIMEOUT (Table 06.31 step 4). -/
def execPmeTimeout (fn : Nat) (s : State) : Res :=
  whenB s (s.up && s.fnExists fn && (s.fn fn).pmeStatus) "PME_Status is 0" (s.emit (.pmPme fn))

/-- MODERATION_HOLDOFF_EXPIRY (R213): HOLDOFF µs after the event that started the timer, and less than 1 µs later. -/
def execModerationHoldoffExpiry (fn v t : Nat) (s : State) : Res :=
  let x := (s.fn fn).vec v
  match x.since with
  | none => idleB s "the vector's timer does not run"
  | some t0 =>
    whenB s (s.up && s.fnExists fn && s.notBefore t && decide (x.pending ≠ 0) && reached t (t0 + 1000 * x.holdoff))
      "the hold-off has not passed" ((s.at_ t).dueMsg fn v)

/-- ATS_INVALIDATE (06 R179): the device keeps no translation of its own that the model shows. -/
def execAtsInvalidate (fn : Nat) (s : State) : Res :=
  whenB s (s.up && s.fnExists fn) "no such function" (s.answer mgOk)

/-! ### Start of the device (Table 14.5) -/

/-- The bank that runs: the one that the boot record names when it authenticates, otherwise the other one (R403). -/
def State.chooseBank (s : State) (st : StartUp) : Option Nat :=
  let good := fun (k : Nat) => if k = 0 then st.bankA else st.bankB
  if good s.store.bootBank then some s.store.bootBank
  else if good (1 - s.store.bootBank) then some (1 - s.store.bootBank) else none

/-- CS[0] runs Scepica from word 0 of its code memory (Table 14.5 step 5). -/
def scepicaCore : Core := { coreDef 448 with asleep := false, started := true }

/-- Steps 2 to 5 of Table 14.5; without a bank that authenticates the device enters recovery (R404). -/
def State.boot (s : State) (st : StartUp) : State :=
  match s.chooseBank st with
  | none => { s with sec := { s.sec with recovery := true } }
  | some k =>
    { s.setCore 448 scepicaCore with
      sec := { s.sec with recovery := false, bank := k, version := if k = 0 then st.versionA else st.versionB,
                          measuredFw := 2 * (s.store.bank k).ident + k } }

/-! ### Warm reset (Table 15.3) -/

/-- What a block keeps over a warm reset: its SRAM, its retirement, its captures and its boot registers (log 35). -/
def Block.warm (b : Block) : Block :=
  { sram := b.sram, retired := b.retired, blockRetired := b.blockRetired, caps := b.caps, bootStart := b.bootStart,
    sramBad := b.sramBad, sramErrors := b.sramErrors }

/-- The extent of a virtual function whose TDI is locked or runs is zeroed. -/
def State.zeroLocked (s : State) : State :=
  s.fns.foldl (fun s p =>
    let f := p.2
    if f.tdi = .configLocked || f.tdi = .run then
      { s with hbm := s.hbm.clearRange f.extBase (f.extBase + f.extLen)
               poison := s.poison.filter fun k => !(decide (f.extBase ≤ k * 32) && decide (k * 32 < f.extBase + f.extLen)) }
    else s) s

/-- Ownership and attribute of a channel after a reset (11 R333). -/
def Ech.unowned (e : Ech) (c : Nat) : Ech := { echDef c with from_ := e.from_, hop := e.hop, busy := e.busy, loop := e.loop,
                                                             coal := e.coal, merged := e.merged, flag := e.flag }

/-- A reset abandons an FW-STAGE that executes: a free number of its chunk's first bytes is stored, and a partly staged chunk counts
as torn until it is staged again (07 R221, R237). -/
def State.tearStage (s : State) : State :=
  match (s.fn 0).adminFront with
  | none => s
  | some t =>
    let space := t.pf 0 0 2
    let a := t.param 0 / 4096 * 4096
    let off := t.param 1
    let n := t.pf 2 0 21
    let k := 1 - s.sec.bank
    if t.acode = 0x0A01 ∧ s.board.cold = false ∧ s.board.warm = false ∧ 1 ≤ n ∧ n ≤ 1048576 ∧ off + n ≤ bankSize ∧ space ≤ 1 ∧
        s.sec.fwBusy.isNone ∧ s.supplyOk then
      let (v, s) := s.drawWord
      let j := v.toNat % (n + 1)
      let (bs, s) := if space = 0 then s.drawBytes j else (s.localRead ((s.fn 0).extBase + a) j, s)
      if j = 0 then s else
        let st := s.store.writeBank k off bs
        { s with store := { st with torn := restaged k off n st.torn ++ (if j = n then [] else [(k, off, n)]) } }
    else s

/-- What a warm reset resets (Table 15.3); contexts whose slot is empty have their default homes anew (05 R155, R166). -/
def State.warmState (s : State) : State :=
  let s := s.tearStage.zeroLocked
  { s with
    rehomed := s.freshHomes
    ringOrder := []
    fns := []
    vfEnable := false
    numVfs := 0
    ctxs := []
    sieves := []
    nvms := []
    ctrls := []
    isets := []
    farTimeout := 10000
    domain := {}
    links := s.links.mapV fun (x : Link) => { x with mode := 0, rate := 0, width := 0, memOn := false, downAt := s.time }
    echs := s.echs.foldl (fun t p => Table.set echDef t p.1 (p.2.unowned p.1)) []
    binds := []
    firings := []
    deliveries := []
    waitOrder := []
    blocks := s.blocks.mapV Block.warm
    regions := s.regions.mapV fun (r : Region) => { r with viewSub := [], views := [], ftc := [], subst := none }
    chip := { s.chip with viewSub := [], views := [] }
    cores := []
    locks := []
    sec := { s.sec with sessions := [], nonces := [], zeroising := none, fwBusy := none }
    power := { s.power with state := 0, gated := [], coastTold := false, parkTold := false }
    board := { s.board with warm := true } }

/-- WARM_RESET (R427, R429): in the device-fatal state and during a cold start it only resets the host link. -/
def execWarmReset (s : State) : Res := .next (if s.chip.fatal || s.board.cold then s else s.warmState)

/-- WARM_RESET_RELEASE (R427): steps 2 to 6 of Table 14.5 from the committed bank. -/
def execWarmResetRelease (st : StartUp) (s : State) : Res :=
  whenB s (s.board.warm && !s.board.cold && !s.chip.fatal) "no warm reset is in progress"
    (({ s with board := { s.board with warm := false } }).boot st |>.publishHealth {})

/-! ### Cold reset -/

/-- The number of a cold reset's cause: PWR_GOOD 0, SYS_RST_N 1, a recovery update 2. -/
def coldNum : ColdWhy → Nat
  | .pwrGood => 0 | .sysRst => 1 | .recoveryUpdate => 2

/-- The state during a cold reset: everything at reset but the store, what lies outside the part, the straps, the test access port,
and the conditions that only PWR_GOOD ends (R423, R427, R437). -/
def State.coldState (s : State) (why : ColdWhy) : State :=
  let gone := decide (why = .pwrGood)
  { State.reset with
    pending := s.pending
    out := s.out
    free := s.free
    hostMem := s.hostMem
    farMem := s.farMem
    farPoison := s.farPoison
    store := s.store
    links := s.links.mapV fun (x : Link) => ({ present := x.present } : Link)
    cores := []
    sec := { ir := s.sec.ir, boundary := s.sec.boundary }
    board := { cold := true, coldWhy := coldNum why, breach := s.board.breach && !gone,
               thermtrip := s.board.thermtrip && !gone, mclkLost := s.board.mclkLost, fpbif := s.board.fpbif,
               smbAddr := s.board.smbAddr } }

/-- COLD_RESET (R427, R404): a recovery update ends in one that the device performs itself. -/
def execColdReset (why : ColdWhy) (s : State) : Res :=
  whenB s (!s.board.cold && (decide (why ≠ .recoveryUpdate) || (s.sec.recovery && s.store.validA && s.sec.fwBusy.isNone)))
    "no such cold reset begins" (s.tearStage.coldState why)

/-- A strap takes the majority of 16 samples; a tie reads 0 (R433). -/
def strapBits (samples : List Nat) : Nat := samples.foldr (fun n acc => b2n (decide (8 < n)) + 2 * acc) 0

/-- Debug level at cold reset (Table 14.1). -/
def coldDebug (lifecycle : Nat) : Nat := if lifecycle = 0 || lifecycle = 3 then 2 else 0

/-- The highest sequence number among the valid ledger records, and its boot count. -/
def Store.newest (st : Store) : Option (Nat × Nat) :=
  st.ledger.foldl (fun m p =>
    let q := field p.2 0 4
    match m with | none => some (q, field p.2 4 2) | some (k, _) => if k < q then some (q, field p.2 4 2) else m) none

/-- A header whose CRC fails is rebuilt from the valid records (13 R395). -/
def Store.rebuildHeader (st : Store) : Store :=
  match st.newest with
  | none => { st with nextSeq := 0, dropped := 0, boots := 0 }
  | some (q, b) => { st with nextSeq := q + 1, dropped := 0, boots := b }

/-- The check of the ledger at cold reset: a record found lost is zeroed, and noted (13 R395). -/
def State.checkLedger (s : State) (st : StartUp) : State :=
  let drop := st.badLedgerSlots.foldl (fun t k => Table.erase t k) s.store.ledger
  let s := { s with store := { s.store with ledger := drop } }
  let s := if st.headerBad then { s with store := s.store.rebuildHeader } else s
  let s := { s with store := { s.store with boots := s.store.boots + 1 } }
  st.badLedgerSlots.foldl (fun s k => s.ledgerNote 5 0xFF 0xFF (leBytes 4 k)) s

/-- The retirement map is applied; a reserve that fails its self-test is lost (13 R387, R389). -/
def State.applyMap (s : State) (st : StartUp) : State :=
  let put := fun (t : Table Block) (p : Nat × BitVec 16) => Table.set blockDef t p.1 { Table.get blockDef t p.1 with retired := p.2 }
  let gone := fun (t : Table Block) (k : Nat) => Table.set blockDef t k { Table.get blockDef t k with blockRetired := true }
  let regs := (List.range 8).foldl (fun t r =>
    let x : Region := { slots := Table.get (fun _ => ({} : Region).slots) s.store.slotMap r
                        reserve := if st.lostReserves.contains r then 15 else Table.get (fun _ => 8) s.store.reserveMap r }
    Table.set regionDef t r x) []
  let s := { s with blocks := s.store.blockMap.foldl gone (s.store.cellMap.foldl put []), regions := regs }
  { s with
    rehomed := s.freshHomes
    chip := { s.chip with
      pch := s.store.pchMap.foldl (fun t p => Table.set pchDef t p.1 { p.2 with corr := 0, uncorr := 0 }) []
      emUsed := s.store.emUsed } }

/-- COLD_RESET_RELEASE (R403, R433): the straps are sampled, the maps and counters restored, and the device starts. -/
def execColdResetRelease (st : StartUp) (s : State) : Res :=
  let board := { s.board with
    cold := false
    fpbif := BitVec.ofNat 12 (strapBits st.fpbif)
    smbAddr := BitVec.ofNat 2 (strapBits st.smbAddr) }
  let sec := { s.sec with
    debug := coldDebug s.store.lifecycle
    ir := if 3 ≤ s.sec.ir ∧ s.sec.ir ≤ 5 then 0 else s.sec.ir }
  whenB s (s.board.cold && !s.board.breach && !s.board.thermtrip && decide (st.fpbif.length = 12) &&
      decide (st.smbAddr.length = 2)) "the device does not leave cold reset"
    ((((({ s with board := board, sec := sec }).checkLedger st).applyMap st).boot st).publishHealth {})

/-- POWER_ORDER_BREACH (R423): the device refuses to end cold reset until PWR_GOOD falls. -/
def execPowerOrderBreach (rail : Nat) (s : State) : Res :=
  whenB s (s.board.cold && decide (rail < 8)) "the device is out of cold reset" { s with board := { s.board with breach := true } }

end Sys2Proof.Machine
end

