-- ==== Sys2Proof/Machine/Sensors.lean ====
section
/-! DEFINITION. Rails, the AVSBus, clocks, temperatures, and what the management buses and PLDM show of them (15 R425, R426, R430,
R434 to R440). -/

namespace Sys2Proof.Machine

/-! ### Rails (R422, R425, R440) -/

/-- V_nom of rail `j` in mV (Table 15.1): of VDD_CORE the requested voltage, or the one read back while AVSBus is at fault (R426). -/
def State.vnom (s : State) (j : Nat) : Nat :=
  if j = 0 then (if s.board.avsFault then s.board.vddSeen else s.board.vddRequest)
  else [800, 750, 1100, 400, 750, 1200, 1800, 1000].getD j 0

/-- The margin (V − V_min) ÷ V_nom in units of 0.25%, with V_min 5% below V_nom (14 R418, Table 15.15). -/
def marginOf (mv vnom : Nat) : Nat := min 255 ((20 * mv - 19 * vnom) * 20 / vnom)

/-- The sample lies below the operating range. -/
def belowRange (mv vnom : Nat) : Bool := decide (20 * mv < 19 * vnom)

def State.rail (s : State) (j : Nat) : Rail := Table.get railDef s.board.rails j
def State.setRail (s : State) (j : Nat) (x : Rail) : State :=
  { s with board := { s.board with rails := Table.set railDef s.board.rails j x } }

/-- RAIL_SAMPLE (R425). -/
def execRailSample (rail mv : Nat) (s : State) : Res :=
  let x := s.rail rail
  let v := s.vnom rail
  let m := marginOf mv v
  let fresh := belowRange mv v && !(x.sampled && belowRange x.mv v)
  let low := decide (m < 12) && !(x.sampled && decide (x.margin < 12))
  let y : Rail := { x with margin := m, mv := mv, sampled := true, under := if fresh then satInc x.under 255 else x.under }
  whenB s (!s.board.cold && decide (rail < 8) && decide (mv < 65536)) "no such rail, or cold reset"
    (if low then (s.setRail rail y).cic 993 else s.setRail rail y)

/-- RAIL_UNDERVOLTAGE (R425): DEVICE-FATAL. -/
def execRailUndervoltage (rail : Nat) (s : State) : Res :=
  whenB s (!s.board.cold && decide (rail < 8) && (s.rail rail).sampled && belowRange (s.rail rail).mv (s.vnom rail))
    "the rail's latest sample is in range" (s.error .chip { code := .deviceFault, source := 993 })

/-- RAIL_MON (Table 15.15). -/
def State.railMon (s : State) (j : Nat) : W64 :=
  let x := s.rail j
  BitVec.ofNat 64 (x.under * 2 ^ 40 + x.margin * 2 ^ 32 + s.vnom j * 2 ^ 16 + x.mv)

/-- RAIL_MON_READ (R440): UNDER clears. -/
def execRailMonRead (rail : Nat) (s : State) : Res :=
  whenB s (!s.board.cold && decide (rail < 8)) "no such rail"
    ((s.emit (.value (s.railMon rail))).setRail rail { s.rail rail with under := 0 })

/-! ### AVSBus (R426) -/

/-- Request `mv` on the AVSBus at device time `t`. -/
def State.avsRequest (s : State) (mv t : Nat) : State :=
  ({ s with board := { s.board with vddRequest := mv, avsPendingAt := some t } }).emit (.avs mv)

/-- An AVSBus fault: its CIC source, and a request of 0.80 V. -/
def State.avsFails (s : State) (seen t : Nat) : State :=
  (({ s with board := { s.board with avsFault := true, vddSeen := seen } }).cic 996).avsRequest 800 t

/-- AVS_READBACK (R426): 200 µs after a request, or 1 ms after it when nothing answers. -/
def execAvsReadback (r : AvsAnswer) (t : Nat) (s : State) : Res :=
  match s.board.avsPendingAt with
  | none => idleB s "no AVSBus request is outstanding"
  | some t0 =>
    let s1 := s.at_ t
    let wait := if r = .silent then 1000000 else 200000
    whenB s (!s.board.cold && s.notBefore t && reached t (t0 + wait)) "the read-back is not due"
      (match r with
       | .ok mv =>
         if mv ≤ s.board.vddRequest + 10 ∧ s.board.vddRequest ≤ mv + 10 then
           { s1 with board := { s1.board with avsFault := false, avsPendingAt := none, vddSeen := mv } }
         else s1.avsFails mv t
       | .fault => s1.avsFails s.board.vddSeen t
       | .silent => s1.avsFails s.board.vddSeen t)

/-- AVS_RETRY (R426): every 100 ms while a fault stands. -/
def execAvsRetry (t : Nat) (s : State) : Res :=
  let due := match s.board.avsPendingAt with | none => true | some t0 => reached t (t0 + 100000000)
  whenB s (!s.board.cold && s.board.avsFault && s.notBefore t && due) "no retry is due" ((s.at_ t).avsRequest 800 t)

/-! ### Clocks (R430) -/

/-- REFCLK_LOSS: DEVICE-FATAL. -/
def execRefclkLoss (s : State) : Res :=
  whenB s (!s.board.cold) "cold reset is in progress"
    (let (v, s) := s.drawWord
     s.error .chip { code := .deviceFault, source := 1024 + v.toNat % 64512 })

/-- MCLK_LOSS: the management domain runs on its internal oscillator. -/
def execMclkLoss (s : State) : Res :=
  whenB s (!s.board.mclkLost) "MCLK is lost already" { s with board := { s.board with mclkLost := true } }

/-- MCLK_RESTORE. -/
def execMclkRestore (s : State) : Res :=
  whenB s s.board.mclkLost "MCLK is in use" { s with board := { s.board with mclkLost := false } }

/-! ### Temperatures (R437, R438, R440) -/

/-- The sensor is one of an HBM stack (Table 15.12). -/
def isHbmSensor (i : Nat) : Bool := decide (8 ≤ i) && decide (i ≤ 11)

/-- Warning, hard and trip thresholds in eighths of a degree (Table 15.12). -/
def tempWarn (i : Nat) : Int := if isHbmSensor i then 720 else 800
def tempHard (i : Nat) : Int := if isHbmSensor i then 760 else 880
def tempTrip (i : Nat) : Int := if isHbmSensor i then 800 else 920

def State.temp (s : State) (i : Nat) : Temp := Table.get tempDef s.board.temps i
def State.setTemp (s : State) (i : Nat) (x : Temp) : State :=
  { s with board := { s.board with temps := Table.set tempDef s.board.temps i x } }

/-- NOW and MAX take a sample (Table 15.14). -/
def Temp.sample (x : Temp) (e : Int) : Temp := { x with now := e, max := if x.max < e then e else x.max }

/-- The sample is one that the register can hold. -/
def tempFits (e : Int) : Bool := decide (-32768 ≤ e) && decide (e ≤ 32767)

/-- Scepica's cap on data commands in flight while a warning holds: which step from 64 to 4 is a free value (R438). -/
def State.capCommands (s : State) : State :=
  let (v, s) := s.drawWord
  { s with board := { s.board with cap := 4 + v.toNat % 61 } }

/-- TEMP_WARNING (R438): the crossing is counted and asserts its source. -/
def execTempWarning (i : Nat) (eighths : Int) (s : State) : Res :=
  let x := s.temp i
  let y := { x.sample eighths with warn := true, alarms := if x.warn then x.alarms else satInc x.alarms 255 }
  let s1 := (s.setTemp i y).capCommands
  whenB s (!s.board.cold && decide (i < 16) && tempFits eighths && decide (tempWarn i ≤ eighths)) "the sensor is below its warning threshold"
    (if x.warn then s1 else s1.cic 992)

/-- TEMP_HARD (R438): island clocks halve, which changes timing only. -/
def execTempHard (i : Nat) (eighths : Int) (s : State) : Res :=
  whenB s (!s.board.cold && decide (i < 16) && tempFits eighths && decide (tempHard i ≤ eighths)) "the sensor is below its hard threshold"
    (s.setTemp i { (s.temp i).sample eighths with hard := true })

/-- THERMTRIP (R437): DEVICE-FATAL; the pin stays low until PWR_GOOD falls. -/
def execThermtrip (i : Nat) (eighths : Int) (s : State) : Res :=
  let s1 := s.setTemp i ((s.temp i).sample eighths)
  let s1 := ({ s1 with board := { s1.board with thermtrip := true } }).emit (.lastGasp i)
  whenB s (!s.board.cold && decide (i < 16) && tempFits eighths && decide (tempTrip i ≤ eighths)) "the sensor is below its trip threshold"
    (s1.error .chip { code := .deviceFault, source := 992 })

/-- TEMP_THRESHOLD_CLEAR (R438): 3 °C below the threshold; the cap ends with the last warning. -/
def execTempThresholdClear (i : Nat) (hard : Bool) (eighths : Int) (s : State) : Res :=
  let x := (s.temp i).sample eighths
  let was := if hard then (s.temp i).hard else (s.temp i).warn
  let lim := if hard then tempHard i else tempWarn i
  let s1 := s.setTemp i (if hard then { x with hard := false } else { x with warn := false })
  let hot := (List.range 16).any fun k => (s1.temp k).warn
  whenB s (!s.board.cold && decide (i < 16) && tempFits eighths && was && decide (eighths ≤ lim - 24)) "the threshold does not clear"
    (if hot then s1 else { s1 with board := { s1.board with cap := 64 } })

/-- 16 bits of a temperature (Table 15.14). -/
def temp16 (e : Int) : Nat := (BitVec.ofInt 16 e).toNat

/-- TEMP (Table 15.14). -/
def Temp.word (x : Temp) : W64 := BitVec.ofNat 64 (x.alarms * 2 ^ 32 + temp16 x.max * 2 ^ 16 + temp16 x.now)

/-- TEMP_READ (R440): ALARMS clears. -/
def execTempRead (i : Nat) (s : State) : Res :=
  whenB s (!s.board.cold && decide (i < 16)) "no such sensor"
    ((s.emit (.value (s.temp i).word)).setTemp i { s.temp i with alarms := 0 })

/-! ### ALERT_N and PLDM (R437, R440) -/

/-- ALERT_N is driven low (R437). -/
def State.alertLow (s : State) : Bool :=
  s.chip.health.getLsbD 0 || s.chip.fatal || s.board.breach ||
  (List.range 16).any (fun i => (s.temp i).warn) ||
  (List.range 8).any fun j => (s.rail j).sampled && decide ((s.rail j).margin < 12)

/-- PLDM_SENSOR_READ (R440, 12 R358): the values Scepica publishes. -/
def execPldmSensorRead (id : SensorId) (s : State) : Res :=
  let ok := match id with
    | .temp i => decide (i < 16)
    | .rail j => decide (j < 8)
    | .link l => decide (l < 24)
    | _ => true
  let v : Nat := match id with
    | .temp i => temp16 (s.temp i).now
    | .rail j => (s.rail j).mv
    | .link l => (s.link l).mode
    | .health => s.chip.health.toNat
    | .deviceState => b2n s.chip.fatal
    | .powerFault => b2n s.board.breach
    | .clock => b2n s.board.mclkLost
  whenB s ok "no such sensor" (s.answer mgOk [v, b2n s.alertLow])

/-! ### Management buses and debug frames (R434, R435) -/

/-- MCTP_REASSEMBLY_TIMEOUT (R435): the message is discarded. -/
def execMctpReassemblyTimeout (t : Nat) (s : State) : Res :=
  whenB s (s.mgUp && s.notBefore t) "cold reset, or a past time"
    ((s.at_ t).emit .silent)

/-- SMBUS_CLOCK_TIMEOUT (R434): the partial packet is discarded. -/
def execSmbusClockTimeout (t : Nat) (s : State) : Res :=
  whenB s (s.mgUp && s.notBefore t) "cold reset, or a past time"
    ((s.at_ t).emit .silent)

/-- DAP_FRAME_TIMEOUT (R434): the frame is discarded without an answer. -/
def execDapFrameTimeout (t : Nat) (s : State) : Res :=
  whenB s (s.notBefore t) "the time has passed" ((s.at_ t).emit .silent)

end Sys2Proof.Machine
end

