-- ==== Sys2Proof/Machine/Verifier.lean ====
section
/-! DEFINITION. The verifier of LOAD-SIEVE (09 R291, R300, 07 Table 07.8). -/

namespace Sys2Proof.Machine

/-- Verdicts (Table 07.8). -/
def vdPort : Nat := 1
def vdPriv : Nat := 2
def vdEncoding : Nat := 3
def vdWindows : Nat := 4
def vdBranch : Nat := 5
def vdLimm : Nat := 6
def vdNone : Nat := 7

/-- The image's word `a`. -/
def imgWord (ws : List W64) (a : Nat) : W64 := ws.getD a 0

/-- Fields of the header (Table 09.10). -/
def hdrCodeEnd (ws : List W64) : Nat := bits (imgWord ws 0).toNat 48 11
def hdrNwin (ws : List W64) : Nat := bits (imgWord ws 0).toNat 32 5
def hdrRecord (ws : List W64) : Nat := bits (imgWord ws 0).toNat 16 11
def hdrInit (ws : List W64) : Nat := bits (imgWord ws 0).toNat 0 11

/-- The code words. -/
def inCode (ws : List W64) (a : Nat) : Bool := decide (1 + hdrNwin ws ≤ a) && decide (a < hdrCodeEnd ws)

/-- R300 check 1. -/
def checkHeader (ws : List W64) : Option Nat :=
  let h := (imgWord ws 0).toNat
  if bits h 59 5 ≠ 0 || bits h 37 11 ≠ 0 || bits h 27 5 ≠ 0 || bits h 11 5 ≠ 0 then some vdEncoding
  else if 14 < hdrNwin ws then some vdWindows
  else if hdrCodeEnd ws ≤ 1 + hdrNwin ws || decide (ws.length < hdrCodeEnd ws) then some vdBranch
  else if !inCode ws (hdrInit ws) || !inCode ws (hdrRecord ws) then some vdBranch
  else none

/-- R300 check 2: a window descriptor (Table 09.11). -/
def badWindow (ws : List W64) (d : W64) : Bool :=
  let x := d.toNat
  let start := bits x 0 11
  let len := bits x 16 11
  decide (bits x 27 37 ≠ 0) || decide (bits x 11 5 ≠ 0) || decide (len = 0) || decide (start < hdrCodeEnd ws) ||
  decide (ws.length < start + len)

/-- The first bad window descriptor. -/
def checkWindows (ws : List W64) : Option (Nat × Nat) :=
  (firstFrom (fun a => badWindow ws (imgWord ws a)) 1 (hdrNwin ws)).map fun a => (vdWindows, a)

/-- Addresses of the instruction words of the code, in order (R242). -/
def starts (ws : List W64) : Nat → Nat → List Nat
  | 0, _ => []
  | fuel + 1, a => if hdrCodeEnd ws ≤ a then [] else a :: starts ws fuel (a + 1 + ylits (imgWord ws a))

/-- A move may not name the port: not assigned on SV, or used against its direction (R300 check 3.2). -/
def portBad (x : YSlot) : Bool :=
  let src := if x.imm || x.limm then false else match portFor .sv true false x.src with | none => true | some r => !r.s
  src || (match portFor .sv true true x.dst with | none => true | some r => !r.d)

/-- A port closed to tenant programs (R300 check 3.3). -/
def portClosed (x : YSlot) : Bool :=
  let src := if x.imm || x.limm then false else match portFor .sv true false x.src with | none => false | some r => decide (r.priv = .both)
  src || (match portFor .sv true true x.dst with | none => false | some r => decide (r.priv = .both) || decide (r.priv = .write))

/-- A read of WIN.hn with n above 1 + NWIN (R300 check 3.4). -/
def windowBad (ws : List W64) (x : YSlot) : Bool :=
  !x.imm && !x.limm && decide (0x088 ≤ x.src) && decide (x.src ≤ 0x097) && decide (1 + hdrNwin ws < x.src - 0x088)

/-- The constant that a slot moves: an immediate, or the literal at `lit`. -/
def constOf (ws : List W64) (x : YSlot) (lit : Nat) : Option W64 :=
  if x.imm then some x.immVal.v else if x.limm then some (imgWord ws lit) else none

/-- A constant moved to PC.t_jump or PC.t_call leads outside the code words, or to a literal word (R300 check 3.5). -/
def branchBad (ws : List W64) (st : List Nat) (a : Nat) (x : YSlot) (lit : Nat) : Bool :=
  if x.dst = 0x001 || x.dst = 0x002 then
    match constOf ws x lit with
    | none => false
    | some v =>
      let t : Int := (a : Int) + v.toInt
      decide (t < 0) || !inCode ws t.toNat || !st.contains t.toNat
  else false

/-- R300 check 3 on the instruction at `a`. -/
def checkInstr (ws : List W64) (st : List Nat) (a : Nat) : Option Nat :=
  let w := imgWord ws a
  let (x, y) := yslots w
  if (encodingTrap .sv w).isSome then some vdEncoding
  else if portBad x || portBad y then some vdPort
  else if portClosed x || portClosed y then some vdPriv
  else if windowBad ws x || windowBad ws y then some vdWindows
  else if branchBad ws st a x (a + 1) || branchBad ws st a y (a + 1 + b2n x.limm) then some vdBranch
  else if hdrCodeEnd ws ≤ a + ylits w then some vdLimm
  else none

/-- A slot that ends the record or jumps, whatever the flags (R300 check 5). -/
def endsCode (x : YSlot) : Bool :=
  decide (x.guard = 0) && [0x001, 0x003, 0x1D0, 0x1E3, 0x1E4].contains x.dst

/-- The verdict and the first offending word of an image, none when it is accepted (R300). -/
def verify (ws : List W64) : Option (Nat × Nat) :=
  match checkHeader ws with
  | some v => some (v, 0)
  | none => match checkWindows ws with
    | some e => some e
    | none =>
      let st := starts ws 2048 (1 + hdrNwin ws)
      match st.findSome? fun a => (checkInstr ws st a).map fun v => (v, a) with
      | some e => some e
      | none =>
        if !st.contains (hdrInit ws) || !st.contains (hdrRecord ws) then some (vdBranch, 0)
        else
          let last := st.getLast?.getD 0
          let (x, y) := yslots (imgWord ws last)
          if endsCode x || endsCode y then none else some (vdNone, last)

end Sys2Proof.Machine
end

