-- ==== Sys2Proof/Machine/Admin.lean ====
section
/-! DEFINITION. Admin commands: the checks that all share, queues and status rings, and contexts (07 R218 to R228). -/

namespace Sys2Proof.Machine

/-! ### The entry (Table 07.1) -/

/-- The functions that TARGET may name (Table 07.4). -/
inductive AdmTarget where
  | self | query | any | fn0 | vf | vfCount
deriving DecidableEq, Repr

/-- A row of Table 07.4, and the bits of the parameter words that are assigned; the words that are not listed have none. -/
structure AdmSpec where
  acode : Nat
  len : Nat
  pf : Bool
  target : AdmTarget
  tdi : Bool := false
  masks : List Nat := []

/-- `n` ones from bit `lo` on. -/
def ones (lo n : Nat) : Nat := (2 ^ n - 1) * 2 ^ lo

/-- Result codes (Table 07.2). -/
def acBadLength : Nat := 0x02
def acReserved : Nat := 0x03
def acPrivilege : Nat := 0x04
def acTarget : Nat := 0x05
def acTdi : Nat := 0x06
def acValue : Nat := 0x07
def acNotFound : Nat := 0x08
def acExists : Nat := 0x09
def acState : Nat := 0x0A
def acBusy : Nat := 0x0B
def acNoRes : Nat := 0x0C
def acPoll : Nat := 0x0D
def acVectors : Nat := 0x0E
def acAddress : Nat := 0x0F
def acVerify : Nat := 0x10
def acLoop : Nat := 0x11
def acSupply : Nat := 0x12
def acImage : Nat := 0x13
def acDevice : Nat := 0x14

/-- The first reserved bit that is set: ARG of its word, 0 for byte 7 (R219). -/
def Taken.reserved (t : Taken) (masks : List Nat) : Option Nat :=
  if byteAt t.bytes 7 ≠ 0 then some 0
  else (firstFrom (fun i => decide (t.param i &&& (2 ^ 64 - 1 - masks.getD i 0) ≠ 0)) 0 (2 * t.len + 1)).map (· + 1)

/-- The TDI of the function is CONFIG_LOCKED or RUN. -/
def Fn.tdiHeld (f : Fn) : Bool := decide (f.tdi = .configLocked) || decide (f.tdi = .run)

/-- The target is one that the command allows (R223). -/
def State.targetOk (s : State) (fn target : Nat) : AdmTarget → Bool
  | .self => decide (target = fn)
  | .query => decide (target = fn) || (decide (fn = 0) && s.fnExists target)
  | .any => s.fnExists target
  | .fn0 => decide (target = 0)
  | .vf => decide (1 ≤ target) && s.fnExists target
  | .vfCount => decide (1 ≤ target) && (!s.vfEnable || s.fnExists target)

/-- The checks before the command's own: code and ARG of the first that fails (Table 07.2). -/
def State.adminCheck (s : State) (fn : Nat) (t : Taken) (sp : AdmSpec) : Option (Nat × Nat) :=
  if t.len ≠ sp.len then some (acBadLength, 0)
  else match t.reserved sp.masks with
    | some a => some (acReserved, a)
    | none =>
      if fn ≠ 0 && (sp.pf || decide (t.target ≠ fn)) then some (acPrivilege, 0)
      else if !s.targetOk fn t.target sp.target then some (acTarget, 0)
      else if sp.tdi && decide (fn = 0) && (s.fn t.target).tdiHeld then some (acTdi, 0)
      else none

/-- What a command comes to: its effect and result words, a rejection, a failure that has an effect, an effect that
completes later, or a HOST access that the function may not make now (06 R180). -/
inductive AdmRes where
  | done (s : State) (q : List Nat := [])
  | reject (code arg : Nat) (q : List Nat := [])
  | failed (s : State) (code : Nat)
  | later (s : State)
  | wait

/-- The first failure of a list of checks: each is a condition that must hold, with its code and ARG. -/
def admChecks : List (Bool × Nat × Nat) → Option (Nat × Nat)
  | [] => none
  | (ok, c, a) :: l => if ok then admChecks l else some (c, a)

/-- Run `go` when every check holds. -/
def admWhen (l : List (Bool × Nat × Nat)) (go : AdmRes) : AdmRes :=
  match admChecks l with | some (c, a) => .reject c a | none => go

/-- Complete the command; entries behind it with an unknown code are rejected (R219, R220). -/
def State.adminEnd (s : State) (fn : Nat) (t : Taken) (code arg : Nat) (q : List Nat) (w : Wr) : State :=
  State.adminDrain fn w 64 (s.complete fn t (adminBody t.len code arg q) w)

/-- The event channels that an entry names (R232). -/
def Taken.namesChan (t : Taken) (c : Nat) : Bool :=
  (decide (t.acode = 0x0503) || decide (t.acode = 0x0504)) &&
    (decide (t.pf 0 0 12 = c) || (decide (t.pf 1 16 2 = 0) && decide (t.pf 1 0 16 = c)))

/-- Two entries of different functions name one object: a target function with what it has, or an event channel (R221). -/
def Taken.sameObject (a b : Taken) : Bool :=
  decide (a.target = b.target) || (List.range 4096).any fun c => a.namesChan c && b.namesChan c

/-- An ADMIN entry of another function that names the same object was taken before and has not begun (R221). -/
def State.adminBehind (s : State) (fn : Nat) (t : Taken) : Bool :=
  s.fns.any fun p => decide (p.1 ≠ fn) && p.2.taken.any fun x =>
    decide (x.kind = 0x10) && decide (x.stage = .waiting) && decide (x.seq < t.seq) && x.sameObject t

/-- An admin command: the entry is the next of its function's admin queue and has the code; it is checked, and acts (R219, R221). -/
def State.admin (s : State) (fn slot : Nat) (w : Wr) (sp : Taken → AdmSpec) (act : Taken → AdmRes) : Res :=
  match (s.fn fn).adminFront with
  | none => idleB s "no ADMIN entry waits"
  | some t =>
    if s.up && decide (t.slot = slot) && decide (t.stage = .waiting) && decide (t.acode = (sp t).acode) &&
        (decide (s.power.state = 0) || decide (t.acode / 256 ≠ 2)) && !s.adminBehind fn t then
      match s.adminCheck fn t (sp t) with
      | some (c, a) => .next (s.adminEnd fn t c a [] w)
      | none => match act t with
        | .done s q => .next (s.adminEnd fn t 0 0 q w)
        | .reject c a q => .next (s.adminEnd fn t c a q w)
        | .failed s c => .next (s.adminEnd fn t c 0 [] w)
        | .later s => .next (s.act fn t)
        | .wait => idleB s "the function may not access host memory now"
    else idleB s "the entry is not the one that comes next"

/-- The end of a command that waits for others: its entry is the one that is executed (R221). -/
def State.adminLate (s : State) (fn slot acode : Nat) (w : Wr) (act : Taken → Option State) : Res :=
  match (s.fn fn).adminFront with
  | none => idleB s "no ADMIN entry is executed"
  | some t =>
    if s.up && decide (t.slot = slot) && decide (t.stage = .acting) && decide (t.acode = acode) then
      match act t with
      | some s => .next (s.adminEnd fn t 0 0 [] w)
      | none => idleB s "commands are in flight"
    else idleB s "the entry is not executed"

/-! ### Queues and status rings (R224 to R226) -/

/-- Charge of an I/O queue on the poll budget, times 2^24 (06 R203). -/
def Queue.charge (q : Queue) : Nat :=
  if q.loc || q.chipId.isNone then 0 else 15625000 * 2 ^ (24 - q.pollK)

/-- The charges of every host-placed I/O queue, times 2^24. -/
def State.pollCharge (s : State) : Nat :=
  s.fns.foldl (fun a p => p.2.queues.foldl (fun a q => match q.2 with | none => a | some x => a + x.charge) a) 0

/-- What I/O queues may be charged together, times 2^24 (06 R203). -/
def pollBudget : Nat := 252093750 * 2 ^ 24

/-- The chip-wide ids in use. -/
def State.chipIds (s : State) : List Nat :=
  s.fns.flatMap fun p : Nat × Fn => p.2.queues.filterMap fun q : Nat × Option Queue => q.2.bind fun (x : Queue) => x.chipId

/-- The ring lies wholly inside the function's extent. -/
def Fn.holds (f : Fn) (base len : Nat) : Bool := decide (base + len ≤ f.extLen)

/-- Range checks of the ring that a CREATE names (Table 07.5), in order of word and bit; `unit` is the size of a slot. -/
def State.ringChecks (s : State) (fn : Nat) (t : Taken) (unit : Nat) (queue : Bool) : List (Bool × Nat × Nat) :=
  let f := s.fn fn
  let log := t.pf 1 0 5
  let vecEn := t.pf 1 27 1
  let vec := t.pf 1 16 11
  let sEn := t.pf 1 32 1
  let sr := t.pf 1 28 4
  [(decide (6 ≤ log) && decide (log ≤ 16), acValue, 2),
   (decide (t.pf 1 5 1 = 0) || f.holds (t.param 0) (unit * 2 ^ log), acValue, 1),
   (!queue || decide (t.pf 1 6 5 ≤ 24), acValue, 2),
   (if vecEn = 1 then decide (vec < f.vecCount) else decide (vec = 0), acValue, 2),
   (!queue || decide (sEn = 1) || decide (sr = 0), acValue, 2),
   (!queue || decide (sEn = 0) || (f.ring sr).isSome, acNotFound, 2)]

/-- The row of CREATE_QUEUE in Table 07.4, and its parameter bits. -/
def createQueueSpec (_ : Taken) : AdmSpec :=
  { acode := 0x0101, len := 1, pf := false, target := .self,
    masks := [ones 12 52, ones 0 11 + ones 16 17] }

/-- What CREATE_QUEUE comes to when the common checks pass. -/
def createQueueAct (fn : Nat) (s : State) (t : Taken) : AdmRes :=
  let f := s.fn fn
  let used := s.chipIds
  let x : Queue := { base := t.param 0, logSize := t.pf 1 0 5, loc := decide (t.pf 1 5 1 = 1), pollK := t.pf 1 6 5,
                     vec := if t.pf 1 27 1 = 1 then some (t.pf 1 16 11) else none,
                     ring := if t.pf 1 32 1 = 1 then some (t.pf 1 28 4) else none,
                     chipId := some 0, stage := .due s.time }
  let held := countP (fun q => q.2.isSome) f.queues
  admWhen (s.ringChecks fn t 16 true ++
      [(decide (held < 4096) && decide (used.length < 65536), acNoRes, 0),
       (decide (s.pollCharge + x.charge ≤ pollBudget), acPoll, 0)])
    (match firstFrom (fun i => (f.queue i).isNone) 1 4095, firstFrom (fun k => !used.contains k) 0 65536 with
     | some i, some id => .done (s.setFn fn (f.setQueue i (some { x with chipId := some id }))) [id * 65536 + i]
     | _, _ => .reject acNoRes 0)

/-- CREATE_QUEUE (R224). -/
def execCreateQueue (fn slot : Nat) (w : Wr) (s : State) : Res :=
  s.admin fn slot w createQueueSpec (createQueueAct fn s)

/-- The row of SET_QUEUE_INTERVAL in Table 07.4, and its parameter bits. -/
def setQueueIntervalSpec (_ : Taken) : AdmSpec :=
  { acode := 0x0102, len := 1, pf := false, target := .self, masks := [ones 0 12, ones 0 5] }

/-- What SET_QUEUE_INTERVAL comes to when the common checks pass. -/
def setQueueIntervalAct (fn : Nat) (s : State) (t : Taken) : AdmRes :=
  let i := t.pf 0 0 12
  let k := t.pf 1 0 5
  admWhen [(decide (k ≤ 24) && (decide (i ≠ 0) || decide (10 ≤ k)), acValue, 2)]
    (match (s.fn fn).queue i with
     | none => .reject acNotFound 1
     | some x =>
       let y := { x with pollK := k }
       if k < x.pollK ∧ pollBudget < s.pollCharge + y.charge - x.charge then .reject acPoll 0
       else .done (s.modFn fn fun f => f.setQueue i (some y)))

/-- SET_QUEUE_INTERVAL (R225). -/
def execSetQueueInterval (fn slot : Nat) (w : Wr) (s : State) : Res :=
  s.admin fn slot w setQueueIntervalSpec (setQueueIntervalAct fn s)

/-- A completion of the queue is still owed (R226). -/
def Fn.owes (f : Fn) (i : Nat) : Bool :=
  f.taken.any (fun t => decide (t.q = i)) ||
  f.held.any fun h => match h with | .completion t _ _ _ => decide (t.q = i) | .status _ _ => false

/-- The row of DESTROY_QUEUE in Table 07.4, and its parameter bits. -/
def destroyQueueSpec (_ : Taken) : AdmSpec :=
  { acode := 0x0103, len := 1, pf := false, target := .self, masks := [ones 0 12] }

/-- What DESTROY_QUEUE comes to when the common checks pass. -/
def destroyQueueAct (fn : Nat) (s : State) (t : Taken) : AdmRes :=
  let i := t.pf 0 0 12
  let f := s.fn fn
  admWhen [(decide (i ≠ 0), acValue, 1), ((f.queue i).isSome, acNotFound, 1), (!f.owes i, acBusy, 0)]
    (.done (s.setFn fn (f.setQueue i none)))

/-- DESTROY_QUEUE (R226). -/
def execDestroyQueue (fn slot : Nat) (w : Wr) (s : State) : Res :=
  s.admin fn slot w destroyQueueSpec (destroyQueueAct fn s)

/-- The row of CREATE_STATUS_RING in Table 07.4, and its parameter bits. -/
def createStatusRingSpec (_ : Taken) : AdmSpec :=
  { acode := 0x0104, len := 1, pf := false, target := .self,
    masks := [ones 12 52, ones 0 6 + ones 16 12] }

/-- What CREATE_STATUS_RING comes to when the common checks pass. -/
def createStatusRingAct (fn : Nat) (s : State) (t : Taken) : AdmRes :=
  let f := s.fn fn
  let x : StatusRing := { base := t.param 0, logSize := t.pf 1 0 5, loc := decide (t.pf 1 5 1 = 1),
                          vec := if t.pf 1 27 1 = 1 then some (t.pf 1 16 11) else none }
  let held := fun (f : Fn) => countP (fun r => r.2.isSome) f.rings
  let all := s.fns.foldl (fun a p => a + held p.2) 0
  admWhen (s.ringChecks fn t 32 false ++ [(decide (held f < 16) && decide (all < 4096), acNoRes, 0)])
    (match firstFrom (fun i => (f.ring i).isNone) 0 16 with
     | some i => .done (s.setFn fn (f.setRing i (some x))) [i]
     | none => .reject acNoRes 0)

/-- CREATE_STATUS_RING (R224). -/
def execCreateStatusRing (fn slot : Nat) (w : Wr) (s : State) : Res :=
  s.admin fn slot w createStatusRingSpec (createStatusRingAct fn s)

/-- A MARK or POST record of some context of the function waits for space in ring `i` (02 R53). -/
def State.ringAwaited (s : State) (fn i : Nat) : Bool :=
  (s.ctxsOf fn).any fun n =>
    let c := s.ctx n
    (decide (c.phase = .ringWait) && decide (c.goal = .post) && decide (s.postRing n = some i)) ||
    (((decide (c.phase = .ringWait) && !c.marks.isEmpty) || !c.owed.isEmpty) && decide (s.boundRing n = some i))

/-- The row of DESTROY_STATUS_RING in Table 07.4, and its parameter bits. -/
def destroyStatusRingSpec (_ : Taken) : AdmSpec :=
  { acode := 0x0105, len := 1, pf := false, target := .self, masks := [ones 0 4] }

/-- What DESTROY_STATUS_RING comes to when the common checks pass. -/
def destroyStatusRingAct (fn : Nat) (s : State) (t : Taken) : AdmRes :=
  let i := t.pf 0 0 4
  let f := s.fn fn
  let bound := f.queues.any fun q => match q.2 with | none => false | some x => decide (x.ring = some i)
  admWhen [((f.ring i).isSome, acNotFound, 1), (!bound && !s.ringAwaited fn i, acBusy, 0)]
    (.done (s.setFn fn (f.setRing i none)))

/-- DESTROY_STATUS_RING (R226). -/
def execDestroyStatusRing (fn slot : Nat) (w : Wr) (s : State) : Res :=
  s.admin fn slot w destroyStatusRingSpec (destroyStatusRingAct fn s)

/-! ### Contexts (R163, R227, R228) -/

/-- The last id that can be allotted (R163). -/
def lastCtx : Nat := 0xFEFFF

/-- The home of context `n`: of an empty slot the first filled one after it (05 R165, R166). -/
def State.homeFor (s : State) (n : Nat) : Nat × Nat :=
  let h := homeOf n
  let r := h / 8
  let t := h % 8
  if (s.blockOf r t).isSome then (r, t) else (r, (s.nextSlot r t).getD t)

/-- The record of a context that is allotted (R163). -/
def CtxRec.allotted (r : CtxRec) (fn : Nat) (home : Nat × Nat) : CtxRec :=
  { r with dev := 0, chan := 0, qual := 0, state := stIdle, residual := 0, survivors := 0, lastCmd := 0, lastSpace := 0,
           callDepth := 0, operand := 0, cmpEq := false, digestMatch := false, noprog := 0, ownerFn := BitVec.ofNat 8 fn,
           supervisor := false, pinned := false, budget := 65536, keys := 0, stale := 0,
           region := BitVec.ofNat 3 home.1, slot := BitVec.ofNat 3 home.2 }

/-- The listed contexts of a range all satisfy `p`; `d` says whether the unlisted ones, which are FREE, do. -/
def State.rangeAll (s : State) (first count : Nat) (d : Bool) (p : Ctx → Bool) : Bool :=
  let here := s.ctxs.filter fun x => decide (first ≤ x.1) && decide (x.1 < first + count)
  here.all (fun x => p x.2) && (d || decide (here.length = count))

/-- The range checks of FIRST and COUNT (Table 07.6). -/
def rangeChecks (t : Taken) : List (Bool × Nat × Nat) :=
  [(decide (t.pf 0 0 20 ≤ lastCtx), acValue, 1),
   (decide (1 ≤ t.pf 0 20 21) && decide (t.pf 0 0 20 + t.pf 0 20 21 ≤ lastCtx + 1), acValue, 1)]

/-- The row of ALLOT_CONTEXTS in Table 07.4, and its parameter bits. -/
def allotContextsSpec (_ : Taken) : AdmSpec :=
  { acode := 0x0201, len := 1, pf := true, target := .any, tdi := true, masks := [ones 0 41] }

/-- What ALLOT_CONTEXTS comes to when the common checks pass. -/
def allotContextsAct (s : State) (t : Taken) : AdmRes :=
  let first := t.pf 0 0 20
  let count := t.pf 0 20 21
  let free := s.rangeAll first count true fun (c : Ctx) => decide (c.r.state = stFree)
  admWhen (rangeChecks t ++ [(free, acState, 1)])
    (.done ((List.range count).foldl (fun s i =>
      s.modCtx (first + i) fun c => { c with r := c.r.allotted t.target (s.homeFor (first + i)) }) s))

/-- ALLOT_CONTEXTS (R163). -/
def execAllotContexts (fn slot : Nat) (w : Wr) (s : State) : Res :=
  s.admin fn slot w allotContextsSpec (allotContextsAct s)

/-- The row of RELEASE_CONTEXTS in Table 07.4, and its parameter bits. -/
def releaseContextsSpec (_ : Taken) : AdmSpec :=
  { acode := 0x0202, len := 1, pf := true, target := .any, tdi := true, masks := [ones 0 41] }

/-- What RELEASE_CONTEXTS comes to when the common checks pass. -/
def releaseContextsAct (s : State) (t : Taken) : AdmRes :=
  let first := t.pf 0 0 20
  let count := t.pf 0 20 21
  let mine := s.rangeAll first count false fun (c : Ctx) =>
    decide (c.r.state = stIdle) && decide (c.r.ownerFn.toNat = t.target)
  admWhen (rangeChecks t ++ [(mine, acState, 1)])
    (.done ((List.range count).foldl (fun s i =>
      s.modCtx (first + i) fun c => { c with r := { c.r with state := stFree } }) s))

/-- RELEASE_CONTEXTS (R163). -/
def execReleaseContexts (fn slot : Nat) (w : Wr) (s : State) : Res :=
  s.admin fn slot w releaseContextsSpec (releaseContextsAct s)

/-- The context is allotted to the target, and no supervisor context (R227). -/
def State.allottedTo (s : State) (target n : Nat) : Bool :=
  let r := (s.ctx n).r
  !r.supervisor && decide (r.state ≠ stFree) && decide (r.ownerFn.toNat = target)

/-- The row of PIN_CONTEXT in Table 07.4, and its parameter bits. -/
def pinContextSpec (_ : Taken) : AdmSpec :=
  { acode := 0x0203, len := 1, pf := true, target := .any, tdi := true,
    masks := [ones 0 20 + ones 32 3 + ones 36 3] }

/-- What PIN_CONTEXT comes to when the common checks pass. -/
def pinContextAct (s : State) (t : Taken) : AdmRes :=
  let n := t.pf 0 0 20
  let r := t.pf 0 32 3
  let k := t.pf 0 36 3
  admWhen [((s.blockOf r k).isSome, acValue, 1), (s.allottedTo t.target n, acNotFound, 1),
           (decide ((s.ctx n).r.state = stIdle), acState, 1)]
    (.done ((s.evict n).modCtx n fun c =>
      { c with r := { c.r with region := BitVec.ofNat 3 r, slot := BitVec.ofNat 3 k, pinned := true } }))

/-- PIN_CONTEXT (05 R167): a lodged copy goes back to the store. -/
def execPinContext (fn slot : Nat) (w : Wr) (s : State) : Res :=
  s.admin fn slot w pinContextSpec (pinContextAct s)

/-- The row of UNPIN_CONTEXT in Table 07.4, and its parameter bits. -/
def unpinContextSpec (_ : Taken) : AdmSpec :=
  { acode := 0x0204, len := 1, pf := true, target := .any, tdi := true, masks := [ones 0 20] }

/-- What UNPIN_CONTEXT comes to when the common checks pass. -/
def unpinContextAct (s : State) (t : Taken) : AdmRes :=
  let n := t.pf 0 0 20
  admWhen [(s.allottedTo t.target n, acNotFound, 1)]
    (.done (s.modCtx n fun c => { c with r := { c.r with pinned := false } }))

/-- UNPIN_CONTEXT (05 R167). -/
def execUnpinContext (fn slot : Nat) (w : Wr) (s : State) : Res :=
  s.admin fn slot w unpinContextSpec (unpinContextAct s)

/-- The row of SET_BUDGET in Table 07.4, and its parameter bits. -/
def setBudgetSpec (_ : Taken) : AdmSpec :=
  { acode := 0x0205, len := 1, pf := true, target := .any, tdi := true, masks := [ones 0 20, ones 0 25] }

/-- What SET_BUDGET comes to when the common checks pass. -/
def setBudgetAct (s : State) (t : Taken) : AdmRes :=
  let n := t.pf 0 0 20
  let b := t.pf 1 0 25
  admWhen [(decide (1024 ≤ b) && decide (b ≤ 16777216), acValue, 2), (s.allottedTo t.target n, acNotFound, 1)]
    (.done (s.modCtx n fun c => { c with r := { c.r with budget := BitVec.ofNat 32 b } }))

/-- SET_BUDGET (R227). -/
def execSetBudget (fn slot : Nat) (w : Wr) (s : State) : Res :=
  s.admin fn slot w setBudgetSpec (setBudgetAct s)

/-- The row of SET_KEYS in Table 07.4, and its parameter bits. -/
def setKeysSpec (_ : Taken) : AdmSpec :=
  { acode := 0x0206, len := 1, pf := false, target := .self, masks := [ones 0 20, ones 0 64] }

/-- What SET_KEYS comes to when the common checks pass. -/
def setKeysAct (s : State) (t : Taken) : AdmRes :=
  let n := t.pf 0 0 20
  admWhen [(s.allottedTo t.target n, acNotFound, 1), (decide ((s.ctx n).r.state = stIdle), acState, 1)]
    (.done (s.modCtx n fun c => { c with r := { c.r with keys := BitVec.ofNat 64 (t.param 1) } }))

/-- SET_KEYS (R227). -/
def execSetKeys (fn slot : Nat) (w : Wr) (s : State) : Res :=
  s.admin fn slot w setKeysSpec (setKeysAct s)

/-- The result words of QUERY-CONTEXT (Table 07.7); of a migrating context the bib is the one before the migration (05 R176). -/
def Ctx.queryWords (c : Ctx) (hide : Bool) : List Nat :=
  let r := if c.phase = .migrating then { c.r with bib := c.r.bib - 1 } else c.r
  let sw := r.statusWord
  [field sw 0 8, field sw 8 8, field sw 16 8, field sw 24 8,
   r.ownerFn.toNat + r.ownerFlags * 2 ^ 8 + r.home * 2 ^ 16 + r.stale.toNat * 2 ^ 24,
   r.budget.toNat + r.epochTag.toNat * 2 ^ 32, if hide then 0 else r.keys.toNat]

/-- The row of QUERY_CONTEXT in Table 07.4, and its parameter bits. -/
def queryContextSpec (_ : Taken) : AdmSpec :=
  { acode := 0x0207, len := 7, pf := false, target := .query, masks := [ones 0 20] }

/-- What QUERY_CONTEXT comes to when the common checks pass. -/
def queryContextAct (fn : Nat) (s : State) (t : Taken) : AdmRes :=
  let n := t.pf 0 0 20
  admWhen [(s.allottedTo t.target n, acNotFound, 1)]
    (.done s ((s.ctx n).queryWords (decide (fn = 0) && (s.fn t.target).tdiHeld)))

/-- QUERY_CONTEXT (R228). -/
def execQueryContext (fn slot : Nat) (w : Wr) (s : State) : Res :=
  s.admin fn slot w queryContextSpec (queryContextAct fn s)

end Sys2Proof.Machine
end

