-- ==== Sys2Proof/Machine/AdminRes.lean ====
section
/-! DEFINITION. Admin commands: sieve programs, far memory, events and vectors, namespaces, the domain, identity and firmware
(07 R229 to R238, 12 R360 to R363). -/

namespace Sys2Proof.Machine

/-! ### Memory that a command names -/

/-- The image lies inside the issuing function's extent when it is LOCAL (R219, R223). -/
def State.sourceOk (s : State) (fn space a n : Nat) : Bool := decide (space = 0) || (s.fn fn).holds a n

/-- What a command's memory read comes to: the bytes, those before the failure, or a wait. -/
inductive AdmBytes where
  | ok (bs : List Byte)
  | fail (got : List Byte)
  | wait

/-- Read `n` bytes that a command names (R219 ADDRESS). -/
def State.adminSource (s : State) (fn space a n : Nat) (r : AdminRead) : AdmBytes :=
  if space = 0 then
    if (s.fn fn).stopped then .wait
    else if r.fail then .fail (r.host.take n)
    else .ok ((r.host ++ zeros n).take n)
  else
    let x := (s.fn fn).extBase + a
    if r.fail then .fail []
    else match s.poisonIn x n with
      | some k => .fail (s.localRead x (k * 32 - x))
      | none => .ok (s.localRead x n)

/-- Host memory holds what the read showed (log 4). -/
def State.sawHost (s : State) (fn space a : Nat) (bs : List Byte) : State :=
  if space = 0 then { s with hostMem := s.hostMem.writeN (s.hostKey fn a) bs } else s

/-! ### Sieve programs (R229) -/

/-- The 64-bit words of an image. -/
def wordsOfBytes (bs : List Byte) : List W64 := (List.range (bs.length / 8)).map fun i => BitVec.ofNat 64 (field bs (8 * i) 8)

/-- The lowest handle that is not in use (R229). -/
def State.freeHandle (s : State) : Option Nat :=
  firstFrom (fun h => match s.sieve h with | none => true | some x => decide (x.state = 0)) 0 65536

/-- The row of LOAD_SIEVE in Table 07.4, and its parameter bits. -/
def loadSieveSpec (_ : Taken) : AdmSpec :=
  { acode := 0x0301, len := 1, pf := false, target := .self, masks := [ones 0 2 + ones 6 58, ones 0 15] }

/-- What LOAD_SIEVE comes to when the common checks pass. -/
def loadSieveAct (fn : Nat) (r : AdminRead) (s : State) (t : Taken) : AdmRes :=
  let space := t.pf 0 0 2
  let a := t.param 0 / 64 * 64
  let n := t.pf 1 0 15
  admWhen [(decide (space ≤ 1), acValue, 1), (decide (8 ≤ n) && decide (n ≤ 16384) && decide (n % 8 = 0), acValue, 2),
           (s.sourceOk fn space a n, acValue, 1), (s.freeHandle.isSome, acNoRes, 0)]
    (match s.adminSource fn space a n r with
     | .wait => .wait
     | .fail _ => .reject acAddress 0
     | .ok bs =>
       let ws := wordsOfBytes bs
       match verify ws, s.freeHandle with
       | some (v, k), _ => .reject acVerify 0 [v + k * 65536]
       | none, none => .reject acNoRes 0
       | none, some h =>
         let serial := match s.sieve h with | none => 0 | some x => x.serial
         let x : SieveHandle := { owner := fn, state := 1, serial := (serial + 1) % 2 ^ 32, words := ws }
         .done ((s.sawHost fn space a bs).setSieve h (some x)) [h])

/-- LOAD_SIEVE (R229, 09 R300). -/
def execLoadSieve (fn slot : Nat) (r : AdminRead) (w : Wr) (s : State) : Res :=
  s.admin fn slot w loadSieveSpec (loadSieveAct fn r s)

/-- The handle that an UNLOAD-SIEVE names is one the function loaded. -/
def State.ownsSieve (s : State) (fn h : Nat) : Option SieveHandle :=
  match s.sieve h with
  | none => none
  | some x => if x.owner = fn ∧ x.state = 1 then some x else none

/-- The row of UNLOAD_SIEVE in Table 07.4, and its parameter bits. -/
def unloadSieveSpec (_ : Taken) : AdmSpec :=
  { acode := 0x0302, len := 1, pf := false, target := .self, masks := [ones 0 16] }

/-- What UNLOAD_SIEVE comes to when the common checks pass. -/
def unloadSieveAct (fn : Nat) (s : State) (t : Taken) : AdmRes :=
  let h := t.pf 0 0 16
  match s.ownsSieve fn h with
  | none => .reject acNotFound 1
  | some x => .later (s.setSieve h (some { x with state := 2 }))

/-- UNLOAD_SIEVE (R229): every later HANDLE check with the handle fails. -/
def execUnloadSieve (fn slot : Nat) (w : Wr) (s : State) : Res :=
  s.admin fn slot w unloadSieveSpec (unloadSieveAct fn s)

/-- UNLOAD_SIEVE_COMPLETE (R229): no command that passed its check is in flight; the handle is free. -/
def execUnloadSieveComplete (fn slot : Nat) (w : Wr) (s : State) : Res :=
  s.adminLate fn slot 0x0302 w fun t =>
    let h := t.pf 0 0 16
    if s.sieveUsers h = 0 then some (s.setSieve h ((s.sieve h).map SieveHandle.free)) else none

/-! ### Far memory (R230, R231, 12 R360 to R363) -/

/-- Another function's extent overlaps the range (R230). -/
def State.extentClash (s : State) (target base len : Nat) : Bool :=
  (List.range 256).any fun n =>
    let f := s.fn n
    decide (n ≠ target) && decide (f.extLen ≠ 0) && decide (len ≠ 0) && decide (base < f.extBase + f.extLen) && decide (f.extBase < base + len)

/-- A ring of the function is in local placement, or a context has a program. -/
def State.extentBusy (s : State) (n : Nat) : Bool :=
  let f := s.fn n
  (f.queues.any fun q => match q.2 with | none => false | some x => x.loc) ||
  (f.rings.any fun r => match r.2 with | none => false | some x => x.loc) ||
  (s.ctxsOf n).any fun k => decide ((s.ctx k).r.state ≠ stIdle) && decide ((s.ctx k).r.state ≠ stFree)

/-- The row of SET_EXTENT in Table 07.4, and its parameter bits. -/
def setExtentSpec (_ : Taken) : AdmSpec :=
  { acode := 0x0401, len := 1, pf := true, target := .any, tdi := true, masks := [ones 21 17, ones 21 17] }

/-- What SET_EXTENT comes to when the common checks pass. -/
def setExtentAct (s : State) (t : Taken) : AdmRes :=
  let base := t.param 0
  let len := t.param 1
  admWhen [(decide (len ≤ tenantSize), acValue, 2), (decide (base + len ≤ tenantSize), acValue, 1),
           (!s.extentClash t.target base len, acValue, 1), (!s.extentBusy t.target, acBusy, 0)]
    (.done (s.modFn t.target fun f => { f with extBase := base, extLen := len }))

/-- SET_EXTENT (R230). -/
def execSetExtent (fn slot : Nat) (w : Wr) (s : State) : Res :=
  s.admin fn slot w setExtentSpec (setExtentAct s)

/-- Reserved bits of a far translation entry are 0 (Table 12.8). -/
def fttReserved (lo hi : W64) : Bool := decide (lo &&& 0xFFFC0000001FFF00#64 = 0) && decide (hi = 0)

/-- The entry's fields are allowed (12 R360). -/
def State.fttValue (s : State) (big : Bool) (e : W64) : Bool :=
  let size := if big then 0x40000000 else 0x200000
  let pa := bits e.toNat 21 29 * 0x200000
  if !e.getLsbD 0 then decide (e = 0)
  else decide (pa % size = 0) &&
    (s.isets.any fun p => match p.2 with | none => false | some x => decide (x.base ≤ pa) && decide (pa + size ≤ x.base + x.size))

/-- Leaves of one page size: groups of 4,096 pages with an entry (12 R361). -/
def leafCount : Option Nat → Table W64 → Nat
  | _, [] => 0
  | last, (k, _) :: t => if last = some (k / 4096) then leafCount last t else 1 + leafCount (some (k / 4096)) t

/-- The leaves of the pool that are taken. -/
def State.leaves (s : State) : Nat := s.fns.foldl (fun a p => a + leafCount none p.2.ftt2m + leafCount none p.2.ftt1g) 0

/-- Write one entry; entries of the other page size in its range are replaced (R230). -/
def Fn.putFtt (f : Fn) (big : Bool) (page : Nat) (e : W64) : Fn :=
  if big then { f with ftt1g := Table.set w64Def f.ftt1g page e
                       ftt2m := f.ftt2m.filter fun p => decide (p.1 / 512 ≠ page) }
  else { f with ftt2m := Table.set w64Def f.ftt2m page e, ftt1g := Table.erase f.ftt1g (page / 512) }

/-- Write entries from a page on. -/
def Fn.putFtts (big : Bool) : Nat → List W64 → Fn → Fn
  | _, [], f => f
  | page, e :: es, f => Fn.putFtts big (page + 1) es (f.putFtt big page e)

/-- Translations of the pages written leave every region's cache (R231). -/
def State.dropFtc (s : State) (fn : Nat) (big : Bool) (page count : Nat) : State :=
  let unit := if big then 512 else 1
  let hit := fun (p : Nat × Bool × Nat × W64) =>
    let lo := if p.2.1 then p.2.2.1 * 512 else p.2.2.1
    let n := if p.2.1 then 512 else 1
    decide (p.1 = fn) && decide (lo < (page + count) * unit) && decide (page * unit < lo + n)
  { s with regions := s.regions.mapV fun (x : Region) => { x with ftc := x.ftc.filter fun p => !hit p } }

/-- Far requests that an earlier translation of the function served are outstanding: writes that have not arrived (R231). -/
def State.farOutstanding (s : State) (fn : Nat) : Bool :=
  ((s.ctxsOf fn).any fun n => (s.ctx n).dirty.contains 2) ||
  s.blocks.any fun b => b.2.movers.any fun m => m.2.rings.any fun c => decide (c.2.fn = fn) && !c.2.sup && c.2.dirty.contains 2

/-- The first word of each 16-byte entry, and the second. -/
def entryWords (bs : List Byte) (n : Nat) : List (W64 × W64) :=
  (List.range n).map fun i => (BitVec.ofNat 64 (field bs (16 * i) 8), BitVec.ofNat 64 (field bs (16 * i + 8) 8))

/-- The row of WRITE_FTT in Table 07.4, and its parameter bits. -/
def writeFttSpec (_ : Taken) : AdmSpec :=
  { acode := 0x0402, len := 1, pf := true, target := .any, tdi := true,
    masks := [ones 0 1 + ones 21 29, ones 0 17, ones 0 2 + ones 4 60] }

/-- What WRITE_FTT comes to when the common checks pass. -/
def writeFttAct (fn : Nat) (r : AdminRead) (w : Wr) (s : State) (t : Taken) : AdmRes :=
  let big := decide (t.pf 0 0 1 = 1)
  let size := if big then 0x40000000 else 0x200000
  let fva := t.param 0 / 0x200000 * 0x200000
  let n := t.pf 1 0 17
  let space := t.pf 2 0 2
  let a := t.param 2 / 16 * 16
  admWhen [(decide (fva % size = 0), acValue, 1), (decide (1 ≤ n) && decide (n ≤ 65536), acValue, 2),
           (decide (fva + n * size ≤ 2 ^ 50), acValue, 1), (decide (space ≤ 1), acValue, 3),
           (s.sourceOk fn space a (16 * n), acValue, 3)]
    (match s.adminSource fn space a (16 * n) r with
     | .wait => .wait
     | .fail _ => .reject acAddress 0
     | .ok bs =>
       let es := entryWords bs n
       let s1 := (s.sawHost fn space a bs).modFn t.target (Fn.putFtts big (fva / size) (es.map Prod.fst))
       admWhen [(es.all fun e => fttReserved e.1 e.2, acReserved, 3), (es.all fun e => s.fttValue big e.1, acValue, 3),
                (decide (s1.leaves ≤ 7680), acNoRes, 0)]
         (let s2 := (s1.dropFtc t.target big (fva / size) n).dcSettle w
          if s.farOutstanding t.target then .later s2 else .done s2))

/-- WRITE_FTT (R230, R231). -/
def execWriteFtt (fn slot : Nat) (r : AdminRead) (w : Wr) (s : State) : Res :=
  s.admin fn slot w writeFttSpec (writeFttAct fn r w s)

/-- The link number of way `k` that SET-INTERLEAVE gives. -/
def Taken.wayLink (t : Taken) (k : Nat) : Nat := t.pf (3 + k / 8) (8 * (k % 8)) 5

/-- The link rules of one way (12 R363). -/
def State.wayOk (s : State) (t : Taken) (ways k : Nat) : Bool :=
  let l := t.wayLink k
  let x := s.link l
  if ways ≤ k then decide (l = 0)
  else decide (l < 24) && decide (s.linkMode l = 2) && (decide (x.kind = 4) || decide (x.kind = 5)) &&
    (decide (x.kind = 5) || (List.range k).all fun j => decide (t.wayLink j ≠ l))

/-- Another valid set overlaps the range. -/
def State.setClash (s : State) (k base size : Nat) : Bool :=
  s.isets.any fun p => match p.2 with
    | none => false
    | some x => decide (p.1 ≠ k) && decide (base < x.base + x.size) && decide (x.base < base + size)

/-- The row of SET_INTERLEAVE in Table 07.4, and its parameter bits. -/
def setInterleaveSpec (t : Taken) : AdmSpec :=
  { acode := 0x0403, len := 2, pf := true, target := .fn0,
    masks := if t.pf 0 16 1 = 0 then [ones 0 4 + ones 16 1]
    else [ones 0 13 + ones 16 1, ones 0 50, ones 0 50, 0x1F1F1F1F1F1F1F1F, 0x1F1F1F1F1F1F1F1F] }

/-- What SET_INTERLEAVE comes to when the common checks pass. -/
def setInterleaveAct (s : State) (t : Taken) : AdmRes :=
  let k := t.pf 0 0 4
  let ways := t.pf 0 4 5
  let gran := t.pf 0 9 4
  let base := t.param 1
  let size := t.param 2
  let busy := match s.iset k with | none => false | some x => s.rangeMapped x.base x.size
  let put := fun (x : Option ISet) => { s with isets := Table.set noneDef s.isets k x }
  if t.pf 0 16 1 = 0 then admWhen [(!busy, acBusy, 0)] (.done (put none))
  else admWhen ([([1, 2, 4, 8, 12, 16].contains ways, acValue, 1), (decide (8 ≤ gran) && decide (gran ≤ 14), acValue, 1),
                 (decide (base % 0x10000000 = 0), acValue, 2),
                 (decide (size ≠ 0) && decide (size % (ways * 0x10000000) = 0), acValue, 3),
                 (decide (base + size ≤ 2 ^ 50) && !s.setClash k base size, acValue, 2)] ++
                ((List.range 16).map fun j => (s.wayOk t ways j, acValue, 4 + j / 8)) ++ [(!busy, acBusy, 0)])
         (.done (put (some { base := base, size := size, ways := ways, logGran := gran,
                             links := (List.range ways).map t.wayLink })))

/-- SET_INTERLEAVE (R230, 12 R363). -/
def execSetInterleave (fn slot : Nat) (w : Wr) (s : State) : Res :=
  s.admin fn slot w setInterleaveSpec (setInterleaveAct s)

/-- The row of SET_FAR_TIMEOUT in Table 07.4, and its parameter bits. -/
def setFarTimeoutSpec (_ : Taken) : AdmSpec :=
  { acode := 0x0404, len := 1, pf := true, target := .fn0, masks := [ones 0 17] }

/-- What SET_FAR_TIMEOUT comes to when the common checks pass. -/
def setFarTimeoutAct (s : State) (t : Taken) : AdmRes :=
  let n := t.pf 0 0 17
  admWhen [(decide (50 ≤ n) && decide (n ≤ 64000), acValue, 1)] (.done { s with farTimeout := n })

/-- SET_FAR_TIMEOUT (R230). -/
def execSetFarTimeout (fn slot : Nat) (w : Wr) (s : State) : Res :=
  s.admin fn slot w setFarTimeoutSpec (setFarTimeoutAct s)

/-! ### Events, vectors and functions (R232) -/

/-- The channels that P0 names, and the range checks. -/
def Taken.chans (t : Taken) : List Nat := (List.range (t.pf 0 12 13)).map (t.pf 0 0 12 + ·)
def chanChecks (t : Taken) : List (Bool × Nat × Nat) :=
  [(decide (1 ≤ t.pf 0 12 13) && decide (t.pf 0 12 13 ≤ 4096) && decide (t.pf 0 0 12 + t.pf 0 12 13 ≤ 4096), acValue, 1)]

/-- The row of GRANT_EVENTS in Table 07.4, and its parameter bits. -/
def grantEventsSpec (_ : Taken) : AdmSpec :=
  { acode := 0x0501, len := 1, pf := true, target := .any, masks := [ones 0 25] }

/-- What GRANT_EVENTS comes to when the common checks pass. -/
def grantEventsAct (s : State) (t : Taken) : AdmRes :=
  let ok := fun (c : Nat) => !(s.ech c).supervisor && (decide ((s.ech c).ownerFn = 0) || decide ((s.ech c).ownerFn = t.target))
  admWhen (chanChecks t ++ [(t.chans.all ok, acState, 1)])
    (.done (t.chans.foldl (fun s c => s.modEch c fun e => e.ownedBy t.target false false) s))

/-- GRANT_EVENTS (R232). -/
def execGrantEvents (fn slot : Nat) (w : Wr) (s : State) : Res :=
  s.admin fn slot w grantEventsSpec (grantEventsAct s)

/-- A channel has a binding of its own, is the destination of one, or a WAIT waits on it (R232). -/
def State.chanBusy (s : State) (c : Nat) : Bool :=
  (s.binds.any fun p => p.2.valid && (decide (p.1 / 4 = c) || (!p.2.toVector && decide (p.2.dest = c)))) ||
  s.waitOrder.any fun p => decide (p.1 = c)

/-- The row of REVOKE_EVENTS in Table 07.4, and its parameter bits. -/
def revokeEventsSpec (_ : Taken) : AdmSpec :=
  { acode := 0x0502, len := 1, pf := true, target := .any, masks := [ones 0 25] }

/-- What REVOKE_EVENTS comes to when the common checks pass. -/
def revokeEventsAct (s : State) (t : Taken) : AdmRes :=
  let mine := fun (c : Nat) => !(s.ech c).supervisor && decide ((s.ech c).ownerFn = t.target)
  admWhen (chanChecks t ++ [(t.chans.all mine, acState, 1), (t.chans.all fun c => !s.chanBusy c, acBusy, 0)])
    (.done (t.chans.foldl (fun s c => s.modEch c fun e => e.ownedBy 0 false false) s))

/-- REVOKE_EVENTS (R232). -/
def execRevokeEvents (fn slot : Nat) (w : Wr) (s : State) : Res :=
  s.admin fn slot w revokeEventsSpec (revokeEventsAct s)

/-- The channel is owned by the function. -/
def State.ownsChan (s : State) (fn c : Nat) : Bool := !(s.ech c).supervisor && decide ((s.ech c).ownerFn = fn)

/-- The checks of DEST (Table 07.10), a vector below `lim`; a reserved DKIND is refused as RESERVED before them (00 R11, log 38). -/
def State.destChecks (s : State) (fn : Nat) (t : Taken) (lim : Nat) : List (Bool × Nat × Nat) :=
  let kind := t.pf 1 16 2
  let dest := t.pf 1 0 16
  [(if kind = 0 then decide (dest ≤ 4095) else decide (dest < lim), acValue, 2),
   (s.ownsChan fn (t.pf 0 0 12), acNotFound, 1), (decide (kind ≠ 0) || s.ownsChan fn dest, acNotFound, 2)]

/-- The slot of channel `c` that holds the binding to a destination. -/
def State.bindSlot (s : State) (fn c : Nat) (toVector : Bool) (dest : Nat) : Option Nat :=
  firstFrom (fun i => let b := s.bind c i
    b.valid && decide (b.toVector = toVector) && decide (b.dest = dest) && (!toVector || decide (b.fn = fn))) 0 4

/-- The row of BIND_EVENT in Table 07.4, and its parameter bits. -/
def bindEventSpec (_ : Taken) : AdmSpec :=
  { acode := 0x0503, len := 1, pf := false, target := .self, masks := [ones 0 12, ones 0 17] }

/-- What BIND_EVENT comes to when the common checks pass. -/
def bindEventAct (fn : Nat) (s : State) (t : Taken) : AdmRes :=
  let c := t.pf 0 0 12
  let v := decide (t.pf 1 16 2 = 1)
  let dest := t.pf 1 0 16
  let free := firstFrom (fun i => !(s.bind c i).valid) 0 4
  admWhen (s.destChecks fn t (s.fn fn).vecCount ++ [((s.bindSlot fn c v dest).isNone, acExists, 0), (free.isSome, acNoRes, 0),
                                 (v || decide (dest ≠ c), acLoop, 0)])
    (.done (s.setBind c (free.getD 0) { valid := true, fn := if v then fn else 0, toVector := v, dest := dest, maker := some fn }))

/-- BIND_EVENT (R232, 11 R338). -/
def execBindEvent (fn slot : Nat) (w : Wr) (s : State) : Res :=
  s.admin fn slot w bindEventSpec (bindEventAct fn s)

/-- The row of UNBIND_EVENT in Table 07.4, and its parameter bits. -/
def unbindEventSpec (_ : Taken) : AdmSpec :=
  { acode := 0x0504, len := 1, pf := false, target := .self, masks := [ones 0 12, ones 0 17] }

/-- What UNBIND_EVENT comes to when the common checks pass. -/
def unbindEventAct (fn : Nat) (s : State) (t : Taken) : AdmRes :=
  let c := t.pf 0 0 12
  admWhen (s.destChecks fn t 2048)
    (match s.bindSlot fn c (decide (t.pf 1 16 2 = 1)) (t.pf 1 0 16) with
     | none => .reject acNotFound 2
     | some i => .done (s.setBind c i {}))

/-- UNBIND_EVENT (R232). -/
def execUnbindEvent (fn slot : Nat) (w : Wr) (s : State) : Res :=
  s.admin fn slot w unbindEventSpec (unbindEventAct fn s)

/-- New moderation values act at once, on a running timer too (06 R213). -/
def State.setMod (s : State) (fn v holdoff thresh : Nat) : State :=
  let s := s.modFn fn fun f => f.setVec v { f.vec v with holdoff := holdoff, thresh := thresh }
  if ((s.fn fn).vec v).dueNow then s.dueMsg fn v else s

/-- The row of SET_MODERATION in Table 07.4, and its parameter bits. -/
def setModerationSpec (_ : Taken) : AdmSpec :=
  { acode := 0x0505, len := 1, pf := false, target := .self, masks := [ones 0 11, ones 0 32] }

/-- What SET_MODERATION comes to when the common checks pass. -/
def setModerationAct (fn : Nat) (s : State) (t : Taken) : AdmRes :=
  let v := t.pf 0 0 11
  admWhen [(decide (v < (s.fn fn).vecCount), acValue, 1)] (.done (s.setMod fn v (t.pf 1 0 16) (t.pf 1 16 16)))

/-- SET_MODERATION (R232). -/
def execSetModeration (fn slot : Nat) (w : Wr) (s : State) : Res :=
  s.admin fn slot w setModerationSpec (setModerationAct fn s)

/-- The row of SET_VF_VECTORS in Table 07.4, and its parameter bits. -/
def setVfVectorsSpec (_ : Taken) : AdmSpec :=
  { acode := 0x0506, len := 1, pf := true, target := .vfCount, tdi := true, masks := [ones 0 12] }

/-- What SET_VF_VECTORS comes to when the common checks pass. -/
def setVfVectorsAct (s : State) (t : Taken) : AdmRes :=
  let n := t.pf 0 0 12
  let total := (List.range 256).foldl (fun a k => a + (if k = t.target then n else (s.fn k).vecCount)) 0
  admWhen [(decide (1 ≤ n) && decide (n ≤ 2048), acValue, 1), (!s.vfEnable, acState, 0), (decide (total ≤ 32768), acVectors, 0)]
    (.done (s.modFn t.target fun f => { f with vecCount := n }))

/-- SET_VF_VECTORS (R232, 06 R183). -/
def execSetVfVectors (fn slot : Nat) (w : Wr) (s : State) : Res :=
  s.admin fn slot w setVfVectorsSpec (setVfVectorsAct s)

/-- The row of RESET_VF in Table 07.4, and its parameter bits. -/
def resetVfSpec (_ : Taken) : AdmSpec := { acode := 0x0507, len := 1, pf := true, target := .vf }

/-- What RESET_VF comes to when the common checks pass: it completes after step 7 of Table 06.32. -/
def resetVfAct (s : State) (t : Taken) : AdmRes := .later (s.beginFlr t.target)

/-- RESET_VF (R232, 06 R215). -/
def execResetVf (fn slot : Nat) (w : Wr) (s : State) : Res :=
  s.admin fn slot w resetVfSpec (resetVfAct s)

/-! ### Namespaces (R233, 12 R367, R368) -/

/-- The controller at a routing id behind a link. -/
def State.ctrlAt (s : State) (l rid : Nat) : Option Nat :=
  (s.ctrls.find? fun p => match p.2 with
    | none => false
    | some x => decide (x.link = l) && decide (x.rid = rid) && !x.removed).map Prod.fst

/-- The row of ATTACH_NAMESPACE in Table 07.4, and its parameter bits. -/
def attachNamespaceSpec (_ : Taken) : AdmSpec :=
  { acode := 0x0601, len := 3, pf := true, target := .any, tdi := true, masks := [ones 0 21, ones 0 32] }

/-- What ATTACH_NAMESPACE comes to when the common checks pass. -/
def attachNamespaceAct (r : IdentifyAnswer) (s : State) (t : Taken) : AdmRes :=
  let l := t.pf 0 16 5
  let at_ := s.ctrlAt l (t.pf 0 0 16)
  let free := firstFrom (fun h => (s.nvm h).isNone) 0 65536
  admWhen [(decide (l ≤ 23), acValue, 1), (at_.isSome, acNotFound, 1)]
    (match at_, free, r with
     | some k, free, .ok blocks size meta_ conv =>
       if !s.ctrlReady k then .reject (if free.isSome then acDevice else acNoRes) 0
       else admWhen [(decide (meta_ = 0) && decide (512 ≤ size) && decide (size ≤ 65536), acValue, 2), (conv, acNotFound, 2),
                     (free.isSome, acNoRes, 0)]
         (let h := free.getD 0
          let x : NvmHandle := { holder := t.target, ctrl := k, nsid := t.pf 1 0 32, blocks := blocks, blockSize := size }
          .done (s.setNvm h (some x)) [h, blocks, size])
     | some k, free, .inactive => if s.ctrlReady k then .reject acNotFound 2 else .reject (if free.isSome then acDevice else acNoRes) 0
     | some _, some _, .silent => .reject acDevice 0
     | some _, none, .silent => .reject acNoRes 0
     | none, _, _ => .reject acNotFound 1)

/-- ATTACH_NAMESPACE (R233): `r` is what the Identify commands answered; a controller that is not ready gives no answer. -/
def execAttachNamespace (fn slot : Nat) (r : IdentifyAnswer) (w : Wr) (s : State) : Res :=
  s.admin fn slot w attachNamespaceSpec (attachNamespaceAct r s)

/-- The row of DETACH_NAMESPACE in Table 07.4, and its parameter bits. -/
def detachNamespaceSpec (_ : Taken) : AdmSpec :=
  { acode := 0x0602, len := 1, pf := true, target := .any, tdi := true, masks := [ones 0 16] }

/-- What DETACH_NAMESPACE comes to when the common checks pass. -/
def detachNamespaceAct (s : State) (t : Taken) : AdmRes :=
  let h := t.pf 0 0 16
  match s.nvm h with
  | none => .reject acNotFound 1
  | some x =>
    if x.holder = t.target ∧ !x.detaching then .later (s.setNvm h (some { x with detaching := true }))
    else .reject acNotFound 1

/-- DETACH_NAMESPACE (R233): every later NVM-NS check with the handle fails. -/
def execDetachNamespace (fn slot : Nat) (w : Wr) (s : State) : Res :=
  s.admin fn slot w detachNamespaceSpec (detachNamespaceAct s)

/-- DETACH_NAMESPACE_COMPLETE (R233): no command that named the handle is in flight. -/
def execDetachNamespaceComplete (fn slot : Nat) (w : Wr) (s : State) : Res :=
  s.adminLate fn slot 0x0602 w fun t =>
    let h := t.pf 0 0 16
    if s.ctxs.any fun p : Nat × Ctx => p.2.nvHandles.contains h then none else some (s.setNvm h none)

/-- The row of SET_NVM_POLICY in Table 07.4, and its parameter bits. -/
def setNvmPolicySpec (_ : Taken) : AdmSpec :=
  { acode := 0x0603, len := 2, pf := true, target := .any, masks := [ones 0 64, ones 0 64, ones 0 64, ones 0 64] }

/-- What SET_NVM_POLICY comes to when the common checks pass. -/
def setNvmPolicyAct (s : State) (t : Taken) : AdmRes :=
  .done (s.modFn t.target fun f => { f with nvmPolicy := BitVec.ofNat 256 (field t.bytes 8 32) })

/-- SET_NVM_POLICY (R233). -/
def execSetNvmPolicy (fn slot : Nat) (w : Wr) (s : State) : Res :=
  s.admin fn slot w setNvmPolicySpec (setNvmPolicyAct s)

/-! ### The domain (R234) -/

/-- The device announces itself under its settings (12 R371). -/
def State.sayHello (s : State) : State :=
  let d := s.domain
  (s.modDomain fun d => { d with helloDue := s.time + 1000000 }).sendDomain { type := 1, sender := d.member, dest := 0xFF, members := d.members }

/-- The device leaves under its member number, if it is joined. -/
def State.sayLeave (s : State) : State :=
  if s.domain.joined then s.sendDomain { type := 4, sender := s.domain.member, dest := 0xFF } else s

/-- The row of SET_DOMAIN in Table 07.4, and its parameter bits. -/
def setDomainSpec (_ : Taken) : AdmSpec :=
  { acode := 0x0701, len := 1, pf := true, target := .fn0, masks := [ones 0 5 + ones 8 1, ones 0 32, ones 0 20] }

/-- What SET_DOMAIN comes to when the common checks pass. -/
def setDomainAct (s : State) (t : Taken) : AdmRes :=
  let m := t.pf 0 0 5
  let members := BitVec.ofNat 32 (t.param 1)
  let us := t.pf 2 0 20
  let lim := if us = 0 then 5000 else us
  let d := s.domain
  let waits := s.ctxs.any fun p : Nat × Ctx => decide (p.2.phase = .finishing)
  if t.pf 0 8 1 = 1 then
    admWhen [(members.getLsbD m, acValue, 2), (decide (us = 0) || (decide (100 ≤ us) && decide (us ≤ 1000000)), acValue, 3),
             (!waits, acBusy, 0)]
      (if d.joined ∧ d.member = m ∧ d.members = members then .done (s.modDomain fun d => { d with timeout := lim })
       else
         let adopt := fun (d : Domain) => { d with
           joined := true, member := m, members := members, timeout := lim, present := 0, silentAt := [] }
         .done ((s.sayLeave.modDomain adopt).sayHello))
  else
    admWhen [(decide (m = 0), acValue, 1), (decide (t.param 1 = 0), acValue, 2), (decide (us = 0), acValue, 3), (!waits, acBusy, 0)]
      (.done (s.sayLeave.modDomain fun d => { d with
        joined := false, member := 0, members := 0, timeout := 0, present := 0, silentAt := [] }))

/-- SET_DOMAIN (R234). -/
def execSetDomain (fn slot : Nat) (w : Wr) (s : State) : Res :=
  s.admin fn slot w setDomainSpec (setDomainAct s)

/-! ### Identity and health (R235, R236) -/

/-- Vendor and device id (Table 06.1, Table 07.11). -/
def vendorId : Nat := 0x2B7E
def deviceId (fn : Nat) : Nat := if fn = 0 then 0x9400 else 0x9401

/-- The IDENTIFY structure (Table 07.11). -/
def State.identity (s : State) (fn : Nat) : List Byte :=
  let f := s.fn fn
  let mine := countP (fun p : Nat × Ctx => !p.2.r.supervisor && decide (p.2.r.state ≠ stFree) && decide (p.2.r.ownerFn.toNat = fn)) s.ctxs
  let chans := countP (fun c => s.ownsChan fn c) (List.range 4096)
  leBytes 2 vendorId ++ leBytes 2 (deviceId fn) ++
  [0xB0, BitVec.ofNat 8 fn, if s.domain.joined then BitVec.ofNat 8 s.domain.member else 0xFF, 0] ++
  leBytes 4 s.sec.version.toNat ++ leBytes 4 mine ++ leBytes 8 f.extBase ++ leBytes 8 f.extLen ++ leBytes 2 f.vecCount ++
  leBytes 2 (countP (fun q => q.2.isSome) f.queues) ++ [BitVec.ofNat 8 (countP (fun r => r.2.isSome) f.rings)] ++ zeros 3 ++
  leBytes 4 ((pollBudget - s.pollCharge) / 2 ^ 24) ++ leBytes 2 chans ++ zeros 2 ++ leBytes 8 unpopBase ++ zeros 4040

/-- The row of IDENTIFY in Table 07.4, and its parameter bits. -/
def identifySpec (_ : Taken) : AdmSpec :=
  { acode := 0x0901, len := 1, pf := false, target := .self, masks := [ones 0 2 + ones 12 52] }

/-- What IDENTIFY comes to when the common checks pass. -/
def identifyAct (fn : Nat) (r : AdminRead) (s : State) (t : Taken) : AdmRes :=
  let space := t.pf 0 0 2
  let a := t.param 0 / 4096 * 4096
  let x := (s.fn fn).extBase + a
  admWhen [(decide (space ≤ 1), acValue, 1), (s.sourceOk fn space a 4096, acValue, 1)]
    (if space = 0 ∧ (s.fn fn).stopped then .wait
     else if r.fail then .reject acAddress 0
     else if space = 0 then .done { s with hostMem := s.hostMem.writeN (s.hostKey fn a) (s.identity fn) }
     else .done (s.localWrite x (s.identity fn)))

/-- IDENTIFY (R235). -/
def execIdentify (fn slot : Nat) (r : AdminRead) (w : Wr) (s : State) : Res :=
  s.admin fn slot w identifySpec (identifyAct fn r s)

/-- Cells of block `k` that are out of service through faults (R236): all 16 of a block that is retired or replaced. -/
def State.cellsOut (s : State) (k : Nat) : Nat :=
  let b := s.block k
  let x := s.region (k / 9)
  let replaced := (s.slotOf k).isNone && decide (x.reserve ≠ k % 9) && decide (b.retired ≠ 0)
  if b.blockRetired || replaced then 16 else countP (fun i => b.retired.getLsbD i) (List.range 16)

/-- The row of GET_HEALTH in Table 07.4, and its parameter bits. -/
def getHealthSpec (_ : Taken) : AdmSpec := { acode := 0x0902, len := 2, pf := true, target := .fn0 }

/-- What GET_HEALTH comes to when the common checks pass. -/
def getHealthAct (s : State) (_ : Taken) : AdmRes :=
  let cells := ((List.range 72).map s.cellsOut).foldl (· + ·) 0
  let rows := s.chip.pch.foldl (fun a p => a + p.2.rows) 0
  .done s [s.chip.health.toNat, min cells 0xFFFF + min rows 0xFFFF * 2 ^ 16 + s.store.ledger.length * 2 ^ 32]

/-- GET_HEALTH (R236). -/
def execGetHealth (fn slot : Nat) (w : Wr) (s : State) : Res :=
  s.admin fn slot w getHealthSpec (getHealthAct s)

/-! ### Firmware (R237) -/

/-- The row of FW_STAGE in Table 07.4, and its parameter bits. -/
def fwStageSpec (_ : Taken) : AdmSpec :=
  { acode := 0x0A01, len := 1, pf := true, target := .fn0, masks := [ones 0 2 + ones 12 52, ones 12 11, ones 0 21] }

/-- What FW_STAGE comes to when the common checks pass. -/
def fwStageAct (fn : Nat) (r : AdminRead) (s : State) (t : Taken) : AdmRes :=
  let space := t.pf 0 0 2
  let a := t.param 0 / 4096 * 4096
  let off := t.param 1
  let n := t.pf 2 0 21
  let k := 1 - s.sec.bank
  admWhen [(decide (space ≤ 1), acValue, 1), (decide (1 ≤ n) && decide (n ≤ 1048576), acValue, 3),
           (s.sourceOk fn space a n, acValue, 1), (decide (off + n ≤ bankSize), acValue, 2), (s.sec.fwBusy.isNone, acBusy, 0)]
    (if !s.supplyOk then .failed s.refuseStore acSupply
     else match s.adminSource fn space a n r with
       | .wait => .wait
       | .fail got =>
         let st := if got.isEmpty then s.store else s.store.writeBank k off got
         .failed { s with store := { st with torn := restaged k off n s.store.torn ++ [(k, off, n)] } } acAddress
       | .ok bs =>
         let st := s.store.writeBank k off bs
         .done ((({ s with store := { st with torn := restaged k off n s.store.torn } }).cic 963).sawHost fn space a bs))

/-- FW_STAGE (R237). -/
def execFwStage (fn slot : Nat) (r : AdminRead) (w : Wr) (s : State) : Res :=
  s.admin fn slot w fwStageSpec (fwStageAct fn r s)

/-- The row of FW_COMMIT in Table 07.4, and its parameter bits. -/
def fwCommitSpec (_ : Taken) : AdmSpec :=
  { acode := 0x0A02, len := 1, pf := true, target := .fn0, masks := [ones 0 24] }

/-- What FW_COMMIT comes to when the common checks pass. -/
def fwCommitAct (authentic : Bool) (version : W32) (s : State) (t : Taken) : AdmRes :=
  let n := t.pf 0 0 24
  let k := 1 - s.sec.bank
  let whole := s.store.torn.all fun p => decide (p.1 ≠ k) || decide (n ≤ p.2.1)
  admWhen [(decide (4096 ≤ n) && decide (n ≤ bankSize), acValue, 1)]
    (if !s.supplyOk then .failed s.refuseStore acSupply
     else if !authentic || !whole then .reject acImage 0
     else .done (({ s with store := s.store.commitBank k version }).cic 963) [version.toNat])

/-- FW_COMMIT (R237): a chunk that a failed FW-STAGE left partly stored makes the image no authentic one. -/
def execFwCommit (fn slot : Nat) (authentic : Bool) (version : W32) (w : Wr) (s : State) : Res :=
  s.admin fn slot w fwCommitSpec (fwCommitAct authentic version s)

/-! ### Commands that complete when others have (R221) -/

/-- The executing ADMIN command of FN[0] completes when what it waits for is over: the reset of a RESET-VF (R232), the far requests of a
WRITE-FTT (R231). -/
def State.adminDue (s : State) : State :=
  match (s.fn 0).adminFront with
  | none => s
  | some t =>
    if t.stage ≠ .acting then s
    else if (t.acode = 0x0507 ∧ (s.fn t.target).state ≠ 2) ∨ (t.acode = 0x0402 ∧ !s.farOutstanding t.target) then
      s.adminEnd 0 t 0 0 [] {}
    else s

end Sys2Proof.Machine
end

