-- ==== Sys2Proof/Machine/Regs.lean ====
section
/-! DEFINITION. The register spaces of Table 09.3: which register lies at an address, what a read of it returns and clears, and what
a write does (00 R10, Table 00.4, 09 R287, R290, and the register tables of chapters 10 to 15). -/

namespace Sys2Proof.Machine

/-- A register of the block, region and chip register spaces. Blocks by instance key 9 × region + block. -/
inductive Reg where
  | cellBoot (b k : Nat) | rchStat (b m c : Nat) | rc (b m j w : Nat) | fhStat (b f : Nat) | evtFire (b : Nat)
  | viewSub (b v : Nat) | view (b i : Nat) | cap (l : CapId) (w : Nat) | noCap | blkCells (b : Nat)
  | rsBoot (r i : Nat) | rsViewSub (r v : Nat) | rsView (r i : Nat) | regStale (r : Nat) | regBlocks (r : Nat)
  | csBoot (j : Nat) | csViewSub (v : Nat) | csView (j : Nat)
  | evtCh (c : Nat) | evtCtl | evtBind (c i : Nat)
  | srcCfg (k i : Nat) | pend (k w : Nat) | pendSet (k w : Nat) | pendClr (k w : Nat) | enableSet (k w : Nat) | enableClr (k w : Nat)
  | holdoff (k g : Nat) | claim (k t : Nat) | done (k t : Nat) | tgtCfg (k t : Nat) | tgtStack (k t : Nat) | stackEnt (k t i : Nat)
  | flCtl (l : Nat) | flStat (l : Nat) | flPartner (l : Nat) | flMeas (l : Nat) | flLane (l i : Nat)
  | domState | domEpoch | domCnt | pchStat (n : Nat) | ageMon (i : Nat) | emCnt (j : Nat)
  | pwrCtl | pwrStat | secState | temp (i : Nat) | railMon (j : Nat)
deriving DecidableEq, Repr

/-- The register has 64 bits. -/
def Reg.wide : Reg → Bool
  | .evtFire _ | .viewSub _ _ | .blkCells _ | .rsViewSub _ _ | .csViewSub _ | .pend _ _ | .pendSet _ _ | .pendClr _ _ | .enableSet _ _
  | .enableClr _ _ | .holdoff _ _ | .claim _ _ | .done _ _ | .tgtCfg _ _ | .tgtStack _ _ | .stackEnt _ _ _ | .flCtl _ | .domEpoch
  | .pwrCtl | .pwrStat | .secState => false
  | _ => true

/-- Element `i` of an array of `n` registers of `size` bytes from `base`. -/
def elem (a base size n : Nat) : Option Nat :=
  if base ≤ a ∧ a < base + size * n ∧ (a - base) % size = 0 then some ((a - base) / size) else none

/-- The first address rule that holds. -/
def firstReg : List (Option Reg) → Option Reg
  | [] => none
  | some r :: _ => some r
  | none :: l => firstReg l

/-- The registers of a capture (Tables 13.2 to 13.6) at a base. -/
def capRegs (a base : Nat) (l : Option CapId) : Option Reg :=
  (elem a base 8 5).map fun w => match l with | some l => Reg.cap l w | none => .noCap

/-- Register at an offset of block register space. A block that fills no slot has no live captures (13 R375). -/
def State.blockReg (s : State) (b a : Nat) : Option Reg :=
  let t := s.slotOf b
  firstReg [
    (elem a 0x100 8 16).map (Reg.cellBoot b),
    (elem a 0x1000 8 512).bind fun x =>
      let m := x / 64
      let o := x % 64
      if o < 8 then some (.rchStat b m o)
      else if 32 ≤ o ∧ o < 48 ∧ o % 8 < 5 then some (.rc b m ((o - 32) / 8) (o % 8)) else none,
    (elem a 0x2000 8 64).map (Reg.fhStat b),
    (elem a 0x3000 4 1).map fun _ => Reg.evtFire b,
    (elem a 0x3100 4 384).map (Reg.viewSub b),
    (elem a 0x3800 8 6).map (Reg.view b),
    (elem (a / 64 * 64) 0x4000 64 16).bind fun k => capRegs a (0x4000 + 64 * k) (t.map fun t => .cell (b / 9) t k),
    capRegs a 0x4400 (t.map fun t => .block (b / 9) t),
    (elem a 0x4440 4 1).map fun _ => Reg.blkCells b]

/-- Register at an offset from the base of interrupt controller `k` (Table 11.10). -/
def ctlReg (k a : Nat) : Option Reg :=
  let n := ctlSources k
  let t := (a - 0x5000) / 256
  let o := (a - 0x5000) % 256
  firstReg [
    (elem a 0 8 n).map (Reg.srcCfg k),
    (elem a 0x4000 4 (n / 32)).map (Reg.pend k),
    if k = 8 then (elem a 0x4100 4 32).map (Reg.pendSet k) else none,
    (elem a 0x4200 4 (n / 32)).map (Reg.pendClr k),
    (elem a 0x4300 4 (n / 32)).map (Reg.enableSet k),
    (elem a 0x4400 4 (n / 32)).map (Reg.enableClr k),
    (elem a 0x4500 4 (n / 32)).map (Reg.holdoff k),
    if a < 0x5000 ∨ ctlTargets k ≤ t then none
    else if o = 0 then some (.claim k t) else if o = 8 then some (.done k t) else if o = 0x10 then some (.tgtCfg k t)
    else if o = 0x18 then some (.tgtStack k t) else (elem o 0x40 4 16).map (Reg.stackEnt k t)]

/-- Register at an offset of chip register space. -/
def chipReg (a : Nat) : Option Reg :=
  let l := (a - 0x400000) / 256
  let o := (a - 0x400000) % 256
  firstReg [
    (elem a 0x8 8 3).map fun j => Reg.csBoot (j + 1),
    if 0x100000 ≤ a ∧ a < 0x106000 then ctlReg 8 (a - 0x100000) else none,
    (elem a 0x200000 8 4096).map Reg.evtCh,
    (elem a 0x208000 8 1).map fun _ => Reg.evtCtl,
    (elem a 0x220000 8 16384).map fun x => Reg.evtBind (x / 4) (x % 4),
    (elem a 0x300000 4 256).map Reg.csViewSub,
    (elem a 0x300400 8 4).map Reg.csView,
    if a < 0x400000 ∨ 24 ≤ l then none
    else if o = 0 then some (.flCtl l) else if o = 8 then some (.flStat l) else if o = 0x10 then some (.flPartner l)
    else if o = 0x18 then some (.flMeas l) else (elem o 0x40 8 8).map (Reg.flLane l),
    (elem a 0x500000 8 1).map fun _ => Reg.domState,
    (elem a 0x500008 8 1).map fun _ => Reg.domEpoch,
    (elem a 0x500010 8 1).map fun _ => Reg.domCnt,
    capRegs a 0x600000 (some .chip),
    (elem a 0x601000 8 128).map Reg.pchStat,
    (elem a 0x602000 8 64).map Reg.ageMon,
    (elem a 0x602200 8 32).map Reg.emCnt,
    (elem a 0x700000 8 1).map fun _ => Reg.pwrCtl,
    (elem a 0x700008 8 1).map fun _ => Reg.pwrStat,
    (elem a 0x700010 8 1).map fun _ => Reg.secState,
    (elem a 0x710000 8 16).map Reg.temp,
    (elem a 0x710100 8 8).map Reg.railMon]

/-- Base of the region register spaces and of chip register space (Table 09.3). -/
def regBase : Nat := 0x4000000000
def chipBase : Nat := 0x4800000000

/-- The address lies in a register space. -/
def inRegs (a : Nat) : Bool :=
  (decide (regBase ≤ a) && decide (a < regBase + 0x8000000)) || (decide (chipBase ≤ a) && decide (a < chipBase + 0x10000000))

/-- The register at an address of the supervisor data address map. -/
def State.regAt (s : State) (a : Nat) : Option Reg :=
  if chipBase ≤ a then (if a < chipBase + 0x10000000 then chipReg (a - chipBase) else none)
  else if a < regBase ∨ regBase + 0x8000000 ≤ a then none
  else
    let r := (a - regBase) / 0x1000000
    let o := (a - regBase) % 0x1000000
    if o < 0x900000 then s.blockReg (9 * r + o / 0x100000) (o % 0x100000)
    else firstReg [
      if 0xC00000 ≤ o ∧ o < 0xC06000 then ctlReg r (o - 0xC00000) else none,
      (elem o 0xD00000 4 128).map (Reg.rsViewSub r),
      (elem o 0xD00200 8 2).map (Reg.rsView r),
      capRegs o 0xE00000 (some (.region r)),
      (elem o 0xE00040 8 1).map fun _ => Reg.regStale r,
      (elem o 0xE00048 8 1).map fun _ => Reg.regBlocks r,
      (elem o 0xF00000 8 2).map (Reg.rsBoot r)]

/-! ### Values -/

/-- A subscription register (Table 11.7). -/
def ViewSub.word (x : ViewSub) : Nat := b2n x.en * 2 ^ 31 + x.chan

/-- ERR_CAP and ERR_WHO (Tables 13.2, 13.3). -/
def Cap.word (c : Cap) : Nat :=
  b2n c.valid * 2 ^ 63 + b2n c.overflow * 2 ^ 62 + b2n c.escalated * 2 ^ 61 + c.severity * 2 ^ 56 + c.code * 2 ^ 48 + c.source * 2 ^ 32
def Cap.whoWord (c : Cap) : Nat :=
  c.space * 2 ^ 44 + b2n c.fn.isSome * 2 ^ 42 + b2n c.ctx.isSome * 2 ^ 41 + c.fn.getD 0 * 2 ^ 32 + c.ctx.getD 0

/-- RC_STATUS (Table 10.9). -/
def RegChan.status (x : RegChan) : Nat :=
  x.residual * 2 ^ 32 + x.reason * 2 ^ 8 + 4 * b2n x.bad + 2 * b2n x.done + b2n x.busy

/-- REG_BLOCKS (Table 13.13). -/
def Region.blocksWord (x : Region) : Nat :=
  x.reserve * 2 ^ 36 + ((List.range 8).map fun t => x.slots.getD t 15 * 2 ^ (4 * t)).foldl (· + ·) 0

/-- A bitmap over the sources of word `w`. -/
def Ictl.bitmap (c : Ictl) (w : Nat) (p : Src → Bool) : Nat :=
  ((List.range 32).map fun j => b2n (p (c.src (32 * w + j))) * 2 ^ j).foldl (· + ·) 0

/-- The core that target `t` of controller `k` is (Table 11.9). -/
def targetCore (k t : Nat) : Nat := if k < 8 then 432 + 2 * k + t else 448 + t

/-- TGT_STACK and STACK_ENT (Table 11.22). -/
def Tgt.word (g : Tgt) : Nat :=
  b2n g.fault * 2 ^ 31 + g.stack.length * 2 ^ 24 + (match g.stack with | [] => 0 | x :: _ => x.2) * 2 ^ 20 + g.faultSrc
def Tgt.entry (g : Tgt) (i : Nat) : Nat := match g.stack.reverse.getD i (0, 0) with | (src, lvl) => lvl * 2 ^ 16 + src

/-- DOM_STATE (Table 12.13): the device's own bit is 1 while joined. -/
def Domain.word (d : Domain) : Nat :=
  (d.present.toNat ||| (if d.joined then 2 ^ d.member else 0)) * 2 ^ 32 + d.member * 2 ^ 8 + b2n d.joined

def State.ageWord (s : State) (i : Nat) : Nat := Table.get natDef s.chip.ageMargin i * 2 ^ 32 + Table.get natDef s.chip.ageFreq i
def State.emWord (s : State) (j : Nat) : Nat := Table.get natDef s.chip.emMargin j * 2 ^ 32 + (Table.get w32Def s.chip.emUsed j).toNat

/-- What a read of the register returns (Table 00.4); the value of a write-only field is 0. -/
def State.regVal (s : State) : Reg → Nat
  | .cellBoot b k => (Table.get w32Def (s.block b).bootStart k).toNat
  | .rchStat b m c => (s.ringCh b m c).stat.toNat
  | .rc b m j w =>
    let x := s.regCh b m j
    match w with | 0 => x.src.toNat | 1 => x.dst.toNat | 2 => x.count | 3 => x.ctrl.toNat | _ => x.status
  | .fhStat b f => (((s.block b).fifo f).stat f).toNat
  | .evtFire _ => 0
  | .viewSub b v => (Table.get subDef (s.block b).viewSub v).word
  | .view b i => (Table.get w64Def (s.block b).views i).toNat
  | .noCap => 0
  | .cap l w =>
    let c := s.cap l
    match w with | 0 => c.word | 1 => c.whoWord | 2 => c.addr.toNat | 3 => c.time | _ => c.cnt.toNat
  | .blkCells b => b2n (s.block b).blockRetired * 2 ^ 16 + (s.block b).retired.toNat
  | .rsBoot r i => (Table.get w32Def (s.region r).rsBoot i).toNat
  | .rsViewSub r v => (Table.get subDef (s.region r).viewSub v).word
  | .rsView r i => (Table.get w64Def (s.region r).views i ||| mailBit (s.core (432 + 2 * r + i))).toNat
  | .regStale r => (s.region r).stale
  | .regBlocks r => (s.region r).blocksWord
  | .csBoot j => (Table.get w32Def s.chip.csBoot j).toNat
  | .csViewSub v => (Table.get subDef s.chip.viewSub v).word
  | .csView j => (Table.get w64Def s.chip.views j ||| mailBit (s.core (448 + j))).toNat
  | .evtCh c => (s.ech c).word.toNat
  | .evtCtl => s.evtCtl.toNat
  | .evtBind c i => (s.bind c i).word.toNat
  | .srcCfg k i => ((s.ctl k).src i).word.toNat
  | .pend k w => (s.ctl k).bitmap w Src.pending
  | .pendSet k w => (s.ctl k).bitmap w Src.pending
  | .pendClr k w => (s.ctl k).bitmap w Src.pending
  | .enableSet k w => (s.ctl k).bitmap w Src.enabled
  | .enableClr k w => (s.ctl k).bitmap w Src.enabled
  | .holdoff k g => Table.get natDef (s.ctl k).holdoff g
  | .claim k t => ((s.ctl k).claim s.time t).1
  | .done _ _ => 0
  | .tgtCfg k t => 2 * b2n (s.core (targetCore k t)).asleep + b2n ((s.ctl k).tgt t).en
  | .tgtStack k t => ((s.ctl k).tgt t).word
  | .stackEnt k t i => ((s.ctl k).tgt t).entry i
  | .flCtl l => (s.link l).ctl.toNat
  | .flStat l => (s.flStat l).toNat
  | .flPartner l => (s.link l).partner.toNat
  | .flMeas l => (s.link l).meas.toNat
  | .flLane l i => ((s.link l).lane i).toNat
  | .domState => s.domain.word
  | .domEpoch => s.domain.ec.toNat
  | .domCnt => s.domain.cnt.toNat
  | .pchStat n => (s.pch n).stat.toNat
  | .ageMon i => s.ageWord i
  | .emCnt j => s.emWord j
  | .pwrCtl => s.power.ctl.toNat
  | .pwrStat => s.pwrStat.toNat
  | .secState => s.secState.toNat
  | .temp i => (s.temp i).word.toNat
  | .railMon j => (s.railMon j).toNat

/-- A field that a read clears: it is cleared when the read reaches one of its bits. -/
def rcField (mask lo w x : Nat) : Nat := if mask &&& ones lo w = 0 then x else 0

/-- What a read of the bits in `mask` clears (Table 00.4 RC). -/
def State.regCleared (s : State) (r : Reg) (m : Nat) : State :=
  match r with
  | .rchStat b c d => s.modRingCh b c d fun x => { x with abandoned := rcField m 48 16 x.abandoned }
  | .fhStat b f => s.modFifo b f fun x => { x with crossings := rcField m 32 16 x.crossings }
  | .cap l 4 =>
    let c := s.cap l
    s.setCap { c with escOut := rcField m 16 16 c.escOut, count := rcField m 0 16 c.count } l
  | .regStale k => s.setRegion k { s.region k with stale := 0 }
  | .evtCh c => s.modEch c fun e => { e with
      busy := rcField m 40 8 e.busy, loop := rcField m 32 8 e.loop, coal := rcField m 24 8 e.coal, merged := rcField m 16 8 e.merged }
  | .evtCtl => { s with evtLoop := rcField m 32 32 s.evtLoop, evtCoal := rcField m 16 16 s.evtCoal }
  | .srcCfg k i => s.modCtl k fun c => c.setSrc i { c.src i with extra := rcField m 32 8 (c.src i).extra }
  | .claim k t => s.modCtl k fun c => (c.claim s.time t).2
  | .flStat l =>
    let x := s.link l
    s.setLink l { x with late := rcField m 48 16 x.late, downs := rcField m 40 8 x.downs, retrains := rcField m 32 8 x.retrains }
  | .flLane l i =>
    let x := s.link l
    s.setLink l { x with corr := Table.set natDef x.corr i (rcField m 32 32 (Table.get natDef x.corr i)) }
  | .domCnt => s.modDomain fun d => { d with
      late := rcField m 48 16 d.late, mismatch := rcField m 32 16 d.mismatch, own := rcField m 16 16 d.own }
  | .pchStat n =>
    let x := s.pch n
    s.setPch n { x with uncorr := rcField m 16 16 x.uncorr, corr := rcField m 0 16 x.corr }
  | .pwrStat => { s with power := { s.power with refusals := rcField m 24 8 s.power.refusals } }
  | .temp i => s.setTemp i { s.temp i with alarms := rcField m 32 8 (s.temp i).alarms }
  | .railMon j => s.setRail j { s.rail j with under := rcField m 40 8 (s.rail j).under }
  | _ => s

/-! ### Writes -/

/-- The outcome of a row that a register write runs; a row that cannot occur leaves the state as it is. -/
def Res.orElse (r : Res) (s : State) : State := match r with | .next t => t | _ => s

/-- Start a core that is in its post-reset sleep (09 R290). -/
def State.startCore (s : State) (id : Nat) (start : W32) : Option State :=
  let c := s.core id
  if c.asleep ∧ !c.started ∧ !c.stopped then
    some (s.setCore id { c with pc := start.zeroExtend 64, asleep := false, started := true })
  else none

/-- The core that CELL_BOOT[k] of a block starts, if the cell has one. -/
def bootCore (b k : Nat) : Option Nat :=
  if k = 0 then some (6 * b) else if 9 ≤ k ∧ k ≤ 12 then some (6 * b + (k - 8)) else if k = 15 then some (6 * b + 5) else none

/-- An access error in a region's capture, of the region's own units or of RS[i] (Table 13.1). -/
def State.accessErrRegion (s : State) (r source : Nat) : State := s.error (.region r) { code := .access, source := source }

/-- An access error of an interrupt controller. -/
def State.accessErrCtl (s : State) (k : Nat) : State := if k < 8 then s.accessErrRegion k 8 else s.accessErrUnlisted

/-- A 32-bit boot register: START is stored, and GO starts the core at the START of this write. A write of GO to a core that cannot
start leaves the register as it is (00 R10). -/
def bootStart (cur : W32) (v m : Nat) : W32 := BitVec.ofNat 32 (bits ((cur.toNat &&& (2 ^ 64 - 1 - m)) ||| (v &&& m)) 0 32)

/-- Bit of a written value that the write reaches. -/
def hot (v m k : Nat) : Bool := bit (v &&& m) k

/-- A view bitmap after a W1C write; bit 63 of a supervisor core's view is RO (11 R343). -/
def viewAfter (t : Table W64) (i v m : Nat) (ro63 : Bool) : Table W64 :=
  let clr := (v &&& m) % (if ro63 then 2 ^ 63 else 2 ^ 64)
  Table.set w64Def t i (Table.get w64Def t i &&& ~~~(BitVec.ofNat 64 clr))

/-- A subscription after a write. -/
def subAfter (x : ViewSub) (new : Nat) : ViewSub := let _ := x; { en := bit new 31, chan := bits new 0 12 }

/-- A write to a register channel's registers (10 R323). -/
def State.rcWrite (s : State) (b m j w new v mask : Nat) : State :=
  let x := s.regCh b m j
  let v64 : W64 := BitVec.ofNat 64 new
  match w with
  | 0 => if x.busy || x.lodge then s.rcRefuse b m j else s.modRegCh b m j fun x => { x with src := v64 }
  | 1 => if x.busy || x.lodge then s.rcRefuse b m j else s.modRegCh b m j fun x => { x with dst := v64 }
  | 2 => if x.busy || x.lodge || decide (16777216 < bits new 0 25) then s.rcRefuse b m j
         else s.modRegCh b m j fun x => { x with count := bits new 0 25 }
  | 3 =>
    let act := v &&& mask
    let full : W64 := BitVec.ofNat 64 (bits new 0 60 + act / 2 ^ 60 * 2 ^ 60)
    if x.busy || x.lodge then
      if act = 2 ^ 62 then (execRcStop b m j s).orElse s else s.rcRefuse b m j
    else if bit act 63 then
      let s := (execRcStart b m j full s).orElse s
      if bit act 62 then (execRcStop b m j s).orElse s else s
    else if rcCtrlBad full then s.rcRefuse b m j
    else s.modRegCh b m j fun x => { x with ctrl := full &&& rcCtrlMask }
  | _ => s.modRegCh b m j fun x => { x with bad := x.bad && !hot v mask 2, done := x.done && !hot v mask 1 }

/-- A write to FH_STAT (Table 10.11). -/
def State.fhWrite (s : State) (b f new v m : Nat) : State :=
  let mark := bits new 24 7
  if mark = 0 ∨ fifoCap f < mark then s.cellError b 15 { code := .access, source := f }
  else s.modFifo b f fun x => { x with
    mark := mark, reset := x.reset && !hot v m 22, underrun := x.underrun && !hot v m 21, overrun := x.overrun && !hot v m 20,
    wm := x.wm && !hot v m 19 }

/-- A write to EVT_CH (11 R334). -/
def State.echWrite (s : State) (c new v m : Nat) : State :=
  let fn := bits new 8 8
  let attr := bit new 2
  let sup := bit new 1
  if (attr && !sup) || (sup && decide (fn ≠ 0)) then s.accessErrUnlisted
  else s.modEch c fun e => { e with flag := e.flag && !hot v m 0 }.ownedBy fn attr sup

/-- A write to SRC_CFG (Table 11.11, R345, R348). -/
def Ictl.srcWrite (c : Ictl) (k i new v m now : Nat) : Ictl :=
  let x := c.src i
  let targets := bits new 16 (if k < 8 then 2 else 4)
  let filter := bits new 8 8
  let sense := bits new 4 2
  let reset := decide (sense ≠ x.sense) || decide (filter ≠ x.filter)
  let keep := match x.target with | none => none | some t => if bit targets t then some t else none
  c.setSrc i { x with
    targets := targets, filter := filter, sense := sense, prio := bits new 0 4, target := keep, stuck := x.stuck && !hot v m 40,
    input := if reset then x.raw else x.input, run := if reset then 0 else x.run,
    since := if reset && x.raw && !x.input then now else x.since }

/-- A write of `v` under the bit mask `m` (Table 00.4, R10). -/
def State.regPut (s : State) (r : Reg) (v m : Nat) : State :=
  let new := (s.regVal r &&& (2 ^ 64 - 1 - m)) ||| (v &&& m)
  match r with
  | .cellBoot b k =>
    let refuse := fun (s : State) => s.blockError b { code := .access, source := k }
    let st := bootStart (Table.get w32Def (s.block b).bootStart k) v m
    let put := fun (s : State) => s.modBlock b fun x => { x with bootStart := Table.set w32Def x.bootStart k st }
    if hot v m 63 then match (if s.blockOn b then bootCore b k else none).bind fun id => s.startCore id st with | some s => put s | none => refuse s
    else put s
  | .rsBoot r i =>
    let refuse := fun (s : State) => s.accessErrRegion r (9 + i)
    let st := bootStart (Table.get w32Def (s.region r).rsBoot i) v m
    let put := fun (s : State) => s.setRegion r { s.region r with rsBoot := Table.set w32Def (s.region r).rsBoot i st }
    if hot v m 63 then match s.startCore (432 + 2 * r + i) st with | some s => put s | none => refuse s
    else put s
  | .csBoot j =>
    let st := bootStart (Table.get w32Def s.chip.csBoot j) v m
    let put := fun (s : State) => { s with chip := { s.chip with csBoot := Table.set w32Def s.chip.csBoot j st } }
    if hot v m 63 then match s.startCore (448 + j) st with | some s => put s | none => s.accessErrUnlisted
    else put s
  | .rc b c j w => s.rcWrite b c j w new v m
  | .fhStat b f => s.fhWrite b f new v m
  | .evtFire b => if m &&& 0xFFF = 0 then s else (execBlkEvtFire b (BitVec.ofNat 32 (v &&& m)) s).orElse s
  | .viewSub b i => s.modBlock b fun x => { x with viewSub := Table.set subDef x.viewSub i (subAfter (Table.get subDef x.viewSub i) new) }
  | .view b i => s.modBlock b fun x => { x with views := viewAfter x.views i v m false }
  | .cap l 0 =>
    let c := s.cap l
    s.setCap { c with valid := c.valid && !hot v m 63, overflow := c.overflow && !hot v m 62 } l
  | .rsViewSub r i =>
    if i % 64 = 63 then s
    else s.setRegion r { s.region r with viewSub := Table.set subDef (s.region r).viewSub i (subAfter {} new) }
  | .rsView r i => s.setRegion r { s.region r with views := viewAfter (s.region r).views i v m true }
  | .csViewSub i =>
    if i % 64 = 63 then s
    else { s with chip := { s.chip with viewSub := Table.set subDef s.chip.viewSub i (subAfter {} new) } }
  | .csView j => { s with chip := { s.chip with views := viewAfter s.chip.views j v m true } }
  | .evtCh c => s.echWrite c new v m
  | .evtCtl => if bits new 0 4 = 0 then s.accessErrUnlisted else { s with hopLimit := bits new 0 4 }
  | .evtBind c i => (execEvtBindWrite c i (BitVec.ofNat 64 new) s).orElse s
  | .srcCfg k i =>
    if bits new 8 8 = 0 ∨ 2 ≤ bits new 4 2 then s.accessErrCtl k
    else s.modCtl k fun c => c.srcWrite k i new v m s.time
  | .pendSet k w => (execPendSet k w (BitVec.ofNat 32 (v &&& m)) s).orElse s
  | .pendClr k w => (execPendClr k w (BitVec.ofNat 32 (v &&& m)) s).orElse s
  | .enableSet k w => (execEnableSet k w (BitVec.ofNat 32 (v &&& m)) s).orElse s
  | .enableClr k w => (execEnableClr k w (BitVec.ofNat 32 (v &&& m)) s).orElse s
  | .holdoff k g => s.modCtl k fun c => { c with holdoff := Table.set natDef c.holdoff g (bits new 0 16) }
  | .done k t => if m &&& 0xFFFF = 0 then s else (execDoneWrite k t (BitVec.ofNat 32 (v &&& m)) s).orElse s
  | .tgtCfg k t =>
    let on := bit new 0
    s.modCtl k fun c =>
      let c := c.setTgt t { c.tgt t with en := on }
      if on then c else c.withdraw t
  | .tgtStack k t => if hot v m 31 then (execStackFaultClear k t s).orElse s else s
  | .flCtl l =>
    let rate := bits new 4 4
    if rate = 0 || decide (7 < rate) || (bit new 0 && !bit new 1 && !bit new 2) then s.accessErrChip (768 + 5 * l + 1)
    else s.setLink l { s.link l with maxRate := rate, allowCxl := bit new 2, allowPcie := bit new 1, en := bit new 0 }
  | .pwrCtl => { s with power := { s.power with ctl := BitVec.ofNat 32 (bits new 0 9) } }
  | _ => s

/-! ### Accesses of one to eight bytes -/

/-- The bits of the 64-bit word at `q` that an access of `n` bytes at `a` reaches. -/
def laneMask (q a n : Nat) : Nat :=
  let lo := max a q
  let hi := min (a + n) (q + 8)
  if lo < hi then ones (8 * (lo - q)) (8 * (hi - lo)) else 0

/-- A register and the mask of the access within it, of the word at `q`. -/
def State.wordRegs (s : State) (q m : Nat) : List (Reg × Nat × Nat) :=
  match s.regAt q with
  | some r =>
    if r.wide then [(r, 0, m)]
    else [(r, 0, m % 2 ^ 32)] ++ (match s.regAt (q + 4) with | some r => [(r, 32, m / 2 ^ 32)] | none => [])
  | none => match s.regAt (q + 4) with | some r => [(r, 32, m / 2 ^ 32)] | none => []

/-- Read registers under their masks, each at its place in a word: the value, and the state after the read. -/
def State.getRegs (s : State) (l : List (Reg × Nat × Nat)) : Nat × State :=
  l.foldl (fun p x =>
    if x.2.2 = 0 then p
    else (p.1 + ((s.regVal x.1) &&& x.2.2) * 2 ^ x.2.1, p.2.regCleared x.1 x.2.2)) (0, s)

/-- Read the bits in `m` of the word at `q`: their value, and the state after the read. -/
def State.wordGet (s : State) (q m : Nat) : Nat × State := s.getRegs (s.wordRegs q m)

/-- The register belongs to an SQ, MV, SV or FD cell, which Coast and Park gate (14 R412, Table 14.9 step 3; cell indices of 01 R18). -/
def Reg.ofGated : Reg → Bool
  | .cellBoot _ k => decide (k ≠ 15)
  | .rchStat _ _ _ | .rc _ _ _ _ => true
  | .viewSub _ v => decide (v / 64 ≠ 5)
  | .view _ i => decide (i ≠ 5)
  | .cap l _ => match l with | .cell _ _ k => decide (k ≠ 15) | _ => false
  | _ => false

/-- What the debug access port reads of the 8 bytes at `a`: the registers of power-gated cells read as 0 (14 R415). -/
def State.portGet (s : State) (a : Nat) : Nat × State :=
  s.getRegs ((s.wordRegs a (2 ^ 64 - 1)).filter fun x => decide (s.power.state = 0) || !x.1.ofGated)

/-- Write the bits in `m` of the word at `q`. -/
def State.wordPut (s : State) (q v m : Nat) : State :=
  (s.wordRegs q m).foldl (fun t x => if x.2.2 = 0 then t else t.regPut x.1 (v / 2 ^ x.2.1) x.2.2) s

/-- A read of `n` bytes, 1 to 8, at an address of a register space; what no table maps reads 0. -/
def State.regLoad (s : State) (a n : Nat) : Nat × State :=
  let q := a / 8 * 8
  let (x, s1) := s.wordGet q (laneMask q a n)
  let (y, s2) := if q + 8 < a + n then s1.wordGet (q + 8) (laneMask (q + 8) a n) else (0, s1)
  (((x + y * 2 ^ 64) / 2 ^ (8 * (a - q))) % 2 ^ (8 * n), s2)

/-- A write of `n` bytes, 1 to 8, at an address of a register space. -/
def State.regStore (s : State) (a n v : Nat) : State :=
  let q := a / 8 * 8
  let w := (v % 2 ^ (8 * n)) * 2 ^ (8 * (a - q))
  let s1 := s.wordPut q (w % 2 ^ 64) (laneMask q a n)
  if q + 8 < a + n then s1.wordPut (q + 8) (w / 2 ^ 64) (laneMask (q + 8) a n) else s1

end Sys2Proof.Machine
end

