-- ==== Sys2Proof/Machine/CoreBus.lean ====
section
/-! DEFINITION. What lies beyond the sequencer, gate and supervisor cores: their memories, the kind-specific units, the requests of
the cell arbiters and controllers, and the views (09 R285 to R289, 11 R342, R343, R355). -/

namespace Sys2Proof.Machine

/-! ### Places of a core -/

/-- Block instance and cell of a core below 432 (Table 01.4). -/
def coreBlk (id : Nat) : Nat := id / 6
def coreCell (id : Nat) : Nat := if id % 6 = 0 then 0 else if id % 6 = 5 then 15 else 8 + id % 6

/-- Controller and target of a supervisor core (Table 11.9). -/
def coreCtl (id : Nat) : Nat := if id < 448 then (id - 432) / 2 else 8
def coreTgt (id : Nat) : Nat := if id < 448 then (id - 432) % 2 else id - 448

/-- The 64-bit event flag view of a core; bit 63 of a supervisor's is 1 while its mailbox holds a value (11 R342, R343). -/
def coreView (id : Nat) (s : State) (c : Core) : W64 :=
  if id < 432 then Table.get w64Def (s.block (coreBlk id)).views (id % 6)
  else (if id < 448 then Table.get w64Def (s.region (coreCtl id)).views (coreTgt id) else Table.get w64Def s.chip.views (coreTgt id))
    ||| mailBit c

/-- A refused write of a configuration port is an access error of the core's unit (R10, R247, Table 13.1). -/
def coreRefused (id : Nat) (s : State) : State :=
  if 448 ≤ id then s.accessErrUnlisted
  else if 432 ≤ id then s.accessErrRegion (coreCtl id) (9 + coreTgt id)
  else if id % 6 = 5 then
    let (v, s) := s.drawWord
    s.cellError (coreBlk id) 15 { code := .access, source := v.toNat % 64 }
  else s.cellError (coreBlk id) (coreCell id) { code := .access, source := 0 }

/-! ### Memories (Table 09.3) -/

/-- The window lies in one of the areas, each a base and a size. -/
def winIn (areas : List (Nat × Nat)) (w : Win) : Bool :=
  areas.any fun p => decide (p.1 ≤ w.base) && decide (w.base + w.len ≤ p.1 + p.2)

/-- Base of the core data RAM and of block register space in the map of SQ and GT; base of a supervisor's data RAM. -/
def blkRam : Nat := 0x800000
def blkRegs : Nat := 0xC00000
def supRam : Nat := 0x8000000000

/-- Areas of each map. LOCAL space and the region register spaces adjoin. -/
def dataAreas : CoreKind → List (Nat × Nat)
  | .sq => [(0, 0x200000), (0x400000, 0x40000), (blkRam, 0x10000), (blkRegs, 0x10000)]
  | .gt => [(blkRam, 0x4000), (blkRegs, 0x10000)]
  | .sup => [(0, regBase + 0x8000000), (chipBase, 0x10000000), (supRam, 0x40000)]
  | .sv => []

/-- An access traps with WINDOW, RANGE: its window reaches an address that the map does not list, or it touches the unpopulated LOCAL
range (R287). -/
def busTrap (k : CoreKind) (a n : Nat) (w : Win) : Option (Nat × Nat) :=
  if !winIn (dataAreas k) w then some (cWindow, 3)
  else if k = .sup ∧ unpopBase < a + n ∧ a < regBase then some (cWindow, 3) else none

/-- A word of data RAM that a range touches has an uncorrectable error (13 R381). -/
def Core.ramBad (c : Core) (o n : Nat) : Bool := (firstBad c.dataPoison o n).isSome

/-- A write to data RAM; a word written whole is good again. -/
def Core.ramPut (c : Core) (o : Nat) (bs : List Byte) : Core :=
  { c with
    data := c.data.writeN o bs
    dataPoison := mendWords c.dataPoison o bs.length }

/-- The place of a block's register space in the supervisor map. -/
def blkRegBase (b : Nat) : Nat := regBase + 0x1000000 * (b / 9) + 0x100000 * (b % 9)

/-- A load of `n` bytes. -/
def busLoad (id a n : Nat) (s : State) (c : Core) : List Byte × Bool × State × Core :=
  let regs := fun (a : Nat) => let r := s.regLoad a n; (leBytes n r.1, false, r.2, c)
  if 432 ≤ id then
    if supRam ≤ a then (c.data.readN (a - supRam) n, c.ramBad (a - supRam) n, s, c)
    else if inRegs a then regs a
    else (s.localRead a n, (s.poisonIn a n).isSome, s, c)
  else if blkRegs ≤ a then regs (blkRegBase (coreBlk id) + (a - blkRegs))
  else if blkRam ≤ a then (c.data.readN (a - blkRam) n, c.ramBad (a - blkRam) n, s, c)
  else ((List.range n).map fun i => s.blockByte (coreBlk id) (a + i), (s.blockBad (coreBlk id) a n).isSome, s, c)

/-- A store. Only a supervisor's writes reach register space (R290). -/
def busStore (id a : Nat) (bs : List Byte) (s : State) (c : Core) : State × Core :=
  if 432 ≤ id then
    if supRam ≤ a then (s, c.ramPut (a - supRam) bs)
    else if inRegs a then (s.regStore a bs.length (leVal bs), c)
    else (s.localWrite a bs, c)
  else if blkRegs ≤ a then (s, c)
  else if blkRam ≤ a then (s, c.ramPut (a - blkRam) bs)
  else (s.blockPuts (coreBlk id) a bs, c)

/-! ### SQ units (Table 09.4) -/

/-- Free slots of the ring that DSC.ch selects: their descriptors have ended. -/
def State.freeSlots (s : State) (blk m c : Nat) : Nat := countP (fun k => !(s.desc blk m c k).own) (List.range 64)

/-- Mover and ring channel of DSC.ch. -/
def Core.dscMover (c : Core) : Nat := bits (c.reg 0x198).v.toNat 3 3
def Core.dscRing (c : Core) : Nat := bits (c.reg 0x198).v.toNat 0 3

/-- Reads of SQ ports. -/
def sqRead (id p : Nat) (s : State) (c : Core) : Except Nat (Val × State × Core) :=
  let b := s.block (coreBlk id)
  if p = 0x19E then .ok (intVal (s.freeSlots (coreBlk id) c.dscMover c.dscRing), s, c)
  else if p = 0x1A0 then
    match ((b.fifo toSeq).takeItem).1 with
    | none => .error uEmpty
    | some w => .ok (⟨BitVec.ofNat 64 (field w 0 8), tgRaw⟩, s.modFifo (coreBlk id) toSeq fun x => x.takeItem.2, c)
  else if p = 0x1A1 then .ok (intVal (countP (fun w => w.2) (b.fifo toSeq).words), s, c)
  else if p = 0x1B0 then .ok (⟨BitVec.ofNat 64 s.time, tgTime⟩, s, c)
  else .ok (c.reg p, s, c)

/-- Traps of SQ ports (Table 09.8). -/
def sqTrap (id p : Nat) (v : Val) (s : State) (c : Core) : Option Nat :=
  let n := v.v.toNat
  if p = 0x180 ∧ 1023 < n then some uRange
  else if p = 0x181 ∧ 31 < n then some uRange
  else if p = 0x1B8 ∧ 4095 < n then some uRange
  else if p = 0x19D ∧ s.freeSlots (coreBlk id) c.dscMover c.dscRing = 0 then some uRingFull
  else none

/-- The address of the lodge word that CTX.slot and CTX.idx select, in the SQ map. -/
def Core.ctxWord (c : Core) : Nat := 0x400000 + 256 * (c.reg 0x180).v.toNat + 8 * (c.reg 0x181).v.toNat

/-- Bytes of the SQ map. -/
def State.blockBytes (s : State) (b a n : Nat) : List Byte := (List.range n).map fun i => s.blockByte b (a + i)

/-- The command that was last fetched for a context, checked where it stood when it was fetched (R42, R85 steps 1 to 5). A command
that has begun counts in its group already. -/
def State.lastQual (s : State) (n : Nat) : Byte :=
  let c := s.ctx n
  let grouped := c.cmd.producer || c.cmd.consumer
  let back := grouped && !c.chain && decide (c.phase ≠ .fetch) && decide (c.phase ≠ .desc) && decide (0 < c.grp.count)
  let s := s.setCtx n { c with grp := { c.grp with count := c.grp.count - b2n back } }
  (s.earlyCheck n c.cmd).getD 0

/-- CMD.t_dec: the four words and the qualifier land three words later. An empty lodge slot has no command: free values. -/
def sqDecode (id n : Nat) (s : State) (c : Core) : State × Core :=
  let put := fun (ws : List W64) (q : Val) (c : Core) =>
    ((List.range 4).foldl (fun (c : Core) j => c.later 0x188 3 (some (0x189 + j, ⟨ws.getD j 0, tgRaw⟩)) none) c).later
      0x188 3 (some (0x18D, q)) none
  match s.inLodge (coreBlk id) n with
  | some x =>
    let bs := (s.ctx x).cmd.encode
    (s, put ((List.range 4).map fun j => BitVec.ofNat 64 (field bs (8 * j) 8)) (intVal (s.lastQual x).toNat) c)
  | none =>
    let (a, s) := s.drawWord
    let (b, s) := s.drawWord
    let (d, s) := s.drawWord
    let (e, s) := s.drawWord
    let (q, s) := s.drawWord
    (s, put [a, b, d, e] (intVal (q.toNat % 256)) c)

/-- FCH.t_fetch: the demand fetch of the context in a lodge slot is asked for; a context that is ready is fetched for at once
(R39, R355). -/
def State.askFetch (s : State) (b slot : Nat) : State :=
  match s.inLodge b slot with
  | none => s
  | some n =>
    let s := s.modBlock b fun x => { x with asked := insertNat n x.asked }
    if (s.ctx n).isReady then s.modCtx n Ctx.begins else s

/-- DSC.t_post: the descriptor goes into the next slot of the ring, and a notice to the mover (10 R305). -/
def State.postDesc (s : State) (b m r : Nat) (bs : List Byte) : State :=
  let k := (s.ringCh b m r).post
  let a := slotAddr m r k
  let s := s.modBlock b fun x => x.sramPut a bs
  let x := s.ringCh b m r
  let note := zeros 8 ++ [0, BitVec.ofNat 8 m, BitVec.ofNat 8 r, BitVec.ofNat 8 k] ++ zeros 4
  (s.modRingCh b m r fun x => { x with post := (k + 1) % 64 }).modFifo b (toMover m) fun f =>
    f.write [(note, true)] (if x.bound then some x.ctx else none)

/-- The descriptor in DSC.w0 to DSC.w3. -/
def Core.dscBytes (c : Core) : List Byte := (List.range 4).flatMap fun j => leBytes 8 (c.reg (0x199 + j)).v.toNat

/-- Writes of SQ ports. -/
def sqWrite (id p : Nat) (v : Val) (s : State) (c : Core) : State × Core :=
  let n := v.v.toNat
  let b := coreBlk id
  if p = 0x182 then
    (s, c.later 0x180 2 (some (0x184, ⟨BitVec.ofNat 64 (leVal (s.blockBytes b c.ctxWord 8)), tgRaw⟩)) none)
  else if p = 0x183 then (s.blockPuts b c.ctxWord (leBytes 8 n), c)
  else if p = 0x188 then sqDecode id n s c
  else if p = 0x190 then (s.askFetch b n, c)
  else if p = 0x19D then (s.postDesc b c.dscMover c.dscRing c.dscBytes, c)
  else if p = 0x1B8 then (s.fire n true, c)
  else (s, c.setReg p v)

/-! ### GT units (Table 09.5) -/

/-- The FIFO that FH.sel selects; above 63 a free one (log 7). -/
def Core.fhSel (c : Core) (s : State) : Nat × State :=
  let n := (c.reg 0x1A0).v.toNat
  if n < 64 then (n, s) else let (w, s) := s.drawWord; (w.toNat % 64, s)

/-- Reads of GT ports. FH.stat clears nothing (10 R332). -/
def gtRead (id p : Nat) (s : State) (c : Core) : Except Nat (Val × State × Core) :=
  if p = 0x180 then .ok (⟨coreView id s c, 5⟩, s, c)
  else if p = 0x1A1 then
    let (f, s) := c.fhSel s
    .ok (⟨((s.block (coreBlk id)).fifo f).stat f, tgInt⟩, s, c)
  else if p = 0x1B0 then .ok (⟨BitVec.ofNat 64 s.time, tgTime⟩, s, c)
  else .ok (c.reg p, s, c)

/-- Traps of GT ports (Table 09.8). -/
def gtTrap (p : Nat) (v : Val) : Option Nat :=
  let n := v.v.toNat
  if p = 0x181 ∧ 63 < n then some uRange
  else if p = 0x190 ∧ 15 < n then some uRange
  else if (p = 0x182 ∨ p = 0x184 ∨ p = 0x191) ∧ 4095 < n then some uRange
  else none

/-- Writes of GT ports. -/
def gtWrite (id p : Nat) (v : Val) (s : State) (c : Core) : State × Core :=
  let n := v.v.toNat
  let b := coreBlk id
  let t := (c.reg 0x190).v.toNat
  let sub : ViewSub := { en := true, chan := n }
  let setTimer := fun (x : Timer) => s.modBlock b fun y => { y with timers := Table.set timerDef y.timers t x }
  if p = 0x182 then
    (s.modBlock b fun x => { x with viewSub := Table.set subDef x.viewSub (320 + (c.reg 0x181).v.toNat) sub }, c)
  else if p = 0x183 then
    (s.modBlock b fun x => { x with views := Table.set w64Def x.views 5 (Table.get w64Def x.views 5 &&& ~~~v.v) }, c)
  else if p = 0x184 then (s.fire n true, c)
  else if p = 0x192 then
    (setTimer { armed := true, chan := (c.reg 0x191).v.toNat, deadline := s.dueAt (decide (v.tag = tgTime)) n }, c)
  else if p = 0x193 then
    let x := Table.get timerDef (s.block b).timers t
    (setTimer { x with armed := false }, c)
  else if p = 0x1A2 then
    let (f, s) := c.fhSel s
    (s.modFifo b f Fifo.flush, c)
  else (s, c.setReg p v)

/-! ### Supervisor units (Table 09.6) -/

/-- Holder of a chip lock. -/
def State.lockHolder (s : State) (n : Nat) : Option Nat := Table.get noneDef s.locks n

/-- Reads of supervisor ports. -/
def supRead (id p : Nat) (s : State) (c : Core) : Except Nat (Val × State × Core) :=
  if p = 0x180 then
    let r := (s.ctl (coreCtl id)).claim s.time (coreTgt id)
    .ok (intVal r.1, s.modCtl (coreCtl id) fun k => (k.claim s.time (coreTgt id)).2, c)
  else if p = 0x18A then (match c.mbx with | [] => .error uEmpty | v :: rest => .ok (v, s, { c with mbx := rest }))
  else if p = 0x18B then .ok (intVal c.mbx.length, s, c)
  else if p = 0x1B0 then .ok (⟨BitVec.ofNat 64 s.time, tgTime⟩, s, c)
  else .ok (c.reg p, s, c)

/-- Traps of supervisor ports (Table 09.8). -/
def supTrap (id p : Nat) (v : Val) (s : State) : Option Nat :=
  let n := v.v.toNat
  if p = 0x188 ∧ 19 < n then some uRange
  else if (p = 0x190 ∨ p = 0x191) ∧ 63 < n then some uRange
  else if p = 0x191 ∧ s.lockHolder n ≠ some id then some uNotHeld
  else none

/-- A value is appended to a mailbox: the core's own, or another's. -/
def State.sendMail (s : State) (c : Core) (id dest : Nat) (v : Val) : State × Core :=
  if dest = id then (s, { c with mbx := c.mbx ++ [v] })
  else
    let d := s.core dest
    (s.setCore dest { d with mbx := d.mbx ++ [v] }, c)

/-- Writes of supervisor ports. -/
def supWrite (id p : Nat) (v : Val) (s : State) (c : Core) : State × Core :=
  let n := v.v.toNat
  if p = 0x181 then (s.doneWrite (coreCtl id) (coreTgt id) (bits n 0 16), c)
  else if p = 0x189 then s.sendMail c id (432 + (c.reg 0x188).v.toNat) v
  else if p = 0x190 then
    let took := (s.lockHolder n).isNone
    (if took then { s with locks := Table.set noneDef s.locks n (some id) } else s,
     c.later 0x190 2 (some (0x192, boolVal took)) none)
  else if p = 0x191 then ({ s with locks := Table.set noneDef s.locks n none }, c)
  else (s, c.setReg p v)

/-! ### Requests (Table 11.23, 11 R349) -/

/-- A FIFO of the block shows one of these conditions. -/
def Block.anyFifo (b : Block) (p : Fifo → Bool) : Bool := b.fifos.any fun x => p x.2

/-- The request presented to a core. -/
def coreRequest (id : Nat) (s : State) (_ : Core) : Option Nat :=
  if 432 ≤ id then (s.ctl (coreCtl id)).line (coreTgt id)
  else
    let b := s.block (coreBlk id)
    match coreKind id with
    | .sq => 
      let x := b.fifo toSeq
      if (x.words.take x.committed).any fun w => isFetchItem w.1 then some 6 else if x.committed = 0 then none else some 4
    | .gt => if b.anyFifo fun x => x.reset || x.overrun || x.underrun then some 8 else if b.anyFifo Fifo.wm then some 4 else none
    | _ => none

/-- What lies beyond core `id`. A double trap is reported after the word (`State.putCore`). -/
def coreBus (id : Nat) : Bus :=
  let k := coreKind id
  match k with
  | .sv => svBus (coreView id) (coreRefused id) (fun s => s)
  | _ =>
    { fetch := fun _ _ a => codeHas k a
      winTrap := fun _ _ => none
      memTrap := fun _ a n w _ _ => busTrap k a n w
      load := busLoad id
      store := busStore id
      read := match k with | .sq => sqRead id | .gt => gtRead id | _ => supRead id
      unitTrap := match k with | .sq => sqTrap id | .gt => fun p v _ _ => gtTrap p v | _ => fun p v s _ => supTrap id p v s
      write := match k with | .sq => sqWrite id | .gt => gtWrite id | _ => supWrite id
      request := coreRequest id
      view := coreView id
      accessErr := coreRefused id
      doubleTrap := fun s => s }

end Sys2Proof.Machine
end

