-- ==== Sys2Proof/Machine/Dap.lean ====
section
/-! DEFINITION. The debug access port (15 R436, 14 R405). -/

namespace Sys2Proof.Machine

/-- ACK codes (R436). -/
def dapOk : Nat := 1
def dapDenied : Nat := 2
def dapFault : Nat := 4

/-- SEC_STATE in the supervisor map. -/
def secStateAddr : Nat := 0x4800700010

/-- The frame is answered FAULT: bad parity, a reserved bit, or an address that is not 8-byte aligned (R436, Table 15.11). -/
def dapFaulty (f : DapFrame) : Bool := !f.parityGood || !f.reservedZero || decide (f.addr % 8 ≠ 0)

/-- What lies at an address of the supervisor map (Table 09.3). -/
inductive DapPlace where
  | regs | local_ | ram | nothing
deriving DecidableEq, Repr

/-- The place of an 8-byte access. -/
def dapPlace (a : Nat) : DapPlace :=
  if inRegs a then .regs else if a < unpopBase then .local_ else if supRam ≤ a ∧ a < supRam + 0x40000 then .ram else .nothing

/-- Table 14.6: level NONE reads SEC_STATE only, OBSERVE reads registers, FULL reads and writes. -/
def dapAllowed (level a : Nat) (write : Bool) : Bool :=
  decide (level = 2) || (!write && (decide (a = secStateAddr) || (decide (level = 1) && decide (dapPlace a = .regs))))

/-- Answer OK with a word. -/
def State.dapData (s : State) (v : Nat) : State := s.emit (.reply dapOk [v])

/-- The core whose data RAM a frame reaches: the map does not name it, a free value (log 7). -/
def State.dapCore (s : State) : Nat × State := let (v, s) := s.drawWord; (432 + v.toNat % 20, s)

/-- The answer to an address that the map does not list: nothing says it, a free value (log 7). -/
def State.dapNothing (s : State) (read : Bool) : State :=
  let (v, s) := s.drawWord
  let (x, s) := s.drawWord
  match v.toNat % 3 with
  | 0 => s.emit (.reply dapOk (if read then [x.toNat] else []))
  | 1 => s.emit (.reply dapDenied [])
  | _ => s.emit (.reply dapFault [])

/-- Read 8 bytes. A poisoned word has no good bytes: a free value. -/
def State.dapGet (s : State) (a : Nat) : State :=
  match dapPlace a with
  | .regs => let r := s.portGet a; r.2.dapData r.1
  | .local_ =>
    if (s.poisonIn a 8).isSome then let (v, s) := s.drawWord; s.dapData v.toNat
    else s.dapData (leVal (s.localRead a 8))
  | .ram =>
    let (id, s) := s.dapCore
    let c := s.core id
    if c.ramBad (a - supRam) 8 then let (v, s) := s.drawWord; s.dapData v.toNat
    else s.dapData (leVal (c.data.readN (a - supRam) 8))
  | .nothing => s.dapNothing true

/-- Write 8 bytes. -/
def State.dapPut (s : State) (a : Nat) (v : W64) : State :=
  match dapPlace a with
  | .regs => (s.regStore a 8 v.toNat).emit (.reply dapOk [])
  | .local_ => (s.localWrite a (leBytes 8 v.toNat)).emit (.reply dapOk [])
  | .ram =>
    let (id, s) := s.dapCore
    (s.setCore id ((s.core id).ramPut (a - supRam) (leBytes 8 v.toNat))).emit (.reply dapOk [])
  | .nothing => s.dapNothing false

/-- DAP_READ (R436, R405). -/
def execDapRead (f : DapFrame) (s : State) : Res :=
  whenB s s.mgUp "cold reset is in progress"
    (if dapFaulty f then s.emit (.reply dapFault [])
     else if !dapAllowed s.sec.debug f.addr false then s.emit (.reply dapDenied [])
     else s.dapGet f.addr)

/-- DAP_WRITE (R436, R405). -/
def execDapWrite (f : DapFrame) (s : State) : Res :=
  whenB s s.mgUp "cold reset is in progress"
    (if dapFaulty f then s.emit (.reply dapFault [])
     else if !dapAllowed s.sec.debug f.addr true then s.emit (.reply dapDenied [])
     else s.dapPut f.addr f.data)

/-- DAP_STATUS (R436): answered at every debug level; its ADDR is 0. -/
def execDapStatus (f : DapFrame) (s : State) : Res :=
  whenB s s.mgUp "cold reset is in progress"
    (if dapFaulty f || decide (f.addr ≠ 0) then s.emit (.reply dapFault []) else s.dapData s.secState.toNat)

end Sys2Proof.Machine
end

