-- ==== Sys2Proof/Machine/HostLink.lean ====
section
/-! DEFINITION. The control windows and the local memory window (06 R185 to R192), and the register writes that have no row of their
own (00 R10, 09 R290). -/

namespace Sys2Proof.Machine

/-! ### The control window (R185 to R190) -/

/-- An access error in the chip's capture for a register of function `n`: the originating unit is FN[n] (Table 11.12). -/
def State.fnRefuse (s : State) (n : Nat) : State := s.accessErrChip (512 + n)

/-- A queue or a status ring of the function exists (R187). -/
def Fn.hasRing (f : Fn) : Bool := f.queues.any (fun q => q.2.isSome) || f.rings.any fun r => r.2.isSome

/-- Result codes of CREATE (Table 06.16). -/
def aqCreated : Nat := 1
def aqExists : Nat := 2
def aqBadBase : Nat := 3
def aqBadConfig : Nat := 4
def aqNotEnabled : Nat := 5

/-- The result of a CREATE: the first that applies, of EXISTS, NOT-ENABLED, BAD-CONFIG, BAD-BASE (R188). -/
def Fn.createResult (f : Fn) : Nat :=
  let cfg := f.aqCfg.toNat
  let log := bits cfg 0 5
  if (f.queue 0).isSome then aqExists
  else if f.state ≠ 0 || f.stopped then aqNotEnabled
  else if (bit cfg 31 && decide (f.vecCount ≤ bits cfg 16 11)) || decide (bits cfg 6 5 < 10) || decide (24 < bits cfg 6 5) ||
      decide (log < 6) || decide (16 < log) then aqBadConfig
  else if bit cfg 5 && !f.holds f.aqBase.toNat (16 * 2 ^ log) then aqBadBase
  else aqCreated

/-- The admin queue that AQ_BASE and AQ_CFG describe (R188, R201). -/
def Fn.adminQueue (f : Fn) (now : Nat) : Queue :=
  let cfg := f.aqCfg.toNat
  { base := f.aqBase.toNat, logSize := bits cfg 0 5, loc := bit cfg 5, pollK := bits cfg 6 5,
    vec := if bit cfg 31 then some (bits cfg 16 11) else none, stage := .due now }

/-- CREATE of the admin queue (R188); a write to a RESETTING function is discarded (R186). -/
def State.aqCreate (s : State) (n : Nat) : State :=
  let f := s.fn n
  let r := f.createResult
  if f.state = 2 then s
  else if r = aqCreated then s.setFn n { f.setQueue 0 (some (f.adminQueue s.time)) with aqResult := r }
  else s.setFn n { f with aqResult := r }

/-- AQ_CREATE (R188): a write of AQ_CTRL. -/
def execAqCreate (fn : Nat) (v : W32) (s : State) : Res :=
  whenB s (s.up && s.fnExists fn) "the function does not exist" (if v.getLsbD 0 then s.aqCreate fn else s)

/-- The place of a ring position: its index, and the ring's size further on the other pass. -/
def ringPlace (size idx : Nat) (pass : Bool) : Nat := if pass then idx else size + idx

/-- Records from one ring position forward to another. -/
def ringAhead (size : Nat) (idx : Nat) (pass : Bool) (idx' : Nat) (pass' : Bool) : Nat :=
  (ringPlace size idx' pass' + 2 * size - ringPlace size idx pass) % (2 * size)

/-- A write of SR_HEAD returns records, or is refused (R189). -/
def State.headWrite (s : State) (n i v : Nat) : State :=
  match (s.fn n).ring i with
  | none => s
  | some r =>
    let size := 2 ^ r.logSize
    let idx := bits v 0 16
    let pass := bit v 16
    if idx < size && decide (ringAhead size r.head r.headPass idx pass ≤ ringAhead size r.head r.headPass r.tail r.tailPass) then
      (s.modFn n fun f => f.setRing i (some { r with head := idx, headPass := pass })).ringFreed n i {}
    else s.fnRefuse n

/-- SR_HEAD_WRITE (R189). -/
def execSrHeadWrite (fn n : Nat) (v : W32) (s : State) : Res :=
  whenB s (s.up && s.fnExists fn && decide (n < 16)) "the function or the register does not exist" (s.headWrite fn n v.toNat)

/-- Both copies of a value under a mask. -/
def merged (old v m : Nat) : Nat := (old &&& (2 ^ 64 - 1 - m)) ||| (v &&& m)

/-- The words of a vector's MSI-X table entry (PCIe layout). -/
def Vec.word1 (x : Vec) : Nat := x.data.toNat + b2n x.masked * 2 ^ 32

/-- A write to the 8-byte word at offset `q` of the control window, under a mask (R187 to R190). -/
def State.hostPut (s : State) (n q v m : Nat) : State :=
  let f := s.fn n
  let lo := m % 2 ^ 32
  if q = 0x18 then
    let x := merged (b2n f.errVecEn * 2 ^ 31 + f.errVec) v lo
    if lo = 0 then s else if f.vecCount ≤ bits x 0 11 then s.fnRefuse n else s.setFn n { f with errVecEn := bit x 31, errVec := bits x 0 11 }
  else if q = 0x20 then
    let x := merged (b2n f.pasidEn * 2 ^ 31 + f.pasid) v lo
    if lo = 0 then s else if f.hasRing then s.fnRefuse n else s.setFn n { f with pasidEn := bit x 31, pasid := bits x 0 20 }
  else if q = 0x30 ∧ n = 0 then
    let x := bits (merged (f.lmwBase * 2 ^ 30) v m) 30 8
    if x % 2 ^ f.lmwLog ≠ 0 ∨ 256 < x + 2 ^ f.lmwLog then s.fnRefuse n else s.setFn n { f with lmwBase := x }
  else if q = 0x40 then
    if (f.queue 0).isSome then s.fnRefuse n
    else s.setFn n { f with aqBase := BitVec.ofNat 64 (merged f.aqBase.toNat v m / 4096 * 4096) }
  else if q = 0x48 then
    let x := merged f.aqCfg.toNat v lo &&& 0x87FF07FF
    if lo = 0 then s
    else if (f.queue 0).isSome || decide (bits x 6 5 < 10) || decide (24 < bits x 6 5) || decide (bits x 0 5 < 6) || decide (16 < bits x 0 5) then
      s.fnRefuse n
    else s.setFn n { f with aqCfg := BitVec.ofNat 32 x }
  else if q = 0x50 then if hot v lo 0 then s.aqCreate n else s
  else if 0x100 ≤ q ∧ q < 0x200 ∧ q % 16 = 0 then if lo = 0 then s else s.headWrite n ((q - 0x100) / 16) (v % 2 ^ 32)
  else if 0x10000 ≤ q ∧ q < 0x18000 then
    let i := (q - 0x10000) / 16
    let x := f.vec i
    if f.vecCount ≤ i then s
    else if q % 16 = 0 then s.setFn n (f.setVec i { x with addr := BitVec.ofNat 64 (merged x.addr.toNat v m / 4 * 4) })
    else
      let w := merged x.word1 v m
      let s1 := s.setFn n (f.setVec i { x with data := BitVec.ofNat 32 w, masked := bit w 32 })
      if x.masked && !bit w 32 then s1.unmask n i else s1
  else if 0x20000 ≤ q ∧ q < 0x24000 then
    let i := (q - 0x20000) / 8
    let x := f.vec i
    let w := merged (x.thresh * 2 ^ 16 + x.holdoff) v m
    if f.vecCount ≤ i ∨ lo = 0 then s else s.setMod n i (bits w 0 16) (bits w 16 16)
  else s

/-- The ring positions of SR_HEAD and SR_TAIL; both read 0 for a ring that does not exist (Tables 06.17, 06.18). -/
def StatusRing.headWord (r : StatusRing) : Nat := b2n r.headPass * 2 ^ 16 + r.head
def StatusRing.tailWord (r : StatusRing) : Nat := r.lost * 2 ^ 24 + b2n r.tailPass * 2 ^ 16 + r.tail

/-- The Pending Bit Array of the vectors from `64 * i` on (R185). -/
def Fn.pbaWord (f : Fn) (i : Nat) : Nat := ((List.range 64).map fun k => b2n (f.vec (64 * i + k)).pba * 2 ^ k).foldl (· + ·) 0

/-- What the 8-byte word at offset `q` of a control window holds for a read (R185 to R191, Table 00.4): an address that no table maps
reads 0. -/
def State.windowWord (s : State) (n q : Nat) : Nat :=
  let f := s.fn n
  if q = 0x00 then b2n (decide (n = 0)) * 2 ^ 31 + (f.vecCount - 1) * 2 ^ 20 + n
  else if q = 0x08 then f.freezeCause * 2 ^ 8 + f.state
  else if q = 0x10 then f.freezeAt.toNat
  else if q = 0x18 then b2n f.errVecEn * 2 ^ 31 + f.errVec
  else if q = 0x20 then b2n f.pasidEn * 2 ^ 31 + f.pasid
  else if q = 0x28 then s.time
  else if q = 0x30 ∧ n = 0 then f.lmwBase * 2 ^ 30
  else if q = 0x38 ∧ n = 0 then f.lmwDenied
  else if q = 0x40 then f.aqBase.toNat
  else if q = 0x48 then f.aqCfg.toNat
  else if q = 0x58 then f.aqResult * 2 ^ 8 + b2n (f.queue 0).isSome
  else if 0x100 ≤ q ∧ q < 0x200 then
    match f.ring ((q - 0x100) / 16) with
    | none => 0
    | some r => if q % 16 = 0 then r.headWord else r.tailWord
  else if q = 0x1000 then (if n = 0 then s.chip.health.toNat else 0)
  else if 0x10000 ≤ q ∧ q < 0x18000 then
    let i := (q - 0x10000) / 16
    if f.vecCount ≤ i then 0 else if q % 16 = 0 then (f.vec i).addr.toNat else (f.vec i).word1
  else if 0x18000 ≤ q ∧ q < 0x18100 then f.pbaWord ((q - 0x18000) / 8)
  else if 0x20000 ≤ q ∧ q < 0x24000 then
    let i := (q - 0x20000) / 8
    let x := f.vec i
    if f.vecCount ≤ i then 0 else x.pending * 2 ^ 32 + x.thresh * 2 ^ 16 + x.holdoff
  else 0

/-- A host read in the control window (R9, R185, R186): the value, and the state after it. Only FN_INFO and FN_STATE read as they are
while the function is RESETTING; LMW_DENIED clears as it is read; a misaligned or odd-sized read returns 0 and is logged. -/
def State.hostLoad (s : State) (n off width : Nat) : W64 × State :=
  if (width = 4 ∨ width = 8) ∧ off % width = 0 then
    let q := off / 8 * 8
    if (s.fn n).state = 2 ∧ q ≠ 0 ∧ q ≠ 8 then (0, s)
    else
      let v := BitVec.ofNat 64 ((s.windowWord n q &&& laneMask q off width) / 2 ^ (8 * (off - q)))
      (v, if off = 0x38 ∧ n = 0 then s.modFn 0 fun f => { f with lmwDenied := 0 } else s)
  else (0, s.fnRefuse n)

/-- A host write in the control window (R186): naturally aligned, of 4 or 8 bytes. Any other access is discarded and logged. -/
def State.hostStore (s : State) (n off width v : Nat) : State :=
  if (width = 4 ∨ width = 8) ∧ off % width = 0 then
    let q := off / 8 * 8
    if (s.fn n).state = 2 then s else s.hostPut n q (v * 2 ^ (8 * (off - q)) % 2 ^ 64) (laneMask q off width)
  else s.fnRefuse n

/-- A memory request of the host to a BAR: in the device-fatal state it completes with Completer Abort and does nothing else (13 R379). -/
def State.barAccess (s : State) (c : Bool) (why : String) (s' : State) : Res :=
  if s.chip.fatal && !s.board.cold then .next (s.emit .completerAbort) else whenB s (s.up && c) why s'

/-- REGISTER_WRITE (R10, R186, R287): by the host in a function's control window, or by a supervisor core in a register space. -/
def execRegisterWrite (a : RegAccess) (s : State) : Res :=
  match a with
  | .host fn off width v =>
    s.barAccess (s.fnExists fn && decide (1 ≤ width) && decide (off + width ≤ 0x400000)) "no such window or offset"
      (s.hostStore fn off width v.toNat)
  | .supervisor addr width v =>
    whenB s (s.up && decide (1 ≤ width) && decide (width ≤ 8) && inRegs addr && inRegs (addr + width - 1)) "no register space lies there"
      (s.regStore addr width v.toNat)

/-- The register at an address is one that starts a core. -/
def isBoot : Reg → Bool
  | .cellBoot _ _ | .rsBoot _ _ | .csBoot _ => true
  | _ => false

/-- CELL_BOOT_GO (09 R290): a supervisor's write of GO to CELL_BOOT, RS_BOOT or CS_BOOT. -/
def execCellBootGo (a : RegAccess) (s : State) : Res :=
  match a with
  | .host _ _ _ _ => idleB s "only supervisor writes reach the boot registers"
  | .supervisor addr width v =>
    let q := addr / 8 * 8
    let boot := match s.regAt q with | some r => isBoot r | none => false
    let m := laneMask q addr width
    whenB s (s.up && decide (1 ≤ width) && decide (addr + width ≤ q + 8) && boot && hot (v.toNat * 2 ^ (8 * (addr - q))) m 63)
      "no GO of a boot register" (s.regStore addr width v.toNat)

/-! ### The local memory window (R192) -/

/-- The window reaches a byte that it denies: outside the tenant area, or in the extent of a locked TDI (Table 06.21). -/
def State.lmwDenies (s : State) (a : Nat) : Bool :=
  decide (tenantSize ≤ a) ||
  s.fns.any fun p => decide (p.1 ≠ 0) && s.fnExists p.1 && p.2.tdiHeld && decide (p.2.extBase ≤ a) && decide (a < p.2.extBase + p.2.extLen)

/-- Bytes as the window reads them: denied bytes are 0. -/
def State.lmwBytes (s : State) (a n : Nat) : List Byte :=
  (List.range n).map fun i => if s.lmwDenies (a + i) then 0 else s.localByte (a + i)

/-- A byte that is not denied lies in a poisoned word. -/
def State.lmwPoison (s : State) (a n : Nat) : Bool :=
  (List.range n).any fun i => !s.lmwDenies (a + i) && (s.poisonIn (a + i) 1).isSome

/-- Some byte of the access is denied: the access counts once in LMW_DENIED. -/
def State.lmwCount (s : State) (a n : Nat) : State :=
  if (List.range n).any fun i => s.lmwDenies (a + i) then s.modFn 0 fun f => { f with lmwDenied := satInc f.lmwDenied 0xFFFFFFFF } else s

/-- The stretches of an access that are not denied: start and bytes. -/
def State.lmwRuns (s : State) : Nat → List Byte → Option (Nat × List Byte) → List (Nat × List Byte)
  | _, [], none => []
  | _, [], some r => [r]
  | a, b :: bs, cur =>
    if s.lmwDenies a then
      match cur with
      | none => s.lmwRuns (a + 1) bs none
      | some r => r :: s.lmwRuns (a + 1) bs none
    else match cur with
      | none => s.lmwRuns (a + 1) bs (some (a, [b]))
      | some (x, l) => s.lmwRuns (a + 1) bs (some (x, l ++ [b]))

/-- Store through the window: denied bytes are discarded. -/
def State.lmwStore (s : State) (a : Nat) (bs : List Byte) : State :=
  (s.lmwRuns a bs none).foldl (fun t r => t.localWrite r.1 r.2) s

/-- Bytes that an access concerns. -/
def lmwSize : LmwOp → Nat
  | .read n => n
  | .write bs => bs.length
  | .fetchAdd k _ | .swap k _ | .cas k _ _ => k

/-- The AtomicOp sizes: 4 and 8 bytes, and 16 for CAS (Table 06.1); naturally aligned. -/
def lmwOk (a : Nat) : LmwOp → Bool
  | .fetchAdd k _ | .swap k _ => (decide (k = 4) || decide (k = 8)) && decide (a % k = 0)
  | .cas k _ _ => (decide (k = 4) || decide (k = 8) || decide (k = 16)) && decide (a % k = 0)
  | .read n => decide (n ≠ 0)
  | .write bs => !bs.isEmpty

/-- What an AtomicOp stores, by the old value; none stores nothing. -/
def lmwNext (old : Nat) : LmwOp → Option Nat
  | .fetchAdd k v => some ((old + v) % 2 ^ (8 * k))
  | .swap k v => some (v % 2 ^ (8 * k))
  | .cas k cmp new => if old = cmp % 2 ^ (8 * k) then some (new % 2 ^ (8 * k)) else none
  | _ => none

/-- LMW_ACCESS (R192): an AtomicOp on poisoned data returns it and stores nothing. -/
def execLmwAccess (off : Nat) (op : LmwOp) (s : State) : Res :=
  let f := s.fn 0
  let a := f.lmwBase * 0x40000000 + off
  let n := lmwSize op
  let bs := s.lmwBytes a n
  let bad := s.lmwPoison a n
  let s1 := s.lmwCount a n
  s.barAccess (lmwOk off op && decide (off + n ≤ 2 ^ f.lmwLog * 0x40000000)) "the window has no such access"
    (match op with
     | .read _ => s1.emit (.lmw bs bad)
     | .write w => s1.lmwStore a w
     | op =>
       let s2 := s1.emit (.lmw bs bad)
       if bad then s2 else match lmwNext (leVal bs) op with
         | some v => s2.lmwStore a (leBytes n v)
         | none => s2)

/-- LMW_DENIED_READ (R187): a host read of the register, which clears the count (R186). -/
def execLmwDeniedRead (s : State) : Res :=
  let r := s.hostLoad 0 0x38 4
  s.barAccess true "the part is down" (r.2.emit (.value r.1))

/-! ### Configuration space (00 R2, R179, R181, R183) -/

/-- What configuration space reports of a function: the fields whose values the spec gives. -/
structure PciConfig where
  vendorId : Nat
  deviceId : Nat
  classCode : Nat
  revisionId : Nat
  interruptPin : Nat
  msixTableSize : Nat           -- the vector count minus 1 (R183)
  maxPayload : Nat              -- largest Max Payload Size, bytes
  maxRead : Nat                 -- largest Max Read Request Size, bytes
  tagBits : Nat
  atsQueueDepth : Nat
  atsUnit : Nat                 -- Smallest Translation Unit, bytes
  pasidBits : Nat
  timeoutRanges : Nat           -- Completion Timeout Ranges Supported: A, B, C and D
  timeoutDefault : Nat          -- what Completion Timeout Value 0 selects, ns
  noSoftReset : Bool
  pmeFromD3hot : Bool
  pmeFromD3cold : Bool
  pageRequests : Bool           -- the Page Request Interface
  msiAndIntx : Bool
  timeoutDisable : Bool         -- Completion Timeout Disable
  aspmL0s : Bool
  totalVfs : Nat
  firstVfOffset : Nat
  vfStride : Nat
  bar0 : Nat                    -- size of BAR index 0, bytes
  bar2 : Nat                    -- size of BAR index 2, bytes; 0 where it is not implemented
deriving DecidableEq, Repr

/-- The values of Table 06.1 for function `n`. -/
def State.pciConfig (s : State) (n : Nat) : PciConfig :=
  let pf := decide (n = 0)
  { vendorId := Sys2Proof.Machine.vendorId, deviceId := Sys2Proof.Machine.deviceId n, classCode := 0x120000, revisionId := 0x10,
    interruptPin := 0, msixTableSize := (s.fn n).vecCount - 1, maxPayload := 512, maxRead := 4096, tagBits := 14,
    atsQueueDepth := 32, atsUnit := 4096, pasidBits := 20, timeoutRanges := 15, timeoutDefault := 40000000, noSoftReset := true,
    pmeFromD3hot := true, pmeFromD3cold := false, pageRequests := false, msiAndIntx := false, timeoutDisable := false,
    aspmL0s := false, totalVfs := if pf then 255 else 0, firstVfOffset := if pf then 1 else 0, vfStride := if pf then 1 else 0,
    bar0 := 0x400000, bar2 := if pf then 2 ^ 30 * 2 ^ (s.fn 0).lmwLog else 0 }

/-- BAR_RESIZE (R187, Table 06.1): 1 GiB to 256 GiB; LMW_BASE becomes 0. -/
def execBarResize (logGiB : Nat) (s : State) : Res :=
  s.config (decide (logGiB ≤ 8)) "no such size"
    (s.modFn 0 fun f => { f with lmwLog := logGiB, lmwBase := 0 })

end Sys2Proof.Machine
end

