-- ==== Sys2Proof/Machine/Migration.lean ====
section
/-! DEFINITION. Migration, load balance and the substitution of a reserve block (05 R165 to R178, 13 R386, R387). -/

namespace Sys2Proof.Machine

/-! ### Migration points (R172) -/

/-- A command boundary at which nothing of the context is outstanding, or a program that is held (R63, R172). -/
def Ctx.boundaryPoint (c : Ctx) : Bool :=
  c.dirty.isEmpty && (c.atBoundary || decide (c.r.state = stHeld) || (decide (c.phase = .paused) && decide (c.r.state ≠ stPending)))

/-- A point inside a data command, chain or group: the command being executed has delivered nothing beyond it. ATOMIC is never
interrupted (R172). -/
def Ctx.innerPoint (c : Ctx) : Bool :=
  c.dirty.isEmpty &&
  (((decide (c.phase = .exec) || decide (c.phase = .desc)) && c.cmd.isData && decide (c.cmd.opn ≠ 0x14)) ||
   ((decide (c.phase = .ready) || decide (c.phase = .fetch) || decide (c.phase = .lodging)) && (c.chain || c.join || decide (c.rest ≠ .none))))

/-- Units of the command that have not been delivered (02 R65 step 6, Table 05.6 step 6). -/
def Ctx.remains (c : Ctx) : CtxRec :=
  if decide (c.phase = .exec) && c.cmd.isData then { c.r with residual := BitVec.ofNat 32 (c.cmd.cnt - c.xfer.off) } else c.r

/-- An interrupted chain whose partial unit began in an earlier member: the members that hold it are fetched again, then the one that was
interrupted (R170, R173 step 9). -/
def Ctx.unpart (c : Ctx) : Ctx :=
  let x := c.xfer
  if c.chain && !x.part.isEmpty && decide (c.cmd.opn ≠ 4) && !c.cmd.consumer && (decide (c.phase = .exec) || decide (c.phase = .ready) ||
      decide (c.phase = .fetch) || decide (c.phase = .lodging)) then
    let ms := if c.phase = .exec then x.members.take (x.members.length - 1) else x.members
    { c with
      phase := .ready, rest := .reread, noHold := true, again := true, pc := (c.memberAt x.partMember).addr
      xfer := { x with part := [], rr := x.partMember, members := ms } }
  else c

/-- Steps 2 to 7 of Table 05.6: the program stands still, its record is in the store, the bib is one higher, and HOME names the
new placement. Requests that were abandoned carry the old bib (R162). -/
def Ctx.leave (c : Ctx) (region slot : Nat) (subst : Bool) : Ctx :=
  let r := { c.remains with bib := c.r.bib + 1, region := BitVec.ofNat 3 region, slot := BitVec.ofNat 3 slot }
  let late := if c.asks then addLate c.r.bib c.late else c.late
  let c := c.unpart
  { c with
    r := r, late := late
    phase := .migrating, was := c.phase, lodged := false, hbmCopy := none, readAhead := [], fails := [], migrateTo := none
    moved := c.moved || subst }

/-- The migration is one that Scepica has chosen, or that a retirement or a substitution asks for (R166, R172, R177, R178). -/
def State.migrationDue (s : State) (n region slot : Nat) (why : MigrateWhy) : Bool :=
  let c := s.ctx n
  let home := (c.r.region.toNat, c.r.slot.toNat)
  match why with
  | .balance => decide (c.migrateTo = some (region, slot)) && decide (home ≠ (region, slot)) && (s.blockOf home.1 home.2).isSome
  | .retirement => decide (c.migrateTo = some (region, slot)) &&
      (decide (home = (region, slot)) || (s.blockOf home.1 home.2).isNone)
  | .substitution =>
    decide (home = (region, slot)) && !c.moved &&
    match (s.region region).subst with | some (t, _, _) => decide (t = slot) | none => false

/-- The point is an interrupting one that the reason allows: a retired cell, or a substitution that has lasted 1 ms (R172). -/
def State.mayInterrupt (s : State) (region : Nat) (why : MigrateWhy) : Bool :=
  match why with
  | .balance => false
  | .retirement => true
  | .substitution => (s.region region).substLate

/-- Step 4 of Table 05.6 with the read-back of step 5: at an interrupting point in FOLD the bucket buffers are flushed. A flush that
fails leaves them as they were: the chain's bucket state goes along (log 25). -/
def State.migrateFold (s : State) (n : Nat) : State :=
  let c := s.ctx n
  if (c.chain || c.xfer.begun) && decide (c.cmd.opn = 0xE) then
    match s.foldFlush n with
    | (none, t) => t.modCtx n fun x => { x with dirty := [] }
    | (some _, _) => s
  else s.modCtx n fun x => { x with dirty := [] }

/-- MIGRATION_POINT (Table 05.6 steps 2 to 7). It waits while a request that is outstanding carries the next bib (R162). -/
def execMigrationPoint (ctx : Nat) (region slot : Nat) (why : MigrateWhy) (s : State) : Res :=
  let c := s.ctx ctx
  let p := if c.boundaryPoint then s else s.migrateUnits ctx
  let f := (p.migrateFold ctx).evict ctx
  let ws := { f with waitOrder := f.waitOrder.filter fun p => decide (p.2 ≠ ctx) }
  whenB s (s.up && c.hasProgram && decide (c.phase ≠ .migrating) && decide (region < 8) && decide (slot < 8) &&
      s.migrationDue ctx region slot why && !c.late.contains (c.r.bib + 1) && (c.boundaryPoint || (s.mayInterrupt region why && c.innerPoint)))
    "the context is not at a migration point"
    (ws.modCtx ctx fun c => c.leave region slot (decide (why = .substitution)))

/-! ### Arrival (Table 05.6 steps 8 and 9) -/

/-- A WAIT goes on waiting at the new placement, or ends when its flag has been set meanwhile (03 R114). -/
def State.waitAgain (s : State) (n : Nat) (w : Wr) : State :=
  let c := s.ctx n
  let s := s.modCtx n fun c => { c with phase := .waiting }
  match c.wait.bind Waiting.chan with
  | none => s
  | some ch =>
    let x := c.wait.getD { chan := none, clear := false, began := 0, deadline := none }
    if (s.ech ch).flag then
      (if x.clear then s.modEch ch fun e => { e with flag := false } else s).wakeWait n w
    else
      let age := fun b => (s.time + timeMod - b) % timeMod
      let first := fun p : Nat × Nat =>
        let b := ((s.ctx p.2).wait.map Waiting.began).getD 0
        decide (age x.began < age b) || (decide (b = x.began) && decide (p.2 < n))
      { s with waitOrder := (s.waitOrder.filter first) ++ (ch, n) :: s.waitOrder.filter fun p => !first p }

/-- A context that waited for ring space goes on when the ring has a free record meanwhile (02 R53). -/
def State.ringAgain (s : State) (n : Nat) (w : Wr) : State :=
  let c := s.ctx n
  let s := s.modCtx n fun c => { c with phase := .ringWait }
  let ring := if c.goal = .post then s.postRing n else s.boundRing n
  match ring with
  | none => s
  | some i => if (s.fn c.r.ownerFn.toNat).ringFree i then s.ringFreed c.r.ownerFn.toNat i w else s

/-- An interrupted command is lodged at the new placement and starts again at the migration point. -/
def State.lodgeAgain (s : State) (n b : Nat) (p : Phase) : State :=
  let (slot, s) := (s.makeRoom b).pickLodge n
  s.modCtx n fun c => { c with phase := p, lodged := true, hbmCopy := some c.r, lodgeSlot := slot }

/-- What the context does at the new placement. -/
def State.settle (s : State) (n : Nat) (w : Wr) : State :=
  let c := s.ctx n
  match c.was with
  | .exec | .desc => s.lodgeAgain n ((s.homeBlock n).getD 0) c.was
  | .ready | .fetch | .lodging => s.modCtx n fun c => { c with phase := .ready }
  | .waiting => s.waitAgain n w
  | .ringWait => s.ringAgain n w
  | p => s.modCtx n fun c => { c with phase := p }

/-- An interrupted command needs a turn of the new block. -/
def Ctx.needsTurn (c : Ctx) : Bool := decide (c.was = .exec) || decide (c.was = .desc)

/-- The migration interrupted a command, a chain or a group (R172). -/
def Ctx.interrupted (c : Ctx) : Bool :=
  c.needsTurn || ((decide (c.was = .ready) || decide (c.was = .fetch) || decide (c.was = .lodging)) &&
    (c.chain || c.join || decide (c.rest ≠ .none)))

/-- The context stands at step 9, a command boundary (R176). -/
def Ctx.standing (c : Ctx) : Ctx :=
  { c with phase := if c.needsTurn ∨ c.was = .ready ∨ c.was = .fetch ∨ c.was = .lodging then .ready else c.was
           was := .none, step9 := c.interrupted }

/-- MIGRATION_ARRIVAL (R173, R176): a freeze that began meanwhile, and a HALT that waits, act here. A HALT with SUSPEND suspends an
interrupted command at its own boundary. -/
def execMigrationArrival (ctx : Nat) (w : Wr) (s : State) : Res :=
  let c := s.ctx ctx
  let open_ := match s.homeBlock ctx with | none => false | some b => !c.needsTurn || s.turnOpen b
  whenB s (s.up && decide (c.phase = .migrating) && open_) "the context does not migrate, or no block is open to it"
    (if c.frozenFn then
       (s.modCtx ctx fun c => { c.standing with frozenFn := false }).freezeCtx c.r.ownerFn.toNat ctx w
     else if c.interrupted && decide (c.halt = .stop) then (s.modCtx ctx Ctx.standing).haltHere ctx w
     else (s.settle ctx w).modCtx ctx fun x => { x with was := .none, step9 := c.interrupted })

/-! ### Load balance (R177) -/

/-- Ready contexts of a block. -/
def State.readyAt (s : State) (b : Nat) : Nat := countP (fun n => (s.ctx n).isReady) (s.ctxsAt b)

/-- The filled slots of a region with their ready counts. -/
def State.loads (s : State) (r : Nat) : List (Nat × Nat) :=
  (List.range 8).filterMap fun t => (s.blockOf r t).map fun b => (t, s.readyAt b)

/-- The slot with the fewest ready contexts. -/
def leastLoaded : List (Nat × Nat) → Option Nat
  | [] => none
  | x :: l => some (l.foldl (fun m y => if y.2 < m.2 then y else m) x).1

/-- Move up to `k` of the listed contexts to a slot: which of them Scepica moves is a free value (log 7). -/
def State.moveSome (r dest_ : Nat) : Nat → List Nat → State → State
  | 0, _, s => s
  | _, [], s => s
  | k + 1, n :: ns, s =>
    let (v, s) := s.drawWord
    if !v.getLsbD 0 then State.moveSome r dest_ (k + 1) ns s
    else if (s.ctx n).hasProgram then State.moveSome r dest_ k ns (s.modCtx n fun c => { c with migrateTo := some (r, dest_) })
    else State.moveSome r dest_ k ns ((s.evict n).modCtx n fun c => { c with r := { c.r with slot := BitVec.ofNat 3 dest_ } })

/-- A context that load balance may move: unpinned, with a program or IDLE (R177). -/
def Ctx.movable (c : Ctx) : Bool :=
  !c.r.pinned && decide (c.phase ≠ .migrating) && decide (c.migrateTo = none) && (c.hasProgram || decide (c.r.state = stIdle))

/-- LOAD_BALANCE_SAMPLE (R177): every 1 ms. -/
def execLoadBalanceSample (region t : Nat) (s : State) : Res :=
  let x := s.region region
  let loads := s.loads region
  let total := (loads.map Prod.snd).foldl (· + ·) 0
  let past := loads.filter fun p => decide (2 * total < p.2 * loads.length)
  let s1 := (s.at_ t).setRegion region { x with sampled := t }
  let balance := fun (s : State) (p : Nat × Nat) => match s.blockOf region p.1, leastLoaded loads with
    | some b, some dest_ => State.moveSome region dest_ 256 ((s.ctxsAt b).filter fun n => (s.ctx n).movable) s
    | _, _ => s
  whenB s (s.up && decide (region < 8) && s.notBefore t && reached t (x.sampled + 1000000)) "no sample is due"
    (past.foldl balance s1)

/-! ### Substitution (R178, 13 R387) -/

/-- SUBSTITUTION_TIMEOUT (R172): 1 ms has passed; contexts without a boundary may be interrupted from now on. -/
def execSubstitutionTimeout (region t : Nat) (s : State) : Res :=
  let x := s.region region
  match x.subst with
  | none => idleB s "no substitution runs in the region"
  | some (_, _, start) =>
    whenB s (s.up && !x.substLate && s.notBefore t && reached t (start + 1000000)) "1 ms has not passed"
      ((s.at_ t).setRegion region { x with substLate := true })

/-- Every context with a program has left the replaced block (R178). -/
def State.substEmpty (s : State) (region slot : Nat) : Bool :=
  s.ctxs.all fun p : Nat × Ctx =>
    !(decide (p.2.r.region.toNat = region) && decide (p.2.r.slot.toNat = slot) && p.2.hasProgram) || p.2.moved

/-- A block is powered down: its cores and timers stop, and what it held is gone but for its retirement and its captures (01 R17). -/
def State.powerDown (s : State) (k : Nat) : State :=
  let b := s.block k
  { s.setBlock k { retired := b.retired, blockRetired := b.blockRetired, caps := b.caps, sramErrors := b.sramErrors } with
    cores := s.cores.filter fun p => !(decide (p.1 < 432) && decide (p.1 / 6 = k)) }

/-- SUBSTITUTION_END (R178, 13 R387): the reserve fills the slot and the replaced block is powered down; a block of the region that was
retired meanwhile leaves its slot empty. -/
def execSubstitutionEnd (region : Nat) (s : State) : Res :=
  let x := s.region region
  match x.subst with
  | none => idleB s "no substitution runs in the region"
  | some (slot, old, _) =>
    let out := fun (c : Ctx) =>
      if c.r.region.toNat = region ∧ c.r.slot.toNat = slot then 
        (if c.moved then { c with moved := false } else { c with lodged := false, hbmCopy := none }) else c
    let s1 := s.setRegion region { x with slots := x.slots.set slot x.reserve, reserve := 15, subst := none, substLate := false }
    let s2 := (({ s1 with ctxs := s1.ctxs.mapV out }).powerDown (9 * region + old)).cic (64 * region + 12)
    let gone := (List.range 9).filter fun b => (s2.block (9 * region + b)).blockRetired
    whenB s (s.up && s.substEmpty region slot) "a context with a program is still on the replaced block"
      (((gone.foldl (fun s b => s.replaceBlock (9 * region + b)) s2).keepMap).publishHealth {})

end Sys2Proof.Machine
end

