-- ==== Sys2Proof/Machine/YqRows.lean ====
section
/-! DEFINITION. The rows of the Yaquelux cores: the words they issue, results, interrupts, sleep, and the record loop of the sieve
cells (chapters 08 and 09). -/

namespace Sys2Proof.Machine

/-! ### A word of a core -/

/-- The cell of a core works: its block runs, and the cell is not retired, powered and clocked (01 R17, 13 R386, 14 R410, R412). -/
def State.cellRuns (s : State) (id : Nat) : Bool :=
  let b := s.block (coreBlk id)
  decide (432 ≤ id) ||
  (s.blockOn (coreBlk id) && !b.retired.getLsbD (coreCell id) && !s.islandGated (coreBlk id) (coreCell id) &&
   (decide (coreKind id = .gt) || decide (s.power.state = 0)))

/-- The core has been started, and nothing has stopped it. -/
def State.coreOn (s : State) (id : Nat) : Bool :=
  let c := s.core id
  s.up && decide (id < 452) && s.cellRuns id && c.started && !c.stopped && !c.halted

/-- The core issues words. -/
def State.coreRuns (s : State) (id : Nat) : Bool := s.coreOn id && !(s.core id).asleep

/-- The fetch is what code memory holds: the image's words in image code, else what earlier fetches showed (log 20). -/
def State.fetchFits (s : State) (id : Nat) (i : IWord) : Bool :=
  let c := s.core id
  let ws := fetchWords i
  !i.fetched ||
  (if c.inImage (coreKind id) then
     match c.imageIn c.slot with
     | none => true
     | some img => decide (ws = fetchWords (fetchImage img c.slot c.pc))
   else (List.range ws.length).all fun j => c.agrees (c.pc.toNat + j) (ws.getD j 0))

/-- The core after a word takes its place in the state; a double trap that stopped it is reported (R275). -/
def State.putCore (s : State) (id : Nat) (before after : Core) : State :=
  let s := s.setCore id after
  if after.stopped && !before.stopped then s.coreDoubleTrap id else s

/-- The word runs: under the record loop in image code (09 R292), else as 08 R248 gives. -/
def State.runWord (s : State) (id : Nat) (i : IWord) : State :=
  let c := s.core id
  let r := if c.inImage (coreKind id) then c.svWord (coreBus id) i s else c.run (coreBus id) (coreKind id) i s
  r.1.putCore id c r.2

/-- A mailbox holds more than its 16 entries (Table 09.6), or a control FIFO to a mover more than its capacity: the sender would have
stalled (10 R329). -/
def State.mailFull (s : State) : Bool :=
  ((List.range 20).any fun j => decide (16 < (s.core (432 + j)).mbx.length)) ||
  s.blocks.any fun b => (List.range 8).any fun m => decide (fifoCap (toMover m) < (b.2.fifo (toMover m)).level)

/-- The row of a word that holds a certain move. -/
def State.wordRow (s : State) (id : Nat) (i : IWord) (holds : Bool) : Res :=
  whenB s (s.coreRuns id && !(s.core id).mustTake (coreBus id) s && holds && s.fetchFits id i && !(s.runWord id i).mailFull)
    "the core does not issue such a word, or it stalls" (s.runWord id i)

/-- The word holds a read of port `p` in a slot whose guard is not NV. -/
def readsPort (w : W64) (p : Nat) : Bool :=
  (!(yslots w).1.imm && decide ((yslots w).1.src = p) && decide ((yslots w).1.guard ≠ 15)) ||
  (!(yslots w).2.imm && decide ((yslots w).2.src = p) && decide ((yslots w).2.guard ≠ 15))

/-- The word triggers operation `op` of an ALU. -/
def writesAlu (w : W64) (op : Nat) : Bool := (List.range 4).any fun n => writesPort w (0x100 + 0x20 * n + op)

/-- The row of a word with a move to port `p` of a kind. -/
def State.kindRow (s : State) (id : Nat) (i : IWord) (k : CoreKind) (p : Nat) : Res :=
  s.wordRow id i (decide (coreKind id = k) && writesPort i.word p)

/-- Destination ports that have a row of their own. -/
def rowPorts : CoreKind → List Nat
  | .sq => [0x182, 0x183, 0x188, 0x190, 0x19D, 0x1B8]
  | .gt => [0x182, 0x183, 0x184, 0x192, 0x193, 0x1A2]
  | .sup => [0x181, 0x189, 0x190, 0x191]
  | .sv => [0x180, 0x195, 0x1A4, 0x1A5, 0x1B1, 0x1B2, 0x1C0, 0x1C1, 0x1C2, 0x1C3, 0x1C5, 0x1D0, 0x1D1, 0x1E0, 0x1E3, 0x1E4, 0x1E6]
def ownRow (k : CoreKind) (p : Nat) : Bool :=
  [0x001, 0x002, 0x003, 0x004, 0x008, 0x009, 0x010, 0x018, 0x020, 0x022, 0x063, 0x064, 0x071, 0x078, 0x080, 0x086, 0x09C,
   0x09D].contains p || isAluTrig p || (rowPorts k).contains p

/-- The slot moves to a port without a row of its own, or never moves. -/
def plainSlot (k : CoreKind) (y : YSlot) : Bool := decide (y.guard = 15) || !ownRow k y.dst

/-! ### Common ports (Table 08.5) -/

/-- A word that writes PC.t_jump (R263). -/
def execPcJump (core : Nat) (i : IWord) (s : State) : Res := s.wordRow core i (writesPort i.word 0x001)

/-- A word that writes PC.t_call (R263). -/
def execPcCall (core : Nat) (i : IWord) (s : State) : Res := s.wordRow core i (writesPort i.word 0x002)

/-- A word that writes PC.t_ret (R263). -/
def execPcRet (core : Nat) (i : IWord) (s : State) : Res := s.wordRow core i (writesPort i.word 0x003)

/-- A word that writes PC.t_rti (R273, R279). -/
def execPcRti (core : Nat) (i : IWord) (s : State) : Res := s.wordRow core i (writesPort i.word 0x004)

/-- A word that writes FLG.nzcv (R244). -/
def execFlgNzcv (core : Nat) (i : IWord) (s : State) : Res := s.wordRow core i (writesPort i.word 0x008)

/-- A word that writes FLG.t_test (R246). -/
def execFlgTest (core : Nat) (i : IWord) (s : State) : Res := s.wordRow core i (writesPort i.word 0x009)

/-- A word that writes TRAP.t_soft (R246). -/
def execTrapSoft (core : Nat) (i : IWord) (s : State) : Res := s.wordRow core i (writesPort i.word 0x010)

/-- A word that writes CTL.t_wait (R280, R281). -/
def execCtlWait (core : Nat) (i : IWord) (s : State) : Res := s.wordRow core i (writesPort i.word 0x018)

/-- A word that writes TAG.t_get (R246). -/
def execTagGet (core : Nat) (i : IWord) (s : State) : Res := s.wordRow core i (writesPort i.word 0x020)

/-- A word that writes TAG.t_set (R251). -/
def execTagSet (core : Nat) (i : IWord) (s : State) : Res := s.wordRow core i (writesPort i.word 0x022)

/-- A word that writes LSU.t_ld (R261). -/
def execLsuLoad (core : Nat) (i : IWord) (s : State) : Res := s.wordRow core i (writesPort i.word 0x063)

/-- A word that writes LSU.t_st (R261). -/
def execLsuStore (core : Nat) (i : IWord) (s : State) : Res := s.wordRow core i (writesPort i.word 0x064)

/-- A word that writes BND.t_check (R264). -/
def execBndCheck (core : Nat) (i : IWord) (s : State) : Res := s.wordRow core i (writesPort i.word 0x071)

/-- A word that writes DS.push (R265). -/
def execDsPush (core : Nat) (i : IWord) (s : State) : Res := s.wordRow core i (writesPort i.word 0x078)

/-- A word that writes RET.push (R266). -/
def execRetPush (core : Nat) (i : IWord) (s : State) : Res := s.wordRow core i (writesPort i.word 0x080)

/-- A word that writes RET.t_fill (R266). -/
def execRetTFill (core : Nat) (i : IWord) (s : State) : Res := s.wordRow core i (writesPort i.word 0x086)

/-- A word that writes WIN.t_open (R259). -/
def execWinOpen (core : Nat) (i : IWord) (s : State) : Res := s.wordRow core i (writesPort i.word 0x09C)

/-- A word that writes WIN.t_close (R259). -/
def execWinClose (core : Nat) (i : IWord) (s : State) : Res := s.wordRow core i (writesPort i.word 0x09D)

/-- A word that reads DS.pop (R265). -/
def execDsPop (core : Nat) (i : IWord) (s : State) : Res := s.wordRow core i (readsPort i.word 0x079)

/-- A word that reads RET.pop (R266). -/
def execRetPop (core : Nat) (i : IWord) (s : State) : Res := s.wordRow core i (readsPort i.word 0x081)

/-- A word that reads RET.bottom (R266). -/
def execRetBottom (core : Nat) (i : IWord) (s : State) : Res := s.wordRow core i (readsPort i.word 0x085)

/-! ### ALU triggers (Table 08.8) -/

/-- t_add (R254). -/
def execAluAdd (core : Nat) (i : IWord) (s : State) : Res := s.wordRow core i (writesAlu i.word opAdd)

/-- t_sub (R254). -/
def execAluSub (core : Nat) (i : IWord) (s : State) : Res := s.wordRow core i (writesAlu i.word opSub)

/-- t_cmp (R254). -/
def execAluCmp (core : Nat) (i : IWord) (s : State) : Res := s.wordRow core i (writesAlu i.word opCmp)

/-- t_neg (R254). -/
def execAluNeg (core : Nat) (i : IWord) (s : State) : Res := s.wordRow core i (writesAlu i.word opNeg)

/-- t_and (R254). -/
def execAluAnd (core : Nat) (i : IWord) (s : State) : Res := s.wordRow core i (writesAlu i.word opAnd)

/-- t_or (R254). -/
def execAluOr (core : Nat) (i : IWord) (s : State) : Res := s.wordRow core i (writesAlu i.word opOr)

/-- t_xor (R254). -/
def execAluXor (core : Nat) (i : IWord) (s : State) : Res := s.wordRow core i (writesAlu i.word opXor)

/-- t_not (R254). -/
def execAluNot (core : Nat) (i : IWord) (s : State) : Res := s.wordRow core i (writesAlu i.word opNot)

/-- t_shl (R256). -/
def execAluShl (core : Nat) (i : IWord) (s : State) : Res := s.wordRow core i (writesAlu i.word opShl)

/-- t_shr (R256). -/
def execAluShr (core : Nat) (i : IWord) (s : State) : Res := s.wordRow core i (writesAlu i.word opShr)

/-- t_sar (R256). -/
def execAluSar (core : Nat) (i : IWord) (s : State) : Res := s.wordRow core i (writesAlu i.word opSar)

/-- t_rol (R256). -/
def execAluRol (core : Nat) (i : IWord) (s : State) : Res := s.wordRow core i (writesAlu i.word opRol)

/-- t_ror (R256). -/
def execAluRor (core : Nat) (i : IWord) (s : State) : Res := s.wordRow core i (writesAlu i.word opRor)

/-- t_mulu (R254). -/
def execAluMulu (core : Nat) (i : IWord) (s : State) : Res := s.wordRow core i (writesAlu i.word opMulu)

/-- t_muls (R254). -/
def execAluMuls (core : Nat) (i : IWord) (s : State) : Res := s.wordRow core i (writesAlu i.word opMuls)

/-- t_divu (R257). -/
def execAluDivu (core : Nat) (i : IWord) (s : State) : Res := s.wordRow core i (writesAlu i.word opDivu)

/-- t_divs (R257). -/
def execAluDivs (core : Nat) (i : IWord) (s : State) : Res := s.wordRow core i (writesAlu i.word opDivs)

/-- t_seq (R254). -/
def execAluSeq (core : Nat) (i : IWord) (s : State) : Res := s.wordRow core i (writesAlu i.word opSeq)

/-- t_sltu (R254). -/
def execAluSltu (core : Nat) (i : IWord) (s : State) : Res := s.wordRow core i (writesAlu i.word opSltu)

/-- t_slts (R254). -/
def execAluSlts (core : Nat) (i : IWord) (s : State) : Res := s.wordRow core i (writesAlu i.word opSlts)

/-- YQ_PORT_WRITE (R248): a word with a move that no other row names. -/
def execYqPortWrite (core : Nat) (i : IWord) (s : State) : Res :=
  s.wordRow core i (plainSlot (coreKind core) (yslots i.word).1 || plainSlot (coreKind core) (yslots i.word).2)

/-! ### Results, interrupts and sleep -/

/-- RESULT_LAND (R249, R250): the results that are due land at the start of the next word. -/
def execResultLand (core : Nat) (s : State) : Res :=
  let c := s.core core
  whenB s (s.coreRuns core && !c.mustTake (coreBus core) s && !c.landed && c.pending.any fun p => decide (p.left ≤ 1)) "no result is due" (s.setCore core c.landed!)

/-- INTERRUPT_ENTRY (R276 to R278): `late` is the level of a request that arrived in cycles 1 to 3 and replaced a lower one; at
cycle 4 it is the request presented. -/
def execInterruptEntry (core : Nat) (late : Option Nat) (s : State) : Res :=
  let c := s.core core
  match (coreBus core).request s c with
  | none => idleB s "no request is presented"
  | some l =>
    whenB s (s.coreRuns core && !c.landed && c.takes l && (match late with | none => true | some k => decide (k = l)))
      "the request is not taken"
      (let r := c.interrupt (coreKind core) s l
       r.1.setCore core r.2)

/-- SLEEP_DEADLINE (R280, R281). -/
def execSleepDeadline (core t : Nat) (s : State) : Res :=
  let c := s.core core
  let s1 := s.at_ t
  whenB s (s.coreOn core && c.asleep && s.notBefore t && (match c.deadline with | none => false | some d => decide (d ≤ s1.uptime)))
    "the core does not sleep, or its deadline has not passed"
    (s1.setCore core (c.wakeWith (c.wakeBits (coreBus core) s1 ||| 4)))

/-- CORE_WAKE (R281): a request, or a view bit that CTL.wmask selects. -/
def execCoreWake (core : Nat) (s : State) : Res :=
  let c := s.core core
  let w := c.wakeBits (coreBus core) s
  whenB s (s.coreOn core && c.asleep && decide (w % 4 ≠ 0)) "nothing wakes the core" (s.setCore core (c.wakeWith w))

/-! ### SQ units (Table 09.4) -/

/-- A word that writes CTX.t_rd (R288). -/
def execCtxRead (core : Nat) (i : IWord) (s : State) : Res := s.kindRow core i .sq 0x182

/-- A word that writes CTX.t_wr (R288). -/
def execCtxWrite (core : Nat) (i : IWord) (s : State) : Res := s.kindRow core i .sq 0x183

/-- A word that writes CMD.t_dec (R288). -/
def execCmdDecode (core : Nat) (i : IWord) (s : State) : Res := s.kindRow core i .sq 0x188

/-- A word that writes FCH.t_fetch (R288). -/
def execFchFetch (core : Nat) (i : IWord) (s : State) : Res := s.kindRow core i .sq 0x190

/-- A word that writes DSC.t_post (10 R305). -/
def execDscPost (core : Nat) (i : IWord) (s : State) : Res := s.kindRow core i .sq 0x19D

/-- A word that reads EVQ.pop (R288). -/
def execEvqPop (core : Nat) (i : IWord) (s : State) : Res :=
  s.wordRow core i (decide (coreKind core = .sq) && readsPort i.word 0x1A0)

/-- A word that writes BEV.t_fire (11 R335). -/
def execBevFire (core : Nat) (i : IWord) (s : State) : Res := s.kindRow core i .sq 0x1B8

/-! ### GT units (Table 09.5) -/

/-- A word that writes EVR.t_sub (11 R343). -/
def execEvrSubscribe (core : Nat) (i : IWord) (s : State) : Res := s.kindRow core i .gt 0x182

/-- A word that writes EVR.t_clr (11 R342). -/
def execEvrClear (core : Nat) (i : IWord) (s : State) : Res := s.kindRow core i .gt 0x183

/-- A word that writes EVR.t_fire (11 R335). -/
def execEvrFire (core : Nat) (i : IWord) (s : State) : Res := s.kindRow core i .gt 0x184

/-- A word that writes TMR.t_arm (R288). -/
def execTmrArm (core : Nat) (i : IWord) (s : State) : Res := s.kindRow core i .gt 0x192

/-- A word that writes TMR.t_cancel (R288). -/
def execTmrCancel (core : Nat) (i : IWord) (s : State) : Res := s.kindRow core i .gt 0x193

/-- A word that writes FH.t_flush (10 R330). -/
def execFhFlush (core : Nat) (i : IWord) (s : State) : Res := s.kindRow core i .gt 0x1A2

/-! ### Supervisor units (Table 09.6) -/

/-- A word that reads IRQ.claim (11 R350). -/
def execIrqClaimPort (core : Nat) (i : IWord) (s : State) : Res :=
  s.wordRow core i (decide (coreKind core = .sup) && readsPort i.word 0x180)

/-- A word that writes IRQ.t_done (11 R351). -/
def execIrqDonePort (core : Nat) (i : IWord) (s : State) : Res := s.kindRow core i .sup 0x181

/-- A word that writes MBX.t_send (R288). -/
def execMbxSend (core : Nat) (i : IWord) (s : State) : Res := s.kindRow core i .sup 0x189

/-- A word that reads MBX.pop (R288). -/
def execMbxPop (core : Nat) (i : IWord) (s : State) : Res :=
  s.wordRow core i (decide (coreKind core = .sup) && readsPort i.word 0x18A)

/-- A word that writes LOCK.t_acq (R288). -/
def execLockAcquire (core : Nat) (i : IWord) (s : State) : Res := s.kindRow core i .sup 0x190

/-- A word that writes LOCK.t_rel (R288). -/
def execLockRelease (core : Nat) (i : IWord) (s : State) : Res := s.kindRow core i .sup 0x191

/-! ### SV units (Tables 09.7, 09.13) -/

/-- A word that writes REC.t_word (R288). -/
def execRecWord (core : Nat) (i : IWord) (s : State) : Res := s.kindRow core i .sv 0x180

/-- A word that writes WCMP.t_eq (R288). -/
def execWcmpEq (core : Nat) (i : IWord) (s : State) : Res := s.kindRow core i .sv 0x195

/-- A word that writes RNG.t_u (R288). -/
def execRngU (core : Nat) (i : IWord) (s : State) : Res := s.kindRow core i .sv 0x1A4

/-- A word that writes RNG.t_s (R288). -/
def execRngS (core : Nat) (i : IWord) (s : State) : Res := s.kindRow core i .sv 0x1A5

/-- A word that writes HSH.t_mix (R288). -/
def execHshMix (core : Nat) (i : IWord) (s : State) : Res := s.kindRow core i .sv 0x1B1

/-- A word that writes HSH.t_fin (R288). -/
def execHshFin (core : Nat) (i : IWord) (s : State) : Res := s.kindRow core i .sv 0x1B2

/-- A word that writes EMT.t_put1, t_put2, t_put4 or t_put8 (R288). -/
def execEmtPut (core : Nat) (i : IWord) (s : State) : Res :=
  s.wordRow core i (decide (coreKind core = .sv) && [0x1C0, 0x1C1, 0x1C2, 0x1C3].any (writesPort i.word))

/-- A word that writes EMT.t_copy (R288). -/
def execEmtCopy (core : Nat) (i : IWord) (s : State) : Res := s.kindRow core i .sv 0x1C5

/-- A word that writes VRD.t_v (R292). -/
def execVrdVerdict (core : Nat) (i : IWord) (s : State) : Res := s.kindRow core i .sv 0x1D0

/-- A word that writes VRD.t_ready (R292). -/
def execVrdReady (core : Nat) (i : IWord) (s : State) : Res := s.kindRow core i .sv 0x1D1

/-- A word that writes A7.t_fetch (R298). -/
def execA7Fetch (core : Nat) (i : IWord) (s : State) : Res := s.kindRow core i .sv 0x1E0

/-- A word that writes A7.t_keep (R298). -/
def execA7Keep (core : Nat) (i : IWord) (s : State) : Res := s.kindRow core i .sv 0x1E3

/-- A word that writes A7.t_drop (R298). -/
def execA7Drop (core : Nat) (i : IWord) (s : State) : Res := s.kindRow core i .sv 0x1E4

/-- A word that writes A7.t_crc (R298). -/
def execA7Crc (core : Nat) (i : IWord) (s : State) : Res := s.kindRow core i .sv 0x1E6

/-! ### The record loop (R127, R292, R299) -/

/-- The sieve cell waits for its arbiter: its firmware runs with THREAD_PRIV 0 and sleeps (R290), and no program runs. -/
def State.svIdle (s : State) (id : Nat) : Bool :=
  let c := s.core id
  decide (coreKind id = .sv) && s.coreOn id && c.asleep && !c.threadPriv && decide (c.phase = 0)

/-- The slot that holds the image of a handle, with the handle's SERIAL (R299). -/
def State.slotWith (s : State) (c : Core) (handle : Nat) : Option Nat :=
  match s.sieve handle with
  | none => none
  | some x => (c.images.find? fun p => decide (p.handle = handle) && decide (p.serial = x.serial)).map SvImage.slot

/-- The slot becomes the one used last. -/
def Core.useSlot (c : Core) (slot : Nat) : Core :=
  match c.images.find? fun p => decide (p.slot = slot) with
  | none => c
  | some x => { c with images := x :: c.images.filter fun p => decide (p.slot ≠ slot) }

/-- The slot that a load takes: an empty one, or the least recently used (R299). Which empty one is a free value (log 7). -/
def State.loadSlot (s : State) (c : Core) : Nat × State :=
  let empty := (List.range 8).filter fun k => !(c.images.map SvImage.slot).contains k
  match empty with
  | [] => ((c.images.getLast?.map SvImage.slot).getD 0, s)
  | _ =>
    let (v, s) := s.drawWord
    (empty.getD (v.toNat % empty.length) 0, s)

/-- IMAGE_LOAD_COMPLETE (R299): the image takes a slot, and the record start state of that slot is gone. -/
def execImageLoadComplete (core handle : Nat) (s : State) : Res :=
  let c := s.core core
  match s.sieve handle with
  | none => idleB s "the handle is free"
  | some x =>
    whenB s (s.svIdle core && (s.slotWith c handle).isNone) "the cell does not wait for the image"
      (let (slot, s) := s.loadSlot c
       s.setCore core { c with
         images := ⟨slot, handle, x.serial, x.words⟩ :: c.images.filter fun p => decide (p.slot ≠ slot)
         starts := Table.set noneDef c.starts slot none
         code := c.code.filter fun p : Nat × Option W64 => decide (p.1 / 2048 ≠ slot) })

/-- SIEVE_INIT (R292): the arbiter resets the core, opens the windows and issues INIT. -/
def execSieveInit (core handle : Nat) (param : BitVec 16) (s : State) : Res :=
  let c := s.core core
  match s.sieve handle, s.slotWith c handle with
  | some x, some slot =>
    whenB s (s.svIdle core) "the cell does not wait for its arbiter" (s.setCore core ((c.useSlot slot).beginInit x.words slot param))
  | _, _ => idleB s "the cell does not hold the image"

/-- RECORD_PRESENT (R292): the arbiter restores the record start state of the program that INIT ran last and issues RECORD. -/
def execRecordPresent (core : Nat) (ordinal : Nat) (budget : Nat) (data : List Byte) (s : State) : Res :=
  let c := s.core core
  match c.imageIn c.slot, Table.get noneDef c.starts c.slot with
  | some ws, some st =>
    let r : Rec := { data := data, ordinal := ordinal, param := c.record.param, budget := budget }
    whenB s (s.svIdle core && decide (1 ≤ budget) && decide (data.length ≤ 16777216)) "the cell does not wait for a record"
      (s.setCore core (c.beginRecord ws c.slot st r))
  | _, _ => idleB s "the cell has no record start state"

/-- SV_BUDGET_TRAP (R127, R296): the cycles of the budget are spent without a verdict. -/
def execSvBudgetTrap (core : Nat) (s : State) : Res :=
  let c := s.core core
  whenB s (decide (coreKind core = .sv) && s.coreRuns core && decide (1 ≤ c.phase) && c.spent) "the budget is not spent"
    (let r := c.lost (coreBus core) s { cause := cBudget }
     r.1.putCore core c r.2)

end Sys2Proof.Machine
end

