-- ==== Sys2Proof/Machine/Dispatch.lean ====
section
/-! DEFINITION. The dispatch: one arm for each command, each a call of its meaning. -/

namespace Sys2Proof.Machine

def exec (i : Instr) (s : State) : Host.Outcome State Fault Refusal :=
  match i with
  | .start fn q slot w => Sys2Proof.Machine.execStart fn q slot w s
  | .resume fn q slot w => Sys2Proof.Machine.execResume fn q slot w s
  | .halt fn q slot w => Sys2Proof.Machine.execHalt fn q slot w s
  | .haltSuspend fn q slot w => Sys2Proof.Machine.execHaltSuspend fn q slot w s
  | .clear fn q slot w => Sys2Proof.Machine.execClear fn q slot w s
  | .sense fn q slot w => Sys2Proof.Machine.execSense fn q slot w s
  | .wrap fn q slot w => Sys2Proof.Machine.execWrap fn q slot w s
  | .entryNop fn q slot w => Sys2Proof.Machine.execEntryNop fn q slot w s
  | .queuePoll fn q t => Sys2Proof.Machine.execQueuePoll fn q t s
  | .pollReadComplete fn q r => Sys2Proof.Machine.execPollReadComplete fn q r s
  | .entryReadComplete fn q r w => Sys2Proof.Machine.execEntryReadComplete fn q r w s
  | .freezeFinish fn w => Sys2Proof.Machine.execFreezeFinish fn w s
  | .dispatchTurn blk => Sys2Proof.Machine.execDispatchTurn blk s
  | .lodgeFillComplete ctx r w => Sys2Proof.Machine.execLodgeFillComplete ctx r w s
  | .demandFetchComplete ctx w => Sys2Proof.Machine.execDemandFetchComplete ctx w s
  | .readAheadComplete ctx n => Sys2Proof.Machine.execReadAheadComplete ctx n s
  | .descriptorReadComplete ctx w => Sys2Proof.Machine.execDescriptorReadComplete ctx w s
  | .move ctx w => Sys2Proof.Machine.execMove ctx w s
  | .fill ctx w => Sys2Proof.Machine.execFill ctx w s
  | .compare ctx w => Sys2Proof.Machine.execCompare ctx w s
  | .digest ctx w => Sys2Proof.Machine.execDigest ctx w s
  | .sieve ctx w => Sys2Proof.Machine.execSieve ctx w s
  | .sieveMap ctx w => Sys2Proof.Machine.execSieveMap ctx w s
  | .shred ctx w => Sys2Proof.Machine.execShred ctx w s
  | .weave ctx w => Sys2Proof.Machine.execWeave ctx w s
  | .slice ctx w => Sys2Proof.Machine.execSlice ctx w s
  | .unslice ctx w => Sys2Proof.Machine.execUnslice ctx w s
  | .fold ctx w => Sys2Proof.Machine.execFold ctx w s
  | .atomicCas ctx w => Sys2Proof.Machine.execAtomicCas ctx w s
  | .atomicFetchAdd ctx w => Sys2Proof.Machine.execAtomicFetchAdd ctx w s
  | .atomicSwap ctx w => Sys2Proof.Machine.execAtomicSwap ctx w s
  | .nvmRead ctx w => Sys2Proof.Machine.execNvmRead ctx w s
  | .nvmWrite ctx w => Sys2Proof.Machine.execNvmWrite ctx w s
  | .nvmWriteFua ctx w => Sys2Proof.Machine.execNvmWriteFua ctx w s
  | .nvmFlush ctx w => Sys2Proof.Machine.execNvmFlush ctx w s
  | .nvmDeallocate ctx w => Sys2Proof.Machine.execNvmDeallocate ctx w s
  | .nvmPass ctx w => Sys2Proof.Machine.execNvmPass ctx w s
  | .jump ctx w => Sys2Proof.Machine.execJump ctx w s
  | .call ctx w => Sys2Proof.Machine.execCall ctx w s
  | .ret ctx w => Sys2Proof.Machine.execRet ctx w s
  | .wait ctx w => Sys2Proof.Machine.execWait ctx w s
  | .waitTimeout ctx t w => Sys2Proof.Machine.execWaitTimeout ctx t w s
  | .signal ctx w => Sys2Proof.Machine.execSignal ctx w s
  | .post ctx w => Sys2Proof.Machine.execPost ctx w s
  | .fence ctx w => Sys2Proof.Machine.execFence ctx w s
  | .finish ctx w => Sys2Proof.Machine.execFinish ctx w s
  | .finishComplete ctx w => Sys2Proof.Machine.execFinishComplete ctx w s
  | .epoch ctx w => Sys2Proof.Machine.execEpoch ctx w s
  | .nop ctx w => Sys2Proof.Machine.execNop ctx w s
  | .createQueue fn slot w => Sys2Proof.Machine.execCreateQueue fn slot w s
  | .setQueueInterval fn slot w => Sys2Proof.Machine.execSetQueueInterval fn slot w s
  | .destroyQueue fn slot w => Sys2Proof.Machine.execDestroyQueue fn slot w s
  | .createStatusRing fn slot w => Sys2Proof.Machine.execCreateStatusRing fn slot w s
  | .destroyStatusRing fn slot w => Sys2Proof.Machine.execDestroyStatusRing fn slot w s
  | .allotContexts fn slot w => Sys2Proof.Machine.execAllotContexts fn slot w s
  | .releaseContexts fn slot w => Sys2Proof.Machine.execReleaseContexts fn slot w s
  | .pinContext fn slot w => Sys2Proof.Machine.execPinContext fn slot w s
  | .unpinContext fn slot w => Sys2Proof.Machine.execUnpinContext fn slot w s
  | .setBudget fn slot w => Sys2Proof.Machine.execSetBudget fn slot w s
  | .setKeys fn slot w => Sys2Proof.Machine.execSetKeys fn slot w s
  | .queryContext fn slot w => Sys2Proof.Machine.execQueryContext fn slot w s
  | .loadSieve fn slot r w => Sys2Proof.Machine.execLoadSieve fn slot r w s
  | .unloadSieve fn slot w => Sys2Proof.Machine.execUnloadSieve fn slot w s
  | .unloadSieveComplete fn slot w => Sys2Proof.Machine.execUnloadSieveComplete fn slot w s
  | .setExtent fn slot w => Sys2Proof.Machine.execSetExtent fn slot w s
  | .writeFtt fn slot r w => Sys2Proof.Machine.execWriteFtt fn slot r w s
  | .setInterleave fn slot w => Sys2Proof.Machine.execSetInterleave fn slot w s
  | .setFarTimeout fn slot w => Sys2Proof.Machine.execSetFarTimeout fn slot w s
  | .grantEvents fn slot w => Sys2Proof.Machine.execGrantEvents fn slot w s
  | .revokeEvents fn slot w => Sys2Proof.Machine.execRevokeEvents fn slot w s
  | .bindEvent fn slot w => Sys2Proof.Machine.execBindEvent fn slot w s
  | .unbindEvent fn slot w => Sys2Proof.Machine.execUnbindEvent fn slot w s
  | .setModeration fn slot w => Sys2Proof.Machine.execSetModeration fn slot w s
  | .setVfVectors fn slot w => Sys2Proof.Machine.execSetVfVectors fn slot w s
  | .resetVf fn slot w => Sys2Proof.Machine.execResetVf fn slot w s
  | .attachNamespace fn slot r w => Sys2Proof.Machine.execAttachNamespace fn slot r w s
  | .detachNamespace fn slot w => Sys2Proof.Machine.execDetachNamespace fn slot w s
  | .detachNamespaceComplete fn slot w => Sys2Proof.Machine.execDetachNamespaceComplete fn slot w s
  | .setNvmPolicy fn slot w => Sys2Proof.Machine.execSetNvmPolicy fn slot w s
  | .setDomain fn slot w => Sys2Proof.Machine.execSetDomain fn slot w s
  | .identify fn slot r w => Sys2Proof.Machine.execIdentify fn slot r w s
  | .getHealth fn slot w => Sys2Proof.Machine.execGetHealth fn slot w s
  | .fwStage fn slot r w => Sys2Proof.Machine.execFwStage fn slot r w s
  | .fwCommit fn slot authentic version w => Sys2Proof.Machine.execFwCommit fn slot authentic version w s
  | .aqCreate fn v => Sys2Proof.Machine.execAqCreate fn v s
  | .srHeadWrite fn n v => Sys2Proof.Machine.execSrHeadWrite fn n v s
  | .registerWrite a => Sys2Proof.Machine.execRegisterWrite a s
  | .lmwAccess off op => Sys2Proof.Machine.execLmwAccess off op s
  | .lmwDeniedRead => Sys2Proof.Machine.execLmwDeniedRead s
  | .barResize logGiB => Sys2Proof.Machine.execBarResize logGiB s
  | .flr fn => Sys2Proof.Machine.execFlr fn s
  | .vfEnableClear => Sys2Proof.Machine.execVfEnableClear s
  | .vfEnableSet numVfs => Sys2Proof.Machine.execVfEnableSet numVfs s
  | .dStateChange fn pm w => Sys2Proof.Machine.execDStateChange fn pm w s
  | .busMasterEnableChange fn on w => Sys2Proof.Machine.execBusMasterEnableChange fn on w s
  | .msixMaskClear fn which => Sys2Proof.Machine.execMsixMaskClear fn which s
  | .pmeStatusClear fn => Sys2Proof.Machine.execPmeStatusClear fn s
  | .pmeTimeout fn => Sys2Proof.Machine.execPmeTimeout fn s
  | .moderationHoldoffExpiry fn v t => Sys2Proof.Machine.execModerationHoldoffExpiry fn v t s
  | .hostCompletionTimeout tag addr len => Sys2Proof.Machine.execHostCompletionTimeout tag addr len s
  | .hostCompletion tag addr r => Sys2Proof.Machine.execHostCompletion tag addr r s
  | .atsInvalidate fn => Sys2Proof.Machine.execAtsInvalidate fn s
  | .tdispLockInterface fn => Sys2Proof.Machine.execTdispLockInterface fn s
  | .tdispStopInterface fn => Sys2Proof.Machine.execTdispStopInterface fn s
  | .tdiError fn => Sys2Proof.Machine.execTdiError fn s
  | .getMeasurements session signed => Sys2Proof.Machine.execGetMeasurements session signed s
  | .getCertificate session slot => Sys2Proof.Machine.execGetCertificate session slot s
  | .challenge session slot => Sys2Proof.Machine.execChallenge session slot s
  | .keyExchange session mgmt => Sys2Proof.Machine.execKeyExchange session mgmt s
  | .descriptorNotice blk m c slot => Sys2Proof.Machine.execDescriptorNotice blk m c slot s
  | .moverUnitStart blk m => Sys2Proof.Machine.execMoverUnitStart blk m s
  | .copy blk m c => Sys2Proof.Machine.execCopy blk m c s
  | .deal blk m c => Sys2Proof.Machine.execDeal blk m c s
  | .merge blk m c => Sys2Proof.Machine.execMerge blk m c s
  | .planes blk m c => Sys2Proof.Machine.execPlanes blk m c s
  | .unplanes blk m c => Sys2Proof.Machine.execUnplanes blk m c s
  | .descFill blk m c => Sys2Proof.Machine.execDescFill blk m c s
  | .descRead blk m c => Sys2Proof.Machine.execDescRead blk m c s
  | .bindChan blk m c => Sys2Proof.Machine.execBindChan blk m c s
  | .stopChan blk m c slot => Sys2Proof.Machine.execStopChan blk m c slot s
  | .cutChan blk m c slot => Sys2Proof.Machine.execCutChan blk m c slot s
  | .abortChan blk m c slot => Sys2Proof.Machine.execAbortChan blk m c slot s
  | .moverReadResponse who bib addr r => Sys2Proof.Machine.execMoverReadResponse who bib addr r s
  | .readBackComplete who fail w => Sys2Proof.Machine.execReadBackComplete who fail w s
  | .rcStart blk m j v => Sys2Proof.Machine.execRcStart blk m j v s
  | .rcStop blk m j => Sys2Proof.Machine.execRcStop blk m j s
  | .rcTransferEnd blk m j fail => Sys2Proof.Machine.execRcTransferEnd blk m j fail s
  | .rchStatRead blk m c => Sys2Proof.Machine.execRchStatRead blk m c s
  | .fifoItemWrite blk f data last => Sys2Proof.Machine.execFifoItemWrite blk f data last s
  | .fifoItemRead blk f n => Sys2Proof.Machine.execFifoItemRead blk f n s
  | .fifoPointerMismatch blk f w => Sys2Proof.Machine.execFifoPointerMismatch blk f w s
  | .fhStatRead blk f => Sys2Proof.Machine.execFhStatRead blk f s
  | .sieveInit core handle param => Sys2Proof.Machine.execSieveInit core handle param s
  | .recordPresent core ordinal budget data => Sys2Proof.Machine.execRecordPresent core ordinal budget data s
  | .svBudgetTrap core => Sys2Proof.Machine.execSvBudgetTrap core s
  | .imageLoadComplete core handle => Sys2Proof.Machine.execImageLoadComplete core handle s
  | .mapEntryReadComplete ctx => Sys2Proof.Machine.execMapEntryReadComplete ctx s
  | .fttWalkComplete region fn page1g page r => Sys2Proof.Machine.execFttWalkComplete region fn page1g page r s
  | .loadBalanceSample region t => Sys2Proof.Machine.execLoadBalanceSample region t s
  | .migrationPoint ctx region slot why => Sys2Proof.Machine.execMigrationPoint ctx region slot why s
  | .migrationArrival ctx w => Sys2Proof.Machine.execMigrationArrival ctx w s
  | .substitutionTimeout region t => Sys2Proof.Machine.execSubstitutionTimeout region t s
  | .substitutionEnd region => Sys2Proof.Machine.execSubstitutionEnd region s
  | .pcJump core idx => Sys2Proof.Machine.execPcJump core idx s
  | .pcCall core idx => Sys2Proof.Machine.execPcCall core idx s
  | .pcRet core idx => Sys2Proof.Machine.execPcRet core idx s
  | .pcRti core idx => Sys2Proof.Machine.execPcRti core idx s
  | .flgNzcv core idx => Sys2Proof.Machine.execFlgNzcv core idx s
  | .flgTest core idx => Sys2Proof.Machine.execFlgTest core idx s
  | .trapSoft core idx => Sys2Proof.Machine.execTrapSoft core idx s
  | .ctlWait core idx => Sys2Proof.Machine.execCtlWait core idx s
  | .tagGet core idx => Sys2Proof.Machine.execTagGet core idx s
  | .tagSet core idx => Sys2Proof.Machine.execTagSet core idx s
  | .lsuLoad core idx => Sys2Proof.Machine.execLsuLoad core idx s
  | .lsuStore core idx => Sys2Proof.Machine.execLsuStore core idx s
  | .bndCheck core idx => Sys2Proof.Machine.execBndCheck core idx s
  | .dsPush core idx => Sys2Proof.Machine.execDsPush core idx s
  | .dsPop core idx => Sys2Proof.Machine.execDsPop core idx s
  | .retPush core idx => Sys2Proof.Machine.execRetPush core idx s
  | .retPop core idx => Sys2Proof.Machine.execRetPop core idx s
  | .retBottom core idx => Sys2Proof.Machine.execRetBottom core idx s
  | .retTFill core idx => Sys2Proof.Machine.execRetTFill core idx s
  | .winOpen core idx => Sys2Proof.Machine.execWinOpen core idx s
  | .winClose core idx => Sys2Proof.Machine.execWinClose core idx s
  | .aluAdd core idx => Sys2Proof.Machine.execAluAdd core idx s
  | .aluSub core idx => Sys2Proof.Machine.execAluSub core idx s
  | .aluCmp core idx => Sys2Proof.Machine.execAluCmp core idx s
  | .aluNeg core idx => Sys2Proof.Machine.execAluNeg core idx s
  | .aluAnd core idx => Sys2Proof.Machine.execAluAnd core idx s
  | .aluOr core idx => Sys2Proof.Machine.execAluOr core idx s
  | .aluXor core idx => Sys2Proof.Machine.execAluXor core idx s
  | .aluNot core idx => Sys2Proof.Machine.execAluNot core idx s
  | .aluShl core idx => Sys2Proof.Machine.execAluShl core idx s
  | .aluShr core idx => Sys2Proof.Machine.execAluShr core idx s
  | .aluSar core idx => Sys2Proof.Machine.execAluSar core idx s
  | .aluRol core idx => Sys2Proof.Machine.execAluRol core idx s
  | .aluRor core idx => Sys2Proof.Machine.execAluRor core idx s
  | .aluMulu core idx => Sys2Proof.Machine.execAluMulu core idx s
  | .aluMuls core idx => Sys2Proof.Machine.execAluMuls core idx s
  | .aluDivu core idx => Sys2Proof.Machine.execAluDivu core idx s
  | .aluDivs core idx => Sys2Proof.Machine.execAluDivs core idx s
  | .aluSeq core idx => Sys2Proof.Machine.execAluSeq core idx s
  | .aluSltu core idx => Sys2Proof.Machine.execAluSltu core idx s
  | .aluSlts core idx => Sys2Proof.Machine.execAluSlts core idx s
  | .yqPortWrite core idx => Sys2Proof.Machine.execYqPortWrite core idx s
  | .resultLand core => Sys2Proof.Machine.execResultLand core s
  | .interruptEntry core late => Sys2Proof.Machine.execInterruptEntry core late s
  | .sleepDeadline core t => Sys2Proof.Machine.execSleepDeadline core t s
  | .coreWake core => Sys2Proof.Machine.execCoreWake core s
  | .cellBootGo a => Sys2Proof.Machine.execCellBootGo a s
  | .ctxRead core idx => Sys2Proof.Machine.execCtxRead core idx s
  | .ctxWrite core idx => Sys2Proof.Machine.execCtxWrite core idx s
  | .cmdDecode core idx => Sys2Proof.Machine.execCmdDecode core idx s
  | .fchFetch core idx => Sys2Proof.Machine.execFchFetch core idx s
  | .dscPost core idx => Sys2Proof.Machine.execDscPost core idx s
  | .evqPop core idx => Sys2Proof.Machine.execEvqPop core idx s
  | .bevFire core idx => Sys2Proof.Machine.execBevFire core idx s
  | .evrSubscribe core idx => Sys2Proof.Machine.execEvrSubscribe core idx s
  | .evrClear core idx => Sys2Proof.Machine.execEvrClear core idx s
  | .evrFire core idx => Sys2Proof.Machine.execEvrFire core idx s
  | .tmrArm core idx => Sys2Proof.Machine.execTmrArm core idx s
  | .tmrCancel core idx => Sys2Proof.Machine.execTmrCancel core idx s
  | .fhFlush core idx => Sys2Proof.Machine.execFhFlush core idx s
  | .irqClaimPort core idx => Sys2Proof.Machine.execIrqClaimPort core idx s
  | .irqDonePort core idx => Sys2Proof.Machine.execIrqDonePort core idx s
  | .mbxSend core idx => Sys2Proof.Machine.execMbxSend core idx s
  | .mbxPop core idx => Sys2Proof.Machine.execMbxPop core idx s
  | .lockAcquire core idx => Sys2Proof.Machine.execLockAcquire core idx s
  | .lockRelease core idx => Sys2Proof.Machine.execLockRelease core idx s
  | .recWord core idx => Sys2Proof.Machine.execRecWord core idx s
  | .wcmpEq core idx => Sys2Proof.Machine.execWcmpEq core idx s
  | .rngU core idx => Sys2Proof.Machine.execRngU core idx s
  | .rngS core idx => Sys2Proof.Machine.execRngS core idx s
  | .hshMix core idx => Sys2Proof.Machine.execHshMix core idx s
  | .hshFin core idx => Sys2Proof.Machine.execHshFin core idx s
  | .emtPut core idx => Sys2Proof.Machine.execEmtPut core idx s
  | .emtCopy core idx => Sys2Proof.Machine.execEmtCopy core idx s
  | .vrdVerdict core idx => Sys2Proof.Machine.execVrdVerdict core idx s
  | .vrdReady core idx => Sys2Proof.Machine.execVrdReady core idx s
  | .a7Fetch core idx => Sys2Proof.Machine.execA7Fetch core idx s
  | .a7Keep core idx => Sys2Proof.Machine.execA7Keep core idx s
  | .a7Drop core idx => Sys2Proof.Machine.execA7Drop core idx s
  | .a7Crc core idx => Sys2Proof.Machine.execA7Crc core idx s
  | .eventFiringArrival c k w => Sys2Proof.Machine.execEventFiringArrival c k w s
  | .vectorFiringArrival fn v k => Sys2Proof.Machine.execVectorFiringArrival fn v k s
  | .consumerDelivery c who => Sys2Proof.Machine.execConsumerDelivery c who s
  | .blkEvtFire blk v => Sys2Proof.Machine.execBlkEvtFire blk v s
  | .gtTimerExpiry blk k t => Sys2Proof.Machine.execGtTimerExpiry blk k t s
  | .flagClear c => Sys2Proof.Machine.execFlagClear c s
  | .evtBindWrite c idx v => Sys2Proof.Machine.execEvtBindWrite c idx v s
  | .evtChRead c => Sys2Proof.Machine.execEvtChRead c s
  | .evtCtlRead => Sys2Proof.Machine.execEvtCtlRead s
  | .sourceEdge ctl src level samples t => Sys2Proof.Machine.execSourceEdge ctl src level samples t s
  | .groupHoldoffExpiry ctl g t => Sys2Proof.Machine.execGroupHoldoffExpiry ctl g t s
  | .stuckSource ctl src t => Sys2Proof.Machine.execStuckSource ctl src t s
  | .claimRead ctl tgt => Sys2Proof.Machine.execClaimRead ctl tgt s
  | .doneWrite ctl tgt v => Sys2Proof.Machine.execDoneWrite ctl tgt v s
  | .pendSet ctl word v => Sys2Proof.Machine.execPendSet ctl word v s
  | .pendClr ctl word v => Sys2Proof.Machine.execPendClr ctl word v s
  | .enableSet ctl word v => Sys2Proof.Machine.execEnableSet ctl word v s
  | .enableClr ctl word v => Sys2Proof.Machine.execEnableClr ctl word v s
  | .stackFaultClear ctl tgt => Sys2Proof.Machine.execStackFaultClear ctl tgt s
  | .srcCfgRead ctl src => Sys2Proof.Machine.execSrcCfgRead ctl src s
  | .linkUp l tr => Sys2Proof.Machine.execLinkUp l tr s
  | .linkDown l => Sys2Proof.Machine.execLinkDown l s
  | .linkRetrainTimer l t => Sys2Proof.Machine.execLinkRetrainTimer l t s
  | .presenceChange l present => Sys2Proof.Machine.execPresenceChange l present s
  | .flStatRead l => Sys2Proof.Machine.execFlStatRead l s
  | .flLaneRead l idx => Sys2Proof.Machine.execFlLaneRead l idx s
  | .fabricError l k => Sys2Proof.Machine.execFabricError l k s
  | .farResponse tag addr r => Sys2Proof.Machine.execFarResponse tag addr r s
  | .cxlEventLog l rid log data addr w => Sys2Proof.Machine.execCxlEventLog l rid log data addr w s
  | .dcAdd l rid base len2m w => Sys2Proof.Machine.execDcAdd l rid base len2m w s
  | .dcReleaseRequest l rid base len2m w => Sys2Proof.Machine.execDcReleaseRequest l rid base len2m w s
  | .dcForcedRelease l rid base len2m w => Sys2Proof.Machine.execDcForcedRelease l rid base len2m w s
  | .nvmeAsyncEvent ctrl data w => Sys2Proof.Machine.execNvmeAsyncEvent ctrl data w s
  | .nvmeCompletion ctrl cid status data w => Sys2Proof.Machine.execNvmeCompletion ctrl cid status data w s
  | .nvmeControllerFail ctrl why w => Sys2Proof.Machine.execNvmeControllerFail ctrl why w s
  | .downstreamTimeout who t w => Sys2Proof.Machine.execDownstreamTimeout who t w s
  | .lateResponse l => Sys2Proof.Machine.execLateResponse l s
  | .helloTimer t => Sys2Proof.Machine.execHelloTimer t s
  | .hello msg => Sys2Proof.Machine.execHello msg s
  | .ask msg => Sys2Proof.Machine.execAsk msg s
  | .askReplySend sender askId => Sys2Proof.Machine.execAskReplySend sender askId s
  | .reply msg => Sys2Proof.Machine.execReply msg s
  | .leave msg => Sys2Proof.Machine.execLeave msg s
  | .domainTimeout member t => Sys2Proof.Machine.execDomainTimeout member t s
  | .domCntRead => Sys2Proof.Machine.execDomCntRead s
  | .errorArrival at_ errs => Sys2Proof.Machine.execErrorArrival at_ errs s
  | .errAck at_ => Sys2Proof.Machine.execErrAck at_ s
  | .errCntRead at_ => Sys2Proof.Machine.execErrCntRead at_ s
  | .rowRepair pch row spare => Sys2Proof.Machine.execRowRepair pch row spare s
  | .pchRetirement pch => Sys2Proof.Machine.execPchRetirement pch s
  | .pchStatRead pch => Sys2Proof.Machine.execPchStatRead pch s
  | .regStaleRead region => Sys2Proof.Machine.execRegStaleRead region s
  | .patrolScrub corrected uncorrectable => Sys2Proof.Machine.execPatrolScrub corrected uncorrectable s
  | .lodgeScrub blk => Sys2Proof.Machine.execLodgeScrub blk s
  | .agingMeasurement freqs used mv t w => Sys2Proof.Machine.execAgingMeasurement freqs used mv t w s
  | .ledgerRetry t => Sys2Proof.Machine.execLedgerRetry t s
  | .storeComplete => Sys2Proof.Machine.execStoreComplete s
  | .storeRetry t => Sys2Proof.Machine.execStoreRetry t s
  | .getState carrier => Sys2Proof.Machine.execGetState carrier s
  | .setDebug carrier level => Sys2Proof.Machine.execSetDebug carrier level s
  | .provision carrier secret publicKey => Sys2Proof.Machine.execProvision carrier secret publicKey s
  | .installCert carrier chain => Sys2Proof.Machine.execInstallCert carrier chain s
  | .lockDevice carrier => Sys2Proof.Machine.execLockDevice carrier s
  | .readLedger carrier slot n => Sys2Proof.Machine.execReadLedger carrier slot n s
  | .unlockChallenge carrier purpose nonce t => Sys2Proof.Machine.execUnlockChallenge carrier purpose nonce t s
  | .unlockResponse carrier nonce sigGood t => Sys2Proof.Machine.execUnlockResponse carrier nonce sigGood t s
  | .retire carrier nonce sigGood t => Sys2Proof.Machine.execRetire carrier nonce sigGood t s
  | .zeroisation => Sys2Proof.Machine.execZeroisation s
  | .nonceExpiry nonce t => Sys2Proof.Machine.execNonceExpiry nonce t s
  | .pldmFirmwareUpdate req => Sys2Proof.Machine.execPldmFirmwareUpdate req s
  | .pldmSensorRead id => Sys2Proof.Machine.execPldmSensorRead id s
  | .mctpReassemblyTimeout t => Sys2Proof.Machine.execMctpReassemblyTimeout t s
  | .smbusClockTimeout t => Sys2Proof.Machine.execSmbusClockTimeout t s
  | .dapRead f => Sys2Proof.Machine.execDapRead f s
  | .dapWrite f => Sys2Proof.Machine.execDapWrite f s
  | .dapStatus f => Sys2Proof.Machine.execDapStatus f s
  | .dapFrameTimeout t => Sys2Proof.Machine.execDapFrameTimeout t s
  | .idcode => Sys2Proof.Machine.execIdcode s
  | .bypass code => Sys2Proof.Machine.execBypass code s
  | .samplePreload boundary => Sys2Proof.Machine.execSamplePreload boundary s
  | .extest => Sys2Proof.Machine.execExtest s
  | .clamp => Sys2Proof.Machine.execClamp s
  | .highz => Sys2Proof.Machine.execHighz s
  | .internalScan => Sys2Proof.Machine.execInternalScan s
  | .memoryBist => Sys2Proof.Machine.execMemoryBist s
  | .glideEntry island t => Sys2Proof.Machine.execGlideEntry island t s
  | .glideExit island => Sys2Proof.Machine.execGlideExit island s
  | .coastEntry t => Sys2Proof.Machine.execCoastEntry t s
  | .parkEntry t => Sys2Proof.Machine.execParkEntry t s
  | .coastParkExit why => Sys2Proof.Machine.execCoastParkExit why s
  | .pwrStatRead => Sys2Proof.Machine.execPwrStatRead s
  | .coldReset why => Sys2Proof.Machine.execColdReset why s
  | .coldResetRelease st => Sys2Proof.Machine.execColdResetRelease st s
  | .warmReset => Sys2Proof.Machine.execWarmReset s
  | .warmResetRelease st => Sys2Proof.Machine.execWarmResetRelease st s
  | .powerOrderBreach rail => Sys2Proof.Machine.execPowerOrderBreach rail s
  | .railSample rail mv => Sys2Proof.Machine.execRailSample rail mv s
  | .railUndervoltage rail => Sys2Proof.Machine.execRailUndervoltage rail s
  | .railMonRead rail => Sys2Proof.Machine.execRailMonRead rail s
  | .avsReadback r t => Sys2Proof.Machine.execAvsReadback r t s
  | .avsRetry t => Sys2Proof.Machine.execAvsRetry t s
  | .refclkLoss => Sys2Proof.Machine.execRefclkLoss s
  | .mclkLoss => Sys2Proof.Machine.execMclkLoss s
  | .mclkRestore => Sys2Proof.Machine.execMclkRestore s
  | .tempWarning idx eighths => Sys2Proof.Machine.execTempWarning idx eighths s
  | .tempHard idx eighths => Sys2Proof.Machine.execTempHard idx eighths s
  | .thermtrip idx eighths => Sys2Proof.Machine.execThermtrip idx eighths s
  | .tempRead idx => Sys2Proof.Machine.execTempRead idx s
  | .tempThresholdClear idx hard eighths => Sys2Proof.Machine.execTempThresholdClear idx hard eighths s
  | .tdispStartInterface fn => Sys2Proof.Machine.execTdispStartInterface fn s
  | .spdmSessionEnd session => Sys2Proof.Machine.execSpdmSessionEnd session s
  | .nvmeControllerReady ctrl => Sys2Proof.Machine.execNvmeControllerReady ctrl s
  | .localWriteAcknowledged who => Sys2Proof.Machine.execLocalWriteAcknowledged who s
  | .testLogicReset => Sys2Proof.Machine.execTestLogicReset s

end Sys2Proof.Machine
end

