-- ==== Sys2Proof/Machine/Step.lean ====
section
/-! DEFINITION. One step: the command at the front of the queue, or the passing of a nanosecond when nothing waits. -/

namespace Sys2Proof.Machine

/-- Device time advances by 1 ns (Table 06.9), an FLR may end (06 R215), and an admin command that waited for it completes (07 R221);
nothing else happens (log 2, log 39). -/
def State.tick (s : State) : State := (s.at_ (s.time + 1)).endResets.adminDue

/-- Take the command at the front of the queue and run it with the rest of the queue; on an empty queue a tick passes. -/
def step (s : State) : Host.Outcome State Fault Refusal :=
  match s.pending with
  | [] => .next s.tick
  | c :: rest => exec c { s with pending := rest }

/-- The command that a word spells is put at the front of the queue; a word that spells none changes nothing. -/
def State.withFetchWord (s : State) (nbits w : Nat) : State :=
  match Sys2Proof.decodeTableWord nbits w with
  | none => s
  | some c => { s with pending := c :: s.pending }

end Sys2Proof.Machine
end

