-- ==== Sys2Proof/Safety.lean ====
section
/-! DEFINITION. What counts as a good state of the block and as a command that completes, in the terms the statements use. -/

namespace Sys2Proof.Machine

/-- The byte maps hold their canonical form. -/
def State.memWf (s : State) : Bool := s.hbm.wf && s.hostMem.wf && s.farMem.wf

/-- Command `i` completes in state `s`: it answers a next state, of which `P` holds. -/
def Completes (i : Instr) (s : State) (P : State → Prop) : Prop := ∃ t, exec i s = .next t ∧ P t

/-- `t` is the admin entry of function `fn` that comes next, in slot `slot`; it is of the row `sp` and passes the checks that every admin
command makes first (07 R219, R221, R223). -/
def State.adminReady (s : State) (fn slot : Nat) (t : Taken) (sp : Taken → AdmSpec) : Prop :=
  (s.fn fn).adminFront = some t ∧ s.up = true ∧ t.slot = slot ∧ t.stage = .waiting ∧ t.acode = (sp t).acode ∧
  (s.power.state = 0 ∨ t.acode / 256 ≠ 2) ∧ s.adminBehind fn t = false ∧ s.adminCheck fn t (sp t) = none

/-- `t` is the admin entry of function `fn` that is executed, in slot `slot`, of code `acode` (07 R221). -/
def State.adminActing (s : State) (fn slot : Nat) (t : Taken) (acode : Nat) : Prop :=
  (s.fn fn).adminFront = some t ∧ s.up = true ∧ t.slot = slot ∧ t.stage = .acting ∧ t.acode = acode

/-- Each row of a Yaquelux word, with the words that belong to it (Tables 08.5, 08.8, 09.4 to 09.7, 09.13). -/
def wordRows (id : Nat) (i : IWord) : List (Instr × Bool) :=
  let w := i.word
  let on := fun (k : CoreKind) (p : Nat) => decide (coreKind id = k) && writesPort w p
  [(.pcJump id i, writesPort w 0x001), (.pcCall id i, writesPort w 0x002), (.pcRet id i, writesPort w 0x003),
   (.pcRti id i, writesPort w 0x004), (.flgNzcv id i, writesPort w 0x008), (.flgTest id i, writesPort w 0x009),
   (.trapSoft id i, writesPort w 0x010), (.ctlWait id i, writesPort w 0x018), (.tagGet id i, writesPort w 0x020),
   (.tagSet id i, writesPort w 0x022), (.lsuLoad id i, writesPort w 0x063), (.lsuStore id i, writesPort w 0x064),
   (.bndCheck id i, writesPort w 0x071), (.dsPush id i, writesPort w 0x078), (.dsPop id i, readsPort w 0x079),
   (.retPush id i, writesPort w 0x080), (.retPop id i, readsPort w 0x081), (.retBottom id i, readsPort w 0x085),
   (.retTFill id i, writesPort w 0x086), (.winOpen id i, writesPort w 0x09C), (.winClose id i, writesPort w 0x09D),
   (.aluAdd id i, writesAlu w opAdd), (.aluSub id i, writesAlu w opSub), (.aluCmp id i, writesAlu w opCmp),
   (.aluNeg id i, writesAlu w opNeg), (.aluAnd id i, writesAlu w opAnd), (.aluOr id i, writesAlu w opOr),
   (.aluXor id i, writesAlu w opXor), (.aluNot id i, writesAlu w opNot), (.aluShl id i, writesAlu w opShl),
   (.aluShr id i, writesAlu w opShr), (.aluSar id i, writesAlu w opSar), (.aluRol id i, writesAlu w opRol),
   (.aluRor id i, writesAlu w opRor), (.aluMulu id i, writesAlu w opMulu), (.aluMuls id i, writesAlu w opMuls),
   (.aluDivu id i, writesAlu w opDivu), (.aluDivs id i, writesAlu w opDivs), (.aluSeq id i, writesAlu w opSeq),
   (.aluSltu id i, writesAlu w opSltu), (.aluSlts id i, writesAlu w opSlts),
   (.yqPortWrite id i, plainSlot (coreKind id) (yslots w).1 || plainSlot (coreKind id) (yslots w).2),
   (.ctxRead id i, on .sq 0x182), (.ctxWrite id i, on .sq 0x183), (.cmdDecode id i, on .sq 0x188), (.fchFetch id i, on .sq 0x190),
   (.dscPost id i, on .sq 0x19D), (.evqPop id i, decide (coreKind id = .sq) && readsPort w 0x1A0), (.bevFire id i, on .sq 0x1B8),
   (.evrSubscribe id i, on .gt 0x182), (.evrClear id i, on .gt 0x183), (.evrFire id i, on .gt 0x184), (.tmrArm id i, on .gt 0x192),
   (.tmrCancel id i, on .gt 0x193), (.fhFlush id i, on .gt 0x1A2),
   (.irqClaimPort id i, decide (coreKind id = .sup) && readsPort w 0x180), (.irqDonePort id i, on .sup 0x181),
   (.mbxSend id i, on .sup 0x189), (.mbxPop id i, decide (coreKind id = .sup) && readsPort w 0x18A),
   (.lockAcquire id i, on .sup 0x190), (.lockRelease id i, on .sup 0x191), (.recWord id i, on .sv 0x180),
   (.wcmpEq id i, on .sv 0x195), (.rngU id i, on .sv 0x1A4), (.rngS id i, on .sv 0x1A5), (.hshMix id i, on .sv 0x1B1),
   (.hshFin id i, on .sv 0x1B2),
   (.emtPut id i, decide (coreKind id = .sv) && [0x1C0, 0x1C1, 0x1C2, 0x1C3].any (writesPort w)), (.emtCopy id i, on .sv 0x1C5),
   (.vrdVerdict id i, on .sv 0x1D0), (.vrdReady id i, on .sv 0x1D1), (.a7Fetch id i, on .sv 0x1E0), (.a7Keep id i, on .sv 0x1E3),
   (.a7Drop id i, on .sv 0x1E4), (.a7Crc id i, on .sv 0x1E6)]

/-- Core `id` may issue word `i`, and does not run image code: it works, no request is to be taken first, the fetch is what code memory
holds, and after the word no mailbox and no control FIFO to a mover holds more than it can. -/
def State.mayIssue (s : State) (id : Nat) (i : IWord) : Prop :=
  s.coreRuns id = true ∧ (s.core id).mustTake (coreBus id) s = false ∧ (s.core id).inImage (coreKind id) = false ∧
  s.fetchFits id i = true ∧ (s.runWord id i).mailFull = false

/-- The core with an entry pushed onto its return stack (R266). -/
def Core.pushed (c : Core) (v : Val) : Core := { c with rstack := v :: c.rstack }

/-- The core when a word has ended whose phase 4 left `c`: the next word comes next, and nothing of this word is in force (R248). -/
def Ready.ends (r : Ready) (i : IWord) (c : Core) : Core :=
  { c with landed := false, hold := false, subst := [], pc := r.c.pc + BitVec.ofNat 64 (1 + ylits i.word),
           record := { c.record with cycles := c.record.cycles + 1 } }

end Sys2Proof.Machine
end

