-- ==== Sys2Proof/Certificates/Slice0/Obligations.lean ====
section
/-! DEFINITION. The statements. -/

section

open Sys2Proof Sys2Proof.Machine

/-- For every command c and state s whose queue is c followed by rest, a step of s is exec of c on s with the queue rest. (00_scope.md) -/
def Obligations.StepRunsFrontCommand : Prop :=
  ∀ (c : Instr) (rest : List Instr) (s : State), s.pending = c :: rest → step s = exec c { s with pending := rest }

/-- The model's choice (log 2): on an empty queue a step answers a next state. While no admin command of FN[0] waits for its end, device
time is one nanosecond later in it, modulo 2^48, with a wrap counted (log 161); only the functions that a reset holds may change beside
it (log 39), and none of them changes while none is RESETTING. (06_host_queues.md Table 06.9, 06_host_queues.md R215) -/
def Obligations.StepOnEmptyQueue : Prop :=
  ∀ s : State, s.pending = [] → ∃ t, step s = .next t ∧
    ((∀ e, (s.fn 0).adminFront = some e → e.stage ≠ .acting) →
      t = { s with time := (s.time + 1) % 2 ^ 48, wraps := s.wraps + b2n (decide ((s.time + 1) % 2 ^ 48 < s.time)),
                   fns := t.fns, free := t.free } ∧
      ((∀ p ∈ s.fns, p.2.state ≠ 2) → t.fns = s.fns ∧ t.free = s.free))

/-- After reset the queue is empty, every context is FREE with budget 65,536 and no keys, every function is ENABLED with no queue and no
ring and no virtual function exists, every event channel has its flag clear and belongs to the supervisor from channel 3,072 on and to
FN[0] below, the current epoch is 1, every port of a core reads INT 0 but LSU.m, which reads 3, and no byte map lists a byte.
(05_contexts.md R155, 06_host_queues.md Table 06.2, 08_yaquelux_isa.md R284, 11_events_interrupts.md R333, 12_far_memory_devices.md
R372, 06_host_queues.md R183) -/
def Obligations.ResetLeaves : Prop :=
  State.reset.pending = [] ∧
  (∀ n, (State.reset.ctx n).r.state = stFree ∧ (State.reset.ctx n).r.budget = 65536 ∧ (State.reset.ctx n).r.keys = 0 ∧
    (State.reset.ctx n).phase = .none) ∧
  (∀ n, (State.reset.fn n).state = 0 ∧ (∀ q, (State.reset.fn n).queue q = none) ∧ (∀ r, (State.reset.fn n).ring r = none)) ∧
  (∀ n, State.reset.fnExists n = decide (n = 0)) ∧
  (∀ c, (State.reset.ech c).flag = false ∧ (State.reset.ech c).ownerFn = 0 ∧ (State.reset.ech c).supervisor = decide (3072 ≤ c)) ∧
  State.reset.domain.ec = 1 ∧
  (∀ id p, (State.reset.core id).reg p = if p = 0x62 then ⟨3, tgInt⟩ else ⟨0, tgInt⟩) ∧
  State.reset.hbm = [] ∧ State.reset.hostMem = [] ∧ State.reset.farMem = []

/-- The byte maps of LOCAL, HOST and FAR memory hold their canonical form right after reset. (01_architecture.md R28) -/
def Obligations.ResetKeepsByteMapsCanonical : Prop :=
  State.reset.memWf = true

/-- From every state in which the byte maps of LOCAL, HOST and FAR memory hold their canonical form, every step that answers a next state
answers one in which they hold it. (01_architecture.md R28, 02_channel_programs.md R69) -/
def Obligations.StepKeepsByteMapsCanonical : Prop :=
  ∀ s t : State, s.memWf = true → step s = .next t → t.memWf = true

/-- After bytes are written from address a on, the map reads each of them at its address, and every address outside them reads as before.
(02_channel_programs.md R69, 00_scope.md R9) -/
def Obligations.BytesReadAsWritten : Prop :=
  ∀ (m : Mem) (a : Nat) (bs : List Byte),
    (∀ i b, bs[i]? = some b → (m.writeN a bs).read (a + i) = b) ∧
    (∀ x, x < a ∨ a + bs.length ≤ x → (m.writeN a bs).read x = m.read x) ∧
    (m.writeN a bs).readN a bs.length = bs

/-- Every channel command is what its 32 bytes spell, with every field at every value, and every 32 bytes are the bytes of the command that
they spell. (03_command_reference.md R76, 03_command_reference.md Table 03.1) -/
def Obligations.CommandBytesRoundTrip : Prop :=
  (∀ c : Cmd, c.encode.length = 32 ∧ Cmd.decode c.encode = c) ∧
  (∀ bs : List Byte, bs.length = 32 → (Cmd.decode bs).encode = bs)

/-- Bit k of a field that bytes spell is bit (k mod 8) of byte floor(k / 8), and the n bytes of a number below 256^n spell it. (00_scope.md
R9) -/
def Obligations.LittleEndianFields : Prop :=
  (∀ (bs : List Byte) (k : Nat), (leVal bs).testBit k = (bs.getD (k / 8) 0).getLsbD (k % 8)) ∧
  (∀ n x, x < 256 ^ n → (leBytes n x).length = n ∧ leVal (leBytes n x) = x)

/-- A START entry whose turn has come, of an ENABLED function, that names an IDLE context of that function whose home slot is not being
substituted and for whose next bib no late response is awaited, with a good program address, completes: the context is QUEUED with its
bib one higher, an empty status word and stack, the current epoch tag and the queue, slot and host tag of the entry, and stands at the
start address; the entry has begun; every other context, and all of memory and of the rest of the state, is unchanged.
(02_channel_programs.md R36, 02_channel_programs.md R37, 02_channel_programs.md R71) -/
def Obligations.StartStartsProgram : Prop :=
  ∀ (fn q slot : Nat) (w : Wr) (s : State) (e : Taken), (s.fn fn).waits q slot 1 = some e → s.entryOpen fn e = true →
    s.substituted e.ctx = false → s.notAllotted fn e.ctx = false → (s.ctx e.ctx).r.state = stIdle → e.badAddress = false →
    (s.fn fn).state = 0 → (s.ctx e.ctx).late.contains ((s.ctx e.ctx).r.bib + 1) = false →
    Completes (.start fn q slot w) s fun t =>
      let old := (s.ctx e.ctx).r
      let c := t.ctx e.ctx
      c.r.state = stQueued ∧ c.r.bib = old.bib + 1 ∧ c.r.dev = 0 ∧ c.r.chan = 0 ∧ c.r.qual = 0 ∧ c.r.residual = 0 ∧
      c.r.survivors = 0 ∧ c.r.lastCmd = BitVec.ofNat 64 e.addr ∧ c.r.lastSpace = BitVec.ofNat 2 e.space ∧ c.r.callDepth = 0 ∧
      c.r.noprog = 0 ∧ c.r.cmpEq = false ∧ c.r.digestMatch = false ∧ c.r.epochTag = s.domain.ec ∧
      c.r.queue = BitVec.ofNat 16 ((s.fn fn).chipOf q) ∧ c.r.slotIndex = BitVec.ofNat 16 slot ∧
      c.r.hostTag = BitVec.ofNat 16 e.tag ∧ c.r.ownerFn = old.ownerFn ∧ c.r.budget = old.budget ∧ c.r.keys = old.keys ∧
      c.phase = .ready ∧ c.pc = BitVec.ofNat 64 e.addr ∧ c.space = BitVec.ofNat 2 e.space ∧
      (∀ n, n ≠ e.ctx → t.ctx n = s.ctx n) ∧
      t.fn fn = { s.fn fn with taken := (s.fn fn).taken.map fun x =>
        if x.q = e.q ∧ x.slot = e.slot then { x with stage := .acting } else x } ∧
      (∀ n, n ≠ fn → t.fn n = s.fn n) ∧
      t = { s with ctxs := t.ctxs, fns := t.fns, power := s.stir.power }

/-- An entry whose turn has come and whose context is allotted to its function and not FROZEN completes with its own effect. RESUME of a
HELD context without a recorded ending makes it ACTIVE again and writes the entry's completion. HALT and CLEAR of an IDLE or STATUS-
PENDING context complete with code 1. HALT ends a HELD program at once; HALT with SUSPEND of a HELD context completes with code 0. HALT
ends a QUEUED program, and HALT with SUSPEND holds it with qualifier 0x11. Of an ACTIVE or HALTING context both become pending and act
at the boundary. CLEAR ends a program with the clear sequence. SENSE writes the completion with the context's status, and of a migrating
context with the bib before the migration. (02_channel_programs.md R52, 02_channel_programs.md R63, 02_channel_programs.md R64,
02_channel_programs.md R65, 02_channel_programs.md Table 02.7) -/
def Obligations.EntriesOfAnAllottedContext : Prop :=
  (∀ (fn q slot : Nat) (w : Wr) (s : State) (e : Taken), (s.fn fn).waits q slot 2 = some e → s.entryOpen fn e = true →
    s.notAllotted fn e.ctx = false → (s.ctx e.ctx).r.state = stHeld → (s.ctx e.ctx).ended = none →
    exec (.resume fn q slot w) s = .next ((s.stir.modCtx e.ctx Ctx.resume).complete fn e [0, 0] w)) ∧
  (∀ c : Ctx, c.resume.r.state = stActive ∧ c.resume.r.qual = 0 ∧ c.resume.phase = .ready ∧ c.resume.marks = c.marks ∧
    c.resume.noHold = decide (c.r.qual ≠ 0x11) ∧ (c.chain = false → c.resume.pc = c.pc)) ∧
  (∀ (fn q slot : Nat) (w : Wr) (s : State) (e : Taken) (suspend : Bool), (s.fn fn).waits q slot 3 = some e →
    s.entryOpen fn e = true → bit e.kflags 0 = suspend → s.notAllotted fn e.ctx = false → (s.ctx e.ctx).r.state ≠ stFrozen →
    let c := s.ctx e.ctx
    exec (if suspend then .haltSuspend fn q slot w else .halt fn q slot w) s = .next
      (if c.r.state = stIdle ∨ c.r.state = stPending then s.complete fn e [0, 1] w
       else if c.r.state = stHeld then (if suspend then s.complete fn e [0, 0] w else (s.act fn e).endHeld e.ctx w)
       else if c.r.state = stQueued then
         (if suspend then (s.act fn e).holdCtx e.ctx 0x11 w else (s.act fn e).finishProgram e.ctx c.haltEnding w)
       else (s.act fn e).haltActive e.ctx suspend w)) ∧
  (∀ (fn q slot : Nat) (w : Wr) (s : State) (e : Taken), (s.fn fn).waits q slot 4 = some e → s.entryOpen fn e = true →
    s.notAllotted fn e.ctx = false → (s.ctx e.ctx).r.state ≠ stFrozen →
    exec (.clear fn q slot w) s = .next
      (if (s.ctx e.ctx).r.state = stIdle ∨ (s.ctx e.ctx).r.state = stPending then s.complete fn e [0, 1] w
       else (s.act fn e).clearProgram e.ctx w)) ∧
  (∀ (fn q slot : Nat) (w : Wr) (s : State) (e : Taken), (s.fn fn).waits q slot 5 = some e → s.up = true →
    (s.fn fn).oldest e = true → s.notAllotted fn e.ctx = false → (s.ctx e.ctx).r.state ≠ stFrozen →
    let c := s.ctx e.ctx
    let r := if c.phase = .migrating then { c.r with bib := c.r.bib - 1 } else c.r
    exec (.sense fn q slot w) s = .next (s.complete fn e ([0, 0] ++ r.completionTail) w))

/-- A WRAP or NOP entry of a queue of an ENABLED function, in local placement or in host placement while the function may write, whose
completion write does not fail, completes: its 16 bytes in the ring hold byte 0 with OWN 0, bytes 1 to 7 as they were, CLASS 0, CODE 0
and the time, the entry is taken off, and every other byte of memory, every other function and the rest of the state is unchanged.
(06_host_queues.md R195, 06_host_queues.md R199, 06_host_queues.md R204, 06_host_queues.md Table 06.25) -/
def Obligations.CompletionRecordWritten : Prop :=
  ∀ (fn q slot : Nat) (w : Wr) (s : State) (e : Taken) (wrap : Bool) (x : Queue),
    (s.fn fn).waits q slot (if wrap then 6 else 7) = some e → s.up = true → (s.fn fn).queue e.q = some x →
    (s.fn fn).state = 0 → (x.loc = true ∨ (s.fn fn).stopped = false) → w.comp = none →
    Completes (if wrap then .wrap fn q slot w else .entryNop fn q slot w) s fun t =>
      let a := if x.loc then (s.fn fn).extBase + (x.base + 16 * e.slot) else s.hostKey fn (x.base + 16 * e.slot)
      let old := if x.loc then s.hbm else s.hostMem
      let new := if x.loc then t.hbm else t.hostMem
      new.readN a 16 = BitVec.ofNat 8 (byteAt e.bytes 0 % 128) :: (old.readN (a + 1) 7 ++ [0, 0] ++ leBytes 6 s.time) ∧
      (∀ b, b < a ∨ a + 16 ≤ b → new.read b = old.read b) ∧
      t.fn fn = (s.fn fn).dropTaken e.q e.slot ∧ (∀ n, n ≠ fn → t.fn n = s.fn n) ∧
      t = if x.loc then { s with hbm := t.hbm, fns := t.fns } else { s with hostMem := t.hostMem, fns := t.fns }

/-- When the block may give a turn and context n is in turn, the turn completes: the context's record is marked as dispatched last; a lodged
context fetches its next command and becomes ACTIVE if it was QUEUED, and every other context is unchanged; the record of any other
context is on its way into the lodge, and at most evictions change other contexts, of which only the TRANSFER words, the lodged mark and
the old copy change, and of memory only the extension slots of lodged contexts; the block remembers the function of a tenant context;
nothing else of the state changes but the free values drawn. (05_contexts.md R158, 05_contexts.md R159, 05_contexts.md R168) -/
def Obligations.DispatchTurnGiven : Prop :=
  ∀ (blk n : Nat) (s : State), s.turn blk = some n → s.turnOpen blk = true →
    Completes (.dispatchTurn blk) s fun t =>
      let c := s.ctx n
      t.turns = s.turns + 1 ∧ (t.ctx n).lastTurn = s.turns + 1 ∧
      (c.lodged = true → (t.ctx n).phase = .fetch ∧ (t.ctx n).r = { c.r with state := if c.r.state = stQueued then stActive else c.r.state } ∧
        (∀ m, m ≠ n → t.ctx m = s.ctx m) ∧ t.hbm = s.hbm ∧ t.free = s.free) ∧
      (c.lodged = false → (t.ctx n).phase = .lodging ∧
        ∀ m, m ≠ n → t.ctx m = s.ctx m ∨
          t.ctx m = { s.ctx m with r := { (s.ctx m).r with transfer := (t.ctx m).r.transfer }, lodged := false, hbmCopy := none }) ∧
      (∀ a, (∀ m, (s.ctx m).lodged = true → a < extensionBase + 2048 * m ∨ extensionBase + 2048 * (m + 1) ≤ a) →
        t.hbm.read a = s.hbm.read a) ∧
      (c.r.supervisor = false → (t.block blk).lastFn = c.r.ownerFn.toNat) ∧
      t = { s with ctxs := t.ctxs, blocks := t.blocks, turns := t.turns, hbm := t.hbm, free := t.free }

/-- A lodge fill whose record is good, or whose shadow entry alone is bad, lodges the context with the copy in HBM as it was, and the
context fetches its next command; a record that is bad alone is recovered from its shadow entry, and a record lost with its shadow entry
freezes the owner or stops the device. A read-ahead of commands inside the aligned 256-byte block that does not fail keeps copies of
them and changes nothing else; one that fails changes nothing. (05_contexts.md R156, 05_contexts.md R158, 02_channel_programs.md R39) -/
def Obligations.RecordsAndReadAheadsArrive : Prop :=
  (∀ (n : Nat) (r : RecordRead) (w : Wr) (s : State), s.up = true → (s.ctx n).phase = .lodging → (r = .good ∨ r = .shadowBad) →
    Completes (.lodgeFillComplete n r w) s fun t =>
      let c := s.ctx n
      (t.ctx n).lodged = true ∧ (t.ctx n).hbmCopy = some c.r ∧ (t.ctx n).phase = .fetch ∧
      (t.ctx n).r = { c.r with state := if c.r.state = stQueued then stActive else c.r.state } ∧
      (∀ m, m ≠ n → t.ctx m = s.ctx m) ∧ t = { s with ctxs := t.ctxs, free := t.free }) ∧
  (∀ (n : Nat) (w : Wr) (s : State), s.up = true → (s.ctx n).phase = .lodging →
    exec (.lodgeFillComplete n .bad w) s = .next (s.recoverCtx n w) ∧
    ∀ owned, exec (.lodgeFillComplete n (.lost owned) w) s = .next (s.loseCtx n owned w)) ∧
  (∀ (n k : Nat) (s : State) (bs : List Byte), let c := s.ctx n
    s.up = true → c.phase = .fetch → 1 ≤ k → k ≤ (256 - c.pc.toNat % 256) / 32 →
    ((∃ f, s.readRange (c.who 0) c.space.toNat c.pc.toNat (32 * k) = (bs, some f)) → exec (.readAheadComplete n k) s = .next s) ∧
    (s.readRange (c.who 0) c.space.toNat c.pc.toNat (32 * k) = (bs, none) →
      Completes (.readAheadComplete n k) s fun t =>
        (∀ i, i < k → (c.space.toNat, c.pc + BitVec.ofNat 64 (32 * i), (bs.drop (32 * i)).take 32) ∈ (t.ctx n).readAhead) ∧
        t.ctx n = { c with readAhead := (t.ctx n).readAhead } ∧ (∀ m, m ≠ n → t.ctx m = s.ctx m) ∧
        t = { s with ctxs := t.ctxs }))

/-- A demand fetch brings the 32 bytes of the command, from a read-ahead copy or from memory; the command that they spell is checked. A
command that begins a chain or a command of its own, passes every check that needs no read, reads no descriptor, passes the resource and
event checks and does not hold, begins while NOPROG is below the budget: it is the command executing, LAST_CMD names it, control will go
to the next 32 bytes when NEXT is 1 and nowhere otherwise, and no other context changes. At a NOPROG of the budget or more the program
ends with RUNAWAY at that command instead, or with the failure of its producer when there is one. (02_channel_programs.md R39,
02_channel_programs.md R42, 02_channel_programs.md R43, 02_channel_programs.md R61, 02_channel_programs.md R75, 03_command_reference.md
R85) -/
def Obligations.FetchedCommandBegins : Prop :=
  (∀ (n : Nat) (w : Wr) (s : State), let c := s.ctx n
    s.up = true → c.phase = .fetch → (c.space.toNat ≠ 0 ∨ c.r.supervisor = true ∨ (s.fn c.r.ownerFn.toNat).stopped = false) →
    (∀ bs, ((s.tellFetch n).readRange (c.who 0) c.space.toNat c.pc.toNat 32 = (bs, none) ∧
        (∀ p ∈ c.readAhead, ¬(p.1 = c.space.toNat ∧ p.2.1 = c.pc)) →
      exec (.demandFetchComplete n w) s = .next ((s.tellFetch n).fetched n (Cmd.decode bs) w))) ∧
    (∀ p, c.readAhead.find? (fun p => decide (p.1 = c.space.toNat) && decide (p.2.1 = c.pc)) = some p →
      exec (.demandFetchComplete n w) s = .next (((s.tellFetch n).modCtx n fun c => { c with
        readAhead := c.readAhead.filter fun q => decide (q ≠ p) }).fetched n (Cmd.decode p.2.2) w))) ∧
  (∀ (n : Nat) (cmd : Cmd) (w : Wr) (s : State), let c := s.ctx n
    c.rest = .none → c.r.noprog < c.r.budget → s.earlyCheck n cmd = none → cmd.readsFirst = false →
    (s.modCtx n fun c => { c with fails := [] }).resourceCheck n cmd cmd.inlineHandle (c.chain && !c.again) = none →
    (s.modCtx n fun c => { c with fails := [] }).eventDenied n cmd = false → (cmd.hold = false ∨ c.noHold = true) →
    let t := s.fetched n cmd w
    (t.ctx n).phase = .exec ∧ (t.ctx n).cmd = cmd ∧ (t.ctx n).r.lastCmd = c.pc ∧ (t.ctx n).r.lastSpace = c.space ∧
    (t.ctx n).next = (if cmd.next then some (c.space, c.pc + 32) else none) ∧ (∀ m, m ≠ n → t.ctx m = s.ctx m) ∧
    t = { s with ctxs := t.ctxs }) ∧
  (∀ (n : Nat) (cmd : Cmd) (w : Wr) (s : State), let c := s.ctx n
    c.rest = .none → c.r.budget ≤ c.r.noprog →
    let e := c.endingAt ⟨c.pc, cmd⟩ deRunaway 0 0 none
    let g := s.groupEnding n e true
    s.fetched n cmd w = (if c.chain then g.2.closeChain n else g.2).finishProgram n g.1 w ∧ (c.grp.failed = none → g = (e, s)) ∧
    (∀ p, c.grp.failed = some p → g.1 = p ∨ g.1 = e))

/-- The read of step 6 of R85 completes. SHRED and WEAVE read 32 bytes, then the rest of a layout descriptor of good length, and begin if
the layout is good; SIEVE-MAP reads its range descriptor and then the map header; FOLD reads its bucket table; NVM-PASS reads its
64-byte block and needs its opcode in the policy mask. Each keeps what it read and goes on to the checks of named resources.
(03_command_reference.md R80, 03_command_reference.md R88, 04_sieve_and_transforms.md R132, 04_sieve_and_transforms.md R140,
03_command_reference.md R110) -/
def Obligations.DescriptorsAreReadFirst : Prop :=
  (∀ (n : Nat) (w : Wr) (s : State) (hdr bs : List Byte) (len : Nat), let c := s.ctx n
    let sp := c.cmd.cc % 4
    let a := c.cmd.cc / 32 * 32
    s.up = true → c.phase = .desc → s.hostStopped n = false → (c.cmd.opn = 0xA ∨ c.cmd.opn = 0xB) → s.readRange c.me sp a 32 = (hdr, none) →
    layoutLen hdr = some len → s.readRange c.me sp (a + 32) (len - 32) = (bs, none) →
    layoutOk (hdr ++ bs) (if c.cmd.opn = 0xA then c.cmd.spaceB else c.cmd.spaceA) (if c.cmd.opn = 0xA then c.cmd.cb else c.cmd.ca) = true →
    exec (.descriptorReadComplete n w) s =
      .next (((s.modCtx n fun c => { c with xfer := { desc := hdr ++ bs } }).modCtx n fun c => { c with fails := [] }).letIn n c.cmd none w)) ∧
  (∀ (n : Nat) (w : Wr) (s : State) (hdr bs mh : List Byte) (len : Nat), let c := s.ctx n
    let sp := c.cmd.cc % 4
    let a := c.cmd.cc / 32 * 32
    let v := field (hdr ++ bs) 0 8
    s.up = true → c.phase = .desc → s.hostStopped n = false → c.cmd.opn = 9 → s.readRange c.me sp a 32 = (hdr, none) →
    rangeLen hdr = some len → s.readRange c.me sp (a + 32) (len - 32) = (bs, none) → mapRefOk (hdr ++ bs) = true →
    s.readRange c.me (v % 4) (v / 32 * 32) 32 = (mh, none) → rangeOk (hdr ++ bs) mh c.cmd = true →
    exec (.descriptorReadComplete n w) s =
      .next (((s.modCtx n fun c => { c with xfer := { desc := hdr ++ bs, maph := mh } }).modCtx n fun c => { c with fails := [] }).letIn n c.cmd
        (some (rangeHandle (hdr ++ bs))) w)) ∧
  (∀ (n : Nat) (w : Wr) (s : State) (bs : List Byte), let c := s.ctx n
    s.up = true → c.phase = .desc → s.hostStopped n = false → c.cmd.opn = 0xE → c.chain = false → c.xfer.expect = none →
    s.readRange c.me c.cmd.spaceB c.cmd.cb c.cmd.tableLen = (bs, none) → tableOk bs c.cmd = true →
    exec (.descriptorReadComplete n w) s =
      .next (((s.modCtx n fun c => { c with xfer := { buckets := bucketsOf bs (2 ^ c.cmd.cf 16 4), desc := bs.take 32 } }).modCtx n fun c => { c with fails := [] }).letIn n c.cmd none w)) ∧
  (∀ (n : Nat) (w : Wr) (s : State) (bs : List Byte), let c := s.ctx n
    s.up = true → c.phase = .desc → s.hostStopped n = false → c.cmd.opn = 0x1A → s.readRange c.me c.cmd.spaceA c.cmd.ca 64 = (bs, none) →
    imageOk bs c.cmd.cnt = true → s.resourceCheck n c.cmd none false = none →
    (s.fn c.r.ownerFn.toNat).nvmPolicy.getLsbD (byteAt bs 0) = true →
    exec (.descriptorReadComplete n w) s =
      .next (((s.modCtx n fun c => { c with xfer := { desc := bs } }).modCtx n fun c => { c with fails := [] }).letIn n c.cmd none w))

/-- Storing bytes at an operand address: in HOST space each byte is read back at its address of the function's address space by an accessor
without earlier writes on their way, and every other byte of host memory is as before; in LOCAL space, below the context store, each
byte is read back at its absolute offset, every other byte of HBM is as before, and no poison is added; in FAR space every byte of far
memory at which no stored byte's translation lies is as before. Nothing but the byte map of that space, and in LOCAL the poison list,
changes. A context's command that stores them changes, beside that, its own context only, unless its earlier HOST writes may still be on
their way. (01_architecture.md R28, 01_architecture.md R29, 12_far_memory_devices.md R360) -/
def Obligations.BytesStoredInEachSpace : Prop :=
  ∀ (s : State) (who : Who) (a : Nat) (bs : List Byte), bs.length ≤ 2 ^ 64 →
    ((who.old = [] → ∀ i b, bs[i]? = some b → (s.bytesOut who 0 a bs).byteIn who 0 (a + i) = b) ∧
      (∀ k, (∀ i, i < bs.length → k ≠ s.hostKey who.fn ((a + i) % 2 ^ 64)) → (s.bytesOut who 0 a bs).hostMem.read k = s.hostMem.read k) ∧
      s.bytesOut who 0 a bs = { s with hostMem := (s.bytesOut who 0 a bs).hostMem }) ∧
    (s.absLocal who a + bs.length ≤ ctxStoreBase →
      (∀ i b, bs[i]? = some b → (s.bytesOut who 1 a bs).byteIn who 1 (a + i) = b) ∧
      (∀ x, x < s.absLocal who a ∨ s.absLocal who a + bs.length ≤ x → (s.bytesOut who 1 a bs).localByte x = s.localByte x) ∧
      (∀ k, k ∈ (s.bytesOut who 1 a bs).poison → k ∈ s.poison) ∧
      s.bytesOut who 1 a bs = { s with hbm := (s.bytesOut who 1 a bs).hbm, poison := (s.bytesOut who 1 a bs).poison }) ∧
    ((∀ k, (∀ i, i < bs.length → k ≠ s.farPa who (a + i)) → (s.bytesOut who 2 a bs).farMem.read k = s.farMem.read k) ∧
      s.bytesOut who 2 a bs = { s with farMem := (s.bytesOut who 2 a bs).farMem }) ∧
    (∀ n space, (space ≠ 0 ∨ (s.ctx n).hostOld = []) → s.absLocal who a + bs.length ≤ ctxStoreBase →
      (∀ m, m ≠ n → (s.ctxOut n who space a bs).ctx m = s.ctx m) ∧
      s.ctxOut n who space a bs = { s.bytesOut who space a bs with ctxs := (s.ctxOut n who space a bs).ctxs })

/-- A FILL that may run and whose destination can be written completes its member: the bytes stored at B repeat the 1, 2, 4 or 8 low bytes
of C that MODIFIER selects, and then the member ends with RESIDUAL 0 and no mismatch. Byte j of the destination is byte (j mod width) of
C. (03_command_reference.md R90, 03_command_reference.md Table 03.7) -/
def Obligations.FillStoresItsPattern : Prop :=
  (∀ (n : Nat) (w : Wr) (s : State), let c := s.ctx n
    let b := c.cmd.cb + c.xfer.off
    let bs := c.cmd.fillBytes c.xfer.off c.left
    s.mayRun n (isOp 2) = true → s.writeFail c.me c.cmd.spaceB b bs.length = none →
    exec (.fill n w) s = .next ((if bs.length = 0 then s
      else s.ctxOut n c.me c.cmd.spaceB b bs).endMember n 0 none
        (decide (bs.length ≠ 0)) w)) ∧
  (∀ (c : Cmd) (o k j : Nat), j < k → (c.fillBytes o k).length = k ∧
    (c.fillBytes o k)[j]? = some (BitVec.ofNat 8 (c.cc / 256 ^ ((o + j) % c.width))))

/-- A MOVE that may run and whose source bytes, from memory or from the stream, can be read completes its member. With SKIP nothing is
delivered. As a producer it adds the bytes to its output. Otherwise, when the destination can be written, the bytes are stored at B.
Bytes taken from the stream are accepted. The member ends with the number of bytes that the stream did not supply, and a mismatch when
it supplied too few or holds more. (03_command_reference.md R89, 02_channel_programs.md R48, 02_channel_programs.md R51,
02_channel_programs.md R54) -/
def Obligations.MoveCopiesBytes : Prop :=
  ∀ (n : Nat) (w : Wr) (s : State) (bs : List Byte), let c := s.ctx n
    let b := c.cmd.cb + c.xfer.off
    s.mayRun n (isOp 1) = true → s.input n = (bs, none) →
    (c.cmd.skip = true ∨ c.cmd.producer = true ∨ s.writeFail c.me c.cmd.spaceB b bs.length = none) →
    let s1 := if c.cmd.skip then s
      else if c.cmd.producer then s.produce n bs false
      else if bs.length = 0 then s
      else s.ctxOut n c.me c.cmd.spaceB b bs
    let s2 := if c.cmd.consumer then s1.accept n bs.length else s1
    exec (.move n w) s = .next (s2.endMember n (c.shortBy bs.length) ((s2.ctx n).mismatch (c.shortBy bs.length))
      (decide (bs.length ≠ 0)) w)

/-- A COMPARE that may run and whose operands can be read completes its member. Operands that agree leave CMP_EQ to be set at the end of the
command and RESIDUAL 0. Where they first differ, after d equal bytes, CMP_EQ will be clear, RESIDUAL counts the bytes from the first
difference on, and the counts of the remaining members are added without comparing them. (03_command_reference.md R91,
03_command_reference.md R92, 02_channel_programs.md R59) -/
def Obligations.CompareSetsEquality : Prop :=
  (∀ (n : Nat) (w : Wr) (s : State) (x y : List Byte), let c := s.ctx n
    s.mayRun n (isOp 3) = true → s.input n = (x, none) → x.length = y.length →
    (if c.cmd.mod = 0 then s.readRange c.me c.cmd.spaceB (c.cmd.cb + c.xfer.off) c.left = (y, none)
     else (leBytes c.cmd.cnt c.cmd.cc).drop c.xfer.off = y) →
    (x = y → exec (.compare n w) s = .next ((s.modCtx n fun c => { c with
      xfer := { c.xfer with condCmp := some true } }).endMember n 0 none (decide (x.length ≠ 0)) w)) ∧
    (∀ d, d < x.length → x.take d = y.take d → x[d]? ≠ y[d]? →
      exec (.compare n w) s = .next (((s.modCtx n fun c => { c with
        xfer := { c.xfer with condCmp := some false }
        rest := if c.cmd.cont then .addCounts else .none }).setResidual n (c.left - d)).memberDone n true w)))

/-- A DIGEST that may run and whose bytes can be read completes its member: the bytes are fed to the running digest unless the member has
SKIP, bytes of the stream are accepted, and when the chain ends without a mismatch, or with one that LENOK accepts, the digest is
written or compared; at a mismatch that ends the program the bytes of the result are written or not; otherwise the member ends.
(03_command_reference.md R93, 04_sieve_and_transforms.md R150) -/
def Obligations.DigestFeedsAndCloses : Prop :=
  ∀ (n : Nat) (w : Wr) (s : State) (bs : List Byte), let c := s.ctx n
    s.mayRun n (isOp 4) = true → s.input n = (bs, none) →
    let s1 := if c.cmd.skip then s
      else s.modCtx n fun c => { c with xfer := c.xfer.feed (bits c.cmd.mod 0 2) c.cmd.cnt bs }
    let s2 := if c.cmd.consumer then s1.accept n bs.length else s1
    let short := c.shortBy bs.length
    let mis := (s2.ctx n).mismatch short
    exec (.digest n w) s = .next
      (if (c.cmd.cont = false ∧ (mis = none ∨ c.cmd.lenok = true)) ∨ (mis ≠ none ∧ c.cmd.lenok = true)
       then s2.digestEnd n short mis (decide (bs.length ≠ 0)) w
       else (if mis = none then s2 else s2.digestCut n).endMember n short mis (decide (bs.length ≠ 0)) w)

/-- An ATOMIC that may run, whose operand block can be read and whose target can be accessed and whose result can be written, completes:
with old the COUNT bytes at A and op1 and op2 the operands at offsets 0 and 16 of the block, A takes op2 if old equals op1 and keeps old
otherwise (CAS), old plus op2 modulo 2^64 (FETCH-ADD), or op2 (SWAP); the old bytes are stored at B; the member ends with RESIDUAL 0 and
has made progress. (03_command_reference.md R104, 03_command_reference.md R105, 03_command_reference.md Table 03.15) -/
def Obligations.AtomicsActOnce : Prop :=
  ∀ (n : Nat) (w : Wr) (s : State) (blk : List Byte), let c := s.ctx n
    let k := c.cmd.cnt
    let old := s.bytesIn c.me c.cmd.spaceA c.cmd.ca k
    let act := fun v : Nat => s.ctxOut n c.me c.cmd.spaceA c.cmd.ca (leBytes k v)
    let ends := fun s1 : State => (if k = 0 then s1 else s1.ctxOut n c.me c.cmd.spaceB c.cmd.cb old).endMember n 0 none true w
    let x := leVal old
    let p := field blk 0 k
    let q := field blk 16 k
    s.readRange c.me c.cmd.spaceB c.cmd.cb 32 = (blk, none) → s.atomicFail c.me c.cmd.spaceA c.cmd.ca k = none →
    (∀ v, (act v).writeFail c.me c.cmd.spaceB c.cmd.cb k = none) →
    (s.mayRun n (isMod 0x14 0) = true → exec (.atomicCas n w) s = .next (ends (act (if x = p then q else x)))) ∧
    (s.mayRun n (isMod 0x14 1) = true → exec (.atomicFetchAdd n w) s = .next (ends (act ((x + q) % 2 ^ 64)))) ∧
    (s.mayRun n (isMod 0x14 2) = true → exec (.atomicSwap n w) s = .next (ends (act q)))

/-- A member that ends without a mismatch sets RESIDUAL. A data member of a tenant context that has writes on their way, and that is not
left without the stream in the middle of a chain, then waits for their read-back, and nothing else changes but its reported failures.
The last command of a program ends the program; a plain command that is not the last, in no chain and no group, without MARK and BAR, of
a context that no HALT or freeze waits for, makes the context ready at the next command with NOPROG 0 after progress and one higher
without (unless the member was only closed), and all other contexts and the rest of the state stay as they were. (02_channel_programs.md
R54, 02_channel_programs.md R60, 02_channel_programs.md R72, 10_movers_fifos.md R322) -/
def Obligations.MemberEnds : Prop :=
  (∀ (n k : Nat) (progress : Bool) (w : Wr) (s : State), let c := s.ctx n
    c.cmd.isData = true → c.r.supervisor = false → c.dirty ≠ [] →
    (c.cmd.consumer = false ∨ c.cmd.cont = false ∨ c.grp.data ≠ []) →
    let t := s.endMember n k none progress w
    t.ctx n = { c with
      r := { c.r with residual := BitVec.ofNat 32 k }, phase := .arrive, goal := .member progress, fails := [], step9 := false } ∧
    (∀ m, m ≠ n → t.ctx m = s.ctx m) ∧ t = { s with ctxs := t.ctxs }) ∧
  (∀ (n : Nat) (progress : Bool) (w : Wr) (s : State) (sp : BitVec 2) (a : W64), let c := s.ctx n
    c.dirty = [] → c.cmd.mark = false → c.cmd.cont = false → c.cmd.producer = false → c.marks = [] → c.grp.marks = [] →
    c.grp.failed = none → c.halt = .none → c.frozenFn = false → c.next = some (sp, a) →
    let t := s.memberDone n progress w
    (t.ctx n).phase = .ready ∧ (t.ctx n).pc = a ∧ (t.ctx n).space = sp ∧
    (t.ctx n).r.noprog = (if progress then 0 else if c.xfer.quiet then c.r.noprog else c.r.noprog + 1) ∧ (t.ctx n).r.residual = c.r.residual ∧
    (t.ctx n).r.state = c.r.state ∧ (∀ m, m ≠ n → t.ctx m = s.ctx m) ∧ t = { s with ctxs := t.ctxs })

/-- A SIEVE, SHRED, SLICE or FOLD member that may run, carries no SKIP, whose source can be read and whose units all succeed, completes: its
bytes follow the bytes of a unit begun earlier, the whole units among them are judged, shredded, sliced or placed, what remains of a
unit is kept for the next member, the member's mismatch is judged, and the chain's end writes what waits. With SKIP the source is read
and nothing is delivered. A FOLD that finds no fold cell waits in its place. (03_command_reference.md R94, 03_command_reference.md R99,
03_command_reference.md R100, 03_command_reference.md R102, 02_channel_programs.md R51, 05_contexts.md R170) -/
def Obligations.GatheringTransformsCompleteMembers : Prop :=
  (∀ (n : Nat) (w : Wr) (s s3 s4 : State) (bs : List Byte) (p res : Nat) (mis : Option Byte),
    let s1 := s.sieveBegins n
    let c := s1.ctx n
    s.mayRun n (isOp 8) = true → (s.ctx n).cmd.skip = false → s1.input n = (bs, none) →
    State.sieveLoop n c.cmd.format (c.cmd.cf 16 13) (s1.judgeOf c) (c.xfer.part ++ bs).length (c.xfer.part ++ bs) 0 s1 =
      (p, none, s3) →
    s3.unitsTaken n (c.xfer.part ++ bs) p bs.length = (s4, res, mis) →
    exec (.sieve n w) s = .next (s4.sieveEnd n res mis (decide (bs.length ≠ 0)) w)) ∧
  (∀ (n : Nat) (w : Wr) (s s3 s4 : State) (bs : List Byte) (i res : Nat) (mis : Option Byte),
    let c := s.ctx n
    let l := layoutOf c.xfer.desc
    let all := c.xfer.part ++ bs
    s.mayRun n (isOp 0xA) = true → c.cmd.skip = false → s.input n = (bs, none) →
    State.shredRows n false l c.xfer.ordinal 0 (chunks all.length l.rowLen all) s = (i, none, s3) →
    (s3.setOrdinal n i).unitsTaken n all ((i - c.xfer.ordinal) * l.rowLen) bs.length = (s4, res, mis) →
    exec (.shred n w) s = .next (s4.endMember n res mis (decide (bs.length ≠ 0)) w)) ∧
  (∀ (n : Nat) (w : Wr) (s s3 s4 s5 : State) (bs : List Byte) (i res : Nat) (mis : Option Byte),
    let c := s.ctx n
    let z := c.cmd.width
    let all := c.xfer.part ++ bs
    let p := (i - c.xfer.ordinal) * z
    s.mayRun n (isOp 0xC) = true → c.cmd.skip = false → s.input n = (bs, none) →
    State.sliceInts n false c.xfer.ordinal 0 (chunks all.length z all) s = (i, none, s3) → i < 8 * c.cmd.stride →
    (if i % 8 = 0 ∨ i = c.xfer.ordinal then (s3.setOrdinal n i, none)
     else State.putPlanes n false (i / 8) 0 ((s3.setOrdinal n i).ctx n).xfer.planes (s3.setOrdinal n i)) = (s4, (none : Option AccFail)) →
    s4.unitsTaken n all p bs.length = (s5, res, mis) →
    exec (.slice n w) s = .next (s5.endMember n res mis (decide (bs.length ≠ 0)) w)) ∧
  (∀ (n : Nat) (w : Wr) (s s3 s4 : State) (bs : List Byte) (p res : Nat) (mis : Option Byte),
    let s1 := (s.takeCell n).sieveBegins n
    let all := (s1.ctx n).xfer.part ++ bs
    s.mayRun n (isOp 0xE) = true → s.cellFree n = true → (s.ctx n).cmd.skip = false → s1.input n = (bs, none) →
    State.foldLoop n (all.length + 1) all 0 s1 = (p, none, s3) → s3.unitsTaken n all p bs.length = (s4, res, mis) →
    exec (.fold n w) s = .next (s4.foldEnd n res mis (decide (bs.length ≠ 0)) w)) ∧
  (∀ (n : Nat) (w : Wr) (s : State), (s.ctx n).cmd.skip = true →
    (s.mayRun n (isOp 8) = true → exec (.sieve n w) s = .next (s.skipGathered n w fun s k mis prog => s.sieveEnd n k mis prog w)) ∧
    (s.mayRun n (isOp 0xA) = true → exec (.shred n w) s = .next (s.skipGathered n w fun s k mis prog => s.endMember n k mis prog w)) ∧
    (s.mayRun n (isOp 0xC) = true → exec (.slice n w) s = .next (s.skipGathered n w fun s k mis prog => s.endMember n k mis prog w)) ∧
    (s.mayRun n (isOp 0xE) = true → s.cellFree n = true →
      exec (.fold n w) s = .next ((s.takeCell n).skipGathered n w fun s k mis prog => s.foldEnd n k mis prog w))) ∧
  (∀ (n : Nat) (w : Wr) (s : State), s.mayRun n (isOp 0xE) = true → s.cellFree n = false →
    exec (.fold n w) s = .next (s.modCtx n fun c => { c with placed := true }))

/-- A WEAVE or an UNSLICE that may run and all of whose rows or integers can be formed and delivered completes with RESIDUAL 0. The arrival
of a map entry decides the next run of a SIEVE-MAP from that entry and changes nothing else. A SIEVE-MAP all of whose runs are decided,
and of which each run that is not yet done passes, completes with the end of its map: what waits is written, then the report header.
(03_command_reference.md R98, 03_command_reference.md R99, 03_command_reference.md R100, 04_sieve_and_transforms.md R135,
04_sieve_and_transforms.md R138) -/
def Obligations.CountedTransformsComplete : Prop :=
  (∀ (n : Nat) (w : Wr) (s t : State) (i : Nat), let c := s.ctx n
    let l := layoutOf c.xfer.desc
    s.mayRun n (isOp 0xB) = true →
    State.weaveRows n false l c.xfer.off c.left s = (i, none, t) →
    exec (.weave n w) s = .next (t.endMember n 0 none (decide ((t.ctx n).cmd.cnt ≠ 0)) w)) ∧
  (∀ (n : Nat) (w : Wr) (s t : State) (i : Nat), let c := s.ctx n
    s.mayRun n (isOp 0xD) = true →
    State.unsliceInts n false c.xfer.off c.left s = (i, none, t) →
    exec (.unslice n w) s = .next (t.endMember n 0 none (decide ((t.ctx n).cmd.cnt ≠ 0)) w)) ∧
  (∀ (n : Nat) (s : State) (e : List Byte), let c := s.ctx n
    let x := c.xfer
    s.mayRun n (isOp 9) = true → x.runs.length < c.runCount → x.mapFail = none →
    s.readRange c.me (field x.desc 0 8 % 4) (x.entryAddr x.runs.length) x.entrySize = (e, none) →
    Completes (.mapEntryReadComplete n) s fun t =>
      t.ctx n = { c with xfer := { x with runs := x.runs ++ [⟨e, entryNoSkip e || (termsOf x.desc).all (termPossible e)⟩] }, fails := [] } ∧
      (∀ m, m ≠ n → t.ctx m = s.ctx m) ∧ t = { s with ctxs := t.ctxs }) ∧
  (∀ (n : Nat) (w : Wr) (s : State) (st : Nat → State), let c := s.ctx n
    let i0 := c.xfer.off / c.xfer.runSize
    s.mayRun n (isOp 9) = true → c.runCount ≤ c.xfer.runs.length → i0 ≤ c.xfer.runs.length →
    st i0 = (if c.cmd.skip then s else s.sieveBegins n) →
    (∀ i d, i0 ≤ i → c.xfer.runs[i]? = some d → (st i).mapRun n i d (s.judgeOf c) = .done (st (i + 1))) →
    ((st c.xfer.runs.length).ctx n).xfer.mapFail = none →
    exec (.sieveMap n w) s = .next ((st c.xfer.runs.length).mapEnd n 0 none w))

/-- An NVM command that may run, whose handle names a namespace of a controller that serves, completes its submission. FLUSH submits one
command, of opcode 0, for the namespace, with a fresh command identifier, and its context waits for the completion; nothing but the
controller's next identifier, the context and the free values changes. READ, WRITE, WRITE with forced unit access, DEALLOCATE and PASS
submit their pieces and wait for them; pieces are cut so that each holds at most the controller's transfer limit.
(03_command_reference.md R107, 03_command_reference.md R108, 03_command_reference.md R109, 12_far_memory_devices.md R367) -/
def Obligations.NvmCommandsSubmit : Prop :=
  (∀ (n : Nat) (w : Wr) (s : State) (h : NvmHandle) (x : NvmeCtrl), let c := s.ctx n
    s.nvm (c.cmd.cf 0 16) = some h → s.ctrlReady h.ctrl = true → s.ctrl h.ctrl = some x → s.mayRun n (isNvm 0x19 2) = true →
    Completes (.nvmFlush n w) s fun t =>
      let cid := s.freeCid h.ctrl x
      t.out = s.out ++ [.nvmeSubmit h.ctrl cid (sqeBytes 0 cid h.nsid (0, 0) 0 0 0) []] ∧
      t.ctx n = { c with phase := .nvm, pieces := c.pieces ++ [{ ctrl := h.ctrl, cid := cid, first := 0, blocks := 0, bytes := 0, issued := s.time, limit := s.farTimeout }] } ∧
      t.ctrl h.ctrl = some { x with nextCid := (cid + 1) % 65536 } ∧
      (∀ m, m ≠ n → t.ctx m = s.ctx m) ∧ (∀ k, k ≠ h.ctrl → t.ctrl k = s.ctrl k) ∧
      t = { s with ctxs := t.ctxs, ctrls := t.ctrls, out := t.out, free := t.free }) ∧
  (∀ (n : Nat) (w : Wr) (s : State) (h : NvmHandle), let c := s.ctx n
    s.nvm (c.cmd.cf 0 16) = some h → s.ctrlReady h.ctrl = true →
    (s.mayRun n (isNvm 0x18 0) = true → exec (.nvmRead n w) s = .next
      (((s.nvmPieces h c.cmd.cnt).foldl (fun s p => s.issuePiece n h p.1 p.2 (p.2 * h.blockSize)
        (ioSqe 2 h.nsid (c.cmd.ca + p.1) p.2 false) []) s).nvmWaits n w)) ∧
    (s.mayRun n (isNvm 0x19 0) = true → exec (.nvmWrite n w) s = .next (s.nvmWriteAct n h false w)) ∧
    (s.mayRun n (isNvm 0x19 1) = true → exec (.nvmWriteFua n w) s = .next (s.nvmWriteAct n h true w)) ∧
    (s.mayRun n (isNvm 0x19 3) = true → exec (.nvmDeallocate n w) s = .next
      (((s.nvmPieces h c.cmd.cnt).foldl (fun s p => s.issuePiece n h p.1 p.2 0 (fun cid prp => sqeBytes 9 cid h.nsid prp 0 4 0)
        (zeros 4 ++ leBytes 4 p.2 ++ leBytes 8 (c.cmd.cb + p.1))) s).nvmWaits n w)) ∧
    (∀ bs, s.mayRun n (isOp 0x1A) = true →
      (if byteAt c.xfer.desc 0 % 4 = 1 then s.readRange c.me c.cmd.spaceB c.cmd.cb c.cmd.cnt else ([], none)) = (bs, none) →
      exec (.nvmPass n w) s = .next ((s.issuePiece n h 0 0 c.cmd.cnt (passSqe c.xfer.desc h.nsid) bs).nvmWaits n w))) ∧
  (∀ (h : NvmHandle) (s : State) (x : NvmeCtrl) (blocks : Nat), s.ctrl h.ctrl = some x →
    ((s.nvmPieces h blocks).map Prod.snd).sum = blocks ∧ ∀ p ∈ s.nvmPieces h blocks, p.2 ≤ pieceBlocks x.mdts h.blockSize)

/-- A JUMP that may run whose condition holds goes to A in the space of A; one whose condition does not hold changes nothing of where
control goes. CALL pushes the address of the command after it, with its space, and goes to A. RETURN goes to the address and space on
top of the stack and takes them off. Each discards the commands read ahead where control leaves. What a CALL pushes on a stack of at
most three entries a RETURN finds on top, and the entries below keep their addresses. Each then completes as a command without progress.
A JUMP of MODIFIER 0 always jumps; 1 and 2 test residual zero and its negation, 3 and 4 no survivors, 5 and 6 CMP_EQ, 7 and 8 the flag
of the event channel in C, 9 and 10 DIGEST_MATCH. (02_channel_programs.md R57, 02_channel_programs.md R58, 03_command_reference.md R111,
03_command_reference.md R112, 03_command_reference.md Table 03.19, 02_channel_programs.md Table 02.6) -/
def Obligations.JumpsCallsAndReturns : Prop :=
  (∀ (n : Nat) (w : Wr) (s : State),
    (s.mayRun n (isOp 0x20) = true → s.condition n = true →
      exec (.jump n w) s = .next ((s.modCtx n fun c => { c with
        next := some (BitVec.ofNat 2 c.cmd.spaceA, c.cmd.a), readAhead := [] }).memberDone n false w)) ∧
    (s.mayRun n (isOp 0x20) = true → s.condition n = false → exec (.jump n w) s = .next (s.memberDone n false w)) ∧
    (s.mayRun n (isOp 0x21) = true → exec (.call n w) s = .next ((s.modCtx n fun c =>
      { c with r := c.r.push c.space (c.pc + 32), next := some (BitVec.ofNat 2 c.cmd.spaceA, c.cmd.a), readAhead := [] }).memberDone n
        false w)) ∧
    (s.mayRun n (isOp 0x22) = true → exec (.ret n w) s = .next ((s.modCtx n fun x =>
      { x with next := some x.r.top, readAhead := [], r := { x.r with callDepth := x.r.callDepth - 1 } }).memberDone n false w))) ∧
  (∀ (r : CtxRec) (sp : BitVec 2) (a : W64), r.callDepth.toNat < 4 →
    (r.push sp a).top = (sp, a) ∧ (r.push sp a).callDepth.toNat = r.callDepth.toNat + 1 ∧
    (0 < r.callDepth.toNat → (r.push sp a).stack0 = r.stack0) ∧ (1 < r.callDepth.toNat → (r.push sp a).stack1 = r.stack1) ∧
    (2 < r.callDepth.toNat → (r.push sp a).stack2 = r.stack2)) ∧
  (∀ (s : State) (n : Nat), let c := s.ctx n
    (c.cmd.mod = 0 → s.condition n = true) ∧ (c.cmd.mod = 1 → s.condition n = c.resZero) ∧ (c.cmd.mod = 2 → s.condition n = !c.resZero) ∧
    (c.cmd.mod = 3 → s.condition n = c.survZero) ∧ (c.cmd.mod = 4 → s.condition n = !c.survZero) ∧
    (c.cmd.mod = 5 → s.condition n = c.r.cmpEq) ∧ (c.cmd.mod = 6 → s.condition n = !c.r.cmpEq) ∧
    (c.cmd.mod = 7 → s.condition n = (s.ech (c.cmd.cf 0 12)).flag) ∧ (c.cmd.mod = 8 → s.condition n = !(s.ech (c.cmd.cf 0 12)).flag) ∧
    (c.cmd.mod = 9 → s.condition n = c.r.digestMatch) ∧ (c.cmd.mod = 10 → s.condition n = !c.r.digestMatch))

/-- A WAIT on an event whose flag is set completes at once, and with CLEAR takes the flag; a WAIT for a time of 0 completes at once; any
other WAIT begins to wait, and its timeout ends it with progress once its microseconds have passed, unless its flag becomes set in that
same moment. SIGNAL fires its channel, FENCE discards read-ahead copies of HOST commands, and POST posts its record, each at once when
no write of the context is on its way and otherwise after their read-back. NOP completes. EPOCH sets the context's tag to the low 32
bits of C and completes. A WAIT that begins in a context that no HALT or freeze waits for leaves the context waiting, with its channel,
its CLEAR choice and a deadline of COUNT microseconds; in the line of its channel it stands once, with every wait that stood there.
(03_command_reference.md R113, 03_command_reference.md R114, 03_command_reference.md R115, 03_command_reference.md R116,
03_command_reference.md R117, 03_command_reference.md R118, 03_command_reference.md R121) -/
def Obligations.WaitsAndSignals : Prop :=
  (∀ (n : Nat) (w : Wr) (s : State), let c := s.ctx n
    let ch := c.cmd.cf 0 12
    (s.mayRun n (isOp 0x24) = true →
      (bit c.cmd.mod 0 = true → (s.ech ch).flag = true → exec (.wait n w) s = .next
        ((if bit c.cmd.mod 2 then s.modEch ch fun e => { e with flag := false } else s).memberDone n false w)) ∧
      ((bit c.cmd.mod 0 = false ∨ (s.ech ch).flag = false) → bit c.cmd.mod 1 = true → c.cmd.cnt = 0 →
        exec (.wait n w) s = .next (s.memberDone n false w)) ∧
      ((bit c.cmd.mod 0 = false ∨ (s.ech ch).flag = false) → (bit c.cmd.mod 1 = false ∨ c.cmd.cnt ≠ 0) →
        exec (.wait n w) s = .next (s.beginWait n w))) ∧
    (∀ x d t, s.up = true → c.phase = .waiting → c.wait = some x → x.deadline = some d → s.notBefore t = true → s.waitOver d t = true →
      ((∀ ch, x.chan = some ch → s.firesNext ch = false) → exec (.waitTimeout n t w) s = .next (((({ s.at_ t with
        waitOrder := s.waitOrder.filter fun p => decide (p.2 ≠ n) }).modCtx n fun c => { c with wait := none })).memberDone n true w)) ∧
      (∀ ch, x.chan = some ch → s.firesNext ch = true → exec (.waitTimeout n t w) s = .next (s.at_ t))) ∧
    (s.mayRun n (isOp 0x25) = true → exec (.signal n w) s = .next
      (if c.dirty = [] then (s.fire ch c.r.supervisor (some n)).modCtx n fun c => { c with phase := .signal, goal := .none }
       else s.modCtx n fun c => { c with phase := .arrive, goal := .complete })) ∧
    (s.mayRun n (isOp 0x28) = true → exec (.fence n w) s = .next
      (if c.dirty = [] then (s.modCtx n fun c => { c with readAhead := c.readAhead.filter fun p => decide (p.1 ≠ 0) }).memberDone n false w
       else s.modCtx n fun c => { c with phase := .arrive, goal := .complete })) ∧
    (s.mayRun n (isOp 0x26) = true → exec (.post n w) s = .next
      (if c.dirty = [] then s.postNow n w else s.modCtx n fun c => { c with phase := .arrive, goal := .post })) ∧
    (s.mayRun n (isOp 0x30) = true → exec (.nop n w) s = .next (s.memberDone n false w)) ∧
    (s.mayRun n (isOp 0x2A) = true → exec (.epoch n w) s = .next ((s.modCtx n fun c => { c with
      r := { c.r with epochTag := BitVec.ofNat 32 (c.cmd.cf 0 32) } }).memberDone n false w))) ∧
  (∀ (n : Nat) (w : Wr) (s : State), let c := s.ctx n
    let t := s.beginWait n w
    c.halt = .none → c.frozenFn = false →
    (t.ctx n).phase = .waiting ∧
    (t.ctx n).wait = some { chan := if bit c.cmd.mod 0 then some (c.cmd.cf 0 12) else none, clear := bit c.cmd.mod 2, began := s.time,
                            deadline := if bit c.cmd.mod 1 then some (s.time + c.cmd.cnt * 1000) else none } ∧
    (∀ m, m ≠ n → t.ctx m = s.ctx m) ∧ (∀ p ∈ s.waitOrder, p ∈ t.waitOrder) ∧
    (bit c.cmd.mod 0 = true → (c.cmd.cf 0 12, n) ∈ t.waitOrder ∧ t.waitOrder.length = s.waitOrder.length + 1) ∧
    (bit c.cmd.mod 0 = false → t.waitOrder = s.waitOrder) ∧ t = { s with ctxs := t.ctxs, waitOrder := t.waitOrder })

/-- A FINISH that may run while fewer than 1,024 asks are outstanding, outside a domain, takes the next ask number that is not outstanding
and waits, without a message, for every context and ring channel with FAR writes of its epoch or an earlier one. In a domain it sends
ASK with that number to every member and waits for the members present. When nothing is waited for and no configured member is absent,
the FINISH completes: the ask is no longer outstanding, and the current epoch becomes the epoch after its own when its own is the
current one or later, and stays otherwise. A configured member that is absent ends the program with MEMBER-LOST and its number instead.
(03_command_reference.md R119, 12_far_memory_devices.md R372, 12_far_memory_devices.md R373, 12_far_memory_devices.md Table 12.12) -/
def Obligations.FinishAsksAndCompletes : Prop :=
  (∀ (n : Nat) (w : Wr) (s : State) (k : Nat), let c := s.ctx n
    let e := BitVec.ofNat 32 (c.cmd.cf 0 32)
    let a := k % 65536
    s.mayRun n (isOp 0x29) = true → s.domain.asks.length < 1024 →
    firstFrom (fun k => (Table.get noneDef s.domain.asks (k % 65536)).isNone) s.domain.nextAsk 1025 = some k →
    Completes (.finish n w) s fun t =>
      (t.ctx n).phase = .finishing ∧ (t.ctx n).ask = some a ∧ (t.ctx n).snapshot = s.snapshot e ∧
      Table.get noneDef t.domain.asks a = some { epoch := e, waiting := if s.domain.joined then
        (s.domain.others.filter fun m => s.domain.present.getLsbD m).map fun m => (m, s.domainLimit) else [] } ∧
      (∀ b, b ≠ a → Table.get noneDef t.domain.asks b = Table.get noneDef s.domain.asks b) ∧
      t.domain.nextAsk = (a + 1) % 65536 ∧ t.domain.ec = s.domain.ec ∧ (∀ m, m ≠ n → t.ctx m = s.ctx m) ∧
      t.out = (if s.domain.joined then s.out ++
        [.domain { type := 2, sender := s.domain.member, dest := 0xFF, epoch := e, askId := a } s.domainLinks] else s.out) ∧
      t = { s with ctxs := t.ctxs, domain := t.domain, out := t.out }) ∧
  (∀ (n : Nat) (w : Wr) (s : State) (a : Nat) (x : Ask), let c := s.ctx n
    let d := { s.domain with asks := Table.erase s.domain.asks a }
    s.up = true → c.phase = .finishing → c.ask = some a → Table.get noneDef s.domain.asks a = some x → c.snapshot = [] → x.waiting = [] →
    (d.lost = none → exec (.finishComplete n w) s = .next
      ({ (({ s with domain := d }).modCtx n fun c => { c with ask := none, snapshot := [] }) with
        domain := { d with ec := if epochBefore x.epoch d.ec then x.epoch + 1 else d.ec } }.memberDone n false w)) ∧
    (∀ m, d.lost = some m → exec (.finishComplete n w) s = .next
      ((({ s with domain := d }).modCtx n fun c => { c with ask := none, snapshot := [] }).checkFail n deMemberLost (BitVec.ofNat 8 m) 0 none w)))

/-- FINISH names its epoch in bits 31 to 0 of C, its check refuses a command with a non-zero reserved bit in C, and a tag T counts as E or
earlier exactly when (E - T) mod 2^32 is less than 2^31. (R119) -/
def Obligations.EpochComparison : Prop :=
  (∀ e t : W32, epochBefore e t = true ↔ ((e.toNat : Int) - t.toNat) % 2 ^ 32 < 2 ^ 31) ∧
  (∀ c : Cmd, c.opn = 0x29 → c.reservedOk = true → c.cc < 2 ^ 32) ∧
  (∀ (n : Nat) (w : Wr) (s : State), s.mayRun n (isOp 0x29) = true → s.domain.asks.length < 1024 →
    (firstFrom (fun k => (Table.get noneDef s.domain.asks (k % 65536)).isNone) s.domain.nextAsk 1025).isSome = true →
    Completes (.finish n w) s fun t => ∃ a x, (t.ctx n).ask = some a ∧ Table.get noneDef t.domain.asks a = some x ∧
      x.epoch = (s.ctx n).cmd.c.setWidth 32)

/-- An admin entry that comes next and passes the shared checks completes with code 0. CREATE-QUEUE whose ring fields are in range, with a
queue index, a chip-wide id and poll budget left, creates the queue of the lowest free index from 1 with the lowest free id and returns
both. SET-QUEUE-INTERVAL with an allowed K sets it for a queue that exists when the budget allows. DESTROY-QUEUE removes a queue that
owes no completion. CREATE-STATUS-RING creates the ring of the lowest free index. DESTROY-STATUS-RING removes a ring that no queue is
bound to and nothing waits for. (07_admin_commands.md R221, 07_admin_commands.md R224, 07_admin_commands.md R225, 07_admin_commands.md
R226, 06_host_queues.md R203, 07_admin_commands.md Table 07.5) -/
def Obligations.AdminQueuesAndRings : Prop :=
  ∀ (fn slot : Nat) (w : Wr) (s : State) (t : Taken), let f := s.fn fn
    (s.adminReady fn slot t createQueueSpec → ∀ i id,
      let x : Queue := { base := t.param 0, logSize := t.pf 1 0 5, loc := decide (t.pf 1 5 1 = 1), pollK := t.pf 1 6 5,
                         vec := if t.pf 1 27 1 = 1 then some (t.pf 1 16 11) else none,
                         ring := if t.pf 1 32 1 = 1 then some (t.pf 1 28 4) else none, chipId := some id, stage := .due s.time }
      admChecks (s.ringChecks fn t 16 true) = none → countP (fun q => q.2.isSome) f.queues < 4096 → s.chipIds.length < 65536 →
      s.pollCharge + x.charge ≤ pollBudget → firstFrom (fun i => (f.queue i).isNone) 1 4095 = some i →
      firstFrom (fun k => !s.chipIds.contains k) 0 65536 = some id →
      exec (.createQueue fn slot w) s = .next ((s.setFn fn (f.setQueue i (some x))).adminEnd fn t 0 0 [id * 65536 + i] w)) ∧
    (s.adminReady fn slot t setQueueIntervalSpec → ∀ x, let i := t.pf 0 0 12
      let k := t.pf 1 0 5
      k ≤ 24 → (i ≠ 0 ∨ 10 ≤ k) → f.queue i = some x →
      (x.pollK ≤ k ∨ s.pollCharge + ({ x with pollK := k } : Queue).charge - x.charge ≤ pollBudget) →
      exec (.setQueueInterval fn slot w) s = .next ((s.setFn fn (f.setQueue i (some { x with pollK := k }))).adminEnd fn t 0 0 [] w)) ∧
    (s.adminReady fn slot t destroyQueueSpec → let i := t.pf 0 0 12
      i ≠ 0 → (f.queue i).isSome = true → f.owes i = false →
      exec (.destroyQueue fn slot w) s = .next ((s.setFn fn (f.setQueue i none)).adminEnd fn t 0 0 [] w)) ∧
    (s.adminReady fn slot t createStatusRingSpec → ∀ i,
      let x : StatusRing := { base := t.param 0, logSize := t.pf 1 0 5, loc := decide (t.pf 1 5 1 = 1),
                              vec := if t.pf 1 27 1 = 1 then some (t.pf 1 16 11) else none }
      admChecks (s.ringChecks fn t 32 false) = none → countP (fun r => r.2.isSome) f.rings < 16 →
      s.fns.foldl (fun a p => a + countP (fun r => r.2.isSome) p.2.rings) 0 < 4096 →
      firstFrom (fun i => (f.ring i).isNone) 0 16 = some i →
      exec (.createStatusRing fn slot w) s = .next ((s.setFn fn (f.setRing i (some x))).adminEnd fn t 0 0 [i] w)) ∧
    (s.adminReady fn slot t destroyStatusRingSpec → let i := t.pf 0 0 4
      (f.ring i).isSome = true → (f.queues.any fun q => match q.2 with | none => false | some x => decide (x.ring = some i)) = false →
      s.ringAwaited fn i = false →
      exec (.destroyStatusRing fn slot w) s = .next ((s.setFn fn (f.setRing i none)).adminEnd fn t 0 0 [] w))

/-- An admin entry that comes next and passes the shared checks completes with code 0. ALLOT-CONTEXTS of FREE contexts gives each to the
target, IDLE, with budget 65,536 and no keys, at its home. RELEASE-CONTEXTS of the target's IDLE contexts frees each. PIN-CONTEXT of an
IDLE context to a slot that is filled moves its home there and pins it; UNPIN-CONTEXT unpins. SET-BUDGET of 1,024 to 16,777,216 sets the
budget. SET-KEYS of an IDLE context sets its keys. QUERY-CONTEXT returns the record's words and changes nothing. After a range is
allotted each of its contexts is IDLE, owned by the target, no supervisor context, not pinned, with budget 65,536, keys, residual,
survivors and stale count 0, and keeps its bib; contexts outside the range are unchanged. (05_contexts.md R163, 05_contexts.md R167,
07_admin_commands.md R227, 07_admin_commands.md R228, 07_admin_commands.md Table 07.6, 05_contexts.md R165) -/
def Obligations.AdminContexts : Prop :=
  (∀ (fn slot : Nat) (w : Wr) (s : State) (t : Taken), let n := t.pf 0 0 20
    let count := t.pf 0 20 21
    (s.adminReady fn slot t allotContextsSpec → n ≤ lastCtx → 1 ≤ count → n + count ≤ lastCtx + 1 →
      s.rangeAll n count true (fun c => decide (c.r.state = stFree)) = true →
      exec (.allotContexts fn slot w) s = .next (((List.range count).foldl (fun s i =>
        s.modCtx (n + i) fun c => { c with r := c.r.allotted t.target (s.homeFor (n + i)) }) s).adminEnd fn t 0 0 [] w)) ∧
    (s.adminReady fn slot t releaseContextsSpec → n ≤ lastCtx → 1 ≤ count → n + count ≤ lastCtx + 1 →
      s.rangeAll n count false (fun c => decide (c.r.state = stIdle) && decide (c.r.ownerFn.toNat = t.target)) = true →
      exec (.releaseContexts fn slot w) s = .next (((List.range count).foldl (fun s i =>
        s.modCtx (n + i) fun c => { c with r := { c.r with state := stFree } }) s).adminEnd fn t 0 0 [] w)) ∧
    (s.adminReady fn slot t pinContextSpec → (s.blockOf (t.pf 0 32 3) (t.pf 0 36 3)).isSome = true → s.allottedTo t.target n = true →
      (s.ctx n).r.state = stIdle →
      exec (.pinContext fn slot w) s = .next (((s.evict n).modCtx n fun c =>
        { c with r := { c.r with region := BitVec.ofNat 3 (t.pf 0 32 3), slot := BitVec.ofNat 3 (t.pf 0 36 3), pinned := true } }).adminEnd
        fn t 0 0 [] w)) ∧
    (s.adminReady fn slot t unpinContextSpec → s.allottedTo t.target n = true →
      exec (.unpinContext fn slot w) s = .next ((s.modCtx n fun c => { c with r := { c.r with pinned := false } }).adminEnd fn t 0 0 [] w)) ∧
    (s.adminReady fn slot t setBudgetSpec → 1024 ≤ t.pf 1 0 25 → t.pf 1 0 25 ≤ 16777216 → s.allottedTo t.target n = true →
      exec (.setBudget fn slot w) s = .next ((s.modCtx n fun c =>
        { c with r := { c.r with budget := BitVec.ofNat 32 (t.pf 1 0 25) } }).adminEnd fn t 0 0 [] w)) ∧
    (s.adminReady fn slot t setKeysSpec → s.allottedTo t.target n = true → (s.ctx n).r.state = stIdle →
      exec (.setKeys fn slot w) s = .next ((s.modCtx n fun c =>
        { c with r := { c.r with keys := BitVec.ofNat 64 (t.param 1) } }).adminEnd fn t 0 0 [] w)) ∧
    (s.adminReady fn slot t queryContextSpec → s.allottedTo t.target n = true →
      exec (.queryContext fn slot w) s = .next (s.adminEnd fn t 0 0
        ((s.ctx n).queryWords (decide (fn = 0) && (s.fn t.target).tdiHeld)) w))) ∧
  (∀ (s : State) (fn n count : Nat), fn < 256 →
    let t := (List.range count).foldl (fun s i => s.modCtx (n + i) fun c => { c with r := c.r.allotted fn (s.homeFor (n + i)) }) s
    (∀ i, i < count → let r := (t.ctx (n + i)).r
      r.state = stIdle ∧ r.ownerFn.toNat = fn ∧ r.supervisor = false ∧ r.pinned = false ∧ r.budget = 65536 ∧ r.keys = 0 ∧ r.residual = 0 ∧
      r.survivors = 0 ∧ r.stale = 0 ∧ r.bib = (s.ctx (n + i)).r.bib) ∧
    (∀ m, (m < n ∨ n + count ≤ m) → t.ctx m = s.ctx m) ∧ t = { s with ctxs := t.ctxs })

/-- An admin entry that comes next and passes the shared checks completes with code 0. LOAD-SIEVE of an image that can be read and that the
verifier accepts takes the lowest free handle for the function, with the image and the next serial, and returns it. UNLOAD-SIEVE of a
loaded handle of the function marks it as being unloaded, and its completion, once no command uses the handle, frees it. SET-EXTENT of a
free range of a function without local rings and programs sets the extent. WRITE-FTT of entries that can be read and are allowed writes
them and drops cached translations, and completes when no earlier far request of the function is outstanding. SET-INTERLEAVE defines or
removes a set that nothing maps, and SET-FAR-TIMEOUT sets the timeout. (07_admin_commands.md R229, 07_admin_commands.md R230,
07_admin_commands.md R231, 12_far_memory_devices.md R363, 09_yaquelux_units.md R300) -/
def Obligations.AdminSievesAndFarMemory : Prop :=
  ∀ (fn slot : Nat) (r : AdminRead) (w : Wr) (s : State) (t : Taken),
    (s.adminReady fn slot t loadSieveSpec → ∀ bs h, let space := t.pf 0 0 2
      let a := t.param 0 / 64 * 64
      let len := t.pf 1 0 15
      space ≤ 1 → 8 ≤ len → len ≤ 16384 → len % 8 = 0 → s.sourceOk fn space a len = true → s.freeHandle = some h →
      s.adminSource fn space a len r = .ok bs → verify (wordsOfBytes bs) = none →
      exec (.loadSieve fn slot r w) s = .next (((s.sawHost fn space a bs).setSieve h (some { owner := fn, state := 1
                                                                                             serial := (((s.sieve h).map SieveHandle.serial).getD 0 + 1) % 2 ^ 32
                                                                                             words := wordsOfBytes bs })).adminEnd fn t 0 0 [h] w)) ∧
    (s.adminReady fn slot t unloadSieveSpec → ∀ x, s.sieve (t.pf 0 0 16) = some x → x.owner = fn → x.state = 1 →
      exec (.unloadSieve fn slot w) s = .next ((s.setSieve (t.pf 0 0 16) (some { x with state := 2 })).act fn t)) ∧
    (s.adminActing fn slot t 0x0302 → s.sieveUsers (t.pf 0 0 16) = 0 →
      exec (.unloadSieveComplete fn slot w) s = .next
        ((s.setSieve (t.pf 0 0 16) ((s.sieve (t.pf 0 0 16)).map SieveHandle.free)).adminEnd fn t 0 0 [] w)) ∧
    (s.adminReady fn slot t setExtentSpec → t.param 1 ≤ tenantSize → t.param 0 + t.param 1 ≤ tenantSize →
      s.extentClash t.target (t.param 0) (t.param 1) = false → s.extentBusy t.target = false →
      exec (.setExtent fn slot w) s = .next ((s.modFn t.target fun f =>
        { f with extBase := t.param 0, extLen := t.param 1 }).adminEnd fn t 0 0 [] w)) ∧
    (s.adminReady fn slot t writeFttSpec → ∀ bs, let big := decide (t.pf 0 0 1 = 1)
      let size := if big then 0x40000000 else 0x200000
      let fva := t.param 0 / 0x200000 * 0x200000
      let k := t.pf 1 0 17
      let space := t.pf 2 0 2
      let a := t.param 2 / 16 * 16
      let es := entryWords bs k
      let s1 := (s.sawHost fn space a bs).modFn t.target (Fn.putFtts big (fva / size) (es.map Prod.fst))
      fva % size = 0 → 1 ≤ k → k ≤ 65536 → fva + k * size ≤ 2 ^ 50 → space ≤ 1 → s.sourceOk fn space a (16 * k) = true →
      s.adminSource fn space a (16 * k) r = .ok bs → (∀ e ∈ es, fttReserved e.1 e.2 = true ∧ s.fttValue big e.1 = true) → s1.leaves ≤ 7680 →
      let s2 := (s1.dropFtc t.target big (fva / size) k).dcSettle w
      exec (.writeFtt fn slot r w) s = .next (if s.farOutstanding t.target then s2.act fn t else s2.adminEnd fn t 0 0 [] w)) ∧
    ((s.fn 0).adminFront = some t → t.stage = .acting → t.acode = 0x0402 → s.farOutstanding t.target = false →
      s.adminDue = s.adminEnd 0 t 0 0 [] {}) ∧
    (s.adminReady fn slot t setInterleaveSpec → let k := t.pf 0 0 4
      let ways := t.pf 0 4 5
      let size := t.param 2
      (match s.iset k with | none => false | some x => s.rangeMapped x.base x.size) = false →
      (t.pf 0 16 1 = 0 → exec (.setInterleave fn slot w) s = .next
        (({ s with isets := Table.set noneDef s.isets k none } : State).adminEnd fn t 0 0 [] w)) ∧
      (t.pf 0 16 1 = 1 → ways ∈ [1, 2, 4, 8, 12, 16] → 8 ≤ t.pf 0 9 4 → t.pf 0 9 4 ≤ 14 → t.param 1 % 0x10000000 = 0 → size ≠ 0 →
        size % (ways * 0x10000000) = 0 → t.param 1 + size ≤ 2 ^ 50 → s.setClash k (t.param 1) size = false →
        (∀ j, j < 16 → s.wayOk t ways j = true) →
        exec (.setInterleave fn slot w) s = .next (({ s with isets := Table.set noneDef s.isets k (some
          { base := t.param 1, size := size, ways := ways, logGran := t.pf 0 9 4, links := (List.range ways).map t.wayLink }) } : State).adminEnd
          fn t 0 0 [] w))) ∧
    (s.adminReady fn slot t setFarTimeoutSpec → 50 ≤ t.pf 0 0 17 → t.pf 0 0 17 ≤ 64000 →
      exec (.setFarTimeout fn slot w) s = .next (({ s with farTimeout := t.pf 0 0 17 } : State).adminEnd fn t 0 0 [] w))

/-- An admin entry that comes next and passes the shared checks completes with code 0. GRANT-EVENTS gives channels that no supervisor owns
and that FN[0] or the target owns to the target, REVOKE-EVENTS takes channels that the target owns and that are not in use back to
FN[0]; a change of owner clears the channel's flag and counters. BIND-EVENT writes the lowest free slot of a channel of the function
when the destination is another channel of it or a vector of it and is not bound already; UNBIND-EVENT clears the slot that holds the
binding. SET-MODERATION sets a vector's hold-off and threshold, which act at once. SET-VF-VECTORS sets a vector count while no virtual
function is enabled. RESET-VF acts as an FLR of the virtual function and completes when the function is no longer RESETTING.
(07_admin_commands.md R232, 11_events_interrupts.md R333, 11_events_interrupts.md R338, 06_host_queues.md R183, 06_host_queues.md R213) -/
def Obligations.AdminEventsAndVectors : Prop :=
  (∀ (fn slot : Nat) (w : Wr) (s : State) (t : Taken), let k := t.pf 0 12 13
    let c := t.pf 0 0 12
    let dest := t.pf 1 0 16
    let v := decide (t.pf 1 16 2 = 1)
    (s.adminReady fn slot t grantEventsSpec → 1 ≤ k → k ≤ 4096 → c + k ≤ 4096 →
      (∀ x ∈ t.chans, (s.ech x).supervisor = false ∧ ((s.ech x).ownerFn = 0 ∨ (s.ech x).ownerFn = t.target)) →
      exec (.grantEvents fn slot w) s = .next
        ((t.chans.foldl (fun s c => s.modEch c fun e => e.ownedBy t.target false false) s).adminEnd fn t 0 0 [] w)) ∧
    (s.adminReady fn slot t revokeEventsSpec → 1 ≤ k → k ≤ 4096 → c + k ≤ 4096 →
      (∀ x ∈ t.chans, (s.ech x).supervisor = false ∧ (s.ech x).ownerFn = t.target ∧ s.chanBusy x = false) →
      exec (.revokeEvents fn slot w) s = .next
        ((t.chans.foldl (fun s c => s.modEch c fun e => e.ownedBy 0 false false) s).adminEnd fn t 0 0 [] w)) ∧
    (s.adminReady fn slot t bindEventSpec → ∀ i, s.ownsChan fn c = true →
      (if v then dest < (s.fn fn).vecCount else dest ≤ 4095 ∧ s.ownsChan fn dest = true ∧ dest ≠ c) → s.bindSlot fn c v dest = none →
      firstFrom (fun i => !(s.bind c i).valid) 0 4 = some i →
      exec (.bindEvent fn slot w) s = .next ((s.setBind c i
        { valid := true, fn := if v then fn else 0, toVector := v, dest := dest, maker := some fn }).adminEnd fn t 0 0 [] w)) ∧
    (s.adminReady fn slot t unbindEventSpec → ∀ i, s.ownsChan fn c = true →
      (if v then dest < 2048 else dest ≤ 4095 ∧ s.ownsChan fn dest = true) → s.bindSlot fn c v dest = some i →
      exec (.unbindEvent fn slot w) s = .next ((s.setBind c i {}).adminEnd fn t 0 0 [] w)) ∧
    (s.adminReady fn slot t setModerationSpec → t.pf 0 0 11 < (s.fn fn).vecCount →
      exec (.setModeration fn slot w) s = .next ((s.setMod fn (t.pf 0 0 11) (t.pf 1 0 16) (t.pf 1 16 16)).adminEnd fn t 0 0 [] w)) ∧
    (s.adminReady fn slot t setVfVectorsSpec → 1 ≤ t.pf 0 0 12 → t.pf 0 0 12 ≤ 2048 → s.vfEnable = false →
      (List.range 256).foldl (fun a k => a + (if k = t.target then t.pf 0 0 12 else (s.fn k).vecCount)) 0 ≤ 32768 →
      exec (.setVfVectors fn slot w) s = .next ((s.modFn t.target fun f => { f with vecCount := t.pf 0 0 12 }).adminEnd fn t 0 0 [] w)) ∧
    (s.adminReady fn slot t resetVfSpec → exec (.resetVf fn slot w) s = .next ((s.beginFlr t.target).act fn t)) ∧
    ((s.fn 0).adminFront = some t → t.stage = .acting → t.acode = 0x0507 → (s.fn t.target).state ≠ 2 →
      s.adminDue = s.adminEnd 0 t 0 0 [] {})) ∧
  (∀ (e : Ech) (f : Nat) (attr sup : Bool), let x := e.ownedBy f attr sup
    x.ownerFn = f ∧ x.attrS = attr ∧ x.supervisor = sup ∧
    ((e.ownerFn ≠ f ∨ e.supervisor ≠ sup) → x.flag = false ∧ x.busy = 0 ∧ x.loop = 0 ∧ x.coal = 0 ∧ x.merged = 0) ∧
    (e.ownerFn = f → e.supervisor = sup → x = { e with attrS := attr }))

/-- An admin entry that comes next and passes the shared checks completes with code 0. ATTACH-NAMESPACE of a good namespace of a controller
that serves takes the lowest free handle for the target and returns it with the blocks and their size. DETACH-NAMESPACE marks a handle
of the target, and its completion, once no command uses the handle, frees it. SET-NVM-POLICY sets the target's 256-bit mask. SET-DOMAIN
joins with a member number among the members, or leaves, while no FINISH waits. IDENTIFY writes the structure, GET-HEALTH returns health
and counts, FW-STAGE writes a chunk of the other bank and FW-COMMIT of an authentic whole image makes that bank the one that starts
next. (07_admin_commands.md R233, 07_admin_commands.md R234, 07_admin_commands.md R235, 07_admin_commands.md R236, 07_admin_commands.md
R237) -/
def Obligations.AdminDevicesDomainFirmware : Prop :=
  ∀ (fn slot : Nat) (w : Wr) (s : State) (t : Taken),
    (s.adminReady fn slot t attachNamespaceSpec → ∀ k h blocks size, t.pf 0 16 5 ≤ 23 → s.ctrlAt (t.pf 0 16 5) (t.pf 0 0 16) = some k →
      s.ctrlReady k = true → 512 ≤ size → size ≤ 65536 → firstFrom (fun h => (s.nvm h).isNone) 0 65536 = some h →
      exec (.attachNamespace fn slot (.ok blocks size 0 true) w) s = .next ((s.setNvm h (some
        { holder := t.target, ctrl := k, nsid := t.pf 1 0 32, blocks := blocks, blockSize := size })).adminEnd fn t 0 0 [h, blocks, size] w)) ∧
    (s.adminReady fn slot t detachNamespaceSpec → ∀ x, s.nvm (t.pf 0 0 16) = some x → x.holder = t.target → x.detaching = false →
      exec (.detachNamespace fn slot w) s = .next ((s.setNvm (t.pf 0 0 16) (some { x with detaching := true })).act fn t)) ∧
    (s.adminActing fn slot t 0x0602 → (s.ctxs.any fun p => p.2.nvHandles.contains (t.pf 0 0 16)) = false →
      exec (.detachNamespaceComplete fn slot w) s = .next ((s.setNvm (t.pf 0 0 16) none).adminEnd fn t 0 0 [] w)) ∧
    (s.adminReady fn slot t setNvmPolicySpec → exec (.setNvmPolicy fn slot w) s = .next ((s.modFn t.target fun f =>
      { f with nvmPolicy := BitVec.ofNat 256 (field t.bytes 8 32) }).adminEnd fn t 0 0 [] w)) ∧
    (s.adminReady fn slot t setDomainSpec → (s.ctxs.any fun p => decide (p.2.phase = .finishing)) = false →
      let m := t.pf 0 0 5
      let us := t.pf 2 0 20
      let lim := if us = 0 then 5000 else us
      let members := BitVec.ofNat 32 (t.param 1)
      (t.pf 0 8 1 = 1 → members.getLsbD m = true → (us = 0 ∨ (100 ≤ us ∧ us ≤ 1000000)) →
        exec (.setDomain fn slot w) s = .next ((if s.domain.joined = true ∧ s.domain.member = m ∧ s.domain.members = members
          then s.modDomain fun d => { d with timeout := lim }
          else ((s.sayLeave.modDomain fun d => { d with
            joined := true, member := m, members := members, timeout := lim, present := 0, silentAt := [] }).sayHello)).adminEnd fn t 0 0 [] w)) ∧
      (t.pf 0 8 1 = 0 → m = 0 → t.param 1 = 0 → us = 0 →
        exec (.setDomain fn slot w) s = .next ((s.sayLeave.modDomain fun d => { d with
          joined := false, member := 0, members := 0, timeout := 0, present := 0, silentAt := [] }).adminEnd fn t 0 0 [] w))) ∧
    (s.adminReady fn slot t identifySpec → ∀ r : AdminRead, r.fail = false → let a := t.param 0 / 4096 * 4096
      s.sourceOk fn (t.pf 0 0 2) a 4096 = true →
      (t.pf 0 0 2 = 0 → (s.fn fn).stopped = false → exec (.identify fn slot r w) s = .next
        (({ s with hostMem := s.hostMem.writeN (s.hostKey fn a) (s.identity fn) } : State).adminEnd fn t 0 0 [] w)) ∧
      (t.pf 0 0 2 = 1 → exec (.identify fn slot r w) s = .next
        ((s.localWrite ((s.fn fn).extBase + a) (s.identity fn)).adminEnd fn t 0 0 [] w))) ∧
    (s.adminReady fn slot t getHealthSpec → exec (.getHealth fn slot w) s = .next (s.adminEnd fn t 0 0
      [s.chip.health.toNat, min (((List.range 72).map s.cellsOut).foldl (· + ·) 0) 0xFFFF +
        min (s.chip.pch.foldl (fun a p => a + p.2.rows) 0) 0xFFFF * 2 ^ 16 + s.store.ledger.length * 2 ^ 32] w)) ∧
    (s.adminReady fn slot t fwStageSpec → ∀ (r : AdminRead) bs, let space := t.pf 0 0 2
      let a := t.param 0 / 4096 * 4096
      let n := t.pf 2 0 21
      space ≤ 1 → 1 ≤ n → n ≤ 1048576 → s.sourceOk fn space a n = true → t.param 1 + n ≤ bankSize → s.sec.fwBusy = none → s.supplyOk = true →
      s.adminSource fn space a n r = .ok bs →
      exec (.fwStage fn slot r w) s = .next (((({ s with store := { s.store.writeBank (1 - s.sec.bank) (t.param 1) bs with
        torn := restaged (1 - s.sec.bank) (t.param 1) n s.store.torn } } : State).cic 963).sawHost fn space a bs).adminEnd fn t 0 0 [] w)) ∧
    (s.adminReady fn slot t fwCommitSpec → ∀ version : W32, 4096 ≤ t.pf 0 0 24 → t.pf 0 0 24 ≤ bankSize →
      (∀ p ∈ s.store.torn, p.1 = 1 - s.sec.bank → t.pf 0 0 24 ≤ p.2.1) → s.supplyOk = true →
      exec (.fwCommit fn slot true version w) s = .next
        ((({ s with store := s.store.commitBank (1 - s.sec.bank) version } : State).cic 963).adminEnd fn t 0 0 [version.toNat] w))

/-- A core that works outside image code issues a word whose checks all pass: the word completes, whichever row names one of its moves, and
its effect is that of all its moves together, on the state of its own sources. In a word that completes no move that takes place goes to
TRAP.t_soft: such a move always traps. (08_yaquelux_isa.md R248, 08_yaquelux_isa.md R268, 09_yaquelux_units.md R288) -/
def Obligations.WordsOfACoreComplete : Prop :=
  (∀ (id : Nat) (i : IWord) (s : State) (r : Ready), s.mayIssue id i → (s.core id).gather (coreBus id) (coreKind id) i s = .ok r →
    let a := r.act (coreBus id) (coreKind id) i
    ∀ p ∈ wordRows id i, p.2 = true → exec p.1 s = .next (a.1.putCore id (s.core id) a.2)) ∧
  (∀ (id : Nat) (i : IWord) (s : State) (r : Ready), (s.core id).gather (coreBus id) (coreKind id) i s = .ok r →
    ∀ m ∈ r.ms, m.y.dst = 0x010 → m.row = none)

/-- A word whose one move that takes place goes to a common port has the effect that the port gives it, and nothing else of the core or the
state changes but that the next word comes next: jumps and calls continue at the target; a push adds an entry; a load moves LSU.a and
its value lands two words later; a store writes the low bytes of its data; a check, a tag read and an ALU trigger place their result in
their output ports later; windows open and close; FLG, the general registers and the other operand ports take the value.
(08_yaquelux_isa.md R246, 08_yaquelux_isa.md R249, 08_yaquelux_isa.md R261, 08_yaquelux_isa.md R263, 08_yaquelux_isa.md R264,
08_yaquelux_isa.md R265, 08_yaquelux_isa.md R266, 08_yaquelux_isa.md R259, 08_yaquelux_isa.md R273, 08_yaquelux_isa.md R280) -/
def Obligations.EffectOfACommonMove : Prop :=
  ∀ (b : Bus) (k : CoreKind) (i : IWord) (r : Ready) (m : Move), r.ms = [m] → m.row = portOf k m.y.dst →
    let s := r.s1
    let c := r.c1
    let v := m.val
    let p := m.y.dst
    let a := r.act b k i
    (p = 0x001 ∨ p = 0x003 → a = (s, { r.ends i c with pc := c.target k v })) ∧
    (p = 0x002 → a = (s, { r.ends i (c.pushed ⟨BitVec.ofNat 64 (c.pc.toNat + (1 + ylits i.word) - c.codeBase k), tgCode⟩) with pc := c.target k v })) ∧
    (p = 0x004 → a = (r.ends i c).leave b k s v.v.toNat) ∧
    (p = 0x008 → a = (s, r.ends i ({ c with flags := BitVec.ofNat 4 v.v.toNat }).flagsHeld)) ∧
    (p = 0x009 → a = (s, r.ends i ({ c with flags := nzcv v.v.msb (v.v == 0) false false }).flagsHeld)) ∧
    (p = 0x018 → a = (s, (r.ends i c).sleepNow b s v)) ∧
    (p = 0x020 → a = (s, r.ends i (c.later 0x020 1 (some (0x023, intVal v.tag)) none))) ∧
    (p = 0x022 → a = (s, r.ends i (c.later 0x020 1 (some (0x023, ⟨v.v, (c.reg 0x021).v.toNat⟩)) none))) ∧
    (0x040 ≤ p ∧ p ≤ 0x05F → a = (s, r.ends i (c.setReg p v))) ∧
    (p = 0x063 → ∀ x, c.plan b true v s = .ok x →
      let l := b.load x.addr x.size s c
      a = (l.2.2.1, r.ends i ((l.2.2.2.setReg 0x060 x.after).later 0x060 2 (some (0x065, loadVal (l.2.2.2.reg 0x062).v.toNat l.1 l.2.1)) none))) ∧
    (p = 0x064 → ∀ x, c.plan b false (c.reg 0x060) s = .ok x →
      let w := b.store x.addr (leBytes x.size v.v.toNat) s c
      a = (w.1, r.ends i (w.2.setReg 0x060 x.after))) ∧
    (p = 0x071 → a = (s, r.ends i (c.later 0x070 1 (some (0x072, v)) none))) ∧
    (p = 0x078 → a = (s, r.ends i { c with dstack := v :: c.dstack })) ∧
    (p = 0x080 → a = (s, r.ends i (c.pushed v))) ∧
    (p = 0x086 → c.rstack.length < 32 → a = (s, r.ends i { c with rstack := c.rstack ++ [v] })) ∧
    (p = 0x09C → (c.reg 0x098).v.toNat < 16 → a = (s, r.ends i (c.setWin (c.reg 0x098).v.toNat
      { open_ := true, base := (c.reg 0x099).v.toNat, len := (c.reg 0x09A).v.toNat, read := (c.reg 0x09B).v.getLsbD 0,
        write := (c.reg 0x09B).v.getLsbD 1 }))) ∧
    (p = 0x09D → (c.reg 0x098).v.toNat < 16 → a = (s, r.ends i (c.setWin (c.reg 0x098).v.toNat {}))) ∧
    (0x100 ≤ p ∧ p < 0x100 + 0x20 * aluCount k ∧ 1 ≤ p % 32 ∧ p % 32 ≤ 0x14 →
      let u := p / 32 * 32
      let o := aluOp (p % 32) (c.reg u) v
      let q : Pend := { unit := u, reg := o.out.map fun x => (u + 0x1E, x), flags := some o.flags, left := aluLatency (p % 32),
                        div := decide (p % 32 = 0x10 ∨ p % 32 = 0x11) }
      a = (s, r.ends i (match o.hi with
        | none => c.await q
        | some h => (c.await q).await { q with reg := some (u + 0x1F, h), flags := none })))

/-- A word whose one move that takes place goes to a kind-specific trigger port of a sequencer, a gate or a supervisor core has the effect
that the port gives: lodge words are read and written, commands decoded and fetched, descriptors posted, channels fired, the view
subscribed to and cleared, timers armed and cancelled, FIFOs flushed, interrupts completed, values sent to mailboxes, locks taken and
released. (09_yaquelux_units.md R288, 10_movers_fifos.md R305, 10_movers_fifos.md R330, 11_events_interrupts.md R335,
11_events_interrupts.md R342, 11_events_interrupts.md R343, 11_events_interrupts.md R351) -/
def Obligations.EffectOfAKindSpecificMove : Prop :=
  ∀ (id : Nat) (i : IWord) (r : Ready) (m : Move), r.ms = [m] → m.row = portOf (coreKind id) m.y.dst →
    let s := r.s1
    let c := r.c1
    let v := m.val
    let n := v.v.toNat
    let p := m.y.dst
    let g := coreBlk id
    let a := r.act (coreBus id) (coreKind id) i
    (coreKind id = .sq →
      (p = 0x182 → a = (s, r.ends i (c.later 0x180 2
        (some (0x184, ⟨BitVec.ofNat 64 (leVal (s.blockBytes g c.ctxWord 8)), tgRaw⟩)) none))) ∧
      (p = 0x183 → a = (s.blockPuts g c.ctxWord (leBytes 8 n), r.ends i c)) ∧
      (p = 0x188 → ∀ x, s.inLodge g n = some x → a = (s, r.ends i
        (((List.range 4).foldl (fun (e : Core) j => e.later 0x188 3 (some (0x189 + j,
            ⟨BitVec.ofNat 64 (field (s.ctx x).cmd.encode (8 * j) 8), tgRaw⟩)) none) c).later
          0x188 3 (some (0x18D, intVal (s.lastQual x).toNat)) none))) ∧
      (p = 0x190 → a = (s.askFetch g n, r.ends i c)) ∧
      (p = 0x19D → a = (s.postDesc g c.dscMover c.dscRing c.dscBytes, r.ends i c)) ∧
      (p = 0x1B8 → a = (s.fire n true, r.ends i c))) ∧
    (coreKind id = .gt →
      (p = 0x182 → a = (s.modBlock g fun x =>
        { x with viewSub := Table.set subDef x.viewSub (320 + (c.reg 0x181).v.toNat) { en := true, chan := n } }, r.ends i c)) ∧
      (p = 0x183 → a = (s.modBlock g fun x =>
        { x with views := Table.set w64Def x.views 5 (Table.get w64Def x.views 5 &&& ~~~v.v) }, r.ends i c)) ∧
      (p = 0x184 → a = (s.fire n true, r.ends i c)) ∧
      (p = 0x192 → a = (s.modBlock g fun y => { y with timers := Table.set timerDef y.timers (c.reg 0x190).v.toNat { armed := true, chan := (c.reg 0x191).v.toNat, deadline := s.dueAt (decide (v.tag = tgTime)) n } }, r.ends i c)) ∧
      (p = 0x193 → (Table.get timerDef (a.1.block g).timers (c.reg 0x190).v.toNat).armed = false ∧ a.2 = r.ends i c) ∧
      (p = 0x1A2 → (c.reg 0x1A0).v.toNat < 64 → a = (s.modFifo g (c.reg 0x1A0).v.toNat Fifo.flush, r.ends i c))) ∧
    (coreKind id = .sup →
      (p = 0x181 → a = (s.doneWrite (coreCtl id) (coreTgt id) (n % 65536), r.ends i c)) ∧
      (p = 0x189 → let d := 432 + (c.reg 0x188).v.toNat
        (d = id → a = (s, r.ends i { c with mbx := c.mbx ++ [v] })) ∧
        (d ≠ id → a = (s.setCore d { s.core d with mbx := (s.core d).mbx ++ [v] }, r.ends i c))) ∧
      (p = 0x190 → (s.lockHolder n = none → a = ({ s with locks := Table.set noneDef s.locks n (some id) },
          r.ends i (c.later 0x190 2 (some (0x192, ⟨1, tgBool⟩)) none))) ∧
        (s.lockHolder n ≠ none → a = (s, r.ends i (c.later 0x190 2 (some (0x192, ⟨0, tgBool⟩)) none)))) ∧
      (p = 0x191 → a = ({ s with locks := Table.set noneDef s.locks n none }, r.ends i c)))

/-- A source port that pops gives the entry that it takes away: DS.pop the top of the data stack, RET.pop the top and RET.bottom the oldest
hardware entry of the return stack, EVQ.pop the oldest item of the block's control FIFO for the sequencer, MBX.pop the oldest value of
the mailbox, IRQ.claim the source that a claim by the core's target returns. Where there is nothing to pop the read traps, with the
cause for it; a return stack whose hardware entries have all been spilled asks for a fill. (08_yaquelux_isa.md R265, 08_yaquelux_isa.md
R266, 09_yaquelux_units.md R288, 11_events_interrupts.md R350) -/
def Obligations.PortsThatPop : Prop :=
  (∀ (b : Bus) (lit : W64) (s : State) (c : Core) (m : Move), c.substFor m.k = none → m.y.imm = false →
    (m.y.src = 0x079 → (∀ v r, c.dstack = v :: r → c.source b m lit s = .ok ({ m with val := v }, s, { c with dstack := r })) ∧
      (c.dstack = [] → ∃ t, c.source b m lit s = .error t ∧ t.cause = 0x0A)) ∧
    (m.y.src = 0x081 → (∀ v r, c.rstack = v :: r → c.source b m lit s = .ok ({ m with val := ⟨v.v, tgCode⟩ }, s, { c with rstack := r })) ∧
      (c.rstack = [] → ∃ t, c.source b m lit s = .error t ∧ t.cause = if 0 < c.retSpilled then 0x0C else 0x0E)) ∧
    (m.y.src = 0x085 → (∀ v r, c.rstack = r ++ [v] → c.source b m lit s = .ok ({ m with val := v }, s, { c with rstack := r })) ∧
      (c.rstack = [] → ∃ t, c.source b m lit s = .error t ∧ t.cause = if 0 < c.retSpilled then 0x0C else 0x0E))) ∧
  (∀ (id : Nat) (lit : W64) (s : State) (c : Core) (m : Move), c.substFor m.k = none → m.y.imm = false →
    (coreKind id = .sq → m.y.src = 0x1A0 →
      (∀ w, (((s.block (coreBlk id)).fifo toSeq).takeItem).1 = some w → c.source (coreBus id) m lit s =
        .ok ({ m with val := ⟨BitVec.ofNat 64 (field w 0 8), tgRaw⟩ },
          s.modFifo (coreBlk id) toSeq fun x => x.takeItem.2, c)) ∧
      (((s.block (coreBlk id)).fifo toSeq).committed = 0 → ∃ t, c.source (coreBus id) m lit s = .error t ∧ t.cause = 0x11 ∧ t.sub = 7)) ∧
    (coreKind id = .sup → m.y.src = 0x18A →
      (∀ v r, c.mbx = v :: r → c.source (coreBus id) m lit s = .ok ({ m with val := v }, s, { c with mbx := r })) ∧
      (c.mbx = [] → ∃ t, c.source (coreBus id) m lit s = .error t ∧ t.cause = 0x11 ∧ t.sub = 7)) ∧
    (coreKind id = .sup → m.y.src = 0x180 →
      c.source (coreBus id) m lit s = .ok ({ m with val := intVal ((s.ctl (coreCtl id)).claim s.time (coreTgt id)).1 },
        s.modCtl (coreCtl id) fun k => (k.claim s.time (coreTgt id)).2, c)))

/-- A word whose two slots move two different general registers into each other, on a core that may issue it, with no result pending and no
substitution in force, exchanges the two registers: the program counter advances by one word, every other register, the flags and the
stacks are unchanged, no other core and nothing else of the state changes. (08_yaquelux_isa.md R248, 08_yaquelux_isa.md R241,
08_yaquelux_isa.md R244) -/
def Obligations.TwoMovesExchangeRegisters : Prop :=
  ∀ (id g h : Nat) (i : IWord) (s : State), let c := s.core id
    s.mayIssue id i → i.fetched = true → codeHas (coreKind id) c.pc.toNat = true →
    c.pending = [] → c.subst = [] → (c.reg g).tag < 8 → (c.reg h).tag < 8 → 0x040 ≤ g → g ≤ 0x05F → 0x040 ≤ h → h ≤ 0x05F → g ≠ h →
    yslots i.word = ({ guard := 0, imm := false, dst := g, src := h, low := 0, imm18 := (yslots i.word).1.imm18 },
                     { guard := 0, imm := false, dst := h, src := g, low := 0, imm18 := (yslots i.word).2.imm18 }) →
    Completes (.yqPortWrite id i) s fun t =>
      (t.core id).reg g = c.reg h ∧ (t.core id).reg h = c.reg g ∧ (∀ p, p ≠ g → p ≠ h → (t.core id).reg p = c.reg p) ∧
      (t.core id).pc = c.pc + 1 ∧ (t.core id).flags = c.flags ∧ (t.core id).dstack = c.dstack ∧ (t.core id).rstack = c.rstack ∧
      (t.core id).pending = [] ∧ (t.core id).frames = c.frames ∧ (∀ m, m ≠ id → t.core m = s.core m) ∧
      t = { s with cores := t.cores }

/-- A word that a core issues outside image code and that fails a check traps, whichever row names it, one with a move to TRAP.t_soft too:
outside a trap handler the frame is saved, TRAP.epc names the word, TRAP.cause, TRAP.detail and TRAP.value tell of the trap, nothing is
pending, and the core continues at the handler that the vector table names for the cause; inside a trap handler the trap is a double
trap, which stops the core. The state beyond the core keeps what it had, but for the report of a double trap. (08_yaquelux_isa.md R267,
08_yaquelux_isa.md R270, 08_yaquelux_isa.md R271, 08_yaquelux_isa.md R272, 08_yaquelux_isa.md R275) -/
def Obligations.TrapsAreTaken : Prop :=
  ∀ (id : Nat) (i : IWord) (s : State) (t : Trap) (c' : Core), s.mayIssue id i →
    (s.core id).gather (coreBus id) (coreKind id) i s = .error (t, c') →
    (∀ w, c'.inTrap = false → c'.known (c'.vbase.toNat + t.cause) = some w → ∀ p ∈ wordRows id i, p.2 = true →
      exec p.1 s = .next (s.putCore id (s.core id) { c' with
        pc := BitVec.ofNat 64 (w.toNat % 2 ^ 32), frames := c'.frame (coreKind id) true :: c'.frames, epc := c'.pc, pending := [],
        subst := [], landed := false, cause := t.cause, detail := t.detail, tvalue := t.value, inTrap := true })) ∧
    (c'.inTrap = true → ∀ p ∈ wordRows id i, p.2 = true →
      exec p.1 s = .next (s.putCore id (s.core id) { c' with cause := 0x13, stopped := true }))

/-- A sieve core issues a word of image code: whichever row names it, the word completes. When the cycles of the budget are spent before the
word, the BUDGET trap comes first, and the program is lost with verdict 4; so when the charge of the word's emulated accesses spends
them, unless the word fails a check that comes before its accesses. When the word passes its checks it takes effect, after the charge of
its emulated accesses, and may end INIT or the record; TRAP.cause names the trap of the last emulated access. Any other trap is answered
by the firmware. (04_sieve_and_transforms.md R127, 09_yaquelux_units.md R292, 09_yaquelux_units.md R296, 09_yaquelux_units.md R297,
09_yaquelux_units.md R298) -/
def Obligations.ImageWordsComplete : Prop :=
  ∀ (id : Nat) (i : IWord) (s : State), let c := s.core id
    let b := coreBus id
    let traps := c.landed!.a7Traps (c.landed!.onSlots i.word)
    let cost := c.landed!.wordCost i.word
    let paid := c.charge cost
    let got := fun (r : State × Core) => (Host.Outcome.next (r.1.putCore id c r.2) : Res)
    s.coreRuns id = true → c.inImage (coreKind id) = true → s.fetchFits id i = true → (s.runWord id i).mailFull = false →
    ∀ p ∈ wordRows id i, p.2 = true →
      (c.spent = true → exec p.1 s = got (c.lost b s { cause := cBudget })) ∧
      (c.spent = false → cost ≠ 0 → paid.spent = true →
        (∀ r, paid.gather b .sv i s = .ok r → exec p.1 s = got (paid.lost b s { cause := cBudget })) ∧
        (∀ t c', paid.gather b .sv i s = .error (t, c') → t.first = false → exec p.1 s = got (paid.lost b s { cause := cBudget }))) ∧
      (c.spent = false → (cost = 0 ∨ paid.spent = false) → ∀ r, paid.gather b .sv i s = .ok r → let a := r.act b .sv i
        (traps = [] → exec p.1 s = got (a.1, a.2.settle)) ∧
        (∀ t, traps.getLast? = some t → ∃ v, exec p.1 s = got (a.1, (a.2.note { t with value := v }).settle))) ∧
      (c.spent = false → ∀ t c', (cost = 0 ∨ paid.spent = false ∨ t.first = true) → paid.gather b .sv i s = .error (t, c') →
        exec p.1 s = got (({ c' with record := { c'.record with cycles := c'.record.cycles - cost } }).answer b s t))

/-- A word of a sieve core whose one move that takes place goes to a port of its units has the effect that the port gives: REC.t_word reads
a word of the record, WCMP and RNG compare, HSH mixes and finishes, EMT appends little-endian bytes or bytes of the record to the
emitted bytes, VRD ends the record with a verdict or INIT as ready, and the emulated AD7100 ports read, keep, drop and sum.
(09_yaquelux_units.md R288, 09_yaquelux_units.md R292, 09_yaquelux_units.md R295, 09_yaquelux_units.md R298, 04_sieve_and_transforms.md
R127) -/
def Obligations.EffectOfASieveMove : Prop :=
  ∀ (b : Bus) (i : IWord) (r : Ready) (m : Move), b.write = svWrite → r.ms = [m] → m.row = portFor .sv true true m.y.dst →
    let s := r.s1
    let c := r.c1
    let n := m.val.v.toNat
    let d := c.record.data.length
    let p := m.y.dst
    let a := r.act b .sv i
    let word := c.record.bytes (32 * n) 32
    (p = 0x180 → a = (s, r.ends i ((List.range 4).foldl (fun e j =>
      e.later 0x180 2 (some (0x181 + j, ⟨BitVec.ofNat 64 (field word (8 * j) 8), tgRaw⟩)) none) (c.touch (min (32 * n + 32) d))))) ∧
    (p = 0x195 → let eq := wcmp word ((List.range 4).flatMap fun j => leBytes 8 (c.reg (0x190 + j)).v.toNat) (c.reg 0x194).v.toNat
      a = (s, r.ends i ((c.touch (min (32 * n + 32) d)).later 0x190 2 (some (0x196, ⟨if eq then 1 else 0, tgBool⟩))
        (some (nzcv false eq false false))))) ∧
    (p = 0x1A4 ∨ p = 0x1A5 →
      let ok := rngTest (decide (p = 0x1A5)) m.val.v (c.reg 0x1A0).v (c.reg 0x1A1).v (c.reg 0x1A2).v (c.reg 0x1A3).v
      a = (s, r.ends i (c.later 0x1A0 1 (some (0x1A7, ⟨if ok then 1 else 0, tgBool⟩)) (some (nzcv false ok false false))))) ∧
    (p = 0x1B1 → a = (s, r.ends i (c.later 0x1B0 1 (some (0x1B0, ⟨th64Mix (c.reg 0x1B0).v m.val.v, tgInt⟩)) none))) ∧
    (p = 0x1B2 → a = (s, r.ends i (c.later 0x1B0 3 (some (0x1B0, ⟨th64Fin (c.reg 0x1B0).v m.val.v, tgInt⟩)) none))) ∧
    (0x1C0 ≤ p ∧ p ≤ 0x1C3 → (a.2.record.emitted = c.record.emitted ++ leBytes (2 ^ (p - 0x1C0)) n) ∧
      a.2.pending = (c.later 0x1C0 1 (some (0x1C6, intVal (c.record.emitted.length + 2 ^ (p - 0x1C0)))) none).pending ∧ a.1 = s) ∧
    (p = 0x1C5 → a.2.record.emitted = c.record.emitted ++ c.record.bytes (c.reg 0x1C4).v.toNat n ∧
      a.2.record.cycles = c.record.cycles + ((n + 31) / 32 - 1) + 1 ∧ a.1 = s) ∧
    (p = 0x1D0 → a = (s, r.ends i { c with record := { c.record with verdict := some n } })) ∧
    (p = 0x1D1 → a = (s, r.ends i { c with phase := 3 })) ∧
    (p = 0x1E0 → a = (s, r.ends i { c.touch (min (16 * n + 16) d) with a7 := c.record.bytes (16 * n) 16 })) ∧
    (p = 0x1E3 → a = (s, r.ends i { c with record := { c.record with verdict := some 1 } })) ∧
    (p = 0x1E4 → a = (s, r.ends i { c with record := { c.record with verdict := some 0 } })) ∧
    (p = 0x1E6 → a = (s, r.ends i { c with a7crc := (leBytes 8 n).foldl crc32cStep c.a7crc }))

/-- On integer operands: the sum and the difference wrap modulo 2^64, C is the carry out of bit 63 or the absence of a borrow, and V is 1
exactly when the exact signed result does not fit in 64 bits; t_cmp sets the flags of the difference and gives no result; t_neg
subtracts B from 0; the logical operations act bit by bit with C and V 0; out_hi and out hold the exact product of 128 bits, and C and V
are 1 exactly when it does not fit in 64 bits; a quotient and a remainder of a division by a divisor other than 0 satisfy A = B times
quotient plus remainder; a comparison gives 1 or 0. N is bit 63 of out and Z is out = 0. An offset of a handle wraps modulo 2^48, and
the handle keeps its window. (08_yaquelux_isa.md R254, 08_yaquelux_isa.md R255, 08_yaquelux_isa.md R252) -/
def Obligations.ArithmeticOfTheAlu : Prop :=
  (∀ x y : W64, let A : Val := ⟨x, tgInt⟩
    let B : Val := ⟨y, tgInt⟩
    let fits := fun (z : Int) => -(2 ^ 63 : Int) ≤ z ∧ z < 2 ^ 63
    let sum := x + y
    let dif := x - y
    (aluOp opAdd A B).out = some ⟨sum, tgInt⟩ ∧
    (aluOp opAdd A B).flags = nzcv sum.msb (sum == 0) (decide (2 ^ 64 ≤ x.toNat + y.toNat)) (decide (¬fits (x.toInt + y.toInt))) ∧
    (aluOp opSub A B).out = some ⟨dif, tgInt⟩ ∧
    (aluOp opSub A B).flags = nzcv dif.msb (dif == 0) (decide (y.toNat ≤ x.toNat)) (decide (¬fits (x.toInt - y.toInt))) ∧
    (aluOp opCmp A B).out = none ∧ (aluOp opCmp A B).flags = (aluOp opSub A B).flags ∧
    (aluOp opNeg A B).out = some ⟨-y, tgInt⟩ ∧
    (aluOp opNeg A B).flags = nzcv (-y).msb (-y == 0) (decide (y = 0)) (decide (¬fits (-y.toInt))) ∧
    (∀ op f, (op, f) ∈ [(opAnd, fun a b => a && b), (opOr, fun a b => a || b), (opXor, fun a b => a != b), (opNot, fun _ b => !b)] →
      ∃ o : W64, (aluOp op A B).out = some ⟨o, tgInt⟩ ∧ (aluOp op A B).flags = nzcv o.msb (o == 0) false false ∧
        ∀ j, j < 64 → o.getLsbD j = f (x.getLsbD j) (y.getLsbD j)) ∧
    (∀ op r, (op, r) ∈ [(opSeq, decide (x = y)), (opSltu, decide (x.toNat < y.toNat)), (opSlts, decide (x.toInt < y.toInt))] →
      (aluOp op A B).out = some ⟨if r then 1 else 0, tgBool⟩ ∧ (aluOp op A B).flags = (aluOp opCmp A B).flags) ∧
    (∃ lo hi : W64, (aluOp opMulu A B).out = some ⟨lo, tgInt⟩ ∧ (aluOp opMulu A B).hi = some ⟨hi, tgInt⟩ ∧
      hi.toNat * 2 ^ 64 + lo.toNat = x.toNat * y.toNat ∧
      (aluOp opMulu A B).flags = nzcv hi.msb (decide (x.toNat * y.toNat = 0)) (decide (2 ^ 64 ≤ x.toNat * y.toNat))
        (decide (2 ^ 64 ≤ x.toNat * y.toNat))) ∧
    (∃ lo hi : W64, (aluOp opMuls A B).out = some ⟨lo, tgInt⟩ ∧ (aluOp opMuls A B).hi = some ⟨hi, tgInt⟩ ∧
      hi.toInt * 2 ^ 64 + lo.toNat = x.toInt * y.toInt ∧
      (aluOp opMuls A B).flags = nzcv hi.msb (decide (x.toInt * y.toInt = 0)) (decide (¬fits (x.toInt * y.toInt)))
        (decide (¬fits (x.toInt * y.toInt)))) ∧
    (y ≠ 0 → ∃ q m : W64, (aluOp opDivu A B).out = some ⟨q, tgInt⟩ ∧ (aluOp opDivu A B).hi = some ⟨m, tgInt⟩ ∧
      x.toNat = y.toNat * q.toNat + m.toNat ∧ m.toNat < y.toNat ∧ (aluOp opDivu A B).flags = nzcv q.msb (q == 0) false false) ∧
    (y ≠ 0 → ¬(x = 0x8000000000000000#64 ∧ y = BitVec.allOnes 64) →
      ∃ q m : W64, (aluOp opDivs A B).out = some ⟨q, tgInt⟩ ∧ (aluOp opDivs A B).hi = some ⟨m, tgInt⟩ ∧
        q.toInt = x.toInt.tdiv y.toInt ∧ m.toInt = x.toInt.tmod y.toInt ∧ (aluOp opDivs A B).flags = nzcv q.msb (q == 0) false false)) ∧
  (∀ x y : W64, let off := (x.toNat % 2 ^ 48 + y.toNat % 2 ^ 48) % 2 ^ 48
    ∃ o : W64, (aluOp opAdd ⟨x, tgHndl⟩ ⟨y, tgInt⟩).out = some ⟨o, tgHndl⟩ ∧ o.toNat % 2 ^ 48 = off ∧ o.toNat / 2 ^ 48 = x.toNat / 2 ^ 48)

/-- A shift amount is B taken as an unsigned 64-bit value. For an amount from 1 to 63 C is the last bit shifted out; an amount of 0 yields A
with C = 0; at 64 or more t_shl and t_shr yield 0, with C the last bit out for 64 and 0 beyond, and t_sar yields 64 copies of bit 63,
with C that bit. Rotates use B mod 64: C is bit 0 of out for t_rol and bit 63 for t_ror, and a rotate by 0 yields A with C = 0. (R256) -/
def Obligations.ShiftsAndRotates : Prop :=
  ∀ x y : W64, let n := y.toNat
    let A : Val := ⟨x, tgInt⟩
    let B : Val := ⟨y, tgInt⟩
    let gives := fun (op : Nat) (o : W64) (c : Bool) =>
      (aluOp op A B).out = some ⟨o, tgInt⟩ ∧ (aluOp op A B).hi = none ∧ (aluOp op A B).flags = nzcv o.msb (o == 0) c false
    (∀ op ∈ [opShl, opShr, opSar, opRol, opRor], n = 0 → gives op x false) ∧
    (1 ≤ n ∧ n ≤ 63 → gives opShl (x <<< n) (x.getLsbD (64 - n)) ∧ gives opShr (x >>> n) (x.getLsbD (n - 1)) ∧
      gives opSar (x.sshiftRight n) (x.getLsbD (n - 1))) ∧
    (n = 64 → gives opShl 0 (x.getLsbD 0) ∧ gives opShr 0 (x.getLsbD 63)) ∧
    (64 < n → gives opShl 0 false ∧ gives opShr 0 false) ∧
    (64 ≤ n → gives opSar (if x.getLsbD 63 then BitVec.allOnes 64 else 0) (x.getLsbD 63)) ∧
    (n % 64 ≠ 0 → gives opRol (x.rotateLeft (n % 64)) ((x.rotateLeft (n % 64)).getLsbD 0) ∧
      gives opRor (x.rotateRight (n % 64)) ((x.rotateRight (n % 64)).getLsbD 63)) ∧
    (n % 64 = 0 → gives opRol x false ∧ gives opRor x false)

/-- The most negative number divided by -1 gives itself with remainder 0 and sets V; a divisor of 0 traps with cause DIV-ZERO in the trigger
word when DZ_TRAP is 1, and with DZ_TRAP 0 gives quotient 0 and remainder A with N = 0, Z = 1, C = 0 and V = 1; every other division
sets V to 0. (R257) -/
def Obligations.DivisionSpecialCases : Prop :=
  (aluOp opDivs ⟨0x8000000000000000#64, tgInt⟩ ⟨BitVec.allOnes 64, tgInt⟩ =
    { out := some ⟨0x8000000000000000#64, tgInt⟩, hi := some ⟨0, tgInt⟩, flags := nzcv true false false true }) ∧
  (∀ (b : Bus) (unit slot op : Nat) (fails : List (Nat × Nat)) (tag : Nat) (s : State) (c : Core), unit < 4 → (op = opDivu ∨ op = opDivs) →
    (fails.find? fun f => decide (f.1 = slot)) = none →
    Core.ownTrap b (0x100 + 0x20 * unit + op) slot ⟨0, tag⟩ fails s c = if c.dzTrap then some (0x08, 0) else none) ∧
  (∀ (x : W64) (op : Nat), (op = opDivu ∨ op = opDivs) → aluOp op ⟨x, tgInt⟩ ⟨0, tgInt⟩ =
    { out := some ⟨0, tgInt⟩, hi := some ⟨x, tgInt⟩, flags := nzcv false true false true }) ∧
  (∀ x y : W64, y ≠ 0 → flagV (aluOp opDivu ⟨x, tgInt⟩ ⟨y, tgInt⟩).flags = false ∧
    (¬(x = 0x8000000000000000#64 ∧ y = BitVec.allOnes 64) → flagV (aluOp opDivs ⟨x, tgInt⟩ ⟨y, tgInt⟩).flags = false))

/-- The results due at the next word of a core that works land in the order of their triggers, and the others come one word nearer. A core
that works and whose next word has not begun takes the request presented when its level is above the core's LEVEL, its global mask is 0
and it is in no trap: the frame is saved, LEVEL takes the level, nothing is pending, and the core continues at the handler of that
level. A sleeping core wakes at its deadline, and when a request is presented or a selected view bit is 1; CTL.wake tells why.
(08_yaquelux_isa.md R249, 08_yaquelux_isa.md R250, 08_yaquelux_isa.md R271, 08_yaquelux_isa.md R276, 08_yaquelux_isa.md R277,
08_yaquelux_isa.md R278, 08_yaquelux_isa.md R280, 08_yaquelux_isa.md R281) -/
def Obligations.ResultsInterruptsAndSleep : Prop :=
  (∀ (id : Nat) (s : State), let c := s.core id
    s.coreRuns id = true → c.mustTake (coreBus id) s = false → c.landed = false → (∃ p ∈ c.pending, p.left ≤ 1) →
    exec (.resultLand id) s = .next (s.setCore id ((c.pending.filter fun p => decide (p.left ≤ 1)).foldl Core.landOne
      { c with landed := true, pending := (c.pending.filter fun p => decide (1 < p.left)).map fun p => { p with left := p.left - 1 } }))) ∧
  (∀ (id l : Nat) (late : Option Nat) (w : W64) (s : State), let c := s.core id
    s.coreRuns id = true → c.landed = false → (coreBus id).request s c = some l → c.level < l → c.imask = false → c.inTrap = false →
    c.hold = false → (late = none ∨ late = some l) → c.known (c.vbase.toNat + (0x20 + l)) = some w →
    exec (.interruptEntry id late) s = .next (s.setCore id { c with
      pc := BitVec.ofNat 64 (w.toNat % 2 ^ 32), frames := c.frame (coreKind id) false :: c.frames, epc := c.pc, pending := [],
      subst := [], landed := false, level := l, hold := true })) ∧
  (∀ (id t d : Nat) (s : State), let c := s.core id
    s.coreOn id = true → c.asleep = true → s.notBefore t = true → c.deadline = some d → d ≤ (s.at_ t).uptime →
    Completes (.sleepDeadline id t) s fun u => u.time = t % timeMod ∧ (u.core id).asleep = false ∧ (u.core id).deadline = none ∧
      (((u.core id).reg 0x01A).v.getLsbD 2 = true) ∧ (u.core id).pc = c.pc ∧ (∀ m, m ≠ id → u.core m = s.core m) ∧
      u = { s.at_ t with cores := u.cores }) ∧
  (∀ (id : Nat) (s : State), let c := s.core id
    s.coreOn id = true → c.asleep = true →
    ((∃ l, (coreBus id).request s c = some l) ∨ (coreBus id).view s c &&& (c.reg 0x019).v ≠ 0) →
    Completes (.coreWake id) s fun u => (u.core id).asleep = false ∧ (u.core id).deadline = none ∧ (u.core id).pc = c.pc ∧
      (((u.core id).reg 0x01A).v.getLsbD 0 = ((coreBus id).request s c).isSome) ∧
      (((u.core id).reg 0x01A).v.getLsbD 1 = decide ((coreBus id).view s c &&& (c.reg 0x019).v ≠ 0)) ∧
      u = s.setCore id (u.core id))

/-- An idle sieve cell takes an image that it does not hold: the image is the one used last, in a slot of its own, and the record start
state of that slot is gone. INIT begins at the image's INIT entry with budget 65,536, windows open for the record, the work area and the
image, and empty stacks. A record begins at the image's RECORD entry from the record start state, with nothing emitted, no cycle spent
and no verdict. When the cycles of a running program's budget are spent, the BUDGET trap is taken before the next word, the verdict is 4
and the cell is idle. (04_sieve_and_transforms.md R127, 09_yaquelux_units.md R292, 09_yaquelux_units.md R293, 09_yaquelux_units.md R299) -/
def Obligations.TheRecordLoop : Prop :=
  (∀ (id h : Nat) (x : SieveHandle) (s : State), let c := s.core id
    s.svIdle id = true → s.sieve h = some x → s.slotWith c h = none →
    Completes (.imageLoadComplete id h) s fun t => ∃ k, (t.core id).images.head? = some ⟨k, h, x.serial, x.words⟩ ∧
      (∀ p ∈ (t.core id).images.tail, p ∈ c.images ∧ p.slot ≠ k) ∧ Table.get noneDef (t.core id).starts k = none ∧
      (∀ m, m ≠ id → t.core m = s.core m) ∧ t = { s with cores := t.cores, free := t.free }) ∧
  (∀ (id h slot : Nat) (param : BitVec 16) (x : SieveHandle) (s : State), let c := s.core id
    s.svIdle id = true → s.sieve h = some x → s.slotWith c h = some slot →
    Completes (.sieveInit id h param) s fun t => let d := t.core id
      d.phase = 1 ∧ d.slot = slot ∧ d.asleep = false ∧ d.pc = BitVec.ofNat 64 (2048 * slot + imgInit x.words) ∧
      d.record = { param := param, budget := 65536 } ∧ d.dstack = [] ∧ d.rstack = [] ∧ d.work = [] ∧ d.regs = [] ∧
      d.wins = svWindows x.words slot 0 ∧ d.vbase = c.vbase ∧ d.retLimit = c.retLimit ∧ d.dsLimit = c.dsLimit ∧
      d.data = c.data ∧ d.starts = c.starts ∧ (∀ m, m ≠ id → t.core m = s.core m) ∧ t = { s with cores := t.cores }) ∧
  (∀ (id ordinal budget : Nat) (data : List Byte) (ws : List W64) (st : SvStart) (s : State), let c := s.core id
    s.svIdle id = true → 1 ≤ budget → data.length ≤ 16777216 → c.imageIn c.slot = some ws →
    Table.get noneDef c.starts c.slot = some st →
    Completes (.recordPresent id ordinal budget data) s fun t => let d := t.core id
      d.phase = 2 ∧ d.asleep = false ∧ d.pc = BitVec.ofNat 64 (2048 * c.slot + imgRecord ws) ∧ d.flags = st.flags ∧
      d.dstack = st.dstack ∧ d.rstack = st.rstack ∧ d.work = st.work ∧ d.pending = [] ∧ d.record.data = data ∧
      d.record.ordinal = ordinal ∧ d.record.param = c.record.param ∧ d.record.budget = budget ∧ d.record.emitted = [] ∧
      d.record.cycles = 0 ∧ d.record.verdict = none ∧ d.wins = svWindows ws c.slot data.length ∧
      (∀ m, m ≠ id → t.core m = s.core m) ∧ t = { s with cores := t.cores }) ∧
  (∀ (id : Nat) (s : State), let c := s.core id
    coreKind id = .sv → s.coreRuns id = true → 1 ≤ c.phase → c.record.budget ≤ c.record.cycles →
    let r := c.lost (coreBus id) s { cause := cBudget }
    exec (.svBudgetTrap id) s = .next (r.1.putCore id c r.2) ∧ r.2.record.verdict = some 4 ∧ r.2.phase = 0 ∧ r.2.asleep = true ∧
      (c.inTrap = false → r.2.cause = cBudget ∧ r.2.epc = c.pc))

/-- A running data descriptor that fails a check ends at once with the REASON of the check and its whole count as residual. One that passes,
between memories that may be reached, moves its data and ends with the REASON and residual of its first failure, or with none; one with
a STREAM side moves what the stream gives or takes now, and ends when all has moved or a unit failed. A COPY inside block SRAM leaves
the destination equal to the original contents of the source, even when they overlap. BIND binds the ring; a notice, the start of a
unit, STOP, CUT and ABORT act as their rules say. (10_movers_fifos.md R303, 10_movers_fifos.md R304, 10_movers_fifos.md R305,
10_movers_fifos.md R306, 10_movers_fifos.md R307, 10_movers_fifos.md R309, 10_movers_fifos.md R310, 10_movers_fifos.md R313,
10_movers_fifos.md R314, 10_movers_fifos.md R316, 10_movers_fifos.md R318, 10_movers_fifos.md R320) -/
def Obligations.RingChannels : Prop :=
  (∀ (blk m c : Nat) (d : Desc) (s : State), let x := s.ringCh blk m c
    ∀ i ∈ [(Instr.copy blk m c, 0), (.deal blk m c, 1), (.merge blk m c, 2), (.planes blk m c, 3), (.unplanes blk m c, 4),
           (.descFill blk m c, 5), (.descRead blk m c, 6)],
    s.runningDesc blk m c = some d → s.moverGoes blk m = true → d.kind = i.2 →
    (∀ q, d.check x = some q → exec i.1 s = .next (s.unitOver blk m c q d.count (0, 0) {})) ∧
    (d.check x = none → (s.fn x.fn).stopped = false → d.ss ≠ 3 → d.ds ≠ 3 →
      let r := s.runDesc d (.mem x.who d.ss) (.mem x.who d.ds) (d.count / d.unit)
      let t := r.2.modRingCh blk m c fun x => x.wrote d (max r.1.units 1)
      exec i.1 s = .next (t.descEnds blk m c r.1.reason (d.residual r.1) d.bar true (t.failPlace x d r.1) {})) ∧
    (∀ k f t, d.check x = none → (s.fn x.fn).stopped = false → (d.ss = 3 ∨ d.ds = 3) → s.streamStep blk x d = some (k, f, t) →
      let u := t.modRingCh blk m c fun x => ({ x with off := x.off + k } : RingChan).wrote d k
      let r : Run := { units := x.off + k, fail := f }
      exec i.1 s = .next (if f.isSome ∨ x.off + k = d.count then
        u.descEnds blk m c r.reason (d.residual r) d.bar true (u.failPlace x d r) {} else u))) ∧
  (∀ (s : State) (blk sa da n i : Nat) (down : Bool), (s.block blk).sram.wf = true → s.blockBad blk sa n = none →
    sa + n ≤ 0x200000 → da + n ≤ 0x200000 → i < n →
    ((s.copyBytes (.block blk) (.block blk) sa da n n down).2.block blk).sram.read (da + i) = (s.block blk).sram.read (sa + i)) ∧
  (∀ (blk m c k : Nat) (d : Desc) (s : State), s.runningDesc blk m c = some d → (s.ringCh blk m c).running = some k →
    s.moverGoes blk m = true → d.kind = 0xF →
    (d.bindOk = true → Completes (.bindChan blk m c) s fun t =>
      let y := t.ringCh blk m c
      let b := d.bytes
      y.bound = true ∧ y.ctx = field b 4 4 % 0x100000 ∧ y.fn = byteAt b 8 ∧ y.bib = b.getD 9 0 ∧ y.key = byteAt b 10 % 16 ∧
      y.sup = (b.getD 11 0).getLsbD 0 ∧ y.epoch = BitVec.ofNat 32 (field b 12 4) ∧ y.lslot = field b 16 2 % 1024 ∧ y.running = none ∧
      ((t.block blk).mover m).unit = none ∧ t = { s with blocks := t.blocks, free := t.free }) ∧
    (d.bindOk = false → exec (.bindChan blk m c) s = .next (s.unitOver blk m c 0x20 d.count (0, 0) {}))) ∧
  (∀ (blk m c slot : Nat) (n : List Byte) (s : State), let d := s.desc blk m c slot
    let s1 := s.modFifo blk (toMover m) fun x => x.takeItem.2
    s.moverGoes blk m = true → (((s.block blk).fifo (toMover m)).takeItem).1 = some n → byteAt n 10 % 8 = c → byteAt n 11 % 64 = slot →
    exec (.descriptorNotice blk m c slot) s = .next (
      if d.own = false then s1.cellError blk (1 + m) { code := .access, source := c }
      else if d.isControl then s1.modRingCh blk m c fun x => { x with control := x.control ++ [slot] } else s1)) ∧
  (∀ (blk m k : Nat) (reg : Bool) (s : State), let x := s.ringCh blk m k
    let d := s.desc blk m k x.next
    let bad := s.blockBad blk (slotAddr m k x.next) 32
    s.nextUnit blk m = some (reg, k) → s.moverGoes blk m = true →
    ((s.block blk).mover m).unit = none → s.islandGated blk (1 + m) = false →
    (reg = true → Completes (.moverUnitStart blk m) s fun t =>
      ((t.block blk).mover m).unit = some (.reg blk m k) ∧ (t.regCh blk m k).running = true ∧ (t.regCh blk m k).ready = false ∧
      t = { s with blocks := t.blocks }) ∧
    (reg = false → ∃ u, (((u.block blk).mover m).unit = some (.ring blk m k) ∧ (u.ringCh blk m k).running = some x.next ∧
        (u.ringCh blk m k).off = 0 ∧ u = { s with blocks := u.blocks }) ∧
      (bad = none → (d.kind < 7 ∨ 0xB < d.kind) → exec (.moverUnitStart blk m) s = .next u) ∧
      (bad ≠ none → exec (.moverUnitStart blk m) s = .next (u.unitOver blk m k 5 d.count (0, 0) {})) ∧
      (bad = none → 7 ≤ d.kind → d.kind ≤ 0xB → ∃ q, d.check x = some q ∧
        exec (.moverUnitStart blk m) s = .next (u.unitOver blk m k q d.count (0, 0) {})))) ∧
  (∀ (blk m c slot : Nat) (s : State), let x := s.ringCh blk m c
    (s.controlRead blk m c slot 0xE = true → x.running = none → exec (.stopChan blk m c slot) s = .next (s.stopBefore blk m c slot)) ∧
    (s.controlRead blk m c slot 0xC = true → x.cutBy = none → exec (.cutChan blk m c slot) s =
      .next (if x.running = none then s.stopBefore blk m c slot else s.cutRunning blk m c slot 0x24)) ∧
    (s.controlRead blk m c slot 0xD = true → x.cutBy = none →
      (x.running = none → exec (.abortChan blk m c slot) s = .next (s.stopBefore blk m c slot)) ∧
      (x.running ≠ none → x.ended ≠ none → exec (.abortChan blk m c slot) s = .next (s.cutRunning blk m c slot 0x25)) ∧
      (x.running ≠ none → x.ended = none → Completes (.abortChan blk m c slot) s fun t => ∃ (n : Nat) (u : State), n ≤ 64 ∧ u = { s with free := u.free } ∧
        t = (u.modRingCh blk m c fun x => { x with lost := x.lost ++ List.replicate n x.bib }).cutRunning blk m c slot 0x25)))

/-- START on a free register channel with a good RC_CTRL and a good transfer makes it busy, and it runs at once or when its trigger comes; a
transfer that breaks a check ends with FORMAT. STOP ends a waiting transfer at once, and a running one at its boundary. A transfer at
its end reports REASON, residual, DONE and fires its event. A response shows memory, adds a failure, or is counted as stale. A read-back
that completes lets what waited for it go on. FIFO words enter at the tail and leave at the head in order; a write to a full FIFO and a
read beyond the committed words are misuse, which resets the FIFO; a read of FH_STAT clears CROSSINGS. (10_movers_fifos.md R311,
10_movers_fifos.md R321, 10_movers_fifos.md R323, 10_movers_fifos.md R324, 10_movers_fifos.md R325, 10_movers_fifos.md R327,
10_movers_fifos.md R329, 10_movers_fifos.md R330, 10_movers_fifos.md R331, 10_movers_fifos.md R332) -/
def Obligations.TransfersResponsesAndFifos : Prop :=
  (∀ (blk m j : Nat) (v : W64) (s : State), let x := s.regCh blk m j
    let y := { x with ctrl := v &&& rcCtrlMask, busy := true, done := false, bad := false, reason := 0, residual := 0, moved := 0, fails := [] }
    let s1 := s.stir.modRegCh blk m j fun _ => y
    s.moverUp blk m = true → j < 2 → v.getLsbD 63 = true →
    (x.busy = false → x.lodge = false → rcCtrlBad v = false → exec (.rcStart blk m j v) s = .next (
      if y.formatOk = false then s1.rcEnd blk m j 0x20 x.count true
      else s1.modRegCh blk m j fun y => if y.trig = 0 then { y with ready := true } else { y with armed := decide (y.trig = 1) })) ∧
    (x.busy = true ∨ x.lodge = true ∨ rcCtrlBad v = true → exec (.rcStart blk m j v) s = .next (s.rcRefuse blk m j))) ∧
  (∀ (blk m j : Nat) (s : State), let x := s.regCh blk m j
    s.moverUp blk m = true → j < 2 → exec (.rcStop blk m j) s = .next (
      if x.busy = false then s
      else if x.running = false ∧ x.ready = false then s.rcEnd blk m j 0x23 (x.resid (x.count - x.moved)) false
      else s.modRegCh blk m j fun x => { x with stop := true })) ∧
  (∀ (blk m j reason res : Nat) (s : State), let x := s.regCh blk m j
    s.moverUp blk m = true → x.running = true → x.ended = some (reason, res) → x.dirty = [] → s.rcWaits x = false →
    exec (.rcTransferEnd blk m j none) s = .next (
      if reason ≠ 0 then s.rcEnd blk m j reason res true
      else if res = 0 then s.rcEnd blk m j 0 0 true
      else if x.stop then s.rcEnd blk m j 0x23 (x.resid res) false
      else (s.modRegCh blk m j fun y => { y with moved := x.count - res, running := false, ended := none }).modMover blk m
        fun v => { v with unit := none })) ∧
  (∀ (blk m j : Nat) (s : State), let x := s.regCh blk m j
    s.moverUp blk m = true → x.running = true → x.ended = none → x.bar = false → s.rcWaits x = false →
    exec (.rcTransferEnd blk m j none) s = .next ((s.rcMoved blk m j).rcUnitOver blk m j none)) ∧
  (∀ (blk m c : Nat) (s : State), s.up = true → blk < 72 → m < 8 → c < 8 →
    exec (.rchStatRead blk m c) s = .next ((s.emit (.value (s.ringCh blk m c).stat)).modRingCh blk m c fun x => { x with abandoned := 0 })) ∧
  (∀ (n : Nat) (bib : Byte) (a : Nat) (why : AccFail) (wr : Bool) (s : State), let c := s.ctx n
    s.up = true →
    (c.abandoned bib = true → ∀ r, exec (.moverReadResponse (.ctx n) bib a r) s = .next (s.staleResponse n bib)) ∧
    (c.abandoned bib = false → c.asks = false → ∀ r, exec (.moverReadResponse (.ctx n) bib a r) s = .next s) ∧
    (c.abandoned bib = false → c.asks = true →
      (∀ bs, exec (.moverReadResponse (.ctx n) bib a (.data bs)) s = .next s) ∧
      exec (.moverReadResponse (.ctx n) bib a (.fail why wr)) s = .next (s.modCtx n fun c =>
        { c with fails := c.fails ++ [{ space := 1, addr := a, len := 1, why := why, write := some wr }] }))) ∧
  (∀ (b m c : Nat) (bib : Byte) (a : Nat) (r : Answer) (s : State), let x := s.ringCh b m c
    s.up = true → (x.running ≠ none ∨ x.lost ≠ []) →
    exec (.moverReadResponse (.ring b m c) bib a r) s = .next (s.ringResponse b m c bib a r) ∧
    (x.lost.contains bib = true → (x.running = none ∨ bib ≠ x.bib) → s.ringResponse b m c bib a r = s.modRingCh b m c fun x =>
      { x with lost := x.lost.erase bib, abandoned := satInc x.abandoned 0xFFFF }) ∧
    (x.lost.contains bib = false → x.bound = true → bib ≠ x.bib → s.ringResponse b m c bib a r = s.staleResponse x.ctx bib)) ∧
  (∀ (b m j : Nat) (bib : Byte) (a : Nat) (r : Answer) (s : State), s.up = true → (s.regCh b m j).running = true →
    exec (.moverReadResponse (.reg b m j) bib a r) s = .next (s.regResponse b m j a r)) ∧
  (∀ (n : Nat) (w : Wr) (s : State), let c := s.ctx n
    s.up = true → readable c.dirty = true → (c.r.supervisor = true ∨ s.hostWaits c.r.ownerFn.toNat (c.dirty.contains 0) = false) →
    exec (.readBackComplete (.ctx n) none w) s = .next (s.ctxArrived n w) ∧
    ∀ f, exec (.readBackComplete (.ctx n) (some f) w) s = .next (s.ctxReadBackFails n f w)) ∧
  (∀ (b m c reason res k : Nat) (w : Wr) (s : State), let x := s.ringCh b m c
    s.up = true → readable x.dirty = true → s.hostWaits x.fn (x.dirty.contains 0) = false → x.ended = some (reason, res) →
    x.running = some k → exec (.readBackComplete (.ring b m c) none w) s =
      .next (((s.modRingCh b m c fun x => { x with dirty := [], farTags := [] }).farArrived (snapRing b m c)).unitOver b m c reason res (0, 0) w)) ∧
  (∀ (b m j : Nat) (w : Wr) (s : State), let x := s.regCh b m j
    s.moverUp b m = true → x.running = true → x.bar = true → x.xform ≠ 6 → s.rcWaits x = false → x.ended ≠ none →
    readable x.dirty = true → exec (.readBackComplete (.reg b m j) none w) s = .next (s.modRegCh b m j fun y => { y with dirty := [] })) ∧
  (∀ (n : Nat) (s : State), s.up = true → (s.ctx n).dirty.contains unacked = true →
    exec (.localWriteAcknowledged (.ctx n)) s = .next (s.modCtx n fun c => { c with dirty := c.dirty.filter fun k => decide (k ≠ unacked) })) ∧
  (∀ (b m c : Nat) (s : State), s.up = true → (s.ringCh b m c).dirty.contains unacked = true →
    exec (.localWriteAcknowledged (.ring b m c)) s =
      .next (s.modRingCh b m c fun x => { x with dirty := x.dirty.filter fun k => decide (k ≠ unacked) })) ∧
  (∀ (b m j : Nat) (s : State), let x := s.regCh b m j
    s.moverUp b m = true → x.running = true → x.bar = true → x.xform ≠ 6 → x.ds = 1 → x.ended = none → s.rcWaits x = false →
    x.dirty.contains unacked = false → exec (.localWriteAcknowledged (.reg b m j)) s =
      .next ((s.rcMoved b m j).modRegCh b m j fun y => { y with dirty := y.dirty.filter fun k => decide (k ≠ unacked) })) ∧
  (∀ (blk f : Nat) (data : List Byte) (last : Bool) (s : State), let x := (s.block blk).fifo f
    s.up = true → blk < 72 → f < 64 → data.length = wordLen f → (f ≠ toSeq ∨ (s.block blk).evWait = []) →
    (x.midItem = false → x.words.length ≠ fifoCap f → Completes (.fifoItemWrite blk f data last) s fun t =>
      ((t.block blk).fifo f).words = x.words ++ [(data, last)] ∧ (∀ g, g ≠ f → (t.block blk).fifo g = (s.block blk).fifo g) ∧
      t = { s with blocks := t.blocks }) ∧
    (x.midItem = true → exec (.fifoItemWrite blk f data last) s = .next (s.modFifo blk f fun x => { x with midItem := !last })) ∧
    (x.midItem = false → x.words.length = fifoCap f → exec (.fifoItemWrite blk f data last) s =
      .next ((s.modFifo blk f fun x => { x with overrun := true }).fifoMisuse blk f))) ∧
  (∀ (blk f n : Nat) (s : State), let x := (s.block blk).fifo f
    s.up = true → blk < 72 → f < 64 → 1 ≤ n → (f ≠ toSeq ∨ (s.block blk).evWait = []) →
    (n ≤ x.committed → Completes (.fifoItemRead blk f n) s fun t =>
      ((t.block blk).fifo f).words = x.words.drop n ∧ (∀ g, g ≠ f → (t.block blk).fifo g = (s.block blk).fifo g) ∧
      t = { s with blocks := t.blocks }) ∧
    (x.committed = 0 → exec (.fifoItemRead blk f n) s = .next ((s.modFifo blk f fun x => { x with underrun := true }).fifoMisuse blk f)) ∧
    (0 < x.committed → x.committed < n → ∃ u, exec (.fifoItemRead blk f x.committed) s = .next u ∧
      exec (.fifoItemRead blk f n) s = .next ((u.modFifo blk f fun x => { x with underrun := true }).fifoMisuse blk f))) ∧
  (∀ (blk f : Nat) (w : Wr) (s : State), s.up = true → blk < 72 → f < 64 →
    exec (.fifoPointerMismatch blk f w) s = .next (s.fifoReset blk f w) ∧
    exec (.fhStatRead blk f) s =
      .next ((s.emit (.value (((s.block blk).fifo f).stat f))).modFifo blk f fun x => { x with crossings := 0 }))

/-- CREATE of the admin queue makes the queue that AQ_BASE and AQ_CFG describe when its checks pass, and gives the first result that applies
otherwise. A write of SR_HEAD between head and tail moves the head; any other is refused. Aligned writes of 4 or 8 bytes reach the
registers of the control window; aligned reads return what the window holds, 0 for everything but FN_INFO and FN_STATE while the
function is RESETTING, and other accesses return 0, do nothing and are logged; SR_HEAD and SR_TAIL of a ring that does not exist, HEALTH
of a virtual function and unmapped addresses read 0. Supervisor writes reach the register spaces, and GO starts cores there. The local
memory window reads what it does not deny, stores bytes that read back, and an AtomicOp returns the old value and stores the new one,
unless its data are poisoned. In the device-fatal state a request to a BAR completes with Completer Abort and does nothing else.
(00_scope.md R9, 06_host_queues.md R185, 06_host_queues.md R186, 06_host_queues.md R187, 06_host_queues.md R188, 06_host_queues.md R189,
06_host_queues.md R191, 06_host_queues.md R192, 09_yaquelux_units.md R290, 13_errors.md R379) -/
def Obligations.ControlAndMemoryWindows : Prop :=
  (∀ (fn : Nat) (v : W32) (s : State), let f := s.fn fn
    s.up = true → s.fnExists fn = true → v.getLsbD 0 = true → f.state ≠ 2 → exec (.aqCreate fn v) s = .next (s.setFn fn (
      if f.createResult = 1 then { f.setQueue 0 (some (f.adminQueue s.time)) with aqResult := 1 } else { f with aqResult := f.createResult }))) ∧
  (∀ (fn n : Nat) (v : W32) (r : StatusRing) (s : State), let idx := v.toNat % 0x10000
    let pass := v.getLsbD 16
    let size := 2 ^ r.logSize
    s.up = true → s.fnExists fn = true → n < 16 → (s.fn fn).ring n = some r → exec (.srHeadWrite fn n v) s = .next (
      if idx < size ∧ ringAhead size r.head r.headPass idx pass ≤ ringAhead size r.head r.headPass r.tail r.tailPass then
        (s.modFn fn fun f => f.setRing n (some { r with head := idx, headPass := pass })).ringFreed fn n {}
      else s.fnRefuse fn)) ∧
  (∀ (fn off width : Nat) (v : W64) (s : State), s.up = true → s.fnExists fn = true → 1 ≤ width → off + width ≤ 0x400000 →
    ((width = 4 ∨ width = 8) → off % width = 0 → (s.fn fn).state ≠ 2 → exec (.registerWrite (.host fn off width v)) s =
      .next (s.hostPut fn (off / 8 * 8) (v.toNat * 2 ^ (8 * (off % 8)) % 2 ^ 64) (laneMask (off / 8 * 8) off width))) ∧
    ((width = 4 ∨ width = 8) → off % width = 0 → (s.fn fn).state = 2 → exec (.registerWrite (.host fn off width v)) s = .next s) ∧
    (¬(width = 4 ∨ width = 8) ∨ off % width ≠ 0 → exec (.registerWrite (.host fn off width v)) s = .next (s.fnRefuse fn))) ∧
  (∀ (fn off : Nat) (s : State), off % 8 = 0 →
    ((s.fn fn).state ≠ 2 ∨ off = 0 ∨ off = 8 → (s.hostLoad fn off 8).1 = BitVec.ofNat 64 (s.windowWord fn off % 2 ^ 64) ∧
      ((off ≠ 0x38 ∨ fn ≠ 0) → (s.hostLoad fn off 8).2 = s)) ∧
    ((s.fn fn).state = 2 → off ≠ 0 → off ≠ 8 → s.hostLoad fn off 8 = (0, s)) ∧
    (∀ w, ¬(w = 4 ∨ w = 8) ∨ off % w ≠ 0 → s.hostLoad fn off w = (0, s.fnRefuse fn)) ∧
    (∀ n, n < 16 → (s.fn fn).ring n = none → s.windowWord fn (0x100 + 16 * n) = 0 ∧ s.windowWord fn (0x108 + 16 * n) = 0) ∧
    (fn ≠ 0 → s.windowWord fn 0x1000 = 0) ∧ s.windowWord 0 0x1000 = s.chip.health.toNat ∧
    (0x24000 ≤ off → s.windowWord fn off = 0)) ∧
  (∀ (a width : Nat) (v : W64) (s : State), s.up = true → 1 ≤ width → width ≤ 8 → inRegs a = true → inRegs (a + width - 1) = true →
    exec (.registerWrite (.supervisor a width v)) s = .next (s.regStore a width v.toNat)) ∧
  (∀ (a : Nat) (v : W64) (r : Reg) (s : State), s.up = true → a % 8 = 0 → s.regAt a = some r → isBoot r = true → v.getLsbD 63 = true →
    exec (.cellBootGo (.supervisor a 8 v)) s = .next (s.regStore a 8 v.toNat)) ∧
  (∀ (off : Nat) (op : LmwOp) (s : State), let a := (s.fn 0).lmwBase * 0x40000000 + off
    let n := lmwSize op
    let t := s.lmwCount a n
    let old := s.lmwBytes a n
    s.up = true → lmwOk off op = true → off + n ≤ 2 ^ (s.fn 0).lmwLog * 0x40000000 →
    (∀ k, op = .read k → exec (.lmwAccess off op) s = .next (t.emit (.lmw old (s.lmwPoison a n)))) ∧
    (∀ bs, op = .write bs → exec (.lmwAccess off op) s = .next (t.lmwStore a bs)) ∧
    (∀ v, lmwNext (leVal old) op = some v → s.lmwPoison a n = false →
      exec (.lmwAccess off op) s = .next ((t.emit (.lmw old false)).lmwStore a (leBytes n v))) ∧
    ((∃ k c v, op = .cas k c v) → lmwNext (leVal old) op = none → s.lmwPoison a n = false →
      exec (.lmwAccess off op) s = .next (t.emit (.lmw old false))) ∧
    ((∀ k, op ≠ .read k) → (∀ bs, op ≠ .write bs) → s.lmwPoison a n = true →
      exec (.lmwAccess off op) s = .next (t.emit (.lmw old true)))) ∧
  (∀ s : State, s.up = true → (s.fn 0).state ≠ 2 → (s.fn 0).lmwDenied < 2 ^ 32 →
    exec .lmwDeniedRead s = .next ((s.modFn 0 fun f => { f with lmwDenied := 0 }).emit (.value (BitVec.ofNat 64 (s.fn 0).lmwDenied)))) ∧
  (∀ s : State, s.chip.fatal = true → s.board.cold = false →
    ∀ i ∈ [Instr.lmwDeniedRead, .lmwAccess 0 (.read 4), .registerWrite (.host 0 0x48 4 0)], exec i s = .next (s.emit .completerAbort))

/-- While the device is in cold or warm reset a configuration request completes with Request Retry Status and changes nothing. Otherwise BAR
resize, FLR, VF Enable, power state with PME_En, Bus Master Enable and PME_Status act as their rules say; an FLR makes the function
RESETTING; a cleared MSI-X mask sends what is pending, a hold-off that expires sends its message, and an invalidation is answered.
Configuration space reports the identifiers of the part, Revision ID 0x10, and the vector count minus 1 as MSI-X Table Size.
(00_scope.md R2, 06_host_queues.md R179, 06_host_queues.md R180, 06_host_queues.md R182, 06_host_queues.md R183, 06_host_queues.md R213,
06_host_queues.md R214, 06_host_queues.md R215, 15_electrical_package.md R428) -/
def Obligations.ConfigurationAndInterruptEvents : Prop :=
  (∀ s : State, s.board.cold = true ∨ s.board.warm = true →
    ∀ (k fn : Nat) (on pme : Bool) (w : Wr),
    ∀ i ∈ [Instr.barResize k, .flr fn, .vfEnableClear, .vfEnableSet k, .dStateChange fn ⟨on, pme⟩ w, .busMasterEnableChange fn on w,
           .pmeStatusClear fn], exec i s = .next (s.emit .requestRetry)) ∧
  (∀ (k : Nat) (s : State), s.board.cold = false → s.board.warm = false → k ≤ 8 →
    exec (.barResize k) s = .next (s.modFn 0 fun f => { f with lmwLog := k, lmwBase := 0 })) ∧
  (∀ (fn : Nat) (s : State), s.board.cold = false → s.board.warm = false → s.fnExists fn = true → s.chip.fatal = false →
    Completes (.flr fn) s fun t => t = s.beginFlr fn ∧ (t.fn fn).state = 2 ∧ (t.fn fn).resetAt = s.time) ∧
  (∀ s : State, s.up = true → s.vfEnable = true →
    Completes .vfEnableClear s fun t => t.vfEnable = false ∧ t = { s.resetVfs with vfEnable := false }) ∧
  (∀ (n : Nat) (s : State), s.up = true → s.vfEnable = false → n ≤ 255 →
    exec (.vfEnableSet n) s = .next { s with vfEnable := true, numVfs := n }) ∧
  (∀ (fn : Nat) (d0 pme : Bool) (w : Wr) (s : State), let t := (s.modFn fn fun f => { f with d0 := d0, pmeEn := pme }).cic (512 + fn)
    s.up = true → s.fnExists fn = true → (s.fn fn).d0 ≠ d0 →
    exec (.dStateChange fn ⟨d0, pme⟩ w) s =
      .next (if d0 then t.stir.releaseHeld fn w else if (s.fn fn).someWaits then t.askPme fn else t)) ∧
  (∀ (fn : Nat) (on : Bool) (w : Wr) (s : State), let t := (s.modFn fn fun f => { f with busMaster := on }).cic (512 + fn)
    s.up = true → s.fnExists fn = true → (s.fn fn).busMaster ≠ on →
    exec (.busMasterEnableChange fn on w) s = .next (if on then t.releaseHeld fn w else t)) ∧
  (∀ (fn v : Nat) (s : State), s.up = true → s.fnExists fn = true →
    let all := fun (s : State) => (Table.keys (s.fn fn).vecs).foldl (fun s v => s.unmask fn v) s
    (v < (s.fn fn).vecCount →
      exec (.msixMaskClear fn (.vector v)) s = .next ((s.modFn fn fun f => f.setVec v { f.vec v with masked := false }).unmask fn v)) ∧
    exec (.msixMaskClear fn .function) s = .next (all (s.modFn fn fun f => { f with fnMask := false })) ∧
    exec (.msixMaskClear fn .enable) s = .next (all (s.modFn fn fun f => { f with msixEn := true }))) ∧
  (∀ (fn : Nat) (s : State), s.up = true → s.fnExists fn = true → (s.fn fn).pmeStatus = true →
    exec (.pmeStatusClear fn) s = .next (if (s.fn fn).d0 = false ∧ (s.fn fn).pmeEn = true ∧ (s.fn fn).someWaits = true then s.emit (.pmPme fn)
      else s.setFn fn { s.fn fn with pmeStatus := false }) ∧
    exec (.pmeTimeout fn) s = .next (s.emit (.pmPme fn))) ∧
  (∀ (fn v t t0 : Nat) (s : State), let x := (s.fn fn).vec v
    s.up = true → s.fnExists fn = true → s.notBefore t = true → x.since = some t0 → x.pending ≠ 0 → reached t (t0 + 1000 * x.holdoff) = true →
    exec (.moderationHoldoffExpiry fn v t) s = .next (((s.at_ t).modFn fn fun f =>
      f.setVec v { f.vec v with pending := 0, since := none }).deliverMsg fn v)) ∧
  (∀ (fn : Nat) (s : State), s.up = true → s.fnExists fn = true → exec (.atsInvalidate fn) s = .next (s.answer mgOk)) ∧
  (∀ (fn : Nat) (s : State), let p := s.pciConfig fn
    p.revisionId = 0x10 ∧ p.vendorId = vendorId ∧ p.deviceId = deviceId fn ∧ p.msixTableSize = (s.fn fn).vecCount - 1 ∧
    p.classCode = 0x120000 ∧ p.pageRequests = false ∧ p.msiAndIntx = false)

/-- A poll that is due begins a read of byte 0 of slot f. When that byte returns with VALID 1 and the EPOCH of the queue, the entry is read;
otherwise the queue rests until its next poll. An entry that returns and passes the structural checks is taken, and f moves past its
slots; one that fails them freezes the function, as a failed read of the ring does. At the end of a freeze the error record is posted to
status ring 0; once nothing of it waits the error vector is told when there is one, and the freeze is over. A response to a context's
request to host or far memory shows its bytes or adds a failure, a timeout adds one; a posted write has no failure but its
translation's; a response to an abandoned request is stale. (02_channel_programs.md R62, 03_command_reference.md R86, 06_host_queues.md
R197, 06_host_queues.md R198, 06_host_queues.md R201, 06_host_queues.md R202, 06_host_queues.md R207, 06_host_queues.md R208,
06_host_queues.md R209) -/
def Obligations.ReadsOfEntriesAndResponses : Prop :=
  (∀ (fn q t lo : Nat) (x : Queue) (s : State), s.grooms fn = true → (s.fn fn).queue q = some x → x.stage = .due lo → s.notBefore t = true → reached t lo = true →
    exec (.queuePoll fn q t) s = .next ((s.at_ t).modFn fn fun f =>
      f.setQueue q (some { x with stage := .reading false, chased := 0, polled := t }))) ∧
  (∀ (fn q : Nat) (chase : Bool) (x : Queue) (s : State), let a := x.base + 16 * x.f
    s.grooms fn = true → (s.fn fn).queue q = some x → x.stage = .reading chase →
    (∀ b, s.ringAgrees fn x a 1 (.ok [b]) = true →
      exec (.pollReadComplete fn q (.ok b)) s = .next ((s.learnHost fn x a [b]).modFn fn fun f => f.setQueue q (some (
        if b.getLsbD 7 = true ∧ b.getLsbD 6 = x.e then { x with stage := .entry b }
        else { x with stage := .due (x.polled + x.interval), chased := 0 })))) ∧
    (∀ f, exec (.pollReadComplete fn q (.fail f)) s = .next (s.ringReadFail fn q x 0))) ∧
  (∀ (fn q : Nat) (b0 : Byte) (w : Wr) (x : Queue) (s : State), let a := x.base + 16 * x.f
    let n := b0.toNat % 64 + 1
    s.grooms fn = true → (s.fn fn).queue q = some x → x.stage = .entry b0 →
    (∀ f, exec (.entryReadComplete fn q (.fail f) w) s = .next (s.ringReadFail fn q x b0.toNat)) ∧
    (∀ bs, s.ringAgrees fn x a (16 * n) (.ok bs) = true →
      (∀ cause, structural (decide (q = 0)) b0 x.f x.slots bs = some cause → exec (.entryReadComplete fn q (.ok bs) w) s =
        .next (((s.learnHost fn x a bs).modFn fn fun f => f.setQueue q (some x.rest)).freeze fn cause
          (freezeAt q x.f (byteAt bs 0) (byteAt bs 1)) .freeze none w)) ∧
      (structural (decide (q = 0)) b0 x.f x.slots bs = none → byteAt bs 1 ≠ 0x10 → Completes (.entryReadComplete fn q (.ok bs) w) s fun t =>
        (t.fn fn).taken = (s.fn fn).taken ++ [{ q := q, slot := x.f, bytes := bs, seq := s.takes }] ∧ t.takes = s.takes + 1 ∧
        (∃ y, (t.fn fn).queue q = some y ∧ y.f = (if x.f + n = x.slots then 0 else x.f + n) ∧ y.e = (x.e ^^ decide (x.f + n = x.slots))) ∧
        (∀ m, m ≠ fn → t.fn m = s.fn m) ∧ t = { s with fns := t.fns, hostMem := t.hostMem, takes := t.takes }))) ∧
  (∀ (fn : Nat) (w : Wr) (s : State), let f := s.fn fn
    let t := (s.postStatus fn 0 f.errorRecord w).modFn fn fun f => { f with errPosted := true }
    s.up = true → f.freezing = true → f.state = 1 → f.taken = [] → f.held = [] → (∀ n ∈ s.ctxsOf fn, (s.ctx n).hasProgram = false) →
    (f.errPosted = false → exec (.freezeFinish fn w) s = .next (if (t.fn fn).held = [] then t.freezeEnd fn else t)) ∧
    (f.errPosted = true → exec (.freezeFinish fn w) s = .next (s.freezeEnd fn))) ∧
  (∀ (n a : Nat) (bib : Byte) (s : State), let c := s.ctx n
    s.up = true →
    (c.abandoned bib = true → ∀ r, exec (.hostCompletion ⟨n, bib⟩ a r) s = .next (s.staleResponse n bib) ∧
      exec (.farResponse ⟨n, bib⟩ a r) s = .next (s.staleResponse n bib)) ∧
    (c.abandoned bib = true → ∀ len, exec (.hostCompletionTimeout ⟨n, bib⟩ a len) s = .next (s.lateOver n bib)) ∧
    (c.abandoned bib = false → c.asks = true →
      (∀ bs, exec (.hostCompletion ⟨n, bib⟩ a (.data bs)) s = .next (s.learn (.mem c.me 0) a bs)) ∧
      (∀ why wr, exec (.hostCompletion ⟨n, bib⟩ a (.fail why wr)) s =
        .next (if wr = true ∧ why ≠ .ats then s else s.addFail n 0 a 1 why (some wr))) ∧
      (∀ len, c.r.supervisor = true ∨ (s.fn c.r.ownerFn.toNat).stopped = false →
        exec (.hostCompletionTimeout ⟨n, bib⟩ a len) s = .next (s.addFail n 0 a len .hostTimeout (some false))) ∧
      (∀ bs, exec (.farResponse ⟨n, bib⟩ a (.data bs)) s = .next (s.learn (.mem c.me 2) a bs)) ∧
      (∀ why wr, exec (.farResponse ⟨n, bib⟩ a (.fail why wr)) s = .next (s.addFail n 2 a 1 why (some wr)))))

/-- Out of cold reset a management command carried in MCTP, with no command executing, acts when the life cycle allows it: PROVISION and
INSTALL_CERT on a BLANK device, LOCK on an OPEN one, SET_DEBUG by level; a store is refused when a supply margin is too low. In a
session secured over MCTP a LOCKED device gives a nonce, takes its signature once, and unlocks to OBSERVE at once and to FULL, or
retires, through zeroisation, after which no byte of the tenant area is other than 0. Attestation answers with measurements,
certificates, signatures and sessions; TDISP moves the TDI of a function from CONFIG_UNLOCKED to CONFIG_LOCKED to RUN, and an error
freezes the function. PLDM updates the bank that does not run. (06_host_queues.md R179, 14_security_debug_power.md R396,
14_security_debug_power.md R397, 14_security_debug_power.md R398, 14_security_debug_power.md R400, 14_security_debug_power.md R401,
14_security_debug_power.md R404, 14_security_debug_power.md R406, 14_security_debug_power.md R407, 14_security_debug_power.md R408,
14_security_debug_power.md R418) -/
def Obligations.ManagementAndAttestation : Prop :=
  (∀ s : State, s.mgUp = true → let q := s.leaveLowPower
    exec (.getState .mctp) s = .next (s.answer mgOk [s.secState.toNat, s.pwrStat.toNat]) ∧
    (∀ slot n, 1 ≤ n → n ≤ 16 → slot + n ≤ 16384 → exec (.readLedger .mctp slot n) s =
      .next (s.answer mgOk ((List.range n).flatMap fun i => (s.store.ledgerSlot (slot + i)).map BitVec.toNat))) ∧
    (s.sec.zeroising = none →
      (∀ level, level ≤ 2 → (q.store.lifecycle ≠ 2 ∨ (q.sec.debug = 1 ∧ level = 0)) →
        exec (.setDebug .mctp level) s = .next (({ q with sec := { q.sec with debug := level } }).answer mgOk)) ∧
      (∀ k p, q.store.lifecycle = 0 → exec (.provision .mctp k p) s = .next (if q.supplyOk then
          ({ q with store := { q.store with secret := some k, publicKey := p } }).answer mgOk [p]
        else q.refuseStore.answer mgSupply)) ∧
      (∀ chain, chain ≠ [] → chain.length ≤ 16384 → q.store.lifecycle = 0 → q.store.secret ≠ none →
        exec (.installCert .mctp chain) s = .next (if q.supplyOk then
          (({ q with store := { q.store with chain := chain } }).lifecycle 1).answer mgOk else q.refuseStore.answer mgSupply)) ∧
      (q.store.lifecycle = 1 → exec (.lockDevice .mctp) s = .next (if q.supplyOk then
          (({ q with sec := { q.sec with debug := 0 } }).lifecycle 2).answer mgOk else q.refuseStore.answer mgSupply)))) ∧
  (∀ (id t : Nat) (s : State), s.mgUp = true → s.notBefore t = true → s.securedIn (.session id) = some id → s.store.lifecycle = 2 →
    (∀ purpose nonce, 1 ≤ purpose → purpose ≤ 3 → nonce < 2 ^ 384 →
      Completes (.unlockChallenge (.session id) purpose nonce t) s fun u =>
        u.sec.nonces = s.sec.nonces ++ [{ value := nonce, session := id, purpose := purpose, born := t }] ∧
        u.out = s.out ++ [.reply mgOk [nonce]] ∧ u.sec.debug = s.sec.debug) ∧
    (∀ nonce x, s.sec.zeroising = none → s.liveNonce id nonce t = some x →
      let used := ((s.at_ t).cic 960).useNonce id nonce
      (x.purpose = 1 → s.sec.debug = 0 → exec (.unlockResponse (.session id) nonce true t) s =
        .next (({ used.leaveLowPower with sec := { used.leaveLowPower.sec with debug := 1 } }).answer mgOk)) ∧
      (x.purpose = 2 → s.sec.debug < 2 → exec (.unlockResponse (.session id) nonce true t) s = .next (used.beginZeroise 2 id)) ∧
      (x.purpose = 3 → exec (.retire (.session id) nonce true t) s = .next (used.beginZeroise 3 id)) ∧
      exec (.unlockResponse (.session id) nonce false t) s = .next (used.badSignature id))) ∧
  (∀ (purpose id : Nat) (s : State), let e := s.erase id
    let z := { e with sec := { e.sec with zeroising := none, zeroised := true } }
    s.up = true → s.allStopped = true → s.sec.zeroising = some (purpose, id) →
    (purpose ≠ 3 → Completes .zeroisation s fun t => t.sec.debug = 2 ∧ t.sec.zeroised = true ∧ t.sec.zeroising = none ∧
      (∀ a, a < tenantSize → t.hbm.read a = 0) ∧ t.store = s.store) ∧
    (purpose = 3 → z.supplyOk = true → exec .zeroisation s = .next (let r := ({ z with
      store := { z.store with secret := none, publicKey := 0, chain := [] } } : State).lifecycle 3
      ({ r with sec := { r.sec with debug := 2 } }).answer mgOk))) ∧
  (∀ (nonce t : Nat) (x : Nonce) (s : State), s.mgUp = true → s.notBefore t = true → x ∈ s.sec.nonces → x.value = nonce →
    reached t (x.born + 60000000000) = true → Completes (.nonceExpiry nonce t) s fun u => x ∉ u.sec.nonces ∧
      (∀ y ∈ s.sec.nonces, y.value ≠ nonce → y ∈ u.sec.nonces) ∧ u.sec.debug = s.sec.debug) ∧
  (∀ (id : Nat) (s : State), let q := s.cic 960
    s.mgUp = true → s.sessionOpen id = true → q.provisioned = true →
    exec (.getMeasurements id false) s = .next (q.answer mgOk q.measurements) ∧
    exec (.getMeasurements id true) s = .next ((q.drawKey 1).2.answer mgOk ((q.drawKey 1).2.measurements ++ [(q.drawKey 1).1])) ∧
    exec (.getCertificate id 0) s = .next ((q.drawKey 2).2.answer mgOk ((q.drawKey 2).2.store.chain.map BitVec.toNat ++ [(q.drawKey 2).1])) ∧
    exec (.challenge id 0) s = .next ((q.drawKey 3).2.answer mgOk [(q.drawKey 3).1])) ∧
  (∀ (id : Nat) (mgmt : Bool) (s : State), let q := s.cic 960
    let r := (q.drawKey 4).2
    s.mgUp = true → id ≠ 0 → s.session id = none → q.provisioned = true → s.sec.sessions.length < 4 →
    (mgmt = true → ∀ x ∈ s.sec.sessions, x.2.1 = false) →
    exec (.keyExchange id mgmt) s = .next (({ r with
      sec := { r.sec with sessions := r.sec.sessions ++ [(id, mgmt, 0)] } }).answer mgOk [(q.drawKey 4).1])) ∧
  (∀ (id : Nat) (s : State), s.mgUp = true → (s.session id).isSome = true → Completes (.spdmSessionEnd id) s fun t =>
    t.session id = none ∧ (∀ x ∈ t.sec.nonces, x.session ≠ id)) ∧
  (∀ (fn : Nat) (s : State), let q := s.cic 960
    s.mgUp = true → s.isTdi fn = true →
    (s.store.lifecycle = 2 → s.sec.debug < 2 → (s.fn fn).tdi = .configUnlocked →
      exec (.tdispLockInterface fn) s = .next ((q.modFn fn fun f => { f with tdi := .configLocked, ideSecure := true }).answer mgOk)) ∧
    ((s.fn fn).tdi = .configLocked → exec (.tdispStartInterface fn) s = .next ((q.modFn fn fun f => { f with tdi := .run }).answer mgOk)) ∧
    (s.board.warm = false → s.chip.fatal = false → exec (.tdispStopInterface fn) s = .next ((q.beginFlr fn).answer mgOk)) ∧
    (s.up = true → ((s.fn fn).tdi = .configLocked ∨ (s.fn fn).tdi = .run) → exec (.tdiError fn) s =
      .next ((s.modFn fn fun f => { f with tdi := .error, ideSecure := false }).freeze fn 7 0 .freeze none {}))) ∧
  (∀ (k : Nat) (s : State), s.mgUp = true → s.supplyOk = true →
    (s.sec.fwBusy = none → s.fwExecutes = false → exec (.pldmFirmwareUpdate .begin) s =
      .next (({ s with sec := { s.sec with fwBusy := some s.updateBank } }).answer mgOk)) ∧
    (s.sec.fwBusy = some k →
      (∀ off bs, bs ≠ [] → off + bs.length ≤ bankSize →
        exec (.pldmFirmwareUpdate (.chunk off bs)) s = .next (({ s with
          store := { s.store.writeBank k off bs with torn := restaged k off bs.length s.store.torn } }).answer mgOk)) ∧
      (∀ len version, len ≠ 0 → len ≤ bankSize → exec (.pldmFirmwareUpdate (.activate len true version)) s =
        .next (({ s with store := s.store.commitBank k version, sec := { s.sec with fwBusy := none } }).answer mgOk)) ∧
      exec (.pldmFirmwareUpdate .cancel) s = .next (({ s with sec := { s.sec with fwBusy := none } }).answer mgOk)))

/-- A debug frame that is not well formed is answered FAULT, and one that the debug level does not allow DENIED, without effect; an allowed
one reads or writes 8 bytes of the map, and SEC_STATE is read at every level. The test access port selects instructions: pin tests only
under SYS_RST_N, private instructions only at level FULL. An idle island is gated and runs again; Coast and Park are entered under their
conditions, with every lodged context evicted, but at level FULL their entry is refused and counted, and they are left on a trigger. A
warm reset holds the device until its release; a cold reset ends everything, and its release samples the straps, unless the power order
was broken or THERMTRIP has tripped. (14_security_debug_power.md R405, 14_security_debug_power.md R409, 14_security_debug_power.md R410,
14_security_debug_power.md R411, 14_security_debug_power.md R412, 14_security_debug_power.md R414, 15_electrical_package.md R427,
15_electrical_package.md R429, 15_electrical_package.md R423, 15_electrical_package.md R433, 15_electrical_package.md R436) -/
def Obligations.DebugPortsPowerAndReset : Prop :=
  (∀ (f : DapFrame) (s : State), s.mgUp = true →
    (dapFaulty f = true → exec (.dapRead f) s = .next (s.emit (.reply 4 [])) ∧ exec (.dapWrite f) s = .next (s.emit (.reply 4 [])) ∧
      exec (.dapStatus f) s = .next (s.emit (.reply 4 []))) ∧
    (dapFaulty f = false →
      (f.addr = 0 → exec (.dapStatus f) s = .next (s.emit (.reply 1 [s.secState.toNat]))) ∧
      (dapAllowed s.sec.debug f.addr false = false → exec (.dapRead f) s = .next (s.emit (.reply 2 []))) ∧
      (dapAllowed s.sec.debug f.addr true = false → exec (.dapWrite f) s = .next (s.emit (.reply 2 []))) ∧
      (dapAllowed s.sec.debug f.addr false = true → exec (.dapRead f) s = .next (s.dapGet f.addr)) ∧
      (dapAllowed s.sec.debug f.addr true = true → exec (.dapWrite f) s = .next (s.dapPut f.addr f.data)) ∧
      (s.sec.debug = 0 → ∀ w, dapAllowed 0 f.addr w = (!w && decide (f.addr = secStateAddr))) ∧
      (dapPlace f.addr = .local_ → s.poisonIn f.addr 8 = none →
        s.dapGet f.addr = s.emit (.reply 1 [leVal (s.localRead f.addr 8)]) ∧
        s.dapPut f.addr f.data = (s.localWrite f.addr (leBytes 8 f.data.toNat)).emit (.reply 1 [])))) ∧
  (∀ (s : State) (t : Nat), s.notBefore t = true → exec (.dapFrameTimeout t) s = .next ((s.at_ t).emit .silent) ∧
    (s.mgUp = true → exec (.mctpReassemblyTimeout t) s = .next ((s.at_ t).emit .silent) ∧
      exec (.smbusClockTimeout t) s = .next ((s.at_ t).emit .silent))) ∧
  (∀ s : State, let pick := fun k => ({ s with sec := { s.sec with ir := k } } : State)
    exec .idcode s = .next ((pick 1).emit (.value 0x19400553)) ∧ exec .testLogicReset s = .next (pick 1) ∧
    (∀ v, exec (.bypass v) s = .next (pick 0)) ∧
    (∀ b, exec (.samplePreload b) s = .next { s with sec := { s.sec with ir := 2, boundary := b } }) ∧
    (∀ i ∈ [(Instr.extest, 3), (.clamp, 4), (.highz, 5)], exec i.1 s = .next (if s.sysRst then pick i.2
      else { s with sec := { s.sec with ir := 0, extestBlocked := true } })) ∧
    (∀ i ∈ [(Instr.internalScan, 6), (.memoryBist, 7)], exec i.1 s = .next (pick (if s.sec.debug = 2 then i.2 else 0)))) ∧
  (∀ (k t : Nat) (s : State), s.up = true → s.notBefore t = true → s.power.state = 0 → k ∈ s.islands → k ∉ s.power.gated →
    s.idleCell (k / 16) (k % 16) = true → exec (.glideEntry k t) s = .next { s.at_ t with power := { s.power with gated := insertNat k s.power.gated } }) ∧
  (∀ (k : Nat) (s : State), s.board.cold = false → k ∈ s.power.gated →
    exec (.glideExit k) s = .next { s with power := { s.power with gated := s.power.gated.filter fun j => decide (j ≠ k) } }) ∧
  (∀ (t : Nat) (s : State), s.up = true → s.notBefore t = true → s.coastIdle ≠ 0 → s.coastCond = true →
    (s.power.state = 0 →
      (s.sec.debug ≠ 2 → Completes (.coastEntry t) s fun u => u.power.state = 1 ∧ u.power.gated = [] ∧ u.cores = s.cores ∧
        (∀ n, (u.ctx n).lodged = false) ∧ (s.hbm.wf = true → ∀ a, a < tenantSize → u.hbm.read a = s.hbm.read a) ∧
        u.fns = s.fns ∧ u.time = t % timeMod) ∧
      (s.sec.debug = 2 → s.power.coastTold = false → Completes (.coastEntry t) s fun u => u.power.state = 0 ∧
        u.power.refusals = satInc s.power.refusals 255 ∧ u.power.coastTold = true ∧ u.ctxs = s.ctxs)) ∧
    (s.power.state ≠ 2 → s.parkEn = true → s.allD3 = true →
      (s.sec.debug ≠ 2 → Completes (.parkEntry t) s fun u => u.power.state = 2 ∧ u.power.gated = [] ∧ (∀ n, (u.ctx n).lodged = false) ∧
        (s.hbm.wf = true → ∀ a, a < tenantSize → u.hbm.read a = s.hbm.read a) ∧ u.fns = s.fns ∧ u.time = t % timeMod) ∧
      (s.sec.debug = 2 → s.power.parkTold = false → Completes (.parkEntry t) s fun u => u.power.state = s.power.state ∧
        u.power.refusals = satInc s.power.refusals 255 ∧ u.power.parkTold = true ∧ u.ctxs = s.ctxs))) ∧
  (∀ (why : WakeTrigger) (s : State), s.up = true → s.power.state ≠ 0 → s.triggered why = true →
    Completes (.coastParkExit why) s fun t => t = s.leaveLowPower ∧ t.power.state = 0 ∧ t.hbm = s.hbm) ∧
  (∀ s : State, s.board.cold = false →
    exec .pwrStatRead s = .next { s.emit (.value (s.pwrStat.zeroExtend 64)) with power := { s.power with refusals := 0 } }) ∧
  (∀ s : State, exec .warmReset s = .next (if s.chip.fatal ∨ s.board.cold then s else s.warmState)) ∧
  (∀ (st : StartUp) (s : State), s.board.warm = true → s.board.cold = false → s.chip.fatal = false →
    exec (.warmResetRelease st) s = .next ((({ s with board := { s.board with warm := false } } : State).boot st).publishHealth {})) ∧
  (∀ (why : ColdWhy) (s : State), s.board.cold = false → why ≠ .recoveryUpdate → exec (.coldReset why) s = .next (s.tearStage.coldState why)) ∧
  (∀ (st : StartUp) (s : State), s.board.cold = true → s.board.breach = false → s.board.thermtrip = false → st.fpbif.length = 12 →
    st.smbAddr.length = 2 → let t : State := { s with
      board := { s.board with cold := false, fpbif := BitVec.ofNat 12 (strapBits st.fpbif), smbAddr := BitVec.ofNat 2 (strapBits st.smbAddr) },
      sec := { s.sec with debug := coldDebug s.store.lifecycle, ir := if 3 ≤ s.sec.ir ∧ s.sec.ir ≤ 5 then 0 else s.sec.ir } }
    exec (.coldResetRelease st) s = .next ((((t.checkLedger st).applyMap st).boot st).publishHealth {})) ∧
  (∀ (rail : Nat) (s : State), s.board.cold = true → rail < 8 →
    exec (.powerOrderBreach rail) s = .next { s with board := { s.board with breach := true } } ∧
    ∀ st t, exec (.powerOrderBreach rail) s = .next t → exec (.coldResetRelease st) t = .next t)

/-- Firings that arrive at one channel in one cycle become one, that of the lowest origin; COAL counts the others. It sets FLAG, records its
origin and hop count and is delivered to every consumer; an N firing at an S channel does nothing and counts in nothing. Firings at a
vector count as one event there, or as busy. A delivery sets a view bit or triggers a register channel. A write to a block's fire
register fires; a timer of a block that is powered fires at its deadline and is disarmed; flags clear, counters read and clear, and a
binding is written unless it is refused or gives a field a reserved value. (01_architecture.md R17, 11_events_interrupts.md R334,
11_events_interrupts.md R335, 11_events_interrupts.md R336, 11_events_interrupts.md R338, 11_events_interrupts.md R339,
11_events_interrupts.md R340, 11_events_interrupts.md R341) -/
def Obligations.FiringsDeliveriesAndBindings : Prop :=
  (∀ (c k : Nat) (w : Wr) (all rest : List Firing) (s : State),
    let fs := all.filter fun f => f.attrS || !(s.ech c).attrS
    let ends := fun t : State => (all.filterMap Firing.ctx).foldl (fun s n => s.signalled n w) t
    s.up = true → 1 ≤ k → takeFirings (fun f => !f.toVector && decide (f.dest = c)) k s.firings = (all, rest) → all.length = k →
    (∀ f, lowestOrigin fs = some f → exec (.eventFiringArrival c k w) s = .next (ends
      (({ ({ s with firings := rest }).modEch c (fun e => { e with coal := satAdd e.coal (fs.length - 1) 255 }) with
        evtCoal := satAdd s.evtCoal (fs.length - 1) 0xFFFF }).arriveAt c f w))) ∧
    (fs = [] → exec (.eventFiringArrival c k w) s = .next (ends { s with firings := rest }))) ∧
  (∀ (c : Nat) (f : Firing) (w : Wr) (s : State), (∀ p ∈ s.waitOrder, p.1 ≠ c) → let t := s.arriveAt c f w
    (t.ech c).flag = true ∧ (t.ech c).from_ = f.origin ∧ (t.ech c).hop = f.hop ∧
    t.deliveries = s.deliveries ++ (s.consumers c).map (fun x => ({ chan := c, who := x } : Delivery)) ∧ t.ctxs = s.ctxs ∧
    ∀ d, d ≠ c → t.ech d = s.ech d) ∧
  (∀ (fs : List Firing) (f : Firing), lowestOrigin fs = some f → f ∈ fs ∧ ∀ g ∈ fs, f.origin ≤ g.origin) ∧
  (∀ (fn v k : Nat) (fs rest : List Firing) (f : Firing) (s : State),
    let t : State := { s with firings := rest, evtCoal := satAdd s.evtCoal (k - 1) 0xFFFF }
    s.up = true → takeFirings (fun f => f.toVector && decide (f.fn = fn) && decide (f.dest = v)) k s.firings = (fs, rest) →
    fs.length = k → lowestOrigin fs = some f → exec (.vectorFiringArrival fn v k) s = .next (
      if s.vectorBusy fn v then (match f.via with | none => t | some c => t.busyEch c) else t.countEvent fn (some v))) ∧
  (∀ (c : Nat) (who : Consumer) (s : State), let d : Delivery := { chan := c, who := who }
    let t := ({ s with deliveries := s.deliveries.erase d }).deliverTo who
    s.up = true → d ∈ s.deliveries → exec (.consumerDelivery c who) s = .next (if t.1 then t.2.busyEch c else t.2)) ∧
  (∀ (k i b : Nat) (s : State), b < 64 → (Table.get w64Def ((s.deliverTo (.blkView k i b)).2.block k).views i).getLsbD b = true ∧
    (s.deliverTo (.blkView k i b)).1 = (Table.get w64Def (s.block k).views i).getLsbD b) ∧
  (∀ (blk : Nat) (v : W32) (s : State), s.up = true → s.blockOn blk = true →
    exec (.blkEvtFire blk v) s = .next { s with firings := s.firings ++
      [{ toVector := false, dest := v.toNat % 4096, origin := v.toNat % 4096, hop := 0, attrS := true }] }) ∧
  (∀ (blk k t : Nat) (s : State), let x := Table.get timerDef (s.block blk).timers k
    s.up = true → s.blockOn blk = true → x.armed = true → s.notBefore t = true → x.deadline ≤ (s.at_ t).uptime →
    exec (.gtTimerExpiry blk k t) s = .next (((s.at_ t).modBlock blk fun b =>
      { b with timers := Table.set timerDef b.timers k { x with armed := false } }).fire x.chan true)) ∧
  (∀ (c : Nat) (s : State), s.up = true → c < 4096 →
    exec (.flagClear c) s = .next (s.setEch c { s.ech c with flag := false }) ∧
    exec (.evtChRead c) s = .next ((s.emit (.value (s.ech c).word)).setEch c { s.ech c with busy := 0, loop := 0, coal := 0, merged := 0 }) ∧
    exec .evtCtlRead s = .next { s.emit (.value s.evtCtl) with evtLoop := 0, evtCoal := 0 }) ∧
  (∀ (c i : Nat) (v : W64) (s : State), let b := bindOfWord v
    s.up = true → c < 4096 → i < 4 →
    (v.toNat / 0x10000 % 4 < 2 → (b.valid = true → s.bindRefused c i b = false) → (b.toVector = true ∨ b.fn = 0) →
      exec (.evtBindWrite c i v) s = .next (s.setBind c i b)) ∧
    (2 ≤ v.toNat / 0x10000 % 4 ∨ (b.valid = true ∧ s.bindRefused c i b = true) ∨ (b.toVector = false ∧ b.fn ≠ 0) →
      exec (.evtBindWrite c i v) s = .next s.accessErrUnlisted))

/-- A claim takes the best source of its target: it clears PENDING and the assignment, sets ACTIVE and pushes the source and its priority; a
claim of a target in a stack fault, or of one with no source, returns the code for it. DONE of the source on top pops it, and any other
DONE is a stack fault, which a write of 1 clears with its stack. Samples, hold-off, stuck sources, the bitmap registers and the read of
SRC_CFG act as their rules say. (11_events_interrupts.md R345, 11_events_interrupts.md R346, 11_events_interrupts.md R347,
11_events_interrupts.md R348, 11_events_interrupts.md R350, 11_events_interrupts.md R351, 11_events_interrupts.md R352) -/
def Obligations.InterruptControllers : Prop :=
  (∀ (k i n t : Nat) (level : Bool) (s : State), s.up = true → ctlHas k i = true → s.notBefore t = true →
    exec (.sourceEdge k i level n t) s = .next ((s.at_ t).modCtl k fun c => c.setSrc i ((c.src i).sample level n t))) ∧
  (∀ (k g t : Nat) (s : State), let u := Table.get natDef (s.ctl k).until_ g
    s.up = true → u ≠ 0 → s.notBefore t = true → reached t u = true →
    exec (.groupHoldoffExpiry k g t) s = .next ((s.at_ t).modCtl k fun c => { c with until_ := Table.set natDef c.until_ g 0 })) ∧
  (∀ (k i t : Nat) (s : State), let x := (s.ctl k).src i
    let hold := Table.get natDef (s.ctl k).holdoff (i / 32)
    s.up = true → ctlHas k i = true → hold ≠ 0 → x.input = true → (x.enabled = true ∨ x.stuck = false) → s.notBefore t = true →
    reached (x.since + 1600 * hold) t = false →
    exec (.stuckSource k i t) s = .next (((s.at_ t).modCtl k fun c =>
      c.setSrc i { c.src i with enabled := false, stuck := true, target := none }).error
        (if k < 8 then .region k else .chip) { code := .stuckSource, source := i })) ∧
  (∀ (k tgt i : Nat) (s : State), let c := s.ctl k
    s.up = true → k ≤ 8 → tgt < ctlTargets k → (c.tgt tgt).fault = false → c.best tgt = some i →
    Completes (.claimRead k tgt) s fun t => let d := t.ctl k
      t.out = s.out ++ [.value (BitVec.ofNat 64 ((c.src i).prio * 65536 + i))] ∧
      (d.src i).pending = false ∧ (d.src i).target = none ∧ (d.src i).active = true ∧
      (d.tgt tgt).stack = (i, (c.src i).prio) :: (c.tgt tgt).stack ∧ (∀ j, j ≠ tgt → d.tgt j = c.tgt j) ∧
      (∀ j, j ≠ k → t.ctl j = s.ctl j)) ∧
  (∀ (k tgt : Nat) (s : State), let c := s.ctl k
    s.up = true → k ≤ 8 → tgt < ctlTargets k →
    ((c.tgt tgt).fault = true → exec (.claimRead k tgt) s = .next ((s.emit (.value 0xFFFFE)).modCtl k id)) ∧
    ((c.tgt tgt).fault = false → c.best tgt = none → exec (.claimRead k tgt) s = .next ((s.emit (.value 0xFFFF)).modCtl k id))) ∧
  (∀ (k tgt i p : Nat) (rest : List (Nat × Nat)) (v : W32) (s : State), let c := s.ctl k
    s.up = true → k ≤ 8 → tgt < ctlTargets k → (c.tgt tgt).fault = false → (c.tgt tgt).stack = (i, p) :: rest →
    Completes (.doneWrite k tgt v) s fun t => let d := t.ctl k
      (v.toNat % 65536 = i → (d.tgt tgt).stack = rest ∧ (d.tgt tgt).fault = false ∧ (d.src i).active = false) ∧
      (v.toNat % 65536 ≠ i → (d.tgt tgt).fault = true ∧ (d.tgt tgt).faultSrc = v.toNat % 65536 ∧ (d.tgt tgt).stack = (i, p) :: rest)) ∧
  (∀ (k word : Nat) (v : W32) (s : State), s.up = true → ctlWord k word = true →
    (k = 8 → exec (.pendSet k word v) s = .next (s.modCtl k fun c => c.onWord word v fun x => { x with pending := true })) ∧
    exec (.pendClr k word v) s = .next (s.modCtl k fun c => c.onWord word v fun x => { x with pending := false, target := none }) ∧
    exec (.enableSet k word v) s = .next (s.modCtl k fun c => c.onWord word v fun x => { x with enabled := true }) ∧
    exec (.enableClr k word v) s = .next (s.modCtl k fun c => c.onWord word v fun x => { x with enabled := false, target := none })) ∧
  (∀ (k tgt : Nat) (s : State), s.up = true → k ≤ 8 → tgt < ctlTargets k → ((s.ctl k).tgt tgt).fault = true →
    Completes (.stackFaultClear k tgt) s fun t => ((t.ctl k).tgt tgt).fault = false ∧ ((t.ctl k).tgt tgt).stack = []) ∧
  (∀ (k i : Nat) (s : State), s.up = true → ctlHas k i = true → exec (.srcCfgRead k i) s =
    .next ((s.emit (.value ((s.ctl k).src i).word)).modCtl k fun c => c.setSrc i { c.src i with extra := 0 }))

/-- A link that may train in CXL or PCIe mode comes up with what the partner offers; one that goes down counts it, loses its mode and its
memory, and retrains every 100 ms while it is enabled; presence, status and lane reads and errors act as their rules say. An extent that
a device adds is usable; a release request releases an extent that no far translation maps and otherwise waits; a forced release
withdraws it. Completions end the pieces they answer; late ones free their identifiers and are counted; a controller that fails loses
its pieces and serves again when its queues are created. A request that times out fails, and the abort of its piece is sent. The way of
an interleave set is one of its ways, and 12 ways serve each granule of a stripe of 12 exactly once. (03_command_reference.md R108,
12_far_memory_devices.md R358, 12_far_memory_devices.md R359, 12_far_memory_devices.md R364, 12_far_memory_devices.md R365,
12_far_memory_devices.md R366, 12_far_memory_devices.md R367, 12_far_memory_devices.md R368, 12_far_memory_devices.md R369,
13_errors_degradation.md R377, 15_electrical_package.md R434) -/
def Obligations.LinksControllersAndCapacity : Prop :=
  (∀ (l m : Nat) (tr : Training) (s : State), let x := s.link l
    let top := min x.maxRate tr.pMaxRate
    s.up = true → l < 24 → s.absent l = false → x.mode = 0 → x.trains (tr.partnerCxl && decide (3 ≤ top)) = some m →
    tr.rate = (if m = 2 then min top 6 else top) →
    1 ≤ tr.width → tr.width ≤ s.lanes l → tr.retimers ≤ 2 → tr.kind ≤ 6 →
    (m = 1 ∨ m = 2) ∧ Completes (.linkUp l tr) s fun t => let y := t.link l
      y.mode = m ∧ y.rate = tr.rate ∧ y.width = tr.width ∧ y.kind = tr.kind ∧ y.downs = x.downs ∧
      y.memOn = (decide (m = 2) && (decide (tr.kind = 4) || decide (tr.kind = 5))) ∧ (∀ j, j ≠ l → t.link j = s.link j)) ∧
  (∀ (l : Nat) (s : State), let x := s.link l
    s.up = true → l < 24 → (x.mode = 1 ∨ x.mode = 2) →
    exec (.linkDown l) s = .next ((s.ctrlsOf l).foldl (fun s k => s.piecesLost k {}) ((s.setLink l { x with
      mode := 0, rate := 0, width := 0, downs := satInc x.downs 255, memOn := false, downAt := s.time }).linkCic l 0))) ∧
  (∀ (l t : Nat) (s : State), let x := s.link l
    s.up = true → l < 24 → s.absent l = false → x.mode = 0 → x.en = true → s.notBefore t = true → reached t (x.downAt + 100000000) = true →
    exec (.linkRetrainTimer l t) s = .next (((s.at_ t).setLink l { x with downAt := t % timeMod }).linkCic l 0)) ∧
  (∀ (l : Nat) (s : State), let x := s.link l
    s.up = true → l < 24 →
    (∀ p, x.present ≠ p → exec (.presenceChange l p) s = .next ((s.setLink l { x with present := p }).linkCic l 4)) ∧
    exec (.flStatRead l) s = .next ((s.emit (.value (s.flStat l))).setLink l { x with late := 0, downs := 0, retrains := 0 }) ∧
    (∀ i, i < 8 → exec (.flLaneRead l i) s = .next ((s.emit (.value (x.lane i))).setLink l { x with corr := Table.set natDef x.corr i 0 })) ∧
    (∀ k, exec (.fabricError l k) s = .next ((s.linkCic l 1).error .chip
      { code := if k = .cor then .fabricCor else .fabricUncor, source := 769 + 5 * l })) ∧
    exec (.lateResponse l) s = .next ((s.setLink l { x with late := satInc x.late 0xFFFF }).linkCic l 3) ∧
    (x.hasMem = true → ∀ rid log d a w, log < 4 → exec (.cxlEventLog l rid log d a w) s =
      .next (((s.attention l 2 rid.toNat log d.toNat a w).emit (.eventCleared l)).linkCic l 2))) ∧
  (∀ (l : Nat) (rid : BitVec 16) (base len : Nat) (w : Wr) (s : State), s.up = true → l < 24 → (s.link l).hasMem = true →
    let e : Extent := { link := l, rid := rid, base := base, len2m := len }
    (len ≠ 0 → exec (.dcAdd l rid base len w) s = .next ((({ s with extents := (s.extents.filter fun (x : Extent) =>
      !(decide (x.link = l) && decide (x.base < base + len * 0x200000) && decide (base < x.base + x.len2m * 0x200000))) ++ [e] }).emit
        (.dcAnswer l 0 base len)).dcNote e 0 w)) ∧
    (∀ y, s.extents.find? (fun e => e.named l rid base len && !e.withdrawn) = some y →
      (y.releasing = false → exec (.dcReleaseRequest l rid base len w) s = .next (if s.rangeMapped base (len * 0x200000) then
          ({ s with extents := s.extents.map fun x => if x = y then { x with releasing := true } else x }).dcNote y 1 w
        else s.dcRelease y w)) ∧
      exec (.dcForcedRelease l rid base len w) s = .next (({ s with extents := s.extents.map fun x =>
        if x = y then { x with withdrawn := true, releasing := false } else x }).dcNote y 2 w))) ∧
  (∀ (k cid : Nat) (st : NvmeStatus) (data : List Byte) (w : Wr) (x : NvmeCtrl) (s : State), s.up = true → s.ctrl k = some x →
    (∀ n p, let c := s.ctx n
      s.pieceOwner k cid = some n → c.pieces.find? (fun p => decide (p.ctrl = k) && decide (p.cid = cid) && !p.done) = some p →
      (if st = .success then data.length = c.pieceData p else (c.cmd.opn ≠ 0x1A ∨ data.length = 16)) →
      (c.r.supervisor = true ∨ (s.fn c.r.ownerFn.toNat).stopped = false ∨ c.cmd.touchesHost = false) →
      exec (.nvmeCompletion k cid st data w) s = .next (s.pieceDone n p st data w)) ∧
    (s.pieceOwner k cid = none → cid ∈ x.reserved → exec (.nvmeCompletion k cid st data w) s =
      .next ((s.setCtrl k (some { x with reserved := x.reserved.filter (· ≠ cid) })).lateOn x.link)) ∧
    (s.pieceOwner k cid = none → cid ∉ x.reserved → cid ∈ x.dropped → exec (.nvmeCompletion k cid st data w) s =
      .next (s.setCtrl k (some { x with dropped := x.dropped.filter (· ≠ cid) }))) ∧
    (x.ready = false → x.removed = false → exec (.nvmeControllerReady k) s = .next (s.setCtrl k (some { x with ready := true }))) ∧
    (x.ready = true → ∀ why, exec (.nvmeControllerFail k why w) s = .next (let t := s.setCtrl k (some { x with
        ready := false, removed := x.removed || decide (why = .removed), reserved := [], dropped := [] })
      (if why = .removed then t else t.emit (.ctrlReset k)).piecesLost k w)) ∧
    (s.ctrlReady k = true → ∀ d, exec (.nvmeAsyncEvent k d w) s =
      .next ((s.attention x.link 1 x.rid 0 d.toNat 0 w).linkCic x.link 2))) ∧
  (∀ (n a len t : Nat) (bib : Byte) (w : Wr) (s : State), s.up = true → s.notBefore t = true →
    let u := (s.at_ t).modCtx n fun c => { c with fails := c.fails ++ [{ space := 2, addr := a, len := len, why := .farTimeout }] }
    ((s.ctx n).abandoned bib = true → exec (.downstreamTimeout (.far n bib a len) t w) s = .next ((s.at_ t).lateOver n bib)) ∧
    ((s.ctx n).abandoned bib = false → (s.ctx n).asks = true → exec (.downstreamTimeout (.far n bib a len) t w) s =
      .next (match s.linkAt n a with | none => u | some l => u.linkCic l 3))) ∧
  (∀ (k cid n t : Nat) (w : Wr) (x : NvmeCtrl) (s : State), s.up = true → s.notBefore t = true → s.pieceOwner k cid = some n → s.ctrl k = some x →
    (∀ p ∈ (s.ctx n).pieces, p.ctrl = k → p.cid = cid → reached t (p.issued + p.limit * 1000) = true) →
    exec (.downstreamTimeout (.piece k cid) t w) s = .next ((((((s.at_ t).setCtrl k (some { x with
      reserved := insertNat cid x.reserved })).emit (.nvmeAbort k cid)).modCtx n fun c =>
        (c.modPiece k cid fun p => { p with done := true, failed := true }).nvFails deTimeout 3 (s.ctx n).cmd.nvOperand).linkCic x.link 3).nvmCheck n w)) ∧
  (∀ (x : ISet) (g : Nat), x.logGran = g →
    (0 < x.ways → ∀ pa, x.way pa < x.ways) ∧ (∀ pa i, i < 2 ^ g → pa % 2 ^ g = 0 → x.way (pa + i) = x.way pa) ∧
    (x.ways = 12 → ∀ base w, base % (12 * 2 ^ g) = 0 → w < 12 → ∃ k, k < 12 ∧ x.way (base + k * 2 ^ g) = w ∧
      ∀ j, j < 12 → x.way (base + j * 2 ^ g) = w → j = k))

/-- A context that is to migrate and stands at a boundary leaves its block: its record names the new home, its bib is the next one, it is in
no lodge, and it waits to arrive; when a block is open to it, it goes on there, or is stopped at step 9 by a freeze or a HALT that
waits. A load-balance sample is taken every 1 ms; a substitution may interrupt after 1 ms, and ends with the reserve in the slot, no
reserve left, and the replaced block powered down. A walk brings the entry of a page into the cache of its region, or makes the leaf
invalid. A member of the domain that is heard is present; its asks are answered when the snapshot has arrived; its replies end the wait
for it; one that is silent or late is absent, and no ask waits for it. (05_contexts.md R172, 05_contexts.md R173, 05_contexts.md R176,
05_contexts.md R177, 05_contexts.md R178, 12_far_memory_devices.md R362, 12_far_memory_devices.md R371, 12_far_memory_devices.md R374,
13_errors_degradation.md R387) -/
def Obligations.MigrationTranslationAndDomain : Prop :=
  (∀ (n region slot : Nat) (why : MigrateWhy) (s : State), let c := s.ctx n
    s.up = true → c.hasProgram = true → c.phase ≠ .migrating → region < 8 → slot < 8 → s.migrationDue n region slot why = true →
    c.boundaryPoint = true → c.late.contains (c.r.bib + 1) = false → (c.cmd.opn ≠ 0xE ∨ (c.chain = false ∧ c.xfer.begun = false)) →
    (c.chain = false ∨ c.xfer.part = []) → Completes (.migrationPoint n region slot why) s fun t =>
      let d := t.ctx n
      d.phase = .migrating ∧ d.was = c.phase ∧ d.r.bib = c.r.bib + 1 ∧ d.r.region.toNat = region ∧ d.r.slot.toNat = slot ∧
      d.lodged = false ∧ d.hbmCopy = none ∧ d.readAhead = [] ∧ d.pc = c.pc ∧ d.space = c.space ∧ d.grp = c.grp ∧
      (∀ m, m ≠ n → t.ctx m = s.ctx m) ∧ (∀ p ∈ t.waitOrder, p.2 ≠ n) ∧ (s.hbm.wf = true → ∀ a, a < tenantSize → t.hbm.read a = s.hbm.read a) ∧
      t = { s with ctxs := t.ctxs, waitOrder := t.waitOrder, hbm := t.hbm, free := t.free }) ∧
  (∀ (n b : Nat) (w : Wr) (s : State), let c := s.ctx n
    s.up = true → c.phase = .migrating → s.homeBlock n = some b → (c.needsTurn = false ∨ s.turnOpen b = true) →
    (c.frozenFn = true → exec (.migrationArrival n w) s =
      .next ((s.modCtx n fun c => { c.standing with frozenFn := false }).freezeCtx c.r.ownerFn.toNat n w)) ∧
    (c.frozenFn = false → c.interrupted = true → c.halt = .stop →
      exec (.migrationArrival n w) s = .next ((s.modCtx n Ctx.standing).haltHere n w)) ∧
    (c.frozenFn = false → (c.interrupted = false ∨ c.halt ≠ .stop) →
      exec (.migrationArrival n w) s = .next ((s.settle n w).modCtx n fun x => { x with was := .none, step9 := c.interrupted })) ∧
    (c.frozenFn = false → (c.interrupted = false ∨ c.halt ≠ .stop) → (c.was = .ready ∨ c.was = .fetch ∨ c.was = .lodging) → ∀ t, exec (.migrationArrival n w) s = .next t → (t.ctx n).phase = .ready)) ∧
  (∀ (region t : Nat) (s : State), let x := s.region region
    s.up = true → region < 8 → s.notBefore t = true → reached t (x.sampled + 1000000) = true →
    ((∀ p ∈ s.loads region, 2 * ((s.loads region).map Prod.snd).foldl (· + ·) 0 ≥ p.2 * (s.loads region).length) →
      exec (.loadBalanceSample region t) s = .next ((s.at_ t).setRegion region { x with sampled := t })) ∧
    Completes (.loadBalanceSample region t) s fun u => u.time = t % timeMod ∧ (u.region region).sampled = t ∧ u.fns = s.fns ∧
      (s.hbm.wf = true → ∀ a, a < tenantSize → u.hbm.read a = s.hbm.read a)) ∧
  (∀ (region t slot blk start : Nat) (s : State), let x := s.region region
    s.up = true → x.subst = some (slot, blk, start) → x.substLate = false → s.notBefore t = true → reached t (start + 1000000) = true →
    exec (.substitutionTimeout region t) s = .next ((s.at_ t).setRegion region { x with substLate := true })) ∧
  (∀ (region slot blk start : Nat) (s : State), let x := s.region region
    s.up = true → x.subst = some (slot, blk, start) → s.substEmpty region slot = true →
    (∀ b, b < 9 → (s.block (9 * region + b)).blockRetired = false) →
    exec (.substitutionEnd region) s = .next ((((({ s.setRegion region { x with
      slots := x.slots.set slot x.reserve, reserve := 15, subst := none, substLate := false } with
        ctxs := s.ctxs.mapV fun (c : Ctx) => if c.r.region.toNat = region ∧ c.r.slot.toNat = slot then
          (if c.moved then { c with moved := false } else { c with lodged := false, hbmCopy := none }) else c }).powerDown
            (9 * region + blk)).cic (64 * region + 12)).keepMap).publishHealth {}) ∧
    ∀ id, coreBlk id = 9 * region + blk → id < 432 → (s.powerDown (9 * region + blk)).core id = coreDef id) ∧
  (∀ (region fn page : Nat) (g : Bool) (r : RecordRead) (s : State), let f := s.fn fn
    let e := Table.get w64Def (if g then f.ftt1g else f.ftt2m) page
    s.up = true → region < 8 → s.fnExists fn = true →
    ((r = .good ∨ r = .shadowBad) → e ≠ 0 → Completes (.fttWalkComplete region fn g page r) s fun t =>
      (t.region region).ftc.getLast? = some (fn, g, page, e) ∧
      (∀ p ∈ (t.region region).ftc, p ∈ (s.region region).ftc ∨ p = (fn, g, page, e)) ∧ t = { s with regions := t.regions }) ∧
    (r ≠ .good → r ≠ .shadowBad → exec (.fttWalkComplete region fn g page r) s = .next (((s.setFn fn (
        if g then { f with ftt1g := f.ftt1g.filter fun p => decide (p.1 / 4096 ≠ page / 4096) }
        else { f with ftt2m := f.ftt2m.filter fun p => decide (p.1 / 4096 ≠ page / 4096) })).cic (64 * region + 11)).error (.region region)
      { code := .fttLeaf, source := 8, fn := some fn }))) ∧
  (∀ (m : DomMsg) (s : State), let h := s.heardFrom m.sender
    s.up = true → s.domain.hears m = .accepted →
    (m.type = 1 → exec (.hello m) s = .next h) ∧
    (m.type = 2 → exec (.ask m) s = .next ((h.modDomain fun d => { d with
      answering := (d.answering.filter fun a => !(decide (a.1 = m.sender) && decide (a.2.1 = m.askId))) ++
        [(m.sender, m.askId, m.epoch, s.snapshot m.epoch)] }).cic 888)) ∧
    (m.type = 3 → ∀ a, Table.get noneDef (h.cic 888).domain.asks m.askId = some a → a.epoch = m.epoch →
      (∃ x ∈ a.waiting, x.1 = m.sender) → exec (.reply m) s = .next ((h.cic 888).modDomain fun d => { d with
        asks := Table.set noneDef d.asks m.askId (some { a with waiting := a.waiting.filter fun x => decide (x.1 ≠ m.sender) }) })) ∧
    (m.type = 4 → exec (.leave m) s = .next (s.setPresent m.sender false)) ∧
    h.domain.present.getLsbD m.sender = (decide (m.sender < 32))) ∧
  (∀ (sender askId : Nat) (e : W32) (s : State), let d := s.domain
    s.up = true → d.joined = true →
    d.answering.find? (fun a => decide (a.1 = sender) && decide (a.2.1 = askId)) = some (sender, askId, e, []) →
    exec (.askReplySend sender askId) s = .next ((s.modDomain fun d => { d with
      answering := d.answering.filter fun a => !(decide (a.1 = sender) && decide (a.2.1 = askId)) }).emit
        (.domain { type := 3, sender := d.member, dest := sender, epoch := e, askId := askId } s.domainLinks))) ∧
  (∀ (t : Nat) (s : State), let d := s.domain
    s.up = true → d.joined = true → s.notBefore t = true → reached t d.helloDue = true → exec (.helloTimer t) s =
      .next (((s.at_ t).modDomain fun d => { d with helloDue := t + 1000000 }).emit
        (.domain { type := 1, sender := d.member, dest := 0xFF, members := d.members } s.domainLinks))) ∧
  (∀ (m t : Nat) (s : State), let d := s.domain
    s.up = true → d.joined = true → s.notBefore t = true → m < 32 → m ≠ d.member →
    ((d.present.getLsbD m = true ∧ reached t (Table.get natDef d.silentAt m) = true) ∨
      (∃ p ∈ d.asks, ∃ a, p.2 = some a ∧ ∃ x ∈ a.waiting, x.1 = m ∧ reached t x.2 = true)) →
    Completes (.domainTimeout m t) s fun u => u.domain.present.getLsbD m = false ∧ u.time = t % timeMod ∧
      (∀ p ∈ u.domain.asks, ∀ a, p.2 = some a → ∀ x ∈ a.waiting, x.1 = m → reached t x.2 = false) ∧
      (∀ j, j < 32 → j ≠ m → u.domain.present.getLsbD j = d.present.getLsbD j)) ∧
  (∀ s : State, s.up = true → exec .domCntRead s =
    .next ((s.emit (.value s.domain.cnt)).modDomain fun d => { d with late := 0, mismatch := 0, own := 0 }))

/-- Errors that arrive at one capture in one cycle are taken one after another, the most severe first and the lower source first among
equals, each once. Acknowledging a capture clears VALID, and of a cell lowers the input of its source; counters read and clear. A row is
repaired while there is a spare row, else it counts as unrepairable; the first four pseudo-channels that fail retire. Scrubbing corrects
and poisons, and never changes a lodge value. Aging measurements are recorded and request the next supply voltage; ledger records and
stores that wait are tried again and act when the supply margins allow it. (11_events_interrupts.md R353, 13_errors_degradation.md R375,
13_errors_degradation.md R378, 13_errors_degradation.md R383, 13_errors_degradation.md R384, 13_errors_degradation.md R392,
13_errors_degradation.md R394, 13_errors_degradation.md R395, 14_security_debug_power.md R418) -/
def Obligations.ErrorsRepairAndStores : Prop :=
  (∀ (l : CapId) (errs : List ErrIn) (s : State), s.board.cold = false → s.capLive l = true → errs ≠ [] →
    (∀ e ∈ errs, e.code ≠ .freeze) → ∃ es : List ErrIn, es.Perm errs ∧
      es.Pairwise (fun a b => errSev b.code ≤ errSev a.code ∧ (errSev a.code = errSev b.code → a.source ≤ b.source)) ∧
      exec (.errorArrival l errs) s = .next (es.foldl (fun s e => s.errorIn l e) s)) ∧
  (∀ (l : CapId) (s : State), s.board.cold = false → s.capLive l = true →
    exec (.errAck l) s = .next (match l with
      | .cell r t k => (s.setCap { s.cap l with valid := false } l).modCtl r fun c =>
          c.setSrc (16 * t + k) { c.src (16 * t + k) with raw := false }
      | _ => s.setCap { s.cap l with valid := false } l) ∧
    exec (.errCntRead l) s = .next ((s.emit (.value (s.cap l).cnt)).setCap { s.cap l with escOut := 0, count := 0 } l)) ∧
  (∀ (p row : Nat) (s : State), let x := s.pch p
    s.up = true → p < 128 → x.retired = false →
    exec (.rowRepair p row true) s = .next ((((s.setPch p { x with rows := satInc x.rows 0xFFFF }).cic (896 + p / 2)).ledgerNote 3 0xFF 0xFF
      (leBytes 2 p ++ leBytes 4 row)).keepMap) ∧
    exec (.rowRepair p row false) s = .next (((s.setPch p { x with unrep := satInc x.unrep 255 }).cic (896 + p / 2)).keepMap) ∧
    (countP (fun n => (s.pch n).retired) (List.range 128) < 4 → exec (.pchRetirement p) s =
      .next (((((s.setPch p { x with retired := true }).error (.region (p / 16)) { code := .pchRetired, source := 16 + p % 16 }).ledgerNote 1
        (p / 16) 0xFF (leBytes 2 p)).keepMap).publishHealth {}))) ∧
  (∀ (p r : Nat) (s : State), s.board.cold = false →
    (p < 128 → exec (.pchStatRead p) s = .next ((s.emit (.value (s.pch p).stat)).setPch p { s.pch p with uncorr := 0, corr := 0 })) ∧
    (r < 8 → exec (.regStaleRead r) s =
      .next ((s.emit (.value (BitVec.ofNat 64 (s.region r).stale))).setRegion r { s.region r with stale := 0 }))) ∧
  (∀ (good bad : List Nat) (s : State), 
    let err := fun (code : ErrCode) (s : State) (k : Nat) =>
      s.errorIn (.region (pchOf (k * 32) / 16)) ({ code := code, source := 16 + pchOf (k * 32) % 16, space := 2, addr := BitVec.ofNat 64 (k * 32) } : ErrIn)
    s.up = true → (∀ k, k ∈ good ∨ k ∈ bad → k * 32 < unpopBase) →
    exec (.patrolScrub good bad) s = .next (bad.foldl (err .hbmUncorrectable) (good.foldl (err .eccCorrected) s))) ∧
  (∀ (b : Nat) (s : State), s.up = true → s.blockActive b = true → exec (.lodgeScrub b) s = .next s) ∧
  (∀ (freqs : List (Nat × Nat)) (used : List W32) (mv t : Nat) (w : Wr) (s : State), s.up = true → freqs.length = 64 →
    used.length = 32 → 700 ≤ mv → mv ≤ 800 → mv % 5 = 0 → s.notBefore t = true → reached t s.chip.agingDue = true →
    Completes (.agingMeasurement freqs used mv t w) s fun v => ∃ u : State, v = u.publishHealth w ∧ u.time = t % timeMod ∧
      u.chip.agingDue = t + 60000000000 ∧ u.board.vddRequest = mv ∧ u.board.avsPendingAt = some t ∧ u.out = s.out ++ [.avs mv] ∧
      (∀ i, i < 64 → Table.get natDef u.chip.ageFreq i = (freqs.getD i (0, 0)).1 ∧
        Table.get natDef u.chip.ageMargin i = min (freqs.getD i (0, 0)).2 100) ∧
      (∀ j, j < 32 → Table.get w32Def u.chip.emUsed j = used.getD j 0) ∧ u.hbm = s.hbm ∧ u.ctxs = s.ctxs ∧ u.fns = s.fns) ∧
  (∀ (t : Nat) (s : State), let u := s.at_ t
    s.board.cold = false → s.notBefore t = true →
    (∀ r rest, s.store.ledgerQueue = r :: rest → exec (.ledgerRetry t) s = .next (if u.supplyOk then
      { u with store := ({ u.store with ledgerQueue := rest }).putLedger r } else u.refuseStore)) ∧
    (∀ j rest, s.store.jobs = j :: rest → exec (.storeRetry t) s = .next (if u.supplyOk then
      ({ u with store := { u.store with jobs := rest } }).runJob j else u.refuseStore)) ∧
    exec .storeComplete s = .next (s.cic 963))

/-- Samples of rails and temperatures set margins, warnings, thresholds and alarms, which read and clear, and the trips are device errors.
An AVSBus answer is taken from 200 us after the request and accepted within 10 mV of it; one that is not accepted, and silence for 1 ms,
are faults, which request 0.80 V and are tried again every 100 ms. Loss of REFCLK is a device error, loss of MCLK is borne. PLDM reads
what is published. (15_electrical_package.md R425, 15_electrical_package.md R426, 15_electrical_package.md R430,
15_electrical_package.md R437, 15_electrical_package.md R438, 15_electrical_package.md R440) -/
def Obligations.RailsClocksAndTemperatures : Prop :=
  (∀ (j mv : Nat) (s : State), let x := s.rail j
    let n := s.vnom j
    s.board.cold = false → j < 8 →
    (mv < 65536 → Completes (.railSample j mv) s fun t => let y := t.rail j
      y.mv = mv ∧ y.sampled = true ∧ y.margin = marginOf mv n ∧
      y.under = (if 20 * mv < 19 * n ∧ ¬(x.sampled = true ∧ 20 * x.mv < 19 * n) then satInc x.under 255 else x.under) ∧
      (∀ k, k ≠ j → t.rail k = s.rail k) ∧ t.fns = s.fns ∧ t.chip = s.chip) ∧
    (x.sampled = true → 20 * x.mv < 19 * n →
      exec (.railUndervoltage j) s = .next (s.error .chip { code := .deviceFault, source := 993 })) ∧
    exec (.railMonRead j) s = .next ((s.emit (.value (s.railMon j))).setRail j { x with under := 0 })) ∧
  (∀ (t t0 : Nat) (s : State), let u := s.at_ t
    let fails := fun (seen : Nat) => ((({ u with board := { u.board with
      avsFault := true, vddSeen := seen } }).cic 996).avsRequest 800 t)
    s.board.cold = false → s.notBefore t = true →
    (s.board.avsPendingAt = some t0 → reached t (t0 + 1000000) = true → exec (.avsReadback .silent t) s = .next (fails s.board.vddSeen)) ∧
    (s.board.avsPendingAt = some t0 → reached t (t0 + 200000) = true →
      (∀ mv, mv ≤ s.board.vddRequest + 10 → s.board.vddRequest ≤ mv + 10 → exec (.avsReadback (.ok mv) t) s =
        .next { u with board := { u.board with avsFault := false, avsPendingAt := none, vddSeen := mv } }) ∧
      (∀ mv, (s.board.vddRequest + 10 < mv ∨ mv + 10 < s.board.vddRequest) → exec (.avsReadback (.ok mv) t) s = .next (fails mv)) ∧
      exec (.avsReadback .fault t) s = .next (fails s.board.vddSeen)) ∧
    (s.board.avsFault = true → (∀ t0, s.board.avsPendingAt = some t0 → reached t (t0 + 100000000) = true) →
      exec (.avsRetry t) s = .next (({ u with board := { u.board with vddRequest := 800, avsPendingAt := some t } }).emit (.avs 800)))) ∧
  (∀ s : State,
    (s.board.cold = false → Completes .refclkLoss s fun t => ∃ (n : Nat) (u : State), 1024 ≤ n ∧ n < 65536 ∧ u = { s with free := u.free } ∧
      t = u.error .chip { code := .deviceFault, source := n }) ∧
    (s.board.mclkLost = false → exec .mclkLoss s = .next { s with board := { s.board with mclkLost := true } }) ∧
    (s.board.mclkLost = true → exec .mclkRestore s = .next { s with board := { s.board with mclkLost := false } })) ∧
  (∀ (i : Nat) (e : Int) (s : State), let x := s.temp i
    s.board.cold = false → i < 16 → tempFits e = true →
    (tempWarn i ≤ e → Completes (.tempWarning i e) s fun t => let y := t.temp i
      y.now = (x.sample e).now ∧ y.warn = true ∧ y.alarms = (if x.warn then x.alarms else satInc x.alarms 255) ∧
      4 ≤ t.board.cap ∧ t.board.cap ≤ 64 ∧ (∀ k, k ≠ i → t.temp k = s.temp k) ∧ t.fns = s.fns) ∧
    (tempHard i ≤ e → exec (.tempHard i e) s = .next (s.setTemp i { x.sample e with hard := true })) ∧
    (tempTrip i ≤ e → exec (.thermtrip i e) s = .next ((({ s.setTemp i (x.sample e) with
      board := { (s.setTemp i (x.sample e)).board with thermtrip := true } }).emit (.lastGasp i)).error .chip
        { code := .deviceFault, source := 992 })) ∧
    (∀ hard, (if hard then x.hard else x.warn) = true → e ≤ (if hard then tempHard i else tempWarn i) - 24 →
      Completes (.tempThresholdClear i hard e) s fun t => let y := t.temp i
        (hard = true → y.hard = false ∧ y.warn = x.warn) ∧ (hard = false → y.warn = false ∧ y.hard = x.hard) ∧
        ((∀ k, k < 16 → (t.temp k).warn = false) → t.board.cap = 64) ∧ (∀ k, k ≠ i → t.temp k = s.temp k)) ∧
    exec (.tempRead i) s = .next ((s.emit (.value x.word)).setTemp i { x with alarms := 0 })) ∧
  (∀ s : State,
    (∀ i, i < 16 → exec (.pldmSensorRead (.temp i)) s = .next (s.answer mgOk [temp16 (s.temp i).now, b2n s.alertLow])) ∧
    (∀ j, j < 8 → exec (.pldmSensorRead (.rail j)) s = .next (s.answer mgOk [(s.rail j).mv, b2n s.alertLow])) ∧
    (∀ l, l < 24 → exec (.pldmSensorRead (.link l)) s = .next (s.answer mgOk [(s.link l).mode, b2n s.alertLow])) ∧
    exec (.pldmSensorRead .health) s = .next (s.answer mgOk [s.chip.health.toNat, b2n s.alertLow]) ∧
    exec (.pldmSensorRead .deviceState) s = .next (s.answer mgOk [b2n s.chip.fatal, b2n s.alertLow]) ∧
    exec (.pldmSensorRead .powerFault) s = .next (s.answer mgOk [b2n s.board.breach, b2n s.alertLow]) ∧
    exec (.pldmSensorRead .clock) s = .next (s.answer mgOk [b2n s.board.mclkLost, b2n s.alertLow]))

end
end

