-- ==== Sys2Proof/Laws/Table.lean ====
section
/-! SUPPORT. Tables and byte maps: reading after writing, and the canonical form. -/

namespace Sys2Proof.Laws
open Sys2Proof Sys2Proof.Machine
variable {α : Type}

theorem table_get_erase_same (d : Nat → α) (t : Table α) (k : Nat) : Table.get d (Table.erase t k) k = d k := by
  induction t with
  | nil => rfl
  | cons p t ih =>
    obtain ⟨j, v⟩ := p
    by_cases h : j = k <;> simp_all [Table.erase, Table.get]

theorem table_get_erase_ne (d : Nat → α) (t : Table α) (k n : Nat) (h : n ≠ k) :
    Table.get d (Table.erase t k) n = Table.get d t n := by
  induction t with
  | nil => rfl
  | cons p t ih =>
    obtain ⟨j, v⟩ := p
    by_cases h1 : j = k
    · subst h1; simp [Table.erase, Table.get, ih, Ne.symm h]
    · simp [Table.erase, Table.get, h1, ih]

theorem table_get_insert_same (d : Nat → α) (t : Table α) (k : Nat) (v : α) :
    Table.get d (Table.insert t k v) k = v := by
  induction t with
  | nil => simp [Table.insert, Table.get]
  | cons p t ih =>
    obtain ⟨j, w⟩ := p
    simp only [Table.insert]
    split
    · simp [Table.get]
    · split
      · simp [Table.get]
      · have : j ≠ k := by omega
        simp [Table.get, this, ih]

theorem table_get_insert_ne (d : Nat → α) (t : Table α) (k n : Nat) (v : α) (h : n ≠ k) :
    Table.get d (Table.insert t k v) n = Table.get d t n := by
  induction t with
  | nil => simp [Table.insert, Table.get, Ne.symm h]
  | cons p t ih =>
    obtain ⟨j, w⟩ := p
    simp only [Table.insert]
    split
    · simp [Table.get, Ne.symm h]
    · split
      · subst_vars; simp [Table.get, Ne.symm h]
      · simp [Table.get, ih]

/-- Reading the entry that was set gives the value. -/
theorem table_get_set_same [DecidableEq α] (d : Nat → α) (t : Table α) (k : Nat) (v : α) :
    Table.get d (Table.set d t k v) k = v := by
  unfold Table.set
  split
  · rename_i h; rw [table_get_erase_same, h]
  · exact table_get_insert_same d t k v

/-- Setting one entry leaves every other one alone. -/
theorem table_get_set_ne [DecidableEq α] (d : Nat → α) (t : Table α) (k n : Nat) (v : α) (h : n ≠ k) :
    Table.get d (Table.set d t k v) n = Table.get d t n := by
  unfold Table.set
  split
  · exact table_get_erase_ne d t k n h
  · exact table_get_insert_ne d t k n v h

/-! ### The canonical form -/

theorem wfFrom_le [DecidableEq α] (d : Nat → α) (t : Table α) (a b : Nat) (h : Table.wfFrom d b t = true) (l : a ≤ b) :
    Table.wfFrom d a t = true := by
  cases t with
  | nil => rfl
  | cons p t =>
    obtain ⟨k, v⟩ := p
    simp only [Table.wfFrom, Bool.and_eq_true, decide_eq_true_eq] at h ⊢
    exact ⟨⟨by omega, h.1.2⟩, h.2⟩

theorem wfFrom_erase [DecidableEq α] (d : Nat → α) (t : Table α) (k lo : Nat) (h : Table.wfFrom d lo t = true) :
    Table.wfFrom d lo (Table.erase t k) = true := by
  induction t generalizing lo with
  | nil => rfl
  | cons p t ih =>
    obtain ⟨j, v⟩ := p
    simp only [Table.wfFrom, Bool.and_eq_true, decide_eq_true_eq] at h
    simp only [Table.erase]
    split
    · exact ih lo (wfFrom_le d t lo (j + 1) h.2 (by omega))
    · simp only [Table.wfFrom, Bool.and_eq_true, decide_eq_true_eq]
      exact ⟨h.1, ih _ h.2⟩

theorem wfFrom_insert [DecidableEq α] (d : Nat → α) (t : Table α) (k lo : Nat) (v : α) (h : Table.wfFrom d lo t = true)
    (l : lo ≤ k) (n : v ≠ d k) : Table.wfFrom d lo (Table.insert t k v) = true := by
  induction t generalizing lo with
  | nil => simp [Table.insert, Table.wfFrom, l, n]
  | cons p t ih =>
    obtain ⟨j, w⟩ := p
    simp only [Table.wfFrom, Bool.and_eq_true, decide_eq_true_eq] at h
    simp only [Table.insert]
    split
    · simp only [Table.wfFrom, Bool.and_eq_true, decide_eq_true_eq]
      exact ⟨⟨l, n⟩, ⟨by omega, h.1.2⟩, h.2⟩
    · split
      · simp only [Table.wfFrom, Bool.and_eq_true, decide_eq_true_eq]
        exact ⟨⟨l, n⟩, by subst_vars; exact h.2⟩
      · simp only [Table.wfFrom, Bool.and_eq_true, decide_eq_true_eq]
        exact ⟨h.1, ih _ h.2 (by omega)⟩

theorem table_set_wf [DecidableEq α] (d : Nat → α) (t : Table α) (k : Nat) (v : α) (h : Table.wf d t = true) :
    Table.wf d (Table.set d t k v) = true := by
  unfold Table.set Table.wf at *
  split
  · exact wfFrom_erase d t k 0 h
  · exact wfFrom_insert d t k 0 v h (by omega) ‹_›

theorem wfFrom_filter [DecidableEq α] (d : Nat → α) (t : Table α) (lo : Nat) (p : Nat × α → Bool)
    (h : Table.wfFrom d lo t = true) : Table.wfFrom d lo (t.filter p) = true := by
  induction t generalizing lo with
  | nil => rfl
  | cons x t ih =>
    obtain ⟨j, v⟩ := x
    simp only [Table.wfFrom, Bool.and_eq_true, decide_eq_true_eq] at h
    simp only [List.filter]
    split
    · simp only [Table.wfFrom, Bool.and_eq_true, decide_eq_true_eq]
      exact ⟨h.1, ih _ h.2⟩
    · exact ih lo (wfFrom_le d t lo (j + 1) h.2 (by omega))

/-- Writing a byte keeps the canonical form. -/
theorem mem_write_wf (m : Mem) (a : Nat) (b : Byte) (h : m.wf = true) : (m.write a b).wf = true :=
  table_set_wf _ m a b h

/-- Writing bytes keeps the canonical form. -/
theorem mem_writeN_wf (bs : List Byte) (m : Mem) (a : Nat) (h : m.wf = true) : (m.writeN a bs).wf = true := by
  induction bs generalizing m a with
  | nil => exact h
  | cons b bs ih => exact ih _ _ (mem_write_wf m a b h)

/-- Dropping a range of bytes keeps the canonical form. -/
theorem mem_clearRange_wf (m : Mem) (lo hi : Nat) (h : m.wf = true) : (m.clearRange lo hi).wf = true :=
  wfFrom_filter _ m 0 _ h

end Sys2Proof.Laws
end

