-- ==== Sys2Proof/Laws/Memory.lean ====
section
/-! SUPPORT. The operations that mix or store bytes keep a byte map canonical. -/

namespace Sys2Proof.Laws

open Sys2Proof.Machine

/-- Mixing two byte maps keeps the canonical form of the first. -/
theorem mem_blend_wf (pick : Nat → Bool) (a b : Mem) (h : a.wf = true) : (Mem.blend pick a b).wf = true := by
  have fold : ∀ (f : Mem → Nat × Byte → Mem), (∀ m p, m.wf = true → (f m p).wf = true) →
      ∀ (l : List (Nat × Byte)) (m : Mem), m.wf = true → (l.foldl f m).wf = true := by
    intro f hf l
    induction l with
    | nil => exact fun _ h => h
    | cons p l ih => exact fun m h => ih _ (hf m p h)
  refine fold _ ?_ _ _ (fold _ ?_ _ _ h) <;>
  · intro m p hm
    split
    · exact mem_write_wf m _ _ hm
    · exact hm

/-- A write to block SRAM keeps its byte map canonical. -/
theorem sramPut_wf (x : Block) (a : Nat) (bs : List Byte) (h : x.sram.wf = true) : (x.sramPut a bs).sram.wf = true :=
  mem_writeN_wf bs x.sram a h

/-- A write to block SRAM changes nothing else of the block but its list of bad words. -/
theorem sramPut_frame (x : Block) (a : Nat) (bs : List Byte) :
    x.sramPut a bs = { x with sram := (x.sramPut a bs).sram, sramBad := (x.sramPut a bs).sramBad } := rfl

end Sys2Proof.Laws
end

