-- ==== Sys2Proof/WellFormed.lean ====
section
/-! DEFINITION. Which commands are well formed: every instance that a command names exists in the part. -/

namespace Sys2Proof

def fnOk (n : Nat) : Bool := decide (n ≤ 255)             -- FN[0..255] (06 R181)
def slotOk (n : Nat) : Bool := decide (n < 65536)         -- ring slots (06 R193)
def ctxOk (n : Nat) : Bool := decide (n < 0x100000)       -- contexts (05 R153)
def timeOk (t : Nat) : Bool := decide (t < 2 ^ 48)        -- FN_TIME.TIME (06 Table 06.9)
def blkOk (k : Nat) : Bool := decide (k < 72)             -- block instances, 9 × region + block (01 R14)
def queueOk (q : Nat) : Bool := decide (q < 4096)         -- queue numbers (06 R188)
def coreOk (k : Nat) : Bool := decide (k < 452)           -- Yaquelux cores (01 R14)
def linkOk (l : Nat) : Bool := decide (l < 24)            -- fabric links (12 R356)
def ctlOk (k : Nat) : Bool := decide (k < 9)              -- eight RICs and the CIC (11 R344)
def regionOk (r : Nat) : Bool := decide (r < 8)           -- regions (01 R14)
def railOk (j : Nat) : Bool := decide (j < 8)             -- RAIL_MON[0..7] (15 R440)
def pchOk (n : Nat) : Bool := decide (n < 128)            -- pseudo-channels (13 R384)
def tgtOk (ctl t : Nat) : Bool := decide (t < if ctl < 8 then 2 else 4)       -- targets (Table 11.9)
def srcOk (ctl s : Nat) : Bool := decide (s < if ctl < 8 then 128 else 1024)  -- sources (Table 11.9)
def wordOk (ctl w : Nat) : Bool := decide (w < if ctl < 8 then 4 else 32)     -- words and groups of 32 sources
def handleOk16 (h : Nat) : Bool := decide (h < 65536)     -- sieve handles (09 R299)
def ctrlOk (k : Nat) : Bool := decide (k < 96)            -- NVMe controllers (12 R367)
def chanOk (c : Nat) : Bool := decide (c < 4096)          -- event channels (11 R333)
def vecOk (v : Nat) : Bool := decide (v < 2048)           -- MSI-X vectors (06 R183)
def moverOk (m : Nat) : Bool := decide (m < 8)            -- movers of a block (10 R301)

/-- The instances a command names exist. -/
def Instr.wf : Instr → Bool
  | .start fn q slot _ => fnOk fn && queueOk q && slotOk slot
  | .resume fn q slot _ => fnOk fn && queueOk q && slotOk slot
  | .halt fn q slot _ => fnOk fn && queueOk q && slotOk slot
  | .haltSuspend fn q slot _ => fnOk fn && queueOk q && slotOk slot
  | .clear fn q slot _ => fnOk fn && queueOk q && slotOk slot
  | .sense fn q slot _ => fnOk fn && queueOk q && slotOk slot
  | .wrap fn q slot _ => fnOk fn && queueOk q && slotOk slot
  | .entryNop fn q slot _ => fnOk fn && queueOk q && slotOk slot
  | .queuePoll fn q t => fnOk fn && queueOk q && timeOk t
  | .pollReadComplete fn q _ => fnOk fn && queueOk q
  | .entryReadComplete fn q _ _ => fnOk fn && queueOk q
  | .freezeFinish fn _ => fnOk fn
  | .dispatchTurn blk => blkOk blk
  | .lodgeFillComplete ctx _ _ => ctxOk ctx
  | .demandFetchComplete ctx _ => ctxOk ctx
  | .readAheadComplete ctx _ => ctxOk ctx
  | .descriptorReadComplete ctx _ => ctxOk ctx
  | .move ctx _ => ctxOk ctx
  | .fill ctx _ => ctxOk ctx
  | .compare ctx _ => ctxOk ctx
  | .digest ctx _ => ctxOk ctx
  | .sieve ctx _ => ctxOk ctx
  | .sieveMap ctx _ => ctxOk ctx
  | .shred ctx _ => ctxOk ctx
  | .weave ctx _ => ctxOk ctx
  | .slice ctx _ => ctxOk ctx
  | .unslice ctx _ => ctxOk ctx
  | .fold ctx _ => ctxOk ctx
  | .atomicCas ctx _ => ctxOk ctx
  | .atomicFetchAdd ctx _ => ctxOk ctx
  | .atomicSwap ctx _ => ctxOk ctx
  | .nvmRead ctx _ => ctxOk ctx
  | .nvmWrite ctx _ => ctxOk ctx
  | .nvmWriteFua ctx _ => ctxOk ctx
  | .nvmFlush ctx _ => ctxOk ctx
  | .nvmDeallocate ctx _ => ctxOk ctx
  | .nvmPass ctx _ => ctxOk ctx
  | .jump ctx _ => ctxOk ctx
  | .call ctx _ => ctxOk ctx
  | .ret ctx _ => ctxOk ctx
  | .wait ctx _ => ctxOk ctx
  | .waitTimeout ctx t _ => ctxOk ctx && timeOk t
  | .signal ctx _ => ctxOk ctx
  | .post ctx _ => ctxOk ctx
  | .fence ctx _ => ctxOk ctx
  | .finish ctx _ => ctxOk ctx
  | .finishComplete ctx _ => ctxOk ctx
  | .epoch ctx _ => ctxOk ctx
  | .nop ctx _ => ctxOk ctx
  | .createQueue fn slot _ => fnOk fn && slotOk slot
  | .setQueueInterval fn slot _ => fnOk fn && slotOk slot
  | .destroyQueue fn slot _ => fnOk fn && slotOk slot
  | .createStatusRing fn slot _ => fnOk fn && slotOk slot
  | .destroyStatusRing fn slot _ => fnOk fn && slotOk slot
  | .allotContexts fn slot _ => fnOk fn && slotOk slot
  | .releaseContexts fn slot _ => fnOk fn && slotOk slot
  | .pinContext fn slot _ => fnOk fn && slotOk slot
  | .unpinContext fn slot _ => fnOk fn && slotOk slot
  | .setBudget fn slot _ => fnOk fn && slotOk slot
  | .setKeys fn slot _ => fnOk fn && slotOk slot
  | .queryContext fn slot _ => fnOk fn && slotOk slot
  | .loadSieve fn slot _ _ => fnOk fn && slotOk slot
  | .unloadSieve fn slot _ => fnOk fn && slotOk slot
  | .unloadSieveComplete fn slot _ => fnOk fn && slotOk slot
  | .setExtent fn slot _ => fnOk fn && slotOk slot
  | .writeFtt fn slot _ _ => fnOk fn && slotOk slot
  | .setInterleave fn slot _ => fnOk fn && slotOk slot
  | .setFarTimeout fn slot _ => fnOk fn && slotOk slot
  | .grantEvents fn slot _ => fnOk fn && slotOk slot
  | .revokeEvents fn slot _ => fnOk fn && slotOk slot
  | .bindEvent fn slot _ => fnOk fn && slotOk slot
  | .unbindEvent fn slot _ => fnOk fn && slotOk slot
  | .setModeration fn slot _ => fnOk fn && slotOk slot
  | .setVfVectors fn slot _ => fnOk fn && slotOk slot
  | .resetVf fn slot _ => fnOk fn && slotOk slot
  | .attachNamespace fn slot _ _ => fnOk fn && slotOk slot
  | .detachNamespace fn slot _ => fnOk fn && slotOk slot
  | .detachNamespaceComplete fn slot _ => fnOk fn && slotOk slot
  | .setNvmPolicy fn slot _ => fnOk fn && slotOk slot
  | .setDomain fn slot _ => fnOk fn && slotOk slot
  | .identify fn slot _ _ => fnOk fn && slotOk slot
  | .getHealth fn slot _ => fnOk fn && slotOk slot
  | .fwStage fn slot _ _ => fnOk fn && slotOk slot
  | .fwCommit fn slot _ _ _ => fnOk fn && slotOk slot
  | .aqCreate fn _ => fnOk fn
  | .srHeadWrite fn n _ => fnOk fn && decide (n < 16)
  | .registerWrite _ => true
  | .lmwAccess _ _ => true
  | .lmwDeniedRead => true
  | .barResize logGiB => decide (4 ≤ logGiB) && decide (logGiB ≤ 8)
  | .flr fn => fnOk fn
  | .vfEnableClear => true
  | .vfEnableSet numVfs => decide (numVfs ≤ 255)
  | .dStateChange fn _ _ => fnOk fn
  | .busMasterEnableChange fn _ _ => fnOk fn
  | .msixMaskClear fn _ => fnOk fn
  | .pmeStatusClear fn => fnOk fn
  | .pmeTimeout fn => fnOk fn
  | .moderationHoldoffExpiry fn v t => fnOk fn && vecOk v && timeOk t
  | .hostCompletionTimeout tag _ _ => ctxOk tag.ctx
  | .hostCompletion tag _ _ => ctxOk tag.ctx
  | .atsInvalidate fn => fnOk fn
  | .tdispLockInterface fn => fnOk fn
  | .tdispStopInterface fn => fnOk fn
  | .tdiError fn => fnOk fn
  | .getMeasurements _ _ => true
  | .getCertificate _ slot => slotOk slot
  | .challenge _ slot => slotOk slot
  | .keyExchange _ _ => true
  | .descriptorNotice blk m c slot => blkOk blk && moverOk m && decide (c < 8) && slotOk slot
  | .moverUnitStart blk m => blkOk blk && moverOk m
  | .copy blk m c => blkOk blk && moverOk m && decide (c < 8)
  | .deal blk m c => blkOk blk && moverOk m && decide (c < 8)
  | .merge blk m c => blkOk blk && moverOk m && decide (c < 8)
  | .planes blk m c => blkOk blk && moverOk m && decide (c < 8)
  | .unplanes blk m c => blkOk blk && moverOk m && decide (c < 8)
  | .descFill blk m c => blkOk blk && moverOk m && decide (c < 8)
  | .descRead blk m c => blkOk blk && moverOk m && decide (c < 8)
  | .bindChan blk m c => blkOk blk && moverOk m && decide (c < 8)
  | .stopChan blk m c slot => blkOk blk && moverOk m && decide (c < 8) && slotOk slot
  | .cutChan blk m c slot => blkOk blk && moverOk m && decide (c < 8) && slotOk slot
  | .abortChan blk m c slot => blkOk blk && moverOk m && decide (c < 8) && slotOk slot
  | .moverReadResponse _ _ _ _ => true
  | .readBackComplete _ _ _ => true
  | .rcStart blk m j _ => blkOk blk && moverOk m && decide (j < 2)
  | .rcStop blk m j => blkOk blk && moverOk m && decide (j < 2)
  | .rcTransferEnd blk m j _ => blkOk blk && moverOk m && decide (j < 2)
  | .rchStatRead blk m c => blkOk blk && moverOk m && decide (c < 8)
  | .fifoItemWrite blk f _ _ => blkOk blk && decide (f < 64)
  | .fifoItemRead blk f _ => blkOk blk && decide (f < 64)
  | .fifoPointerMismatch blk f _ => blkOk blk && decide (f < 64)
  | .fhStatRead blk f => blkOk blk && decide (f < 64)
  | .sieveInit core handle _ => coreOk core && handleOk16 handle
  | .recordPresent core _ _ _ => coreOk core
  | .svBudgetTrap core => coreOk core
  | .imageLoadComplete core handle => coreOk core && handleOk16 handle
  | .mapEntryReadComplete ctx => ctxOk ctx
  | .fttWalkComplete region fn _ _ _ => regionOk region && fnOk fn
  | .loadBalanceSample region t => regionOk region && timeOk t
  | .migrationPoint ctx region slot _ => ctxOk ctx && regionOk region && decide (slot < 8)
  | .migrationArrival ctx _ => ctxOk ctx
  | .substitutionTimeout region t => regionOk region && timeOk t
  | .substitutionEnd region => regionOk region
  | .pcJump core _ => coreOk core
  | .pcCall core _ => coreOk core
  | .pcRet core _ => coreOk core
  | .pcRti core _ => coreOk core
  | .flgNzcv core _ => coreOk core
  | .flgTest core _ => coreOk core
  | .trapSoft core _ => coreOk core
  | .ctlWait core _ => coreOk core
  | .tagGet core _ => coreOk core
  | .tagSet core _ => coreOk core
  | .lsuLoad core _ => coreOk core
  | .lsuStore core _ => coreOk core
  | .bndCheck core _ => coreOk core
  | .dsPush core _ => coreOk core
  | .dsPop core _ => coreOk core
  | .retPush core _ => coreOk core
  | .retPop core _ => coreOk core
  | .retBottom core _ => coreOk core
  | .retTFill core _ => coreOk core
  | .winOpen core _ => coreOk core
  | .winClose core _ => coreOk core
  | .aluAdd core _ => coreOk core
  | .aluSub core _ => coreOk core
  | .aluCmp core _ => coreOk core
  | .aluNeg core _ => coreOk core
  | .aluAnd core _ => coreOk core
  | .aluOr core _ => coreOk core
  | .aluXor core _ => coreOk core
  | .aluNot core _ => coreOk core
  | .aluShl core _ => coreOk core
  | .aluShr core _ => coreOk core
  | .aluSar core _ => coreOk core
  | .aluRol core _ => coreOk core
  | .aluRor core _ => coreOk core
  | .aluMulu core _ => coreOk core
  | .aluMuls core _ => coreOk core
  | .aluDivu core _ => coreOk core
  | .aluDivs core _ => coreOk core
  | .aluSeq core _ => coreOk core
  | .aluSltu core _ => coreOk core
  | .aluSlts core _ => coreOk core
  | .yqPortWrite core _ => coreOk core
  | .resultLand core => coreOk core
  | .interruptEntry core _ => coreOk core
  | .sleepDeadline core t => coreOk core && timeOk t
  | .coreWake core => coreOk core
  | .cellBootGo _ => true
  | .ctxRead core _ => coreOk core
  | .ctxWrite core _ => coreOk core
  | .cmdDecode core _ => coreOk core
  | .fchFetch core _ => coreOk core
  | .dscPost core _ => coreOk core
  | .evqPop core _ => coreOk core
  | .bevFire core _ => coreOk core
  | .evrSubscribe core _ => coreOk core
  | .evrClear core _ => coreOk core
  | .evrFire core _ => coreOk core
  | .tmrArm core _ => coreOk core
  | .tmrCancel core _ => coreOk core
  | .fhFlush core _ => coreOk core
  | .irqClaimPort core _ => coreOk core
  | .irqDonePort core _ => coreOk core
  | .mbxSend core _ => coreOk core
  | .mbxPop core _ => coreOk core
  | .lockAcquire core _ => coreOk core
  | .lockRelease core _ => coreOk core
  | .recWord core _ => coreOk core
  | .wcmpEq core _ => coreOk core
  | .rngU core _ => coreOk core
  | .rngS core _ => coreOk core
  | .hshMix core _ => coreOk core
  | .hshFin core _ => coreOk core
  | .emtPut core _ => coreOk core
  | .emtCopy core _ => coreOk core
  | .vrdVerdict core _ => coreOk core
  | .vrdReady core _ => coreOk core
  | .a7Fetch core _ => coreOk core
  | .a7Keep core _ => coreOk core
  | .a7Drop core _ => coreOk core
  | .a7Crc core _ => coreOk core
  | .eventFiringArrival c _ _ => chanOk c
  | .vectorFiringArrival fn v _ => fnOk fn && vecOk v
  | .consumerDelivery c _ => chanOk c
  | .blkEvtFire blk _ => blkOk blk
  | .gtTimerExpiry blk k t => blkOk blk && decide (k < 16) && timeOk t
  | .flagClear c => chanOk c
  | .evtBindWrite c i _ => chanOk c && decide (i < 4)
  | .evtChRead c => chanOk c
  | .evtCtlRead => true
  | .sourceEdge ctl s _ _ t => ctlOk ctl && srcOk ctl s && timeOk t
  | .groupHoldoffExpiry ctl g t => ctlOk ctl && wordOk ctl g && timeOk t
  | .stuckSource ctl s t => ctlOk ctl && srcOk ctl s && timeOk t
  | .claimRead ctl tgt => ctlOk ctl && tgtOk ctl tgt
  | .doneWrite ctl tgt _ => ctlOk ctl && tgtOk ctl tgt
  | .pendSet ctl word _ => ctlOk ctl && wordOk ctl word
  | .pendClr ctl word _ => ctlOk ctl && wordOk ctl word
  | .enableSet ctl word _ => ctlOk ctl && wordOk ctl word
  | .enableClr ctl word _ => ctlOk ctl && wordOk ctl word
  | .stackFaultClear ctl tgt => ctlOk ctl && tgtOk ctl tgt
  | .srcCfgRead ctl s => ctlOk ctl && srcOk ctl s
  | .linkUp l _ => linkOk l
  | .linkDown l => linkOk l
  | .linkRetrainTimer l t => linkOk l && timeOk t
  | .presenceChange l _ => linkOk l
  | .flStatRead l => linkOk l
  | .flLaneRead l i => linkOk l && decide (i < 8)
  | .fabricError l _ => linkOk l
  | .farResponse tag _ _ => ctxOk tag.ctx
  | .cxlEventLog l _ _ _ _ _ => linkOk l
  | .dcAdd l _ _ _ _ => linkOk l
  | .dcReleaseRequest l _ _ _ _ => linkOk l
  | .dcForcedRelease l _ _ _ _ => linkOk l
  | .nvmeAsyncEvent ctrl _ _ => ctrlOk ctrl
  | .nvmeCompletion ctrl _ _ _ _ => ctrlOk ctrl
  | .nvmeControllerFail ctrl _ _ => ctrlOk ctrl
  | .downstreamTimeout _ t _ => timeOk t
  | .lateResponse l => linkOk l
  | .helloTimer t => timeOk t
  | .hello _ => true
  | .ask _ => true
  | .askReplySend _ _ => true
  | .reply _ => true
  | .leave _ => true
  | .domainTimeout member t => decide (member < 32) && timeOk t
  | .domCntRead => true
  | .errorArrival _ _ => true
  | .errAck _ => true
  | .errCntRead _ => true
  | .rowRepair pch _ _ => pchOk pch
  | .pchRetirement pch => pchOk pch
  | .pchStatRead pch => pchOk pch
  | .regStaleRead region => regionOk region
  | .patrolScrub _ _ => true
  | .lodgeScrub blk => blkOk blk
  | .agingMeasurement _ _ _ t _ => timeOk t
  | .ledgerRetry t => timeOk t
  | .storeComplete => true
  | .storeRetry t => timeOk t
  | .getState _ => true
  | .setDebug _ _ => true
  | .provision _ _ _ => true
  | .installCert _ _ => true
  | .lockDevice _ => true
  | .readLedger _ slot _ => slotOk slot
  | .unlockChallenge _ _ _ t => timeOk t
  | .unlockResponse _ _ _ t => timeOk t
  | .retire _ _ _ t => timeOk t
  | .zeroisation => true
  | .nonceExpiry _ t => timeOk t
  | .pldmFirmwareUpdate _ => true
  | .pldmSensorRead _ => true
  | .mctpReassemblyTimeout t => timeOk t
  | .smbusClockTimeout t => timeOk t
  | .dapRead _ => true
  | .dapWrite _ => true
  | .dapStatus _ => true
  | .dapFrameTimeout t => timeOk t
  | .idcode => true
  | .bypass _ => true
  | .samplePreload _ => true
  | .extest => true
  | .clamp => true
  | .highz => true
  | .internalScan => true
  | .memoryBist => true
  | .glideEntry _ t => timeOk t
  | .glideExit _ => true
  | .coastEntry t => timeOk t
  | .parkEntry t => timeOk t
  | .coastParkExit _ => true
  | .pwrStatRead => true
  | .coldReset _ => true
  | .coldResetRelease _ => true
  | .warmReset => true
  | .warmResetRelease _ => true
  | .powerOrderBreach rail => railOk rail
  | .railSample rail _ => railOk rail
  | .railUndervoltage rail => railOk rail
  | .railMonRead rail => railOk rail
  | .avsReadback _ t => timeOk t
  | .avsRetry t => timeOk t
  | .refclkLoss => true
  | .mclkLoss => true
  | .mclkRestore => true
  | .tempWarning i _ => decide (i < 16)
  | .tempHard i _ => decide (i < 16)
  | .thermtrip i _ => decide (i < 16)
  | .tempRead i => decide (i < 16)
  | .tempThresholdClear i _ _ => decide (i < 16)
  | .tdispStartInterface fn => fnOk fn
  | .spdmSessionEnd _ => true
  | .nvmeControllerReady ctrl => ctrlOk ctrl
  | .localWriteAcknowledged _ => true
  | .testLogicReset => true

/-- The function that a command names, if it names one. -/
def Instr.fns : Instr → List Nat
  | .start fn _ _ _ => [fn]
  | .resume fn _ _ _ => [fn]
  | .halt fn _ _ _ => [fn]
  | .haltSuspend fn _ _ _ => [fn]
  | .clear fn _ _ _ => [fn]
  | .sense fn _ _ _ => [fn]
  | .wrap fn _ _ _ => [fn]
  | .entryNop fn _ _ _ => [fn]
  | .queuePoll fn _ _ => [fn]
  | .pollReadComplete fn _ _ => [fn]
  | .entryReadComplete fn _ _ _ => [fn]
  | .freezeFinish fn _ => [fn]
  | .createQueue fn _ _ => [fn]
  | .setQueueInterval fn _ _ => [fn]
  | .destroyQueue fn _ _ => [fn]
  | .createStatusRing fn _ _ => [fn]
  | .destroyStatusRing fn _ _ => [fn]
  | .allotContexts fn _ _ => [fn]
  | .releaseContexts fn _ _ => [fn]
  | .pinContext fn _ _ => [fn]
  | .unpinContext fn _ _ => [fn]
  | .setBudget fn _ _ => [fn]
  | .setKeys fn _ _ => [fn]
  | .queryContext fn _ _ => [fn]
  | .loadSieve fn _ _ _ => [fn]
  | .unloadSieve fn _ _ => [fn]
  | .unloadSieveComplete fn _ _ => [fn]
  | .setExtent fn _ _ => [fn]
  | .writeFtt fn _ _ _ => [fn]
  | .setInterleave fn _ _ => [fn]
  | .setFarTimeout fn _ _ => [fn]
  | .grantEvents fn _ _ => [fn]
  | .revokeEvents fn _ _ => [fn]
  | .bindEvent fn _ _ => [fn]
  | .unbindEvent fn _ _ => [fn]
  | .setModeration fn _ _ => [fn]
  | .setVfVectors fn _ _ => [fn]
  | .resetVf fn _ _ => [fn]
  | .attachNamespace fn _ _ _ => [fn]
  | .detachNamespace fn _ _ => [fn]
  | .detachNamespaceComplete fn _ _ => [fn]
  | .setNvmPolicy fn _ _ => [fn]
  | .setDomain fn _ _ => [fn]
  | .identify fn _ _ _ => [fn]
  | .getHealth fn _ _ => [fn]
  | .fwStage fn _ _ _ => [fn]
  | .fwCommit fn _ _ _ _ => [fn]
  | .aqCreate fn _ => [fn]
  | .srHeadWrite fn _ _ => [fn]
  | .flr fn => [fn]
  | .dStateChange fn _ _ => [fn]
  | .busMasterEnableChange fn _ _ => [fn]
  | .msixMaskClear fn _ => [fn]
  | .pmeStatusClear fn => [fn]
  | .pmeTimeout fn => [fn]
  | .moderationHoldoffExpiry fn _ _ => [fn]
  | .atsInvalidate fn => [fn]
  | .tdispLockInterface fn => [fn]
  | .tdispStopInterface fn => [fn]
  | .tdiError fn => [fn]
  | .fttWalkComplete _ fn _ _ _ => [fn]
  | .vectorFiringArrival fn _ _ => [fn]
  | .tdispStartInterface fn => [fn]
  | _ => []

/-- The context that a command names, if it names one. -/
def Instr.ctxs : Instr → List Nat
  | .lodgeFillComplete ctx _ _ => [ctx]
  | .demandFetchComplete ctx _ => [ctx]
  | .readAheadComplete ctx _ => [ctx]
  | .descriptorReadComplete ctx _ => [ctx]
  | .move ctx _ => [ctx]
  | .fill ctx _ => [ctx]
  | .compare ctx _ => [ctx]
  | .digest ctx _ => [ctx]
  | .sieve ctx _ => [ctx]
  | .sieveMap ctx _ => [ctx]
  | .shred ctx _ => [ctx]
  | .weave ctx _ => [ctx]
  | .slice ctx _ => [ctx]
  | .unslice ctx _ => [ctx]
  | .fold ctx _ => [ctx]
  | .atomicCas ctx _ => [ctx]
  | .atomicFetchAdd ctx _ => [ctx]
  | .atomicSwap ctx _ => [ctx]
  | .nvmRead ctx _ => [ctx]
  | .nvmWrite ctx _ => [ctx]
  | .nvmWriteFua ctx _ => [ctx]
  | .nvmFlush ctx _ => [ctx]
  | .nvmDeallocate ctx _ => [ctx]
  | .nvmPass ctx _ => [ctx]
  | .jump ctx _ => [ctx]
  | .call ctx _ => [ctx]
  | .ret ctx _ => [ctx]
  | .wait ctx _ => [ctx]
  | .waitTimeout ctx _ _ => [ctx]
  | .signal ctx _ => [ctx]
  | .post ctx _ => [ctx]
  | .fence ctx _ => [ctx]
  | .finish ctx _ => [ctx]
  | .finishComplete ctx _ => [ctx]
  | .epoch ctx _ => [ctx]
  | .nop ctx _ => [ctx]
  | .hostCompletionTimeout tag _ _ => [tag.ctx]
  | .hostCompletion tag _ _ => [tag.ctx]
  | .mapEntryReadComplete ctx => [ctx]
  | .migrationPoint ctx _ _ _ => [ctx]
  | .migrationArrival ctx _ => [ctx]
  | .farResponse tag _ _ => [tag.ctx]
  | _ => []

end Sys2Proof
end

