-- ==== Sys2Proof/Laws/PerInstr.lean ====
section
/-! SUPPORT. One lemma for each command: a well-formed command names functions and contexts that exist. -/

namespace Sys2Proof.Laws.Named

set_option Elab.async false

/-- Every function and every context that a well-formed command names exists (06 R181, 05 R153). -/
def Statement (i : Instr) : Prop :=
  i.wf = true → (∀ n ∈ i.fns, n ≤ 255) ∧ (∀ n ∈ i.ctxs, n < 0x100000)

theorem start (x0 : Nat) (x1 : Nat) (x2 : Nat) (x3 : Wr) : Statement (.start x0 x1 x2 x3) := by
  intro h; simp_all [Instr.wf, Instr.fns, Instr.ctxs, fnOk]
theorem resume (x0 : Nat) (x1 : Nat) (x2 : Nat) (x3 : Wr) : Statement (.resume x0 x1 x2 x3) := by
  intro h; simp_all [Instr.wf, Instr.fns, Instr.ctxs, fnOk]
theorem halt (x0 : Nat) (x1 : Nat) (x2 : Nat) (x3 : Wr) : Statement (.halt x0 x1 x2 x3) := by
  intro h; simp_all [Instr.wf, Instr.fns, Instr.ctxs, fnOk]
theorem haltSuspend (x0 : Nat) (x1 : Nat) (x2 : Nat) (x3 : Wr) : Statement (.haltSuspend x0 x1 x2 x3) := by
  intro h; simp_all [Instr.wf, Instr.fns, Instr.ctxs, fnOk]
theorem clear (x0 : Nat) (x1 : Nat) (x2 : Nat) (x3 : Wr) : Statement (.clear x0 x1 x2 x3) := by
  intro h; simp_all [Instr.wf, Instr.fns, Instr.ctxs, fnOk]
theorem sense (x0 : Nat) (x1 : Nat) (x2 : Nat) (x3 : Wr) : Statement (.sense x0 x1 x2 x3) := by
  intro h; simp_all [Instr.wf, Instr.fns, Instr.ctxs, fnOk]
theorem wrap (x0 : Nat) (x1 : Nat) (x2 : Nat) (x3 : Wr) : Statement (.wrap x0 x1 x2 x3) := by
  intro h; simp_all [Instr.wf, Instr.fns, Instr.ctxs, fnOk]
theorem entryNop (x0 : Nat) (x1 : Nat) (x2 : Nat) (x3 : Wr) : Statement (.entryNop x0 x1 x2 x3) := by
  intro h; simp_all [Instr.wf, Instr.fns, Instr.ctxs, fnOk]
theorem queuePoll (x0 : Nat) (x1 : Nat) (x2 : Nat) : Statement (.queuePoll x0 x1 x2) := by
  intro h; simp_all [Instr.wf, Instr.fns, Instr.ctxs, fnOk]
theorem pollReadComplete (x0 : Nat) (x1 : Nat) (x2 : ReadByte) : Statement (.pollReadComplete x0 x1 x2) := by
  intro h; simp_all [Instr.wf, Instr.fns, Instr.ctxs, fnOk]
theorem entryReadComplete (x0 : Nat) (x1 : Nat) (x2 : ReadBytes) (x3 : Wr) : Statement (.entryReadComplete x0 x1 x2 x3) := by
  intro h; simp_all [Instr.wf, Instr.fns, Instr.ctxs, fnOk]
theorem freezeFinish (x0 : Nat) (x1 : Wr) : Statement (.freezeFinish x0 x1) := by
  intro h; simp_all [Instr.wf, Instr.fns, Instr.ctxs, fnOk]
theorem dispatchTurn (x0 : Nat) : Statement (.dispatchTurn x0) := by
  exact fun _ => ⟨nofun, nofun⟩
theorem lodgeFillComplete (x0 : Nat) (x1 : RecordRead) (x2 : Wr) : Statement (.lodgeFillComplete x0 x1 x2) := by
  intro h; simp_all [Instr.wf, Instr.fns, Instr.ctxs, ctxOk]
theorem demandFetchComplete (x0 : Nat) (x1 : Wr) : Statement (.demandFetchComplete x0 x1) := by
  intro h; simp_all [Instr.wf, Instr.fns, Instr.ctxs, ctxOk]
theorem readAheadComplete (x0 : Nat) (x1 : Nat) : Statement (.readAheadComplete x0 x1) := by
  intro h; simp_all [Instr.wf, Instr.fns, Instr.ctxs, ctxOk]
theorem descriptorReadComplete (x0 : Nat) (x1 : Wr) : Statement (.descriptorReadComplete x0 x1) := by
  intro h; simp_all [Instr.wf, Instr.fns, Instr.ctxs, ctxOk]
theorem move (x0 : Nat) (x1 : Wr) : Statement (.move x0 x1) := by
  intro h; simp_all [Instr.wf, Instr.fns, Instr.ctxs, ctxOk]
theorem fill (x0 : Nat) (x1 : Wr) : Statement (.fill x0 x1) := by
  intro h; simp_all [Instr.wf, Instr.fns, Instr.ctxs, ctxOk]
theorem compare (x0 : Nat) (x1 : Wr) : Statement (.compare x0 x1) := by
  intro h; simp_all [Instr.wf, Instr.fns, Instr.ctxs, ctxOk]
theorem digest (x0 : Nat) (x1 : Wr) : Statement (.digest x0 x1) := by
  intro h; simp_all [Instr.wf, Instr.fns, Instr.ctxs, ctxOk]
theorem sieve (x0 : Nat) (x1 : Wr) : Statement (.sieve x0 x1) := by
  intro h; simp_all [Instr.wf, Instr.fns, Instr.ctxs, ctxOk]
theorem sieveMap (x0 : Nat) (x1 : Wr) : Statement (.sieveMap x0 x1) := by
  intro h; simp_all [Instr.wf, Instr.fns, Instr.ctxs, ctxOk]
theorem shred (x0 : Nat) (x1 : Wr) : Statement (.shred x0 x1) := by
  intro h; simp_all [Instr.wf, Instr.fns, Instr.ctxs, ctxOk]
theorem weave (x0 : Nat) (x1 : Wr) : Statement (.weave x0 x1) := by
  intro h; simp_all [Instr.wf, Instr.fns, Instr.ctxs, ctxOk]
theorem slice (x0 : Nat) (x1 : Wr) : Statement (.slice x0 x1) := by
  intro h; simp_all [Instr.wf, Instr.fns, Instr.ctxs, ctxOk]
theorem unslice (x0 : Nat) (x1 : Wr) : Statement (.unslice x0 x1) := by
  intro h; simp_all [Instr.wf, Instr.fns, Instr.ctxs, ctxOk]
theorem fold (x0 : Nat) (x1 : Wr) : Statement (.fold x0 x1) := by
  intro h; simp_all [Instr.wf, Instr.fns, Instr.ctxs, ctxOk]
theorem atomicCas (x0 : Nat) (x1 : Wr) : Statement (.atomicCas x0 x1) := by
  intro h; simp_all [Instr.wf, Instr.fns, Instr.ctxs, ctxOk]
theorem atomicFetchAdd (x0 : Nat) (x1 : Wr) : Statement (.atomicFetchAdd x0 x1) := by
  intro h; simp_all [Instr.wf, Instr.fns, Instr.ctxs, ctxOk]
theorem atomicSwap (x0 : Nat) (x1 : Wr) : Statement (.atomicSwap x0 x1) := by
  intro h; simp_all [Instr.wf, Instr.fns, Instr.ctxs, ctxOk]
theorem nvmRead (x0 : Nat) (x1 : Wr) : Statement (.nvmRead x0 x1) := by
  intro h; simp_all [Instr.wf, Instr.fns, Instr.ctxs, ctxOk]
theorem nvmWrite (x0 : Nat) (x1 : Wr) : Statement (.nvmWrite x0 x1) := by
  intro h; simp_all [Instr.wf, Instr.fns, Instr.ctxs, ctxOk]
theorem nvmWriteFua (x0 : Nat) (x1 : Wr) : Statement (.nvmWriteFua x0 x1) := by
  intro h; simp_all [Instr.wf, Instr.fns, Instr.ctxs, ctxOk]
theorem nvmFlush (x0 : Nat) (x1 : Wr) : Statement (.nvmFlush x0 x1) := by
  intro h; simp_all [Instr.wf, Instr.fns, Instr.ctxs, ctxOk]
theorem nvmDeallocate (x0 : Nat) (x1 : Wr) : Statement (.nvmDeallocate x0 x1) := by
  intro h; simp_all [Instr.wf, Instr.fns, Instr.ctxs, ctxOk]
theorem nvmPass (x0 : Nat) (x1 : Wr) : Statement (.nvmPass x0 x1) := by
  intro h; simp_all [Instr.wf, Instr.fns, Instr.ctxs, ctxOk]
theorem jump (x0 : Nat) (x1 : Wr) : Statement (.jump x0 x1) := by
  intro h; simp_all [Instr.wf, Instr.fns, Instr.ctxs, ctxOk]
theorem call (x0 : Nat) (x1 : Wr) : Statement (.call x0 x1) := by
  intro h; simp_all [Instr.wf, Instr.fns, Instr.ctxs, ctxOk]
theorem ret (x0 : Nat) (x1 : Wr) : Statement (.ret x0 x1) := by
  intro h; simp_all [Instr.wf, Instr.fns, Instr.ctxs, ctxOk]
theorem wait (x0 : Nat) (x1 : Wr) : Statement (.wait x0 x1) := by
  intro h; simp_all [Instr.wf, Instr.fns, Instr.ctxs, ctxOk]
theorem waitTimeout (x0 : Nat) (x1 : Nat) (x2 : Wr) : Statement (.waitTimeout x0 x1 x2) := by
  intro h; simp_all [Instr.wf, Instr.fns, Instr.ctxs, ctxOk]
theorem signal (x0 : Nat) (x1 : Wr) : Statement (.signal x0 x1) := by
  intro h; simp_all [Instr.wf, Instr.fns, Instr.ctxs, ctxOk]
theorem post (x0 : Nat) (x1 : Wr) : Statement (.post x0 x1) := by
  intro h; simp_all [Instr.wf, Instr.fns, Instr.ctxs, ctxOk]
theorem fence (x0 : Nat) (x1 : Wr) : Statement (.fence x0 x1) := by
  intro h; simp_all [Instr.wf, Instr.fns, Instr.ctxs, ctxOk]
theorem finish (x0 : Nat) (x1 : Wr) : Statement (.finish x0 x1) := by
  intro h; simp_all [Instr.wf, Instr.fns, Instr.ctxs, ctxOk]
theorem finishComplete (x0 : Nat) (x1 : Wr) : Statement (.finishComplete x0 x1) := by
  intro h; simp_all [Instr.wf, Instr.fns, Instr.ctxs, ctxOk]
theorem epoch (x0 : Nat) (x1 : Wr) : Statement (.epoch x0 x1) := by
  intro h; simp_all [Instr.wf, Instr.fns, Instr.ctxs, ctxOk]
theorem nop (x0 : Nat) (x1 : Wr) : Statement (.nop x0 x1) := by
  intro h; simp_all [Instr.wf, Instr.fns, Instr.ctxs, ctxOk]
theorem createQueue (x0 : Nat) (x1 : Nat) (x2 : Wr) : Statement (.createQueue x0 x1 x2) := by
  intro h; simp_all [Instr.wf, Instr.fns, Instr.ctxs, fnOk]
theorem setQueueInterval (x0 : Nat) (x1 : Nat) (x2 : Wr) : Statement (.setQueueInterval x0 x1 x2) := by
  intro h; simp_all [Instr.wf, Instr.fns, Instr.ctxs, fnOk]
theorem destroyQueue (x0 : Nat) (x1 : Nat) (x2 : Wr) : Statement (.destroyQueue x0 x1 x2) := by
  intro h; simp_all [Instr.wf, Instr.fns, Instr.ctxs, fnOk]
theorem createStatusRing (x0 : Nat) (x1 : Nat) (x2 : Wr) : Statement (.createStatusRing x0 x1 x2) := by
  intro h; simp_all [Instr.wf, Instr.fns, Instr.ctxs, fnOk]
theorem destroyStatusRing (x0 : Nat) (x1 : Nat) (x2 : Wr) : Statement (.destroyStatusRing x0 x1 x2) := by
  intro h; simp_all [Instr.wf, Instr.fns, Instr.ctxs, fnOk]
theorem allotContexts (x0 : Nat) (x1 : Nat) (x2 : Wr) : Statement (.allotContexts x0 x1 x2) := by
  intro h; simp_all [Instr.wf, Instr.fns, Instr.ctxs, fnOk]
theorem releaseContexts (x0 : Nat) (x1 : Nat) (x2 : Wr) : Statement (.releaseContexts x0 x1 x2) := by
  intro h; simp_all [Instr.wf, Instr.fns, Instr.ctxs, fnOk]
theorem pinContext (x0 : Nat) (x1 : Nat) (x2 : Wr) : Statement (.pinContext x0 x1 x2) := by
  intro h; simp_all [Instr.wf, Instr.fns, Instr.ctxs, fnOk]
theorem unpinContext (x0 : Nat) (x1 : Nat) (x2 : Wr) : Statement (.unpinContext x0 x1 x2) := by
  intro h; simp_all [Instr.wf, Instr.fns, Instr.ctxs, fnOk]
theorem setBudget (x0 : Nat) (x1 : Nat) (x2 : Wr) : Statement (.setBudget x0 x1 x2) := by
  intro h; simp_all [Instr.wf, Instr.fns, Instr.ctxs, fnOk]
theorem setKeys (x0 : Nat) (x1 : Nat) (x2 : Wr) : Statement (.setKeys x0 x1 x2) := by
  intro h; simp_all [Instr.wf, Instr.fns, Instr.ctxs, fnOk]
theorem queryContext (x0 : Nat) (x1 : Nat) (x2 : Wr) : Statement (.queryContext x0 x1 x2) := by
  intro h; simp_all [Instr.wf, Instr.fns, Instr.ctxs, fnOk]
theorem loadSieve (x0 : Nat) (x1 : Nat) (x2 : AdminRead) (x3 : Wr) : Statement (.loadSieve x0 x1 x2 x3) := by
  intro h; simp_all [Instr.wf, Instr.fns, Instr.ctxs, fnOk]
theorem unloadSieve (x0 : Nat) (x1 : Nat) (x2 : Wr) : Statement (.unloadSieve x0 x1 x2) := by
  intro h; simp_all [Instr.wf, Instr.fns, Instr.ctxs, fnOk]
theorem unloadSieveComplete (x0 : Nat) (x1 : Nat) (x2 : Wr) : Statement (.unloadSieveComplete x0 x1 x2) := by
  intro h; simp_all [Instr.wf, Instr.fns, Instr.ctxs, fnOk]
theorem setExtent (x0 : Nat) (x1 : Nat) (x2 : Wr) : Statement (.setExtent x0 x1 x2) := by
  intro h; simp_all [Instr.wf, Instr.fns, Instr.ctxs, fnOk]
theorem writeFtt (x0 : Nat) (x1 : Nat) (x2 : AdminRead) (x3 : Wr) : Statement (.writeFtt x0 x1 x2 x3) := by
  intro h; simp_all [Instr.wf, Instr.fns, Instr.ctxs, fnOk]
theorem setInterleave (x0 : Nat) (x1 : Nat) (x2 : Wr) : Statement (.setInterleave x0 x1 x2) := by
  intro h; simp_all [Instr.wf, Instr.fns, Instr.ctxs, fnOk]
theorem setFarTimeout (x0 : Nat) (x1 : Nat) (x2 : Wr) : Statement (.setFarTimeout x0 x1 x2) := by
  intro h; simp_all [Instr.wf, Instr.fns, Instr.ctxs, fnOk]
theorem grantEvents (x0 : Nat) (x1 : Nat) (x2 : Wr) : Statement (.grantEvents x0 x1 x2) := by
  intro h; simp_all [Instr.wf, Instr.fns, Instr.ctxs, fnOk]
theorem revokeEvents (x0 : Nat) (x1 : Nat) (x2 : Wr) : Statement (.revokeEvents x0 x1 x2) := by
  intro h; simp_all [Instr.wf, Instr.fns, Instr.ctxs, fnOk]
theorem bindEvent (x0 : Nat) (x1 : Nat) (x2 : Wr) : Statement (.bindEvent x0 x1 x2) := by
  intro h; simp_all [Instr.wf, Instr.fns, Instr.ctxs, fnOk]
theorem unbindEvent (x0 : Nat) (x1 : Nat) (x2 : Wr) : Statement (.unbindEvent x0 x1 x2) := by
  intro h; simp_all [Instr.wf, Instr.fns, Instr.ctxs, fnOk]
theorem setModeration (x0 : Nat) (x1 : Nat) (x2 : Wr) : Statement (.setModeration x0 x1 x2) := by
  intro h; simp_all [Instr.wf, Instr.fns, Instr.ctxs, fnOk]
theorem setVfVectors (x0 : Nat) (x1 : Nat) (x2 : Wr) : Statement (.setVfVectors x0 x1 x2) := by
  intro h; simp_all [Instr.wf, Instr.fns, Instr.ctxs, fnOk]
theorem resetVf (x0 : Nat) (x1 : Nat) (x2 : Wr) : Statement (.resetVf x0 x1 x2) := by
  intro h; simp_all [Instr.wf, Instr.fns, Instr.ctxs, fnOk]
theorem attachNamespace (x0 : Nat) (x1 : Nat) (x2 : IdentifyAnswer) (x3 : Wr) : Statement (.attachNamespace x0 x1 x2 x3) := by
  intro h; simp_all [Instr.wf, Instr.fns, Instr.ctxs, fnOk]
theorem detachNamespace (x0 : Nat) (x1 : Nat) (x2 : Wr) : Statement (.detachNamespace x0 x1 x2) := by
  intro h; simp_all [Instr.wf, Instr.fns, Instr.ctxs, fnOk]
theorem detachNamespaceComplete (x0 : Nat) (x1 : Nat) (x2 : Wr) : Statement (.detachNamespaceComplete x0 x1 x2) := by
  intro h; simp_all [Instr.wf, Instr.fns, Instr.ctxs, fnOk]
theorem setNvmPolicy (x0 : Nat) (x1 : Nat) (x2 : Wr) : Statement (.setNvmPolicy x0 x1 x2) := by
  intro h; simp_all [Instr.wf, Instr.fns, Instr.ctxs, fnOk]
theorem setDomain (x0 : Nat) (x1 : Nat) (x2 : Wr) : Statement (.setDomain x0 x1 x2) := by
  intro h; simp_all [Instr.wf, Instr.fns, Instr.ctxs, fnOk]
theorem identify (x0 : Nat) (x1 : Nat) (x2 : AdminRead) (x3 : Wr) : Statement (.identify x0 x1 x2 x3) := by
  intro h; simp_all [Instr.wf, Instr.fns, Instr.ctxs, fnOk]
theorem getHealth (x0 : Nat) (x1 : Nat) (x2 : Wr) : Statement (.getHealth x0 x1 x2) := by
  intro h; simp_all [Instr.wf, Instr.fns, Instr.ctxs, fnOk]
theorem fwStage (x0 : Nat) (x1 : Nat) (x2 : AdminRead) (x3 : Wr) : Statement (.fwStage x0 x1 x2 x3) := by
  intro h; simp_all [Instr.wf, Instr.fns, Instr.ctxs, fnOk]
theorem fwCommit (x0 : Nat) (x1 : Nat) (x2 : Bool) (x3 : W32) (x4 : Wr) : Statement (.fwCommit x0 x1 x2 x3 x4) := by
  intro h; simp_all [Instr.wf, Instr.fns, Instr.ctxs, fnOk]
theorem aqCreate (x0 : Nat) (x1 : W32) : Statement (.aqCreate x0 x1) := by
  intro h; simp_all [Instr.wf, Instr.fns, Instr.ctxs, fnOk]
theorem srHeadWrite (x0 : Nat) (x1 : Nat) (x2 : W32) : Statement (.srHeadWrite x0 x1 x2) := by
  intro h; simp_all [Instr.wf, Instr.fns, Instr.ctxs, fnOk]
theorem registerWrite (x0 : RegAccess) : Statement (.registerWrite x0) := by
  exact fun _ => ⟨nofun, nofun⟩
theorem lmwAccess (x0 : Nat) (x1 : LmwOp) : Statement (.lmwAccess x0 x1) := by
  exact fun _ => ⟨nofun, nofun⟩
theorem lmwDeniedRead : Statement (.lmwDeniedRead) := by
  exact fun _ => ⟨nofun, nofun⟩
theorem barResize (x0 : Nat) : Statement (.barResize x0) := by
  exact fun _ => ⟨nofun, nofun⟩
theorem flr (x0 : Nat) : Statement (.flr x0) := by
  intro h; simp_all [Instr.wf, Instr.fns, Instr.ctxs, fnOk]
theorem vfEnableClear : Statement (.vfEnableClear) := by
  exact fun _ => ⟨nofun, nofun⟩
theorem vfEnableSet (x0 : Nat) : Statement (.vfEnableSet x0) := by
  exact fun _ => ⟨nofun, nofun⟩
theorem dStateChange (x0 : Nat) (x1 : PowerWrite) (x2 : Wr) : Statement (.dStateChange x0 x1 x2) := by
  intro h; simp_all [Instr.wf, Instr.fns, Instr.ctxs, fnOk]
theorem busMasterEnableChange (x0 : Nat) (x1 : Bool) (x2 : Wr) : Statement (.busMasterEnableChange x0 x1 x2) := by
  intro h; simp_all [Instr.wf, Instr.fns, Instr.ctxs, fnOk]
theorem msixMaskClear (x0 : Nat) (x1 : MaskClear) : Statement (.msixMaskClear x0 x1) := by
  intro h; simp_all [Instr.wf, Instr.fns, Instr.ctxs, fnOk]
theorem pmeStatusClear (x0 : Nat) : Statement (.pmeStatusClear x0) := by
  intro h; simp_all [Instr.wf, Instr.fns, Instr.ctxs, fnOk]
theorem pmeTimeout (x0 : Nat) : Statement (.pmeTimeout x0) := by
  intro h; simp_all [Instr.wf, Instr.fns, Instr.ctxs, fnOk]
theorem moderationHoldoffExpiry (x0 : Nat) (x1 : Nat) (x2 : Nat) : Statement (.moderationHoldoffExpiry x0 x1 x2) := by
  intro h; simp_all [Instr.wf, Instr.fns, Instr.ctxs, fnOk]
theorem hostCompletionTimeout (x0 : CtxTag) (x1 x2 : Nat) : Statement (.hostCompletionTimeout x0 x1 x2) := by
  intro h; simp_all [Instr.wf, Instr.fns, Instr.ctxs, ctxOk]
theorem hostCompletion (x0 : CtxTag) (x1 : Nat) (x2 : Answer) : Statement (.hostCompletion x0 x1 x2) := by
  intro h; simp_all [Instr.wf, Instr.fns, Instr.ctxs, ctxOk]
theorem atsInvalidate (x0 : Nat) : Statement (.atsInvalidate x0) := by
  intro h; simp_all [Instr.wf, Instr.fns, Instr.ctxs, fnOk]
theorem tdispLockInterface (x0 : Nat) : Statement (.tdispLockInterface x0) := by
  intro h; simp_all [Instr.wf, Instr.fns, Instr.ctxs, fnOk]
theorem tdispStopInterface (x0 : Nat) : Statement (.tdispStopInterface x0) := by
  intro h; simp_all [Instr.wf, Instr.fns, Instr.ctxs, fnOk]
theorem tdiError (x0 : Nat) : Statement (.tdiError x0) := by
  intro h; simp_all [Instr.wf, Instr.fns, Instr.ctxs, fnOk]
theorem getMeasurements (x0 : Nat) (x1 : Bool) : Statement (.getMeasurements x0 x1) := by
  exact fun _ => ⟨nofun, nofun⟩
theorem getCertificate (x0 : Nat) (x1 : Nat) : Statement (.getCertificate x0 x1) := by
  exact fun _ => ⟨nofun, nofun⟩
theorem challenge (x0 : Nat) (x1 : Nat) : Statement (.challenge x0 x1) := by
  exact fun _ => ⟨nofun, nofun⟩
theorem keyExchange (x0 : Nat) (x1 : Bool) : Statement (.keyExchange x0 x1) := by
  exact fun _ => ⟨nofun, nofun⟩
theorem descriptorNotice (x0 : Nat) (x1 : Nat) (x2 : Nat) (x3 : Nat) : Statement (.descriptorNotice x0 x1 x2 x3) := by
  exact fun _ => ⟨nofun, nofun⟩
theorem moverUnitStart (x0 : Nat) (x1 : Nat) : Statement (.moverUnitStart x0 x1) := by
  exact fun _ => ⟨nofun, nofun⟩
theorem copy (x0 : Nat) (x1 : Nat) (x2 : Nat) : Statement (.copy x0 x1 x2) := by
  exact fun _ => ⟨nofun, nofun⟩
theorem deal (x0 : Nat) (x1 : Nat) (x2 : Nat) : Statement (.deal x0 x1 x2) := by
  exact fun _ => ⟨nofun, nofun⟩
theorem merge (x0 : Nat) (x1 : Nat) (x2 : Nat) : Statement (.merge x0 x1 x2) := by
  exact fun _ => ⟨nofun, nofun⟩
theorem planes (x0 : Nat) (x1 : Nat) (x2 : Nat) : Statement (.planes x0 x1 x2) := by
  exact fun _ => ⟨nofun, nofun⟩
theorem unplanes (x0 : Nat) (x1 : Nat) (x2 : Nat) : Statement (.unplanes x0 x1 x2) := by
  exact fun _ => ⟨nofun, nofun⟩
theorem descFill (x0 : Nat) (x1 : Nat) (x2 : Nat) : Statement (.descFill x0 x1 x2) := by
  exact fun _ => ⟨nofun, nofun⟩
theorem descRead (x0 : Nat) (x1 : Nat) (x2 : Nat) : Statement (.descRead x0 x1 x2) := by
  exact fun _ => ⟨nofun, nofun⟩
theorem bindChan (x0 : Nat) (x1 : Nat) (x2 : Nat) : Statement (.bindChan x0 x1 x2) := by
  exact fun _ => ⟨nofun, nofun⟩
theorem stopChan (x0 : Nat) (x1 : Nat) (x2 : Nat) (x3 : Nat) : Statement (.stopChan x0 x1 x2 x3) := by
  exact fun _ => ⟨nofun, nofun⟩
theorem cutChan (x0 : Nat) (x1 : Nat) (x2 : Nat) (x3 : Nat) : Statement (.cutChan x0 x1 x2 x3) := by
  exact fun _ => ⟨nofun, nofun⟩
theorem abortChan (x0 : Nat) (x1 : Nat) (x2 : Nat) (x3 : Nat) : Statement (.abortChan x0 x1 x2 x3) := by
  exact fun _ => ⟨nofun, nofun⟩
theorem moverReadResponse (x0 : Requester) (x1 : Byte) (x2 : Nat) (x3 : Answer) : Statement (.moverReadResponse x0 x1 x2 x3) := by
  exact fun _ => ⟨nofun, nofun⟩
theorem readBackComplete (x0 : Requester) (x1 : Option AccFail) (x2 : Wr) : Statement (.readBackComplete x0 x1 x2) := by
  exact fun _ => ⟨nofun, nofun⟩
theorem rcStart (x0 : Nat) (x1 : Nat) (x2 : Nat) (x3 : W64) : Statement (.rcStart x0 x1 x2 x3) := by
  exact fun _ => ⟨nofun, nofun⟩
theorem rcStop (x0 : Nat) (x1 : Nat) (x2 : Nat) : Statement (.rcStop x0 x1 x2) := by
  exact fun _ => ⟨nofun, nofun⟩
theorem rcTransferEnd (x0 : Nat) (x1 : Nat) (x2 : Nat) (x3 : Option AccFail) : Statement (.rcTransferEnd x0 x1 x2 x3) := by
  exact fun _ => ⟨nofun, nofun⟩
theorem rchStatRead (x0 : Nat) (x1 : Nat) (x2 : Nat) : Statement (.rchStatRead x0 x1 x2) := by
  exact fun _ => ⟨nofun, nofun⟩
theorem fifoItemWrite (x0 : Nat) (x1 : Nat) (x2 : List Byte) (x3 : Bool) : Statement (.fifoItemWrite x0 x1 x2 x3) := by
  exact fun _ => ⟨nofun, nofun⟩
theorem fifoItemRead (x0 : Nat) (x1 : Nat) (x2 : Nat) : Statement (.fifoItemRead x0 x1 x2) := by
  exact fun _ => ⟨nofun, nofun⟩
theorem fifoPointerMismatch (x0 : Nat) (x1 : Nat) (x2 : Wr) : Statement (.fifoPointerMismatch x0 x1 x2) := by
  exact fun _ => ⟨nofun, nofun⟩
theorem fhStatRead (x0 : Nat) (x1 : Nat) : Statement (.fhStatRead x0 x1) := by
  exact fun _ => ⟨nofun, nofun⟩
theorem sieveInit (x0 : Nat) (x1 : Nat) (x2 : BitVec 16) : Statement (.sieveInit x0 x1 x2) := by
  exact fun _ => ⟨nofun, nofun⟩
theorem recordPresent (x0 : Nat) (x1 : Nat) (x2 : Nat) (x3 : List Byte) : Statement (.recordPresent x0 x1 x2 x3) := by
  exact fun _ => ⟨nofun, nofun⟩
theorem svBudgetTrap (x0 : Nat) : Statement (.svBudgetTrap x0) := by
  exact fun _ => ⟨nofun, nofun⟩
theorem imageLoadComplete (x0 : Nat) (x1 : Nat) : Statement (.imageLoadComplete x0 x1) := by
  exact fun _ => ⟨nofun, nofun⟩
theorem mapEntryReadComplete (x0 : Nat) : Statement (.mapEntryReadComplete x0) := by
  intro h; simp_all [Instr.wf, Instr.fns, Instr.ctxs, ctxOk]
theorem fttWalkComplete (x0 : Nat) (x1 : Nat) (x2 : Bool) (x3 : Nat) (x4 : RecordRead) : Statement (.fttWalkComplete x0 x1 x2 x3 x4) := by
  intro h; simp_all [Instr.wf, Instr.fns, Instr.ctxs, fnOk]
theorem loadBalanceSample (x0 : Nat) (x1 : Nat) : Statement (.loadBalanceSample x0 x1) := by
  exact fun _ => ⟨nofun, nofun⟩
theorem migrationPoint (x0 : Nat) (x1 : Nat) (x2 : Nat) (x3 : MigrateWhy) : Statement (.migrationPoint x0 x1 x2 x3) := by
  intro h; simp_all [Instr.wf, Instr.fns, Instr.ctxs, ctxOk]
theorem migrationArrival (x0 : Nat) (x1 : Wr) : Statement (.migrationArrival x0 x1) := by
  intro h; simp_all [Instr.wf, Instr.fns, Instr.ctxs, ctxOk]
theorem substitutionTimeout (x0 : Nat) (x1 : Nat) : Statement (.substitutionTimeout x0 x1) := by
  exact fun _ => ⟨nofun, nofun⟩
theorem substitutionEnd (x0 : Nat) : Statement (.substitutionEnd x0) := by
  exact fun _ => ⟨nofun, nofun⟩
theorem pcJump (x0 : Nat) (x1 : IWord) : Statement (.pcJump x0 x1) := by
  exact fun _ => ⟨nofun, nofun⟩
theorem pcCall (x0 : Nat) (x1 : IWord) : Statement (.pcCall x0 x1) := by
  exact fun _ => ⟨nofun, nofun⟩
theorem pcRet (x0 : Nat) (x1 : IWord) : Statement (.pcRet x0 x1) := by
  exact fun _ => ⟨nofun, nofun⟩
theorem pcRti (x0 : Nat) (x1 : IWord) : Statement (.pcRti x0 x1) := by
  exact fun _ => ⟨nofun, nofun⟩
theorem flgNzcv (x0 : Nat) (x1 : IWord) : Statement (.flgNzcv x0 x1) := by
  exact fun _ => ⟨nofun, nofun⟩
theorem flgTest (x0 : Nat) (x1 : IWord) : Statement (.flgTest x0 x1) := by
  exact fun _ => ⟨nofun, nofun⟩
theorem trapSoft (x0 : Nat) (x1 : IWord) : Statement (.trapSoft x0 x1) := by
  exact fun _ => ⟨nofun, nofun⟩
theorem ctlWait (x0 : Nat) (x1 : IWord) : Statement (.ctlWait x0 x1) := by
  exact fun _ => ⟨nofun, nofun⟩
theorem tagGet (x0 : Nat) (x1 : IWord) : Statement (.tagGet x0 x1) := by
  exact fun _ => ⟨nofun, nofun⟩
theorem tagSet (x0 : Nat) (x1 : IWord) : Statement (.tagSet x0 x1) := by
  exact fun _ => ⟨nofun, nofun⟩
theorem lsuLoad (x0 : Nat) (x1 : IWord) : Statement (.lsuLoad x0 x1) := by
  exact fun _ => ⟨nofun, nofun⟩
theorem lsuStore (x0 : Nat) (x1 : IWord) : Statement (.lsuStore x0 x1) := by
  exact fun _ => ⟨nofun, nofun⟩
theorem bndCheck (x0 : Nat) (x1 : IWord) : Statement (.bndCheck x0 x1) := by
  exact fun _ => ⟨nofun, nofun⟩
theorem dsPush (x0 : Nat) (x1 : IWord) : Statement (.dsPush x0 x1) := by
  exact fun _ => ⟨nofun, nofun⟩
theorem dsPop (x0 : Nat) (x1 : IWord) : Statement (.dsPop x0 x1) := by
  exact fun _ => ⟨nofun, nofun⟩
theorem retPush (x0 : Nat) (x1 : IWord) : Statement (.retPush x0 x1) := by
  exact fun _ => ⟨nofun, nofun⟩
theorem retPop (x0 : Nat) (x1 : IWord) : Statement (.retPop x0 x1) := by
  exact fun _ => ⟨nofun, nofun⟩
theorem retBottom (x0 : Nat) (x1 : IWord) : Statement (.retBottom x0 x1) := by
  exact fun _ => ⟨nofun, nofun⟩
theorem retTFill (x0 : Nat) (x1 : IWord) : Statement (.retTFill x0 x1) := by
  exact fun _ => ⟨nofun, nofun⟩
theorem winOpen (x0 : Nat) (x1 : IWord) : Statement (.winOpen x0 x1) := by
  exact fun _ => ⟨nofun, nofun⟩
theorem winClose (x0 : Nat) (x1 : IWord) : Statement (.winClose x0 x1) := by
  exact fun _ => ⟨nofun, nofun⟩
theorem aluAdd (x0 : Nat) (x1 : IWord) : Statement (.aluAdd x0 x1) := by
  exact fun _ => ⟨nofun, nofun⟩
theorem aluSub (x0 : Nat) (x1 : IWord) : Statement (.aluSub x0 x1) := by
  exact fun _ => ⟨nofun, nofun⟩
theorem aluCmp (x0 : Nat) (x1 : IWord) : Statement (.aluCmp x0 x1) := by
  exact fun _ => ⟨nofun, nofun⟩
theorem aluNeg (x0 : Nat) (x1 : IWord) : Statement (.aluNeg x0 x1) := by
  exact fun _ => ⟨nofun, nofun⟩
theorem aluAnd (x0 : Nat) (x1 : IWord) : Statement (.aluAnd x0 x1) := by
  exact fun _ => ⟨nofun, nofun⟩
theorem aluOr (x0 : Nat) (x1 : IWord) : Statement (.aluOr x0 x1) := by
  exact fun _ => ⟨nofun, nofun⟩
theorem aluXor (x0 : Nat) (x1 : IWord) : Statement (.aluXor x0 x1) := by
  exact fun _ => ⟨nofun, nofun⟩
theorem aluNot (x0 : Nat) (x1 : IWord) : Statement (.aluNot x0 x1) := by
  exact fun _ => ⟨nofun, nofun⟩
theorem aluShl (x0 : Nat) (x1 : IWord) : Statement (.aluShl x0 x1) := by
  exact fun _ => ⟨nofun, nofun⟩
theorem aluShr (x0 : Nat) (x1 : IWord) : Statement (.aluShr x0 x1) := by
  exact fun _ => ⟨nofun, nofun⟩
theorem aluSar (x0 : Nat) (x1 : IWord) : Statement (.aluSar x0 x1) := by
  exact fun _ => ⟨nofun, nofun⟩
theorem aluRol (x0 : Nat) (x1 : IWord) : Statement (.aluRol x0 x1) := by
  exact fun _ => ⟨nofun, nofun⟩
theorem aluRor (x0 : Nat) (x1 : IWord) : Statement (.aluRor x0 x1) := by
  exact fun _ => ⟨nofun, nofun⟩
theorem aluMulu (x0 : Nat) (x1 : IWord) : Statement (.aluMulu x0 x1) := by
  exact fun _ => ⟨nofun, nofun⟩
theorem aluMuls (x0 : Nat) (x1 : IWord) : Statement (.aluMuls x0 x1) := by
  exact fun _ => ⟨nofun, nofun⟩
theorem aluDivu (x0 : Nat) (x1 : IWord) : Statement (.aluDivu x0 x1) := by
  exact fun _ => ⟨nofun, nofun⟩
theorem aluDivs (x0 : Nat) (x1 : IWord) : Statement (.aluDivs x0 x1) := by
  exact fun _ => ⟨nofun, nofun⟩
theorem aluSeq (x0 : Nat) (x1 : IWord) : Statement (.aluSeq x0 x1) := by
  exact fun _ => ⟨nofun, nofun⟩
theorem aluSltu (x0 : Nat) (x1 : IWord) : Statement (.aluSltu x0 x1) := by
  exact fun _ => ⟨nofun, nofun⟩
theorem aluSlts (x0 : Nat) (x1 : IWord) : Statement (.aluSlts x0 x1) := by
  exact fun _ => ⟨nofun, nofun⟩
theorem yqPortWrite (x0 : Nat) (x1 : IWord) : Statement (.yqPortWrite x0 x1) := by
  exact fun _ => ⟨nofun, nofun⟩
theorem resultLand (x0 : Nat) : Statement (.resultLand x0) := by
  exact fun _ => ⟨nofun, nofun⟩
theorem interruptEntry (x0 : Nat) (x1 : Option Nat) : Statement (.interruptEntry x0 x1) := by
  exact fun _ => ⟨nofun, nofun⟩
theorem sleepDeadline (x0 : Nat) (x1 : Nat) : Statement (.sleepDeadline x0 x1) := by
  exact fun _ => ⟨nofun, nofun⟩
theorem coreWake (x0 : Nat) : Statement (.coreWake x0) := by
  exact fun _ => ⟨nofun, nofun⟩
theorem cellBootGo (x0 : RegAccess) : Statement (.cellBootGo x0) := by
  exact fun _ => ⟨nofun, nofun⟩
theorem ctxRead (x0 : Nat) (x1 : IWord) : Statement (.ctxRead x0 x1) := by
  exact fun _ => ⟨nofun, nofun⟩
theorem ctxWrite (x0 : Nat) (x1 : IWord) : Statement (.ctxWrite x0 x1) := by
  exact fun _ => ⟨nofun, nofun⟩
theorem cmdDecode (x0 : Nat) (x1 : IWord) : Statement (.cmdDecode x0 x1) := by
  exact fun _ => ⟨nofun, nofun⟩
theorem fchFetch (x0 : Nat) (x1 : IWord) : Statement (.fchFetch x0 x1) := by
  exact fun _ => ⟨nofun, nofun⟩
theorem dscPost (x0 : Nat) (x1 : IWord) : Statement (.dscPost x0 x1) := by
  exact fun _ => ⟨nofun, nofun⟩
theorem evqPop (x0 : Nat) (x1 : IWord) : Statement (.evqPop x0 x1) := by
  exact fun _ => ⟨nofun, nofun⟩
theorem bevFire (x0 : Nat) (x1 : IWord) : Statement (.bevFire x0 x1) := by
  exact fun _ => ⟨nofun, nofun⟩
theorem evrSubscribe (x0 : Nat) (x1 : IWord) : Statement (.evrSubscribe x0 x1) := by
  exact fun _ => ⟨nofun, nofun⟩
theorem evrClear (x0 : Nat) (x1 : IWord) : Statement (.evrClear x0 x1) := by
  exact fun _ => ⟨nofun, nofun⟩
theorem evrFire (x0 : Nat) (x1 : IWord) : Statement (.evrFire x0 x1) := by
  exact fun _ => ⟨nofun, nofun⟩
theorem tmrArm (x0 : Nat) (x1 : IWord) : Statement (.tmrArm x0 x1) := by
  exact fun _ => ⟨nofun, nofun⟩
theorem tmrCancel (x0 : Nat) (x1 : IWord) : Statement (.tmrCancel x0 x1) := by
  exact fun _ => ⟨nofun, nofun⟩
theorem fhFlush (x0 : Nat) (x1 : IWord) : Statement (.fhFlush x0 x1) := by
  exact fun _ => ⟨nofun, nofun⟩
theorem irqClaimPort (x0 : Nat) (x1 : IWord) : Statement (.irqClaimPort x0 x1) := by
  exact fun _ => ⟨nofun, nofun⟩
theorem irqDonePort (x0 : Nat) (x1 : IWord) : Statement (.irqDonePort x0 x1) := by
  exact fun _ => ⟨nofun, nofun⟩
theorem mbxSend (x0 : Nat) (x1 : IWord) : Statement (.mbxSend x0 x1) := by
  exact fun _ => ⟨nofun, nofun⟩
theorem mbxPop (x0 : Nat) (x1 : IWord) : Statement (.mbxPop x0 x1) := by
  exact fun _ => ⟨nofun, nofun⟩
theorem lockAcquire (x0 : Nat) (x1 : IWord) : Statement (.lockAcquire x0 x1) := by
  exact fun _ => ⟨nofun, nofun⟩
theorem lockRelease (x0 : Nat) (x1 : IWord) : Statement (.lockRelease x0 x1) := by
  exact fun _ => ⟨nofun, nofun⟩
theorem recWord (x0 : Nat) (x1 : IWord) : Statement (.recWord x0 x1) := by
  exact fun _ => ⟨nofun, nofun⟩
theorem wcmpEq (x0 : Nat) (x1 : IWord) : Statement (.wcmpEq x0 x1) := by
  exact fun _ => ⟨nofun, nofun⟩
theorem rngU (x0 : Nat) (x1 : IWord) : Statement (.rngU x0 x1) := by
  exact fun _ => ⟨nofun, nofun⟩
theorem rngS (x0 : Nat) (x1 : IWord) : Statement (.rngS x0 x1) := by
  exact fun _ => ⟨nofun, nofun⟩
theorem hshMix (x0 : Nat) (x1 : IWord) : Statement (.hshMix x0 x1) := by
  exact fun _ => ⟨nofun, nofun⟩
theorem hshFin (x0 : Nat) (x1 : IWord) : Statement (.hshFin x0 x1) := by
  exact fun _ => ⟨nofun, nofun⟩
theorem emtPut (x0 : Nat) (x1 : IWord) : Statement (.emtPut x0 x1) := by
  exact fun _ => ⟨nofun, nofun⟩
theorem emtCopy (x0 : Nat) (x1 : IWord) : Statement (.emtCopy x0 x1) := by
  exact fun _ => ⟨nofun, nofun⟩
theorem vrdVerdict (x0 : Nat) (x1 : IWord) : Statement (.vrdVerdict x0 x1) := by
  exact fun _ => ⟨nofun, nofun⟩
theorem vrdReady (x0 : Nat) (x1 : IWord) : Statement (.vrdReady x0 x1) := by
  exact fun _ => ⟨nofun, nofun⟩
theorem a7Fetch (x0 : Nat) (x1 : IWord) : Statement (.a7Fetch x0 x1) := by
  exact fun _ => ⟨nofun, nofun⟩
theorem a7Keep (x0 : Nat) (x1 : IWord) : Statement (.a7Keep x0 x1) := by
  exact fun _ => ⟨nofun, nofun⟩
theorem a7Drop (x0 : Nat) (x1 : IWord) : Statement (.a7Drop x0 x1) := by
  exact fun _ => ⟨nofun, nofun⟩
theorem a7Crc (x0 : Nat) (x1 : IWord) : Statement (.a7Crc x0 x1) := by
  exact fun _ => ⟨nofun, nofun⟩
theorem eventFiringArrival (x0 : Nat) (x1 : Nat) (x2 : Wr) : Statement (.eventFiringArrival x0 x1 x2) := by
  exact fun _ => ⟨nofun, nofun⟩
theorem vectorFiringArrival (x0 : Nat) (x1 : Nat) (x2 : Nat) : Statement (.vectorFiringArrival x0 x1 x2) := by
  intro h; simp_all [Instr.wf, Instr.fns, Instr.ctxs, fnOk]
theorem consumerDelivery (x0 : Nat) (x1 : Consumer) : Statement (.consumerDelivery x0 x1) := by
  exact fun _ => ⟨nofun, nofun⟩
theorem blkEvtFire (x0 : Nat) (x1 : W32) : Statement (.blkEvtFire x0 x1) := by
  exact fun _ => ⟨nofun, nofun⟩
theorem gtTimerExpiry (x0 : Nat) (x1 : Nat) (x2 : Nat) : Statement (.gtTimerExpiry x0 x1 x2) := by
  exact fun _ => ⟨nofun, nofun⟩
theorem flagClear (x0 : Nat) : Statement (.flagClear x0) := by
  exact fun _ => ⟨nofun, nofun⟩
theorem evtBindWrite (x0 : Nat) (x1 : Nat) (x2 : W64) : Statement (.evtBindWrite x0 x1 x2) := by
  exact fun _ => ⟨nofun, nofun⟩
theorem evtChRead (x0 : Nat) : Statement (.evtChRead x0) := by
  exact fun _ => ⟨nofun, nofun⟩
theorem evtCtlRead : Statement (.evtCtlRead) := by
  exact fun _ => ⟨nofun, nofun⟩
theorem sourceEdge (x0 : Nat) (x1 : Nat) (x2 : Bool) (x3 : Nat) (x4 : Nat) : Statement (.sourceEdge x0 x1 x2 x3 x4) := by
  exact fun _ => ⟨nofun, nofun⟩
theorem groupHoldoffExpiry (x0 : Nat) (x1 : Nat) (x2 : Nat) : Statement (.groupHoldoffExpiry x0 x1 x2) := by
  exact fun _ => ⟨nofun, nofun⟩
theorem stuckSource (x0 : Nat) (x1 : Nat) (x2 : Nat) : Statement (.stuckSource x0 x1 x2) := by
  exact fun _ => ⟨nofun, nofun⟩
theorem claimRead (x0 : Nat) (x1 : Nat) : Statement (.claimRead x0 x1) := by
  exact fun _ => ⟨nofun, nofun⟩
theorem doneWrite (x0 : Nat) (x1 : Nat) (x2 : W32) : Statement (.doneWrite x0 x1 x2) := by
  exact fun _ => ⟨nofun, nofun⟩
theorem pendSet (x0 : Nat) (x1 : Nat) (x2 : W32) : Statement (.pendSet x0 x1 x2) := by
  exact fun _ => ⟨nofun, nofun⟩
theorem pendClr (x0 : Nat) (x1 : Nat) (x2 : W32) : Statement (.pendClr x0 x1 x2) := by
  exact fun _ => ⟨nofun, nofun⟩
theorem enableSet (x0 : Nat) (x1 : Nat) (x2 : W32) : Statement (.enableSet x0 x1 x2) := by
  exact fun _ => ⟨nofun, nofun⟩
theorem enableClr (x0 : Nat) (x1 : Nat) (x2 : W32) : Statement (.enableClr x0 x1 x2) := by
  exact fun _ => ⟨nofun, nofun⟩
theorem stackFaultClear (x0 : Nat) (x1 : Nat) : Statement (.stackFaultClear x0 x1) := by
  exact fun _ => ⟨nofun, nofun⟩
theorem srcCfgRead (x0 : Nat) (x1 : Nat) : Statement (.srcCfgRead x0 x1) := by
  exact fun _ => ⟨nofun, nofun⟩
theorem linkUp (x0 : Nat) (x1 : Training) : Statement (.linkUp x0 x1) := by
  exact fun _ => ⟨nofun, nofun⟩
theorem linkDown (x0 : Nat) : Statement (.linkDown x0) := by
  exact fun _ => ⟨nofun, nofun⟩
theorem linkRetrainTimer (x0 : Nat) (x1 : Nat) : Statement (.linkRetrainTimer x0 x1) := by
  exact fun _ => ⟨nofun, nofun⟩
theorem presenceChange (x0 : Nat) (x1 : Bool) : Statement (.presenceChange x0 x1) := by
  exact fun _ => ⟨nofun, nofun⟩
theorem flStatRead (x0 : Nat) : Statement (.flStatRead x0) := by
  exact fun _ => ⟨nofun, nofun⟩
theorem flLaneRead (x0 : Nat) (x1 : Nat) : Statement (.flLaneRead x0 x1) := by
  exact fun _ => ⟨nofun, nofun⟩
theorem fabricError (x0 : Nat) (x1 : AerKind) : Statement (.fabricError x0 x1) := by
  exact fun _ => ⟨nofun, nofun⟩
theorem farResponse (x0 : CtxTag) (x1 : Nat) (x2 : Answer) : Statement (.farResponse x0 x1 x2) := by
  intro h; simp_all [Instr.wf, Instr.fns, Instr.ctxs, ctxOk]
theorem cxlEventLog (x0 : Nat) (x1 : BitVec 16) (x2 : Nat) (x3 : W32) (x4 : W64) (x5 : Wr) : Statement (.cxlEventLog x0 x1 x2 x3 x4 x5) := by
  exact fun _ => ⟨nofun, nofun⟩
theorem dcAdd (x0 : Nat) (x1 : BitVec 16) (x2 : Nat) (x3 : Nat) (x4 : Wr) : Statement (.dcAdd x0 x1 x2 x3 x4) := by
  exact fun _ => ⟨nofun, nofun⟩
theorem dcReleaseRequest (x0 : Nat) (x1 : BitVec 16) (x2 : Nat) (x3 : Nat) (x4 : Wr) : Statement (.dcReleaseRequest x0 x1 x2 x3 x4) := by
  exact fun _ => ⟨nofun, nofun⟩
theorem dcForcedRelease (x0 : Nat) (x1 : BitVec 16) (x2 : Nat) (x3 : Nat) (x4 : Wr) : Statement (.dcForcedRelease x0 x1 x2 x3 x4) := by
  exact fun _ => ⟨nofun, nofun⟩
theorem nvmeAsyncEvent (x0 : Nat) (x1 : W32) (x2 : Wr) : Statement (.nvmeAsyncEvent x0 x1 x2) := by
  exact fun _ => ⟨nofun, nofun⟩
theorem nvmeCompletion (x0 : Nat) (x1 : Nat) (x2 : NvmeStatus) (x3 : List Byte) (x4 : Wr) : Statement (.nvmeCompletion x0 x1 x2 x3 x4) := by
  exact fun _ => ⟨nofun, nofun⟩
theorem nvmeControllerFail (x0 : Nat) (x1 : CtrlFail) (x2 : Wr) : Statement (.nvmeControllerFail x0 x1 x2) := by
  exact fun _ => ⟨nofun, nofun⟩
theorem downstreamTimeout (x0 : Downstream) (x1 : Nat) (x2 : Wr) : Statement (.downstreamTimeout x0 x1 x2) := by
  exact fun _ => ⟨nofun, nofun⟩
theorem lateResponse (x0 : Nat) : Statement (.lateResponse x0) := by
  exact fun _ => ⟨nofun, nofun⟩
theorem helloTimer (x0 : Nat) : Statement (.helloTimer x0) := by
  exact fun _ => ⟨nofun, nofun⟩
theorem hello (x0 : DomMsg) : Statement (.hello x0) := by
  exact fun _ => ⟨nofun, nofun⟩
theorem ask (x0 : DomMsg) : Statement (.ask x0) := by
  exact fun _ => ⟨nofun, nofun⟩
theorem askReplySend (x0 : Nat) (x1 : Nat) : Statement (.askReplySend x0 x1) := by
  exact fun _ => ⟨nofun, nofun⟩
theorem reply (x0 : DomMsg) : Statement (.reply x0) := by
  exact fun _ => ⟨nofun, nofun⟩
theorem leave (x0 : DomMsg) : Statement (.leave x0) := by
  exact fun _ => ⟨nofun, nofun⟩
theorem domainTimeout (x0 : Nat) (x1 : Nat) : Statement (.domainTimeout x0 x1) := by
  exact fun _ => ⟨nofun, nofun⟩
theorem domCntRead : Statement (.domCntRead) := by
  exact fun _ => ⟨nofun, nofun⟩
theorem errorArrival (x0 : CapId) (x1 : List ErrIn) : Statement (.errorArrival x0 x1) := by
  exact fun _ => ⟨nofun, nofun⟩
theorem errAck (x0 : CapId) : Statement (.errAck x0) := by
  exact fun _ => ⟨nofun, nofun⟩
theorem errCntRead (x0 : CapId) : Statement (.errCntRead x0) := by
  exact fun _ => ⟨nofun, nofun⟩
theorem rowRepair (x0 : Nat) (x1 : Nat) (x2 : Bool) : Statement (.rowRepair x0 x1 x2) := by
  exact fun _ => ⟨nofun, nofun⟩
theorem pchRetirement (x0 : Nat) : Statement (.pchRetirement x0) := by
  exact fun _ => ⟨nofun, nofun⟩
theorem pchStatRead (x0 : Nat) : Statement (.pchStatRead x0) := by
  exact fun _ => ⟨nofun, nofun⟩
theorem regStaleRead (x0 : Nat) : Statement (.regStaleRead x0) := by
  exact fun _ => ⟨nofun, nofun⟩
theorem patrolScrub (x0 : List Nat) (x1 : List Nat) : Statement (.patrolScrub x0 x1) := by
  exact fun _ => ⟨nofun, nofun⟩
theorem lodgeScrub (x0 : Nat) : Statement (.lodgeScrub x0) := by
  exact fun _ => ⟨nofun, nofun⟩
theorem agingMeasurement (x0 : List (Nat × Nat)) (x1 : List W32) (x2 : Nat) (x3 : Nat) (x4 : Wr) : Statement (.agingMeasurement x0 x1 x2 x3 x4) := by
  exact fun _ => ⟨nofun, nofun⟩
theorem ledgerRetry (x0 : Nat) : Statement (.ledgerRetry x0) := by
  exact fun _ => ⟨nofun, nofun⟩
theorem storeComplete : Statement (.storeComplete) := by
  exact fun _ => ⟨nofun, nofun⟩
theorem storeRetry (x0 : Nat) : Statement (.storeRetry x0) := by
  exact fun _ => ⟨nofun, nofun⟩
theorem getState (x0 : Carrier) : Statement (.getState x0) := by
  exact fun _ => ⟨nofun, nofun⟩
theorem setDebug (x0 : Carrier) (x1 : Nat) : Statement (.setDebug x0 x1) := by
  exact fun _ => ⟨nofun, nofun⟩
theorem provision (x0 : Carrier) (x1 : Nat) (x2 : Nat) : Statement (.provision x0 x1 x2) := by
  exact fun _ => ⟨nofun, nofun⟩
theorem installCert (x0 : Carrier) (x1 : List Byte) : Statement (.installCert x0 x1) := by
  exact fun _ => ⟨nofun, nofun⟩
theorem lockDevice (x0 : Carrier) : Statement (.lockDevice x0) := by
  exact fun _ => ⟨nofun, nofun⟩
theorem readLedger (x0 : Carrier) (x1 : Nat) (x2 : Nat) : Statement (.readLedger x0 x1 x2) := by
  exact fun _ => ⟨nofun, nofun⟩
theorem unlockChallenge (x0 : Carrier) (x1 : Nat) (x2 : Nat) (x3 : Nat) : Statement (.unlockChallenge x0 x1 x2 x3) := by
  exact fun _ => ⟨nofun, nofun⟩
theorem unlockResponse (x0 : Carrier) (x1 : Nat) (x2 : Bool) (x3 : Nat) : Statement (.unlockResponse x0 x1 x2 x3) := by
  exact fun _ => ⟨nofun, nofun⟩
theorem retire (x0 : Carrier) (x1 : Nat) (x2 : Bool) (x3 : Nat) : Statement (.retire x0 x1 x2 x3) := by
  exact fun _ => ⟨nofun, nofun⟩
theorem zeroisation : Statement (.zeroisation) := by
  exact fun _ => ⟨nofun, nofun⟩
theorem nonceExpiry (x0 : Nat) (x1 : Nat) : Statement (.nonceExpiry x0 x1) := by
  exact fun _ => ⟨nofun, nofun⟩
theorem pldmFirmwareUpdate (x0 : PldmFw) : Statement (.pldmFirmwareUpdate x0) := by
  exact fun _ => ⟨nofun, nofun⟩
theorem pldmSensorRead (x0 : SensorId) : Statement (.pldmSensorRead x0) := by
  exact fun _ => ⟨nofun, nofun⟩
theorem mctpReassemblyTimeout (x0 : Nat) : Statement (.mctpReassemblyTimeout x0) := by
  exact fun _ => ⟨nofun, nofun⟩
theorem smbusClockTimeout (x0 : Nat) : Statement (.smbusClockTimeout x0) := by
  exact fun _ => ⟨nofun, nofun⟩
theorem dapRead (x0 : DapFrame) : Statement (.dapRead x0) := by
  exact fun _ => ⟨nofun, nofun⟩
theorem dapWrite (x0 : DapFrame) : Statement (.dapWrite x0) := by
  exact fun _ => ⟨nofun, nofun⟩
theorem dapStatus (x0 : DapFrame) : Statement (.dapStatus x0) := by
  exact fun _ => ⟨nofun, nofun⟩
theorem dapFrameTimeout (x0 : Nat) : Statement (.dapFrameTimeout x0) := by
  exact fun _ => ⟨nofun, nofun⟩
theorem idcode : Statement (.idcode) := by
  exact fun _ => ⟨nofun, nofun⟩
theorem bypass (x0 : W32) : Statement (.bypass x0) := by
  exact fun _ => ⟨nofun, nofun⟩
theorem samplePreload (x0 : Nat) : Statement (.samplePreload x0) := by
  exact fun _ => ⟨nofun, nofun⟩
theorem extest : Statement (.extest) := by
  exact fun _ => ⟨nofun, nofun⟩
theorem clamp : Statement (.clamp) := by
  exact fun _ => ⟨nofun, nofun⟩
theorem highz : Statement (.highz) := by
  exact fun _ => ⟨nofun, nofun⟩
theorem internalScan : Statement (.internalScan) := by
  exact fun _ => ⟨nofun, nofun⟩
theorem memoryBist : Statement (.memoryBist) := by
  exact fun _ => ⟨nofun, nofun⟩
theorem glideEntry (x0 : Nat) (x1 : Nat) : Statement (.glideEntry x0 x1) := by
  exact fun _ => ⟨nofun, nofun⟩
theorem glideExit (x0 : Nat) : Statement (.glideExit x0) := by
  exact fun _ => ⟨nofun, nofun⟩
theorem coastEntry (x0 : Nat) : Statement (.coastEntry x0) := by
  exact fun _ => ⟨nofun, nofun⟩
theorem parkEntry (x0 : Nat) : Statement (.parkEntry x0) := by
  exact fun _ => ⟨nofun, nofun⟩
theorem coastParkExit (x0 : WakeTrigger) : Statement (.coastParkExit x0) := by
  exact fun _ => ⟨nofun, nofun⟩
theorem pwrStatRead : Statement (.pwrStatRead) := by
  exact fun _ => ⟨nofun, nofun⟩
theorem coldReset (x0 : ColdWhy) : Statement (.coldReset x0) := by
  exact fun _ => ⟨nofun, nofun⟩
theorem coldResetRelease (x0 : StartUp) : Statement (.coldResetRelease x0) := by
  exact fun _ => ⟨nofun, nofun⟩
theorem warmReset : Statement (.warmReset) := by
  exact fun _ => ⟨nofun, nofun⟩
theorem warmResetRelease (x0 : StartUp) : Statement (.warmResetRelease x0) := by
  exact fun _ => ⟨nofun, nofun⟩
theorem powerOrderBreach (x0 : Nat) : Statement (.powerOrderBreach x0) := by
  exact fun _ => ⟨nofun, nofun⟩
theorem railSample (x0 : Nat) (x1 : Nat) : Statement (.railSample x0 x1) := by
  exact fun _ => ⟨nofun, nofun⟩
theorem railUndervoltage (x0 : Nat) : Statement (.railUndervoltage x0) := by
  exact fun _ => ⟨nofun, nofun⟩
theorem railMonRead (x0 : Nat) : Statement (.railMonRead x0) := by
  exact fun _ => ⟨nofun, nofun⟩
theorem avsReadback (x0 : AvsAnswer) (x1 : Nat) : Statement (.avsReadback x0 x1) := by
  exact fun _ => ⟨nofun, nofun⟩
theorem avsRetry (x0 : Nat) : Statement (.avsRetry x0) := by
  exact fun _ => ⟨nofun, nofun⟩
theorem refclkLoss : Statement (.refclkLoss) := by
  exact fun _ => ⟨nofun, nofun⟩
theorem mclkLoss : Statement (.mclkLoss) := by
  exact fun _ => ⟨nofun, nofun⟩
theorem mclkRestore : Statement (.mclkRestore) := by
  exact fun _ => ⟨nofun, nofun⟩
theorem tempWarning (x0 : Nat) (x1 : Int) : Statement (.tempWarning x0 x1) := by
  exact fun _ => ⟨nofun, nofun⟩
theorem tempHard (x0 : Nat) (x1 : Int) : Statement (.tempHard x0 x1) := by
  exact fun _ => ⟨nofun, nofun⟩
theorem thermtrip (x0 : Nat) (x1 : Int) : Statement (.thermtrip x0 x1) := by
  exact fun _ => ⟨nofun, nofun⟩
theorem tempRead (x0 : Nat) : Statement (.tempRead x0) := by
  exact fun _ => ⟨nofun, nofun⟩
theorem tempThresholdClear (x0 : Nat) (x1 : Bool) (x2 : Int) : Statement (.tempThresholdClear x0 x1 x2) := by
  exact fun _ => ⟨nofun, nofun⟩
theorem tdispStartInterface (x0 : Nat) : Statement (.tdispStartInterface x0) := by
  intro h; simp_all [Instr.wf, Instr.fns, Instr.ctxs, fnOk]
theorem spdmSessionEnd (x0 : Nat) : Statement (.spdmSessionEnd x0) := by
  exact fun _ => ⟨nofun, nofun⟩
theorem nvmeControllerReady (x0 : Nat) : Statement (.nvmeControllerReady x0) := by
  exact fun _ => ⟨nofun, nofun⟩
theorem localWriteAcknowledged (x0 : Requester) : Statement (.localWriteAcknowledged x0) := by
  exact fun _ => ⟨nofun, nofun⟩
theorem testLogicReset : Statement (.testLogicReset) := by
  exact fun _ => ⟨nofun, nofun⟩

end Sys2Proof.Laws.Named
end

