-- ==== Sys2Proof/Laws/State.lean ====
section
/-! SUPPORT. What reading a field gives after each update of the state: one lemma for each field and update, and the entry that an update
set. -/

namespace Sys2Proof.Machine

@[simp] theorem State.setFn_pending (s : State) (n : Nat) (x : Fn) : (s.setFn n x).pending = s.pending := rfl
@[simp] theorem State.setFn_out (s : State) (n : Nat) (x : Fn) : (s.setFn n x).out = s.out := rfl
@[simp] theorem State.setFn_free (s : State) (n : Nat) (x : Fn) : (s.setFn n x).free = s.free := rfl
@[simp] theorem State.setFn_time (s : State) (n : Nat) (x : Fn) : (s.setFn n x).time = s.time := rfl
@[simp] theorem State.setFn_hbm (s : State) (n : Nat) (x : Fn) : (s.setFn n x).hbm = s.hbm := rfl
@[simp] theorem State.setFn_poison (s : State) (n : Nat) (x : Fn) : (s.setFn n x).poison = s.poison := rfl
@[simp] theorem State.setFn_hostMem (s : State) (n : Nat) (x : Fn) : (s.setFn n x).hostMem = s.hostMem := rfl
@[simp] theorem State.setFn_farMem (s : State) (n : Nat) (x : Fn) : (s.setFn n x).farMem = s.farMem := rfl
@[simp] theorem State.setFn_farPoison (s : State) (n : Nat) (x : Fn) : (s.setFn n x).farPoison = s.farPoison := rfl
@[simp] theorem State.setFn_store (s : State) (n : Nat) (x : Fn) : (s.setFn n x).store = s.store := rfl
@[simp] theorem State.setFn_vfEnable (s : State) (n : Nat) (x : Fn) : (s.setFn n x).vfEnable = s.vfEnable := rfl
@[simp] theorem State.setFn_numVfs (s : State) (n : Nat) (x : Fn) : (s.setFn n x).numVfs = s.numVfs := rfl
@[simp] theorem State.setFn_ctxs (s : State) (n : Nat) (x : Fn) : (s.setFn n x).ctxs = s.ctxs := rfl
@[simp] theorem State.setFn_turns (s : State) (n : Nat) (x : Fn) : (s.setFn n x).turns = s.turns := rfl
@[simp] theorem State.setFn_sieves (s : State) (n : Nat) (x : Fn) : (s.setFn n x).sieves = s.sieves := rfl
@[simp] theorem State.setFn_nvms (s : State) (n : Nat) (x : Fn) : (s.setFn n x).nvms = s.nvms := rfl
@[simp] theorem State.setFn_ctrls (s : State) (n : Nat) (x : Fn) : (s.setFn n x).ctrls = s.ctrls := rfl
@[simp] theorem State.setFn_isets (s : State) (n : Nat) (x : Fn) : (s.setFn n x).isets = s.isets := rfl
@[simp] theorem State.setFn_farTimeout (s : State) (n : Nat) (x : Fn) : (s.setFn n x).farTimeout = s.farTimeout := rfl
@[simp] theorem State.setFn_links (s : State) (n : Nat) (x : Fn) : (s.setFn n x).links = s.links := rfl
@[simp] theorem State.setFn_extents (s : State) (n : Nat) (x : Fn) : (s.setFn n x).extents = s.extents := rfl
@[simp] theorem State.setFn_domain (s : State) (n : Nat) (x : Fn) : (s.setFn n x).domain = s.domain := rfl
@[simp] theorem State.setFn_echs (s : State) (n : Nat) (x : Fn) : (s.setFn n x).echs = s.echs := rfl
@[simp] theorem State.setFn_binds (s : State) (n : Nat) (x : Fn) : (s.setFn n x).binds = s.binds := rfl
@[simp] theorem State.setFn_evtLoop (s : State) (n : Nat) (x : Fn) : (s.setFn n x).evtLoop = s.evtLoop := rfl
@[simp] theorem State.setFn_evtCoal (s : State) (n : Nat) (x : Fn) : (s.setFn n x).evtCoal = s.evtCoal := rfl
@[simp] theorem State.setFn_hopLimit (s : State) (n : Nat) (x : Fn) : (s.setFn n x).hopLimit = s.hopLimit := rfl
@[simp] theorem State.setFn_firings (s : State) (n : Nat) (x : Fn) : (s.setFn n x).firings = s.firings := rfl
@[simp] theorem State.setFn_deliveries (s : State) (n : Nat) (x : Fn) : (s.setFn n x).deliveries = s.deliveries := rfl
@[simp] theorem State.setFn_waitOrder (s : State) (n : Nat) (x : Fn) : (s.setFn n x).waitOrder = s.waitOrder := rfl
@[simp] theorem State.setFn_ctls (s : State) (n : Nat) (x : Fn) : (s.setFn n x).ctls = s.ctls := rfl
@[simp] theorem State.setFn_blocks (s : State) (n : Nat) (x : Fn) : (s.setFn n x).blocks = s.blocks := rfl
@[simp] theorem State.setFn_regions (s : State) (n : Nat) (x : Fn) : (s.setFn n x).regions = s.regions := rfl
@[simp] theorem State.setFn_chip (s : State) (n : Nat) (x : Fn) : (s.setFn n x).chip = s.chip := rfl
@[simp] theorem State.setFn_cores (s : State) (n : Nat) (x : Fn) : (s.setFn n x).cores = s.cores := rfl
@[simp] theorem State.setFn_locks (s : State) (n : Nat) (x : Fn) : (s.setFn n x).locks = s.locks := rfl
@[simp] theorem State.setFn_sec (s : State) (n : Nat) (x : Fn) : (s.setFn n x).sec = s.sec := rfl
@[simp] theorem State.setFn_power (s : State) (n : Nat) (x : Fn) : (s.setFn n x).power = s.power := rfl
@[simp] theorem State.setFn_board (s : State) (n : Nat) (x : Fn) : (s.setFn n x).board = s.board := rfl
@[simp] theorem State.setFn_wraps (s : State) (n : Nat) (x : Fn) : (s.setFn n x).wraps = s.wraps := rfl
@[simp] theorem State.setFn_takes (s : State) (n : Nat) (x : Fn) : (s.setFn n x).takes = s.takes := rfl
@[simp] theorem State.setFn_ringOrder (s : State) (n : Nat) (x : Fn) : (s.setFn n x).ringOrder = s.ringOrder := rfl
@[simp] theorem State.setFn_rehomed (s : State) (n : Nat) (x : Fn) : (s.setFn n x).rehomed = s.rehomed := rfl

@[simp] theorem State.setCtx_pending (s : State) (n : Nat) (x : Ctx) : (s.setCtx n x).pending = s.pending := rfl
@[simp] theorem State.setCtx_out (s : State) (n : Nat) (x : Ctx) : (s.setCtx n x).out = s.out := rfl
@[simp] theorem State.setCtx_free (s : State) (n : Nat) (x : Ctx) : (s.setCtx n x).free = s.free := rfl
@[simp] theorem State.setCtx_time (s : State) (n : Nat) (x : Ctx) : (s.setCtx n x).time = s.time := rfl
@[simp] theorem State.setCtx_hbm (s : State) (n : Nat) (x : Ctx) : (s.setCtx n x).hbm = s.hbm := rfl
@[simp] theorem State.setCtx_poison (s : State) (n : Nat) (x : Ctx) : (s.setCtx n x).poison = s.poison := rfl
@[simp] theorem State.setCtx_hostMem (s : State) (n : Nat) (x : Ctx) : (s.setCtx n x).hostMem = s.hostMem := rfl
@[simp] theorem State.setCtx_farMem (s : State) (n : Nat) (x : Ctx) : (s.setCtx n x).farMem = s.farMem := rfl
@[simp] theorem State.setCtx_farPoison (s : State) (n : Nat) (x : Ctx) : (s.setCtx n x).farPoison = s.farPoison := rfl
@[simp] theorem State.setCtx_store (s : State) (n : Nat) (x : Ctx) : (s.setCtx n x).store = s.store := rfl
@[simp] theorem State.setCtx_fns (s : State) (n : Nat) (x : Ctx) : (s.setCtx n x).fns = s.fns := rfl
@[simp] theorem State.setCtx_vfEnable (s : State) (n : Nat) (x : Ctx) : (s.setCtx n x).vfEnable = s.vfEnable := rfl
@[simp] theorem State.setCtx_numVfs (s : State) (n : Nat) (x : Ctx) : (s.setCtx n x).numVfs = s.numVfs := rfl
@[simp] theorem State.setCtx_turns (s : State) (n : Nat) (x : Ctx) : (s.setCtx n x).turns = s.turns := rfl
@[simp] theorem State.setCtx_sieves (s : State) (n : Nat) (x : Ctx) : (s.setCtx n x).sieves = s.sieves := rfl
@[simp] theorem State.setCtx_nvms (s : State) (n : Nat) (x : Ctx) : (s.setCtx n x).nvms = s.nvms := rfl
@[simp] theorem State.setCtx_ctrls (s : State) (n : Nat) (x : Ctx) : (s.setCtx n x).ctrls = s.ctrls := rfl
@[simp] theorem State.setCtx_isets (s : State) (n : Nat) (x : Ctx) : (s.setCtx n x).isets = s.isets := rfl
@[simp] theorem State.setCtx_farTimeout (s : State) (n : Nat) (x : Ctx) : (s.setCtx n x).farTimeout = s.farTimeout := rfl
@[simp] theorem State.setCtx_links (s : State) (n : Nat) (x : Ctx) : (s.setCtx n x).links = s.links := rfl
@[simp] theorem State.setCtx_extents (s : State) (n : Nat) (x : Ctx) : (s.setCtx n x).extents = s.extents := rfl
@[simp] theorem State.setCtx_domain (s : State) (n : Nat) (x : Ctx) : (s.setCtx n x).domain = s.domain := rfl
@[simp] theorem State.setCtx_echs (s : State) (n : Nat) (x : Ctx) : (s.setCtx n x).echs = s.echs := rfl
@[simp] theorem State.setCtx_binds (s : State) (n : Nat) (x : Ctx) : (s.setCtx n x).binds = s.binds := rfl
@[simp] theorem State.setCtx_evtLoop (s : State) (n : Nat) (x : Ctx) : (s.setCtx n x).evtLoop = s.evtLoop := rfl
@[simp] theorem State.setCtx_evtCoal (s : State) (n : Nat) (x : Ctx) : (s.setCtx n x).evtCoal = s.evtCoal := rfl
@[simp] theorem State.setCtx_hopLimit (s : State) (n : Nat) (x : Ctx) : (s.setCtx n x).hopLimit = s.hopLimit := rfl
@[simp] theorem State.setCtx_firings (s : State) (n : Nat) (x : Ctx) : (s.setCtx n x).firings = s.firings := rfl
@[simp] theorem State.setCtx_deliveries (s : State) (n : Nat) (x : Ctx) : (s.setCtx n x).deliveries = s.deliveries := rfl
@[simp] theorem State.setCtx_waitOrder (s : State) (n : Nat) (x : Ctx) : (s.setCtx n x).waitOrder = s.waitOrder := rfl
@[simp] theorem State.setCtx_ctls (s : State) (n : Nat) (x : Ctx) : (s.setCtx n x).ctls = s.ctls := rfl
@[simp] theorem State.setCtx_blocks (s : State) (n : Nat) (x : Ctx) : (s.setCtx n x).blocks = s.blocks := rfl
@[simp] theorem State.setCtx_regions (s : State) (n : Nat) (x : Ctx) : (s.setCtx n x).regions = s.regions := rfl
@[simp] theorem State.setCtx_chip (s : State) (n : Nat) (x : Ctx) : (s.setCtx n x).chip = s.chip := rfl
@[simp] theorem State.setCtx_cores (s : State) (n : Nat) (x : Ctx) : (s.setCtx n x).cores = s.cores := rfl
@[simp] theorem State.setCtx_locks (s : State) (n : Nat) (x : Ctx) : (s.setCtx n x).locks = s.locks := rfl
@[simp] theorem State.setCtx_sec (s : State) (n : Nat) (x : Ctx) : (s.setCtx n x).sec = s.sec := rfl
@[simp] theorem State.setCtx_power (s : State) (n : Nat) (x : Ctx) : (s.setCtx n x).power = s.power := rfl
@[simp] theorem State.setCtx_board (s : State) (n : Nat) (x : Ctx) : (s.setCtx n x).board = s.board := rfl
@[simp] theorem State.setCtx_wraps (s : State) (n : Nat) (x : Ctx) : (s.setCtx n x).wraps = s.wraps := rfl
@[simp] theorem State.setCtx_takes (s : State) (n : Nat) (x : Ctx) : (s.setCtx n x).takes = s.takes := rfl
@[simp] theorem State.setCtx_ringOrder (s : State) (n : Nat) (x : Ctx) : (s.setCtx n x).ringOrder = s.ringOrder := rfl
@[simp] theorem State.setCtx_rehomed (s : State) (n : Nat) (x : Ctx) : (s.setCtx n x).rehomed = s.rehomed := rfl

@[simp] theorem State.setEch_pending (s : State) (n : Nat) (x : Ech) : (s.setEch n x).pending = s.pending := rfl
@[simp] theorem State.setEch_out (s : State) (n : Nat) (x : Ech) : (s.setEch n x).out = s.out := rfl
@[simp] theorem State.setEch_free (s : State) (n : Nat) (x : Ech) : (s.setEch n x).free = s.free := rfl
@[simp] theorem State.setEch_time (s : State) (n : Nat) (x : Ech) : (s.setEch n x).time = s.time := rfl
@[simp] theorem State.setEch_hbm (s : State) (n : Nat) (x : Ech) : (s.setEch n x).hbm = s.hbm := rfl
@[simp] theorem State.setEch_poison (s : State) (n : Nat) (x : Ech) : (s.setEch n x).poison = s.poison := rfl
@[simp] theorem State.setEch_hostMem (s : State) (n : Nat) (x : Ech) : (s.setEch n x).hostMem = s.hostMem := rfl
@[simp] theorem State.setEch_farMem (s : State) (n : Nat) (x : Ech) : (s.setEch n x).farMem = s.farMem := rfl
@[simp] theorem State.setEch_farPoison (s : State) (n : Nat) (x : Ech) : (s.setEch n x).farPoison = s.farPoison := rfl
@[simp] theorem State.setEch_store (s : State) (n : Nat) (x : Ech) : (s.setEch n x).store = s.store := rfl
@[simp] theorem State.setEch_fns (s : State) (n : Nat) (x : Ech) : (s.setEch n x).fns = s.fns := rfl
@[simp] theorem State.setEch_vfEnable (s : State) (n : Nat) (x : Ech) : (s.setEch n x).vfEnable = s.vfEnable := rfl
@[simp] theorem State.setEch_numVfs (s : State) (n : Nat) (x : Ech) : (s.setEch n x).numVfs = s.numVfs := rfl
@[simp] theorem State.setEch_ctxs (s : State) (n : Nat) (x : Ech) : (s.setEch n x).ctxs = s.ctxs := rfl
@[simp] theorem State.setEch_turns (s : State) (n : Nat) (x : Ech) : (s.setEch n x).turns = s.turns := rfl
@[simp] theorem State.setEch_sieves (s : State) (n : Nat) (x : Ech) : (s.setEch n x).sieves = s.sieves := rfl
@[simp] theorem State.setEch_nvms (s : State) (n : Nat) (x : Ech) : (s.setEch n x).nvms = s.nvms := rfl
@[simp] theorem State.setEch_ctrls (s : State) (n : Nat) (x : Ech) : (s.setEch n x).ctrls = s.ctrls := rfl
@[simp] theorem State.setEch_isets (s : State) (n : Nat) (x : Ech) : (s.setEch n x).isets = s.isets := rfl
@[simp] theorem State.setEch_farTimeout (s : State) (n : Nat) (x : Ech) : (s.setEch n x).farTimeout = s.farTimeout := rfl
@[simp] theorem State.setEch_links (s : State) (n : Nat) (x : Ech) : (s.setEch n x).links = s.links := rfl
@[simp] theorem State.setEch_extents (s : State) (n : Nat) (x : Ech) : (s.setEch n x).extents = s.extents := rfl
@[simp] theorem State.setEch_domain (s : State) (n : Nat) (x : Ech) : (s.setEch n x).domain = s.domain := rfl
@[simp] theorem State.setEch_binds (s : State) (n : Nat) (x : Ech) : (s.setEch n x).binds = s.binds := rfl
@[simp] theorem State.setEch_evtLoop (s : State) (n : Nat) (x : Ech) : (s.setEch n x).evtLoop = s.evtLoop := rfl
@[simp] theorem State.setEch_evtCoal (s : State) (n : Nat) (x : Ech) : (s.setEch n x).evtCoal = s.evtCoal := rfl
@[simp] theorem State.setEch_hopLimit (s : State) (n : Nat) (x : Ech) : (s.setEch n x).hopLimit = s.hopLimit := rfl
@[simp] theorem State.setEch_firings (s : State) (n : Nat) (x : Ech) : (s.setEch n x).firings = s.firings := rfl
@[simp] theorem State.setEch_deliveries (s : State) (n : Nat) (x : Ech) : (s.setEch n x).deliveries = s.deliveries := rfl
@[simp] theorem State.setEch_waitOrder (s : State) (n : Nat) (x : Ech) : (s.setEch n x).waitOrder = s.waitOrder := rfl
@[simp] theorem State.setEch_ctls (s : State) (n : Nat) (x : Ech) : (s.setEch n x).ctls = s.ctls := rfl
@[simp] theorem State.setEch_blocks (s : State) (n : Nat) (x : Ech) : (s.setEch n x).blocks = s.blocks := rfl
@[simp] theorem State.setEch_regions (s : State) (n : Nat) (x : Ech) : (s.setEch n x).regions = s.regions := rfl
@[simp] theorem State.setEch_chip (s : State) (n : Nat) (x : Ech) : (s.setEch n x).chip = s.chip := rfl
@[simp] theorem State.setEch_cores (s : State) (n : Nat) (x : Ech) : (s.setEch n x).cores = s.cores := rfl
@[simp] theorem State.setEch_locks (s : State) (n : Nat) (x : Ech) : (s.setEch n x).locks = s.locks := rfl
@[simp] theorem State.setEch_sec (s : State) (n : Nat) (x : Ech) : (s.setEch n x).sec = s.sec := rfl
@[simp] theorem State.setEch_power (s : State) (n : Nat) (x : Ech) : (s.setEch n x).power = s.power := rfl
@[simp] theorem State.setEch_board (s : State) (n : Nat) (x : Ech) : (s.setEch n x).board = s.board := rfl
@[simp] theorem State.setEch_wraps (s : State) (n : Nat) (x : Ech) : (s.setEch n x).wraps = s.wraps := rfl
@[simp] theorem State.setEch_takes (s : State) (n : Nat) (x : Ech) : (s.setEch n x).takes = s.takes := rfl
@[simp] theorem State.setEch_ringOrder (s : State) (n : Nat) (x : Ech) : (s.setEch n x).ringOrder = s.ringOrder := rfl
@[simp] theorem State.setEch_rehomed (s : State) (n : Nat) (x : Ech) : (s.setEch n x).rehomed = s.rehomed := rfl

@[simp] theorem State.setBind_pending (s : State) (n i : Nat) (x : EvtBind) : (s.setBind n i x).pending = s.pending := rfl
@[simp] theorem State.setBind_out (s : State) (n i : Nat) (x : EvtBind) : (s.setBind n i x).out = s.out := rfl
@[simp] theorem State.setBind_free (s : State) (n i : Nat) (x : EvtBind) : (s.setBind n i x).free = s.free := rfl
@[simp] theorem State.setBind_time (s : State) (n i : Nat) (x : EvtBind) : (s.setBind n i x).time = s.time := rfl
@[simp] theorem State.setBind_hbm (s : State) (n i : Nat) (x : EvtBind) : (s.setBind n i x).hbm = s.hbm := rfl
@[simp] theorem State.setBind_poison (s : State) (n i : Nat) (x : EvtBind) : (s.setBind n i x).poison = s.poison := rfl
@[simp] theorem State.setBind_hostMem (s : State) (n i : Nat) (x : EvtBind) : (s.setBind n i x).hostMem = s.hostMem := rfl
@[simp] theorem State.setBind_farMem (s : State) (n i : Nat) (x : EvtBind) : (s.setBind n i x).farMem = s.farMem := rfl
@[simp] theorem State.setBind_farPoison (s : State) (n i : Nat) (x : EvtBind) : (s.setBind n i x).farPoison = s.farPoison := rfl
@[simp] theorem State.setBind_store (s : State) (n i : Nat) (x : EvtBind) : (s.setBind n i x).store = s.store := rfl
@[simp] theorem State.setBind_fns (s : State) (n i : Nat) (x : EvtBind) : (s.setBind n i x).fns = s.fns := rfl
@[simp] theorem State.setBind_vfEnable (s : State) (n i : Nat) (x : EvtBind) : (s.setBind n i x).vfEnable = s.vfEnable := rfl
@[simp] theorem State.setBind_numVfs (s : State) (n i : Nat) (x : EvtBind) : (s.setBind n i x).numVfs = s.numVfs := rfl
@[simp] theorem State.setBind_ctxs (s : State) (n i : Nat) (x : EvtBind) : (s.setBind n i x).ctxs = s.ctxs := rfl
@[simp] theorem State.setBind_turns (s : State) (n i : Nat) (x : EvtBind) : (s.setBind n i x).turns = s.turns := rfl
@[simp] theorem State.setBind_sieves (s : State) (n i : Nat) (x : EvtBind) : (s.setBind n i x).sieves = s.sieves := rfl
@[simp] theorem State.setBind_nvms (s : State) (n i : Nat) (x : EvtBind) : (s.setBind n i x).nvms = s.nvms := rfl
@[simp] theorem State.setBind_ctrls (s : State) (n i : Nat) (x : EvtBind) : (s.setBind n i x).ctrls = s.ctrls := rfl
@[simp] theorem State.setBind_isets (s : State) (n i : Nat) (x : EvtBind) : (s.setBind n i x).isets = s.isets := rfl
@[simp] theorem State.setBind_farTimeout (s : State) (n i : Nat) (x : EvtBind) : (s.setBind n i x).farTimeout = s.farTimeout := rfl
@[simp] theorem State.setBind_links (s : State) (n i : Nat) (x : EvtBind) : (s.setBind n i x).links = s.links := rfl
@[simp] theorem State.setBind_extents (s : State) (n i : Nat) (x : EvtBind) : (s.setBind n i x).extents = s.extents := rfl
@[simp] theorem State.setBind_domain (s : State) (n i : Nat) (x : EvtBind) : (s.setBind n i x).domain = s.domain := rfl
@[simp] theorem State.setBind_echs (s : State) (n i : Nat) (x : EvtBind) : (s.setBind n i x).echs = s.echs := rfl
@[simp] theorem State.setBind_evtLoop (s : State) (n i : Nat) (x : EvtBind) : (s.setBind n i x).evtLoop = s.evtLoop := rfl
@[simp] theorem State.setBind_evtCoal (s : State) (n i : Nat) (x : EvtBind) : (s.setBind n i x).evtCoal = s.evtCoal := rfl
@[simp] theorem State.setBind_hopLimit (s : State) (n i : Nat) (x : EvtBind) : (s.setBind n i x).hopLimit = s.hopLimit := rfl
@[simp] theorem State.setBind_firings (s : State) (n i : Nat) (x : EvtBind) : (s.setBind n i x).firings = s.firings := rfl
@[simp] theorem State.setBind_deliveries (s : State) (n i : Nat) (x : EvtBind) : (s.setBind n i x).deliveries = s.deliveries := rfl
@[simp] theorem State.setBind_waitOrder (s : State) (n i : Nat) (x : EvtBind) : (s.setBind n i x).waitOrder = s.waitOrder := rfl
@[simp] theorem State.setBind_ctls (s : State) (n i : Nat) (x : EvtBind) : (s.setBind n i x).ctls = s.ctls := rfl
@[simp] theorem State.setBind_blocks (s : State) (n i : Nat) (x : EvtBind) : (s.setBind n i x).blocks = s.blocks := rfl
@[simp] theorem State.setBind_regions (s : State) (n i : Nat) (x : EvtBind) : (s.setBind n i x).regions = s.regions := rfl
@[simp] theorem State.setBind_chip (s : State) (n i : Nat) (x : EvtBind) : (s.setBind n i x).chip = s.chip := rfl
@[simp] theorem State.setBind_cores (s : State) (n i : Nat) (x : EvtBind) : (s.setBind n i x).cores = s.cores := rfl
@[simp] theorem State.setBind_locks (s : State) (n i : Nat) (x : EvtBind) : (s.setBind n i x).locks = s.locks := rfl
@[simp] theorem State.setBind_sec (s : State) (n i : Nat) (x : EvtBind) : (s.setBind n i x).sec = s.sec := rfl
@[simp] theorem State.setBind_power (s : State) (n i : Nat) (x : EvtBind) : (s.setBind n i x).power = s.power := rfl
@[simp] theorem State.setBind_board (s : State) (n i : Nat) (x : EvtBind) : (s.setBind n i x).board = s.board := rfl
@[simp] theorem State.setBind_wraps (s : State) (n i : Nat) (x : EvtBind) : (s.setBind n i x).wraps = s.wraps := rfl
@[simp] theorem State.setBind_takes (s : State) (n i : Nat) (x : EvtBind) : (s.setBind n i x).takes = s.takes := rfl
@[simp] theorem State.setBind_ringOrder (s : State) (n i : Nat) (x : EvtBind) : (s.setBind n i x).ringOrder = s.ringOrder := rfl
@[simp] theorem State.setBind_rehomed (s : State) (n i : Nat) (x : EvtBind) : (s.setBind n i x).rehomed = s.rehomed := rfl

@[simp] theorem State.setCtl_pending (s : State) (n : Nat) (x : Ictl) : (s.setCtl n x).pending = s.pending := rfl
@[simp] theorem State.setCtl_out (s : State) (n : Nat) (x : Ictl) : (s.setCtl n x).out = s.out := rfl
@[simp] theorem State.setCtl_free (s : State) (n : Nat) (x : Ictl) : (s.setCtl n x).free = s.free := rfl
@[simp] theorem State.setCtl_time (s : State) (n : Nat) (x : Ictl) : (s.setCtl n x).time = s.time := rfl
@[simp] theorem State.setCtl_hbm (s : State) (n : Nat) (x : Ictl) : (s.setCtl n x).hbm = s.hbm := rfl
@[simp] theorem State.setCtl_poison (s : State) (n : Nat) (x : Ictl) : (s.setCtl n x).poison = s.poison := rfl
@[simp] theorem State.setCtl_hostMem (s : State) (n : Nat) (x : Ictl) : (s.setCtl n x).hostMem = s.hostMem := rfl
@[simp] theorem State.setCtl_farMem (s : State) (n : Nat) (x : Ictl) : (s.setCtl n x).farMem = s.farMem := rfl
@[simp] theorem State.setCtl_farPoison (s : State) (n : Nat) (x : Ictl) : (s.setCtl n x).farPoison = s.farPoison := rfl
@[simp] theorem State.setCtl_store (s : State) (n : Nat) (x : Ictl) : (s.setCtl n x).store = s.store := rfl
@[simp] theorem State.setCtl_fns (s : State) (n : Nat) (x : Ictl) : (s.setCtl n x).fns = s.fns := rfl
@[simp] theorem State.setCtl_vfEnable (s : State) (n : Nat) (x : Ictl) : (s.setCtl n x).vfEnable = s.vfEnable := rfl
@[simp] theorem State.setCtl_numVfs (s : State) (n : Nat) (x : Ictl) : (s.setCtl n x).numVfs = s.numVfs := rfl
@[simp] theorem State.setCtl_ctxs (s : State) (n : Nat) (x : Ictl) : (s.setCtl n x).ctxs = s.ctxs := rfl
@[simp] theorem State.setCtl_turns (s : State) (n : Nat) (x : Ictl) : (s.setCtl n x).turns = s.turns := rfl
@[simp] theorem State.setCtl_sieves (s : State) (n : Nat) (x : Ictl) : (s.setCtl n x).sieves = s.sieves := rfl
@[simp] theorem State.setCtl_nvms (s : State) (n : Nat) (x : Ictl) : (s.setCtl n x).nvms = s.nvms := rfl
@[simp] theorem State.setCtl_ctrls (s : State) (n : Nat) (x : Ictl) : (s.setCtl n x).ctrls = s.ctrls := rfl
@[simp] theorem State.setCtl_isets (s : State) (n : Nat) (x : Ictl) : (s.setCtl n x).isets = s.isets := rfl
@[simp] theorem State.setCtl_farTimeout (s : State) (n : Nat) (x : Ictl) : (s.setCtl n x).farTimeout = s.farTimeout := rfl
@[simp] theorem State.setCtl_links (s : State) (n : Nat) (x : Ictl) : (s.setCtl n x).links = s.links := rfl
@[simp] theorem State.setCtl_extents (s : State) (n : Nat) (x : Ictl) : (s.setCtl n x).extents = s.extents := rfl
@[simp] theorem State.setCtl_domain (s : State) (n : Nat) (x : Ictl) : (s.setCtl n x).domain = s.domain := rfl
@[simp] theorem State.setCtl_echs (s : State) (n : Nat) (x : Ictl) : (s.setCtl n x).echs = s.echs := rfl
@[simp] theorem State.setCtl_binds (s : State) (n : Nat) (x : Ictl) : (s.setCtl n x).binds = s.binds := rfl
@[simp] theorem State.setCtl_evtLoop (s : State) (n : Nat) (x : Ictl) : (s.setCtl n x).evtLoop = s.evtLoop := rfl
@[simp] theorem State.setCtl_evtCoal (s : State) (n : Nat) (x : Ictl) : (s.setCtl n x).evtCoal = s.evtCoal := rfl
@[simp] theorem State.setCtl_hopLimit (s : State) (n : Nat) (x : Ictl) : (s.setCtl n x).hopLimit = s.hopLimit := rfl
@[simp] theorem State.setCtl_firings (s : State) (n : Nat) (x : Ictl) : (s.setCtl n x).firings = s.firings := rfl
@[simp] theorem State.setCtl_deliveries (s : State) (n : Nat) (x : Ictl) : (s.setCtl n x).deliveries = s.deliveries := rfl
@[simp] theorem State.setCtl_waitOrder (s : State) (n : Nat) (x : Ictl) : (s.setCtl n x).waitOrder = s.waitOrder := rfl
@[simp] theorem State.setCtl_blocks (s : State) (n : Nat) (x : Ictl) : (s.setCtl n x).blocks = s.blocks := rfl
@[simp] theorem State.setCtl_regions (s : State) (n : Nat) (x : Ictl) : (s.setCtl n x).regions = s.regions := rfl
@[simp] theorem State.setCtl_chip (s : State) (n : Nat) (x : Ictl) : (s.setCtl n x).chip = s.chip := rfl
@[simp] theorem State.setCtl_cores (s : State) (n : Nat) (x : Ictl) : (s.setCtl n x).cores = s.cores := rfl
@[simp] theorem State.setCtl_locks (s : State) (n : Nat) (x : Ictl) : (s.setCtl n x).locks = s.locks := rfl
@[simp] theorem State.setCtl_sec (s : State) (n : Nat) (x : Ictl) : (s.setCtl n x).sec = s.sec := rfl
@[simp] theorem State.setCtl_power (s : State) (n : Nat) (x : Ictl) : (s.setCtl n x).power = s.power := rfl
@[simp] theorem State.setCtl_board (s : State) (n : Nat) (x : Ictl) : (s.setCtl n x).board = s.board := rfl
@[simp] theorem State.setCtl_wraps (s : State) (n : Nat) (x : Ictl) : (s.setCtl n x).wraps = s.wraps := rfl
@[simp] theorem State.setCtl_takes (s : State) (n : Nat) (x : Ictl) : (s.setCtl n x).takes = s.takes := rfl
@[simp] theorem State.setCtl_ringOrder (s : State) (n : Nat) (x : Ictl) : (s.setCtl n x).ringOrder = s.ringOrder := rfl
@[simp] theorem State.setCtl_rehomed (s : State) (n : Nat) (x : Ictl) : (s.setCtl n x).rehomed = s.rehomed := rfl

@[simp] theorem State.setBlock_pending (s : State) (n : Nat) (x : Block) : (s.setBlock n x).pending = s.pending := rfl
@[simp] theorem State.setBlock_out (s : State) (n : Nat) (x : Block) : (s.setBlock n x).out = s.out := rfl
@[simp] theorem State.setBlock_free (s : State) (n : Nat) (x : Block) : (s.setBlock n x).free = s.free := rfl
@[simp] theorem State.setBlock_time (s : State) (n : Nat) (x : Block) : (s.setBlock n x).time = s.time := rfl
@[simp] theorem State.setBlock_hbm (s : State) (n : Nat) (x : Block) : (s.setBlock n x).hbm = s.hbm := rfl
@[simp] theorem State.setBlock_poison (s : State) (n : Nat) (x : Block) : (s.setBlock n x).poison = s.poison := rfl
@[simp] theorem State.setBlock_hostMem (s : State) (n : Nat) (x : Block) : (s.setBlock n x).hostMem = s.hostMem := rfl
@[simp] theorem State.setBlock_farMem (s : State) (n : Nat) (x : Block) : (s.setBlock n x).farMem = s.farMem := rfl
@[simp] theorem State.setBlock_farPoison (s : State) (n : Nat) (x : Block) : (s.setBlock n x).farPoison = s.farPoison := rfl
@[simp] theorem State.setBlock_store (s : State) (n : Nat) (x : Block) : (s.setBlock n x).store = s.store := rfl
@[simp] theorem State.setBlock_fns (s : State) (n : Nat) (x : Block) : (s.setBlock n x).fns = s.fns := rfl
@[simp] theorem State.setBlock_vfEnable (s : State) (n : Nat) (x : Block) : (s.setBlock n x).vfEnable = s.vfEnable := rfl
@[simp] theorem State.setBlock_numVfs (s : State) (n : Nat) (x : Block) : (s.setBlock n x).numVfs = s.numVfs := rfl
@[simp] theorem State.setBlock_ctxs (s : State) (n : Nat) (x : Block) : (s.setBlock n x).ctxs = s.ctxs := rfl
@[simp] theorem State.setBlock_turns (s : State) (n : Nat) (x : Block) : (s.setBlock n x).turns = s.turns := rfl
@[simp] theorem State.setBlock_sieves (s : State) (n : Nat) (x : Block) : (s.setBlock n x).sieves = s.sieves := rfl
@[simp] theorem State.setBlock_nvms (s : State) (n : Nat) (x : Block) : (s.setBlock n x).nvms = s.nvms := rfl
@[simp] theorem State.setBlock_ctrls (s : State) (n : Nat) (x : Block) : (s.setBlock n x).ctrls = s.ctrls := rfl
@[simp] theorem State.setBlock_isets (s : State) (n : Nat) (x : Block) : (s.setBlock n x).isets = s.isets := rfl
@[simp] theorem State.setBlock_farTimeout (s : State) (n : Nat) (x : Block) : (s.setBlock n x).farTimeout = s.farTimeout := rfl
@[simp] theorem State.setBlock_links (s : State) (n : Nat) (x : Block) : (s.setBlock n x).links = s.links := rfl
@[simp] theorem State.setBlock_extents (s : State) (n : Nat) (x : Block) : (s.setBlock n x).extents = s.extents := rfl
@[simp] theorem State.setBlock_domain (s : State) (n : Nat) (x : Block) : (s.setBlock n x).domain = s.domain := rfl
@[simp] theorem State.setBlock_echs (s : State) (n : Nat) (x : Block) : (s.setBlock n x).echs = s.echs := rfl
@[simp] theorem State.setBlock_binds (s : State) (n : Nat) (x : Block) : (s.setBlock n x).binds = s.binds := rfl
@[simp] theorem State.setBlock_evtLoop (s : State) (n : Nat) (x : Block) : (s.setBlock n x).evtLoop = s.evtLoop := rfl
@[simp] theorem State.setBlock_evtCoal (s : State) (n : Nat) (x : Block) : (s.setBlock n x).evtCoal = s.evtCoal := rfl
@[simp] theorem State.setBlock_hopLimit (s : State) (n : Nat) (x : Block) : (s.setBlock n x).hopLimit = s.hopLimit := rfl
@[simp] theorem State.setBlock_firings (s : State) (n : Nat) (x : Block) : (s.setBlock n x).firings = s.firings := rfl
@[simp] theorem State.setBlock_deliveries (s : State) (n : Nat) (x : Block) : (s.setBlock n x).deliveries = s.deliveries := rfl
@[simp] theorem State.setBlock_waitOrder (s : State) (n : Nat) (x : Block) : (s.setBlock n x).waitOrder = s.waitOrder := rfl
@[simp] theorem State.setBlock_ctls (s : State) (n : Nat) (x : Block) : (s.setBlock n x).ctls = s.ctls := rfl
@[simp] theorem State.setBlock_regions (s : State) (n : Nat) (x : Block) : (s.setBlock n x).regions = s.regions := rfl
@[simp] theorem State.setBlock_chip (s : State) (n : Nat) (x : Block) : (s.setBlock n x).chip = s.chip := rfl
@[simp] theorem State.setBlock_cores (s : State) (n : Nat) (x : Block) : (s.setBlock n x).cores = s.cores := rfl
@[simp] theorem State.setBlock_locks (s : State) (n : Nat) (x : Block) : (s.setBlock n x).locks = s.locks := rfl
@[simp] theorem State.setBlock_sec (s : State) (n : Nat) (x : Block) : (s.setBlock n x).sec = s.sec := rfl
@[simp] theorem State.setBlock_power (s : State) (n : Nat) (x : Block) : (s.setBlock n x).power = s.power := rfl
@[simp] theorem State.setBlock_board (s : State) (n : Nat) (x : Block) : (s.setBlock n x).board = s.board := rfl
@[simp] theorem State.setBlock_wraps (s : State) (n : Nat) (x : Block) : (s.setBlock n x).wraps = s.wraps := rfl
@[simp] theorem State.setBlock_takes (s : State) (n : Nat) (x : Block) : (s.setBlock n x).takes = s.takes := rfl
@[simp] theorem State.setBlock_ringOrder (s : State) (n : Nat) (x : Block) : (s.setBlock n x).ringOrder = s.ringOrder := rfl
@[simp] theorem State.setBlock_rehomed (s : State) (n : Nat) (x : Block) : (s.setBlock n x).rehomed = s.rehomed := rfl

@[simp] theorem State.setRegion_pending (s : State) (n : Nat) (x : Region) : (s.setRegion n x).pending = s.pending := rfl
@[simp] theorem State.setRegion_out (s : State) (n : Nat) (x : Region) : (s.setRegion n x).out = s.out := rfl
@[simp] theorem State.setRegion_free (s : State) (n : Nat) (x : Region) : (s.setRegion n x).free = s.free := rfl
@[simp] theorem State.setRegion_time (s : State) (n : Nat) (x : Region) : (s.setRegion n x).time = s.time := rfl
@[simp] theorem State.setRegion_hbm (s : State) (n : Nat) (x : Region) : (s.setRegion n x).hbm = s.hbm := rfl
@[simp] theorem State.setRegion_poison (s : State) (n : Nat) (x : Region) : (s.setRegion n x).poison = s.poison := rfl
@[simp] theorem State.setRegion_hostMem (s : State) (n : Nat) (x : Region) : (s.setRegion n x).hostMem = s.hostMem := rfl
@[simp] theorem State.setRegion_farMem (s : State) (n : Nat) (x : Region) : (s.setRegion n x).farMem = s.farMem := rfl
@[simp] theorem State.setRegion_farPoison (s : State) (n : Nat) (x : Region) : (s.setRegion n x).farPoison = s.farPoison := rfl
@[simp] theorem State.setRegion_store (s : State) (n : Nat) (x : Region) : (s.setRegion n x).store = s.store := rfl
@[simp] theorem State.setRegion_fns (s : State) (n : Nat) (x : Region) : (s.setRegion n x).fns = s.fns := rfl
@[simp] theorem State.setRegion_vfEnable (s : State) (n : Nat) (x : Region) : (s.setRegion n x).vfEnable = s.vfEnable := rfl
@[simp] theorem State.setRegion_numVfs (s : State) (n : Nat) (x : Region) : (s.setRegion n x).numVfs = s.numVfs := rfl
@[simp] theorem State.setRegion_ctxs (s : State) (n : Nat) (x : Region) : (s.setRegion n x).ctxs = s.ctxs := rfl
@[simp] theorem State.setRegion_turns (s : State) (n : Nat) (x : Region) : (s.setRegion n x).turns = s.turns := rfl
@[simp] theorem State.setRegion_sieves (s : State) (n : Nat) (x : Region) : (s.setRegion n x).sieves = s.sieves := rfl
@[simp] theorem State.setRegion_nvms (s : State) (n : Nat) (x : Region) : (s.setRegion n x).nvms = s.nvms := rfl
@[simp] theorem State.setRegion_ctrls (s : State) (n : Nat) (x : Region) : (s.setRegion n x).ctrls = s.ctrls := rfl
@[simp] theorem State.setRegion_isets (s : State) (n : Nat) (x : Region) : (s.setRegion n x).isets = s.isets := rfl
@[simp] theorem State.setRegion_farTimeout (s : State) (n : Nat) (x : Region) : (s.setRegion n x).farTimeout = s.farTimeout := rfl
@[simp] theorem State.setRegion_links (s : State) (n : Nat) (x : Region) : (s.setRegion n x).links = s.links := rfl
@[simp] theorem State.setRegion_extents (s : State) (n : Nat) (x : Region) : (s.setRegion n x).extents = s.extents := rfl
@[simp] theorem State.setRegion_domain (s : State) (n : Nat) (x : Region) : (s.setRegion n x).domain = s.domain := rfl
@[simp] theorem State.setRegion_echs (s : State) (n : Nat) (x : Region) : (s.setRegion n x).echs = s.echs := rfl
@[simp] theorem State.setRegion_binds (s : State) (n : Nat) (x : Region) : (s.setRegion n x).binds = s.binds := rfl
@[simp] theorem State.setRegion_evtLoop (s : State) (n : Nat) (x : Region) : (s.setRegion n x).evtLoop = s.evtLoop := rfl
@[simp] theorem State.setRegion_evtCoal (s : State) (n : Nat) (x : Region) : (s.setRegion n x).evtCoal = s.evtCoal := rfl
@[simp] theorem State.setRegion_hopLimit (s : State) (n : Nat) (x : Region) : (s.setRegion n x).hopLimit = s.hopLimit := rfl
@[simp] theorem State.setRegion_firings (s : State) (n : Nat) (x : Region) : (s.setRegion n x).firings = s.firings := rfl
@[simp] theorem State.setRegion_deliveries (s : State) (n : Nat) (x : Region) : (s.setRegion n x).deliveries = s.deliveries := rfl
@[simp] theorem State.setRegion_waitOrder (s : State) (n : Nat) (x : Region) : (s.setRegion n x).waitOrder = s.waitOrder := rfl
@[simp] theorem State.setRegion_ctls (s : State) (n : Nat) (x : Region) : (s.setRegion n x).ctls = s.ctls := rfl
@[simp] theorem State.setRegion_blocks (s : State) (n : Nat) (x : Region) : (s.setRegion n x).blocks = s.blocks := rfl
@[simp] theorem State.setRegion_chip (s : State) (n : Nat) (x : Region) : (s.setRegion n x).chip = s.chip := rfl
@[simp] theorem State.setRegion_cores (s : State) (n : Nat) (x : Region) : (s.setRegion n x).cores = s.cores := rfl
@[simp] theorem State.setRegion_locks (s : State) (n : Nat) (x : Region) : (s.setRegion n x).locks = s.locks := rfl
@[simp] theorem State.setRegion_sec (s : State) (n : Nat) (x : Region) : (s.setRegion n x).sec = s.sec := rfl
@[simp] theorem State.setRegion_power (s : State) (n : Nat) (x : Region) : (s.setRegion n x).power = s.power := rfl
@[simp] theorem State.setRegion_board (s : State) (n : Nat) (x : Region) : (s.setRegion n x).board = s.board := rfl
@[simp] theorem State.setRegion_wraps (s : State) (n : Nat) (x : Region) : (s.setRegion n x).wraps = s.wraps := rfl
@[simp] theorem State.setRegion_takes (s : State) (n : Nat) (x : Region) : (s.setRegion n x).takes = s.takes := rfl
@[simp] theorem State.setRegion_ringOrder (s : State) (n : Nat) (x : Region) : (s.setRegion n x).ringOrder = s.ringOrder := rfl
@[simp] theorem State.setRegion_rehomed (s : State) (n : Nat) (x : Region) : (s.setRegion n x).rehomed = s.rehomed := rfl

@[simp] theorem State.setLink_pending (s : State) (n : Nat) (x : Link) : (s.setLink n x).pending = s.pending := rfl
@[simp] theorem State.setLink_out (s : State) (n : Nat) (x : Link) : (s.setLink n x).out = s.out := rfl
@[simp] theorem State.setLink_free (s : State) (n : Nat) (x : Link) : (s.setLink n x).free = s.free := rfl
@[simp] theorem State.setLink_time (s : State) (n : Nat) (x : Link) : (s.setLink n x).time = s.time := rfl
@[simp] theorem State.setLink_hbm (s : State) (n : Nat) (x : Link) : (s.setLink n x).hbm = s.hbm := rfl
@[simp] theorem State.setLink_poison (s : State) (n : Nat) (x : Link) : (s.setLink n x).poison = s.poison := rfl
@[simp] theorem State.setLink_hostMem (s : State) (n : Nat) (x : Link) : (s.setLink n x).hostMem = s.hostMem := rfl
@[simp] theorem State.setLink_farMem (s : State) (n : Nat) (x : Link) : (s.setLink n x).farMem = s.farMem := rfl
@[simp] theorem State.setLink_farPoison (s : State) (n : Nat) (x : Link) : (s.setLink n x).farPoison = s.farPoison := rfl
@[simp] theorem State.setLink_store (s : State) (n : Nat) (x : Link) : (s.setLink n x).store = s.store := rfl
@[simp] theorem State.setLink_fns (s : State) (n : Nat) (x : Link) : (s.setLink n x).fns = s.fns := rfl
@[simp] theorem State.setLink_vfEnable (s : State) (n : Nat) (x : Link) : (s.setLink n x).vfEnable = s.vfEnable := rfl
@[simp] theorem State.setLink_numVfs (s : State) (n : Nat) (x : Link) : (s.setLink n x).numVfs = s.numVfs := rfl
@[simp] theorem State.setLink_ctxs (s : State) (n : Nat) (x : Link) : (s.setLink n x).ctxs = s.ctxs := rfl
@[simp] theorem State.setLink_turns (s : State) (n : Nat) (x : Link) : (s.setLink n x).turns = s.turns := rfl
@[simp] theorem State.setLink_sieves (s : State) (n : Nat) (x : Link) : (s.setLink n x).sieves = s.sieves := rfl
@[simp] theorem State.setLink_nvms (s : State) (n : Nat) (x : Link) : (s.setLink n x).nvms = s.nvms := rfl
@[simp] theorem State.setLink_ctrls (s : State) (n : Nat) (x : Link) : (s.setLink n x).ctrls = s.ctrls := rfl
@[simp] theorem State.setLink_isets (s : State) (n : Nat) (x : Link) : (s.setLink n x).isets = s.isets := rfl
@[simp] theorem State.setLink_farTimeout (s : State) (n : Nat) (x : Link) : (s.setLink n x).farTimeout = s.farTimeout := rfl
@[simp] theorem State.setLink_extents (s : State) (n : Nat) (x : Link) : (s.setLink n x).extents = s.extents := rfl
@[simp] theorem State.setLink_domain (s : State) (n : Nat) (x : Link) : (s.setLink n x).domain = s.domain := rfl
@[simp] theorem State.setLink_echs (s : State) (n : Nat) (x : Link) : (s.setLink n x).echs = s.echs := rfl
@[simp] theorem State.setLink_binds (s : State) (n : Nat) (x : Link) : (s.setLink n x).binds = s.binds := rfl
@[simp] theorem State.setLink_evtLoop (s : State) (n : Nat) (x : Link) : (s.setLink n x).evtLoop = s.evtLoop := rfl
@[simp] theorem State.setLink_evtCoal (s : State) (n : Nat) (x : Link) : (s.setLink n x).evtCoal = s.evtCoal := rfl
@[simp] theorem State.setLink_hopLimit (s : State) (n : Nat) (x : Link) : (s.setLink n x).hopLimit = s.hopLimit := rfl
@[simp] theorem State.setLink_firings (s : State) (n : Nat) (x : Link) : (s.setLink n x).firings = s.firings := rfl
@[simp] theorem State.setLink_deliveries (s : State) (n : Nat) (x : Link) : (s.setLink n x).deliveries = s.deliveries := rfl
@[simp] theorem State.setLink_waitOrder (s : State) (n : Nat) (x : Link) : (s.setLink n x).waitOrder = s.waitOrder := rfl
@[simp] theorem State.setLink_ctls (s : State) (n : Nat) (x : Link) : (s.setLink n x).ctls = s.ctls := rfl
@[simp] theorem State.setLink_blocks (s : State) (n : Nat) (x : Link) : (s.setLink n x).blocks = s.blocks := rfl
@[simp] theorem State.setLink_regions (s : State) (n : Nat) (x : Link) : (s.setLink n x).regions = s.regions := rfl
@[simp] theorem State.setLink_chip (s : State) (n : Nat) (x : Link) : (s.setLink n x).chip = s.chip := rfl
@[simp] theorem State.setLink_cores (s : State) (n : Nat) (x : Link) : (s.setLink n x).cores = s.cores := rfl
@[simp] theorem State.setLink_locks (s : State) (n : Nat) (x : Link) : (s.setLink n x).locks = s.locks := rfl
@[simp] theorem State.setLink_sec (s : State) (n : Nat) (x : Link) : (s.setLink n x).sec = s.sec := rfl
@[simp] theorem State.setLink_power (s : State) (n : Nat) (x : Link) : (s.setLink n x).power = s.power := rfl
@[simp] theorem State.setLink_board (s : State) (n : Nat) (x : Link) : (s.setLink n x).board = s.board := rfl
@[simp] theorem State.setLink_wraps (s : State) (n : Nat) (x : Link) : (s.setLink n x).wraps = s.wraps := rfl
@[simp] theorem State.setLink_takes (s : State) (n : Nat) (x : Link) : (s.setLink n x).takes = s.takes := rfl
@[simp] theorem State.setLink_ringOrder (s : State) (n : Nat) (x : Link) : (s.setLink n x).ringOrder = s.ringOrder := rfl
@[simp] theorem State.setLink_rehomed (s : State) (n : Nat) (x : Link) : (s.setLink n x).rehomed = s.rehomed := rfl

@[simp] theorem State.setCore_pending (s : State) (n : Nat) (x : Core) : (s.setCore n x).pending = s.pending := rfl
@[simp] theorem State.setCore_out (s : State) (n : Nat) (x : Core) : (s.setCore n x).out = s.out := rfl
@[simp] theorem State.setCore_free (s : State) (n : Nat) (x : Core) : (s.setCore n x).free = s.free := rfl
@[simp] theorem State.setCore_time (s : State) (n : Nat) (x : Core) : (s.setCore n x).time = s.time := rfl
@[simp] theorem State.setCore_hbm (s : State) (n : Nat) (x : Core) : (s.setCore n x).hbm = s.hbm := rfl
@[simp] theorem State.setCore_poison (s : State) (n : Nat) (x : Core) : (s.setCore n x).poison = s.poison := rfl
@[simp] theorem State.setCore_hostMem (s : State) (n : Nat) (x : Core) : (s.setCore n x).hostMem = s.hostMem := rfl
@[simp] theorem State.setCore_farMem (s : State) (n : Nat) (x : Core) : (s.setCore n x).farMem = s.farMem := rfl
@[simp] theorem State.setCore_farPoison (s : State) (n : Nat) (x : Core) : (s.setCore n x).farPoison = s.farPoison := rfl
@[simp] theorem State.setCore_store (s : State) (n : Nat) (x : Core) : (s.setCore n x).store = s.store := rfl
@[simp] theorem State.setCore_fns (s : State) (n : Nat) (x : Core) : (s.setCore n x).fns = s.fns := rfl
@[simp] theorem State.setCore_vfEnable (s : State) (n : Nat) (x : Core) : (s.setCore n x).vfEnable = s.vfEnable := rfl
@[simp] theorem State.setCore_numVfs (s : State) (n : Nat) (x : Core) : (s.setCore n x).numVfs = s.numVfs := rfl
@[simp] theorem State.setCore_ctxs (s : State) (n : Nat) (x : Core) : (s.setCore n x).ctxs = s.ctxs := rfl
@[simp] theorem State.setCore_turns (s : State) (n : Nat) (x : Core) : (s.setCore n x).turns = s.turns := rfl
@[simp] theorem State.setCore_sieves (s : State) (n : Nat) (x : Core) : (s.setCore n x).sieves = s.sieves := rfl
@[simp] theorem State.setCore_nvms (s : State) (n : Nat) (x : Core) : (s.setCore n x).nvms = s.nvms := rfl
@[simp] theorem State.setCore_ctrls (s : State) (n : Nat) (x : Core) : (s.setCore n x).ctrls = s.ctrls := rfl
@[simp] theorem State.setCore_isets (s : State) (n : Nat) (x : Core) : (s.setCore n x).isets = s.isets := rfl
@[simp] theorem State.setCore_farTimeout (s : State) (n : Nat) (x : Core) : (s.setCore n x).farTimeout = s.farTimeout := rfl
@[simp] theorem State.setCore_links (s : State) (n : Nat) (x : Core) : (s.setCore n x).links = s.links := rfl
@[simp] theorem State.setCore_extents (s : State) (n : Nat) (x : Core) : (s.setCore n x).extents = s.extents := rfl
@[simp] theorem State.setCore_domain (s : State) (n : Nat) (x : Core) : (s.setCore n x).domain = s.domain := rfl
@[simp] theorem State.setCore_echs (s : State) (n : Nat) (x : Core) : (s.setCore n x).echs = s.echs := rfl
@[simp] theorem State.setCore_binds (s : State) (n : Nat) (x : Core) : (s.setCore n x).binds = s.binds := rfl
@[simp] theorem State.setCore_evtLoop (s : State) (n : Nat) (x : Core) : (s.setCore n x).evtLoop = s.evtLoop := rfl
@[simp] theorem State.setCore_evtCoal (s : State) (n : Nat) (x : Core) : (s.setCore n x).evtCoal = s.evtCoal := rfl
@[simp] theorem State.setCore_hopLimit (s : State) (n : Nat) (x : Core) : (s.setCore n x).hopLimit = s.hopLimit := rfl
@[simp] theorem State.setCore_firings (s : State) (n : Nat) (x : Core) : (s.setCore n x).firings = s.firings := rfl
@[simp] theorem State.setCore_deliveries (s : State) (n : Nat) (x : Core) : (s.setCore n x).deliveries = s.deliveries := rfl
@[simp] theorem State.setCore_waitOrder (s : State) (n : Nat) (x : Core) : (s.setCore n x).waitOrder = s.waitOrder := rfl
@[simp] theorem State.setCore_ctls (s : State) (n : Nat) (x : Core) : (s.setCore n x).ctls = s.ctls := rfl
@[simp] theorem State.setCore_blocks (s : State) (n : Nat) (x : Core) : (s.setCore n x).blocks = s.blocks := rfl
@[simp] theorem State.setCore_regions (s : State) (n : Nat) (x : Core) : (s.setCore n x).regions = s.regions := rfl
@[simp] theorem State.setCore_chip (s : State) (n : Nat) (x : Core) : (s.setCore n x).chip = s.chip := rfl
@[simp] theorem State.setCore_locks (s : State) (n : Nat) (x : Core) : (s.setCore n x).locks = s.locks := rfl
@[simp] theorem State.setCore_sec (s : State) (n : Nat) (x : Core) : (s.setCore n x).sec = s.sec := rfl
@[simp] theorem State.setCore_power (s : State) (n : Nat) (x : Core) : (s.setCore n x).power = s.power := rfl
@[simp] theorem State.setCore_board (s : State) (n : Nat) (x : Core) : (s.setCore n x).board = s.board := rfl
@[simp] theorem State.setCore_wraps (s : State) (n : Nat) (x : Core) : (s.setCore n x).wraps = s.wraps := rfl
@[simp] theorem State.setCore_takes (s : State) (n : Nat) (x : Core) : (s.setCore n x).takes = s.takes := rfl
@[simp] theorem State.setCore_ringOrder (s : State) (n : Nat) (x : Core) : (s.setCore n x).ringOrder = s.ringOrder := rfl
@[simp] theorem State.setCore_rehomed (s : State) (n : Nat) (x : Core) : (s.setCore n x).rehomed = s.rehomed := rfl

@[simp] theorem State.setSieve_pending (s : State) (n : Nat) (x : Option SieveHandle) : (s.setSieve n x).pending = s.pending := rfl
@[simp] theorem State.setSieve_out (s : State) (n : Nat) (x : Option SieveHandle) : (s.setSieve n x).out = s.out := rfl
@[simp] theorem State.setSieve_free (s : State) (n : Nat) (x : Option SieveHandle) : (s.setSieve n x).free = s.free := rfl
@[simp] theorem State.setSieve_time (s : State) (n : Nat) (x : Option SieveHandle) : (s.setSieve n x).time = s.time := rfl
@[simp] theorem State.setSieve_hbm (s : State) (n : Nat) (x : Option SieveHandle) : (s.setSieve n x).hbm = s.hbm := rfl
@[simp] theorem State.setSieve_poison (s : State) (n : Nat) (x : Option SieveHandle) : (s.setSieve n x).poison = s.poison := rfl
@[simp] theorem State.setSieve_hostMem (s : State) (n : Nat) (x : Option SieveHandle) : (s.setSieve n x).hostMem = s.hostMem := rfl
@[simp] theorem State.setSieve_farMem (s : State) (n : Nat) (x : Option SieveHandle) : (s.setSieve n x).farMem = s.farMem := rfl
@[simp] theorem State.setSieve_farPoison (s : State) (n : Nat) (x : Option SieveHandle) : (s.setSieve n x).farPoison = s.farPoison := rfl
@[simp] theorem State.setSieve_store (s : State) (n : Nat) (x : Option SieveHandle) : (s.setSieve n x).store = s.store := rfl
@[simp] theorem State.setSieve_fns (s : State) (n : Nat) (x : Option SieveHandle) : (s.setSieve n x).fns = s.fns := rfl
@[simp] theorem State.setSieve_vfEnable (s : State) (n : Nat) (x : Option SieveHandle) : (s.setSieve n x).vfEnable = s.vfEnable := rfl
@[simp] theorem State.setSieve_numVfs (s : State) (n : Nat) (x : Option SieveHandle) : (s.setSieve n x).numVfs = s.numVfs := rfl
@[simp] theorem State.setSieve_ctxs (s : State) (n : Nat) (x : Option SieveHandle) : (s.setSieve n x).ctxs = s.ctxs := rfl
@[simp] theorem State.setSieve_turns (s : State) (n : Nat) (x : Option SieveHandle) : (s.setSieve n x).turns = s.turns := rfl
@[simp] theorem State.setSieve_nvms (s : State) (n : Nat) (x : Option SieveHandle) : (s.setSieve n x).nvms = s.nvms := rfl
@[simp] theorem State.setSieve_ctrls (s : State) (n : Nat) (x : Option SieveHandle) : (s.setSieve n x).ctrls = s.ctrls := rfl
@[simp] theorem State.setSieve_isets (s : State) (n : Nat) (x : Option SieveHandle) : (s.setSieve n x).isets = s.isets := rfl
@[simp] theorem State.setSieve_farTimeout (s : State) (n : Nat) (x : Option SieveHandle) : (s.setSieve n x).farTimeout = s.farTimeout := rfl
@[simp] theorem State.setSieve_links (s : State) (n : Nat) (x : Option SieveHandle) : (s.setSieve n x).links = s.links := rfl
@[simp] theorem State.setSieve_extents (s : State) (n : Nat) (x : Option SieveHandle) : (s.setSieve n x).extents = s.extents := rfl
@[simp] theorem State.setSieve_domain (s : State) (n : Nat) (x : Option SieveHandle) : (s.setSieve n x).domain = s.domain := rfl
@[simp] theorem State.setSieve_echs (s : State) (n : Nat) (x : Option SieveHandle) : (s.setSieve n x).echs = s.echs := rfl
@[simp] theorem State.setSieve_binds (s : State) (n : Nat) (x : Option SieveHandle) : (s.setSieve n x).binds = s.binds := rfl
@[simp] theorem State.setSieve_evtLoop (s : State) (n : Nat) (x : Option SieveHandle) : (s.setSieve n x).evtLoop = s.evtLoop := rfl
@[simp] theorem State.setSieve_evtCoal (s : State) (n : Nat) (x : Option SieveHandle) : (s.setSieve n x).evtCoal = s.evtCoal := rfl
@[simp] theorem State.setSieve_hopLimit (s : State) (n : Nat) (x : Option SieveHandle) : (s.setSieve n x).hopLimit = s.hopLimit := rfl
@[simp] theorem State.setSieve_firings (s : State) (n : Nat) (x : Option SieveHandle) : (s.setSieve n x).firings = s.firings := rfl
@[simp] theorem State.setSieve_deliveries (s : State) (n : Nat) (x : Option SieveHandle) : (s.setSieve n x).deliveries = s.deliveries := rfl
@[simp] theorem State.setSieve_waitOrder (s : State) (n : Nat) (x : Option SieveHandle) : (s.setSieve n x).waitOrder = s.waitOrder := rfl
@[simp] theorem State.setSieve_ctls (s : State) (n : Nat) (x : Option SieveHandle) : (s.setSieve n x).ctls = s.ctls := rfl
@[simp] theorem State.setSieve_blocks (s : State) (n : Nat) (x : Option SieveHandle) : (s.setSieve n x).blocks = s.blocks := rfl
@[simp] theorem State.setSieve_regions (s : State) (n : Nat) (x : Option SieveHandle) : (s.setSieve n x).regions = s.regions := rfl
@[simp] theorem State.setSieve_chip (s : State) (n : Nat) (x : Option SieveHandle) : (s.setSieve n x).chip = s.chip := rfl
@[simp] theorem State.setSieve_cores (s : State) (n : Nat) (x : Option SieveHandle) : (s.setSieve n x).cores = s.cores := rfl
@[simp] theorem State.setSieve_locks (s : State) (n : Nat) (x : Option SieveHandle) : (s.setSieve n x).locks = s.locks := rfl
@[simp] theorem State.setSieve_sec (s : State) (n : Nat) (x : Option SieveHandle) : (s.setSieve n x).sec = s.sec := rfl
@[simp] theorem State.setSieve_power (s : State) (n : Nat) (x : Option SieveHandle) : (s.setSieve n x).power = s.power := rfl
@[simp] theorem State.setSieve_board (s : State) (n : Nat) (x : Option SieveHandle) : (s.setSieve n x).board = s.board := rfl
@[simp] theorem State.setSieve_wraps (s : State) (n : Nat) (x : Option SieveHandle) : (s.setSieve n x).wraps = s.wraps := rfl
@[simp] theorem State.setSieve_takes (s : State) (n : Nat) (x : Option SieveHandle) : (s.setSieve n x).takes = s.takes := rfl
@[simp] theorem State.setSieve_ringOrder (s : State) (n : Nat) (x : Option SieveHandle) : (s.setSieve n x).ringOrder = s.ringOrder := rfl
@[simp] theorem State.setSieve_rehomed (s : State) (n : Nat) (x : Option SieveHandle) : (s.setSieve n x).rehomed = s.rehomed := rfl

@[simp] theorem State.setNvm_pending (s : State) (n : Nat) (x : Option NvmHandle) : (s.setNvm n x).pending = s.pending := rfl
@[simp] theorem State.setNvm_out (s : State) (n : Nat) (x : Option NvmHandle) : (s.setNvm n x).out = s.out := rfl
@[simp] theorem State.setNvm_free (s : State) (n : Nat) (x : Option NvmHandle) : (s.setNvm n x).free = s.free := rfl
@[simp] theorem State.setNvm_time (s : State) (n : Nat) (x : Option NvmHandle) : (s.setNvm n x).time = s.time := rfl
@[simp] theorem State.setNvm_hbm (s : State) (n : Nat) (x : Option NvmHandle) : (s.setNvm n x).hbm = s.hbm := rfl
@[simp] theorem State.setNvm_poison (s : State) (n : Nat) (x : Option NvmHandle) : (s.setNvm n x).poison = s.poison := rfl
@[simp] theorem State.setNvm_hostMem (s : State) (n : Nat) (x : Option NvmHandle) : (s.setNvm n x).hostMem = s.hostMem := rfl
@[simp] theorem State.setNvm_farMem (s : State) (n : Nat) (x : Option NvmHandle) : (s.setNvm n x).farMem = s.farMem := rfl
@[simp] theorem State.setNvm_farPoison (s : State) (n : Nat) (x : Option NvmHandle) : (s.setNvm n x).farPoison = s.farPoison := rfl
@[simp] theorem State.setNvm_store (s : State) (n : Nat) (x : Option NvmHandle) : (s.setNvm n x).store = s.store := rfl
@[simp] theorem State.setNvm_fns (s : State) (n : Nat) (x : Option NvmHandle) : (s.setNvm n x).fns = s.fns := rfl
@[simp] theorem State.setNvm_vfEnable (s : State) (n : Nat) (x : Option NvmHandle) : (s.setNvm n x).vfEnable = s.vfEnable := rfl
@[simp] theorem State.setNvm_numVfs (s : State) (n : Nat) (x : Option NvmHandle) : (s.setNvm n x).numVfs = s.numVfs := rfl
@[simp] theorem State.setNvm_ctxs (s : State) (n : Nat) (x : Option NvmHandle) : (s.setNvm n x).ctxs = s.ctxs := rfl
@[simp] theorem State.setNvm_turns (s : State) (n : Nat) (x : Option NvmHandle) : (s.setNvm n x).turns = s.turns := rfl
@[simp] theorem State.setNvm_sieves (s : State) (n : Nat) (x : Option NvmHandle) : (s.setNvm n x).sieves = s.sieves := rfl
@[simp] theorem State.setNvm_ctrls (s : State) (n : Nat) (x : Option NvmHandle) : (s.setNvm n x).ctrls = s.ctrls := rfl
@[simp] theorem State.setNvm_isets (s : State) (n : Nat) (x : Option NvmHandle) : (s.setNvm n x).isets = s.isets := rfl
@[simp] theorem State.setNvm_farTimeout (s : State) (n : Nat) (x : Option NvmHandle) : (s.setNvm n x).farTimeout = s.farTimeout := rfl
@[simp] theorem State.setNvm_links (s : State) (n : Nat) (x : Option NvmHandle) : (s.setNvm n x).links = s.links := rfl
@[simp] theorem State.setNvm_extents (s : State) (n : Nat) (x : Option NvmHandle) : (s.setNvm n x).extents = s.extents := rfl
@[simp] theorem State.setNvm_domain (s : State) (n : Nat) (x : Option NvmHandle) : (s.setNvm n x).domain = s.domain := rfl
@[simp] theorem State.setNvm_echs (s : State) (n : Nat) (x : Option NvmHandle) : (s.setNvm n x).echs = s.echs := rfl
@[simp] theorem State.setNvm_binds (s : State) (n : Nat) (x : Option NvmHandle) : (s.setNvm n x).binds = s.binds := rfl
@[simp] theorem State.setNvm_evtLoop (s : State) (n : Nat) (x : Option NvmHandle) : (s.setNvm n x).evtLoop = s.evtLoop := rfl
@[simp] theorem State.setNvm_evtCoal (s : State) (n : Nat) (x : Option NvmHandle) : (s.setNvm n x).evtCoal = s.evtCoal := rfl
@[simp] theorem State.setNvm_hopLimit (s : State) (n : Nat) (x : Option NvmHandle) : (s.setNvm n x).hopLimit = s.hopLimit := rfl
@[simp] theorem State.setNvm_firings (s : State) (n : Nat) (x : Option NvmHandle) : (s.setNvm n x).firings = s.firings := rfl
@[simp] theorem State.setNvm_deliveries (s : State) (n : Nat) (x : Option NvmHandle) : (s.setNvm n x).deliveries = s.deliveries := rfl
@[simp] theorem State.setNvm_waitOrder (s : State) (n : Nat) (x : Option NvmHandle) : (s.setNvm n x).waitOrder = s.waitOrder := rfl
@[simp] theorem State.setNvm_ctls (s : State) (n : Nat) (x : Option NvmHandle) : (s.setNvm n x).ctls = s.ctls := rfl
@[simp] theorem State.setNvm_blocks (s : State) (n : Nat) (x : Option NvmHandle) : (s.setNvm n x).blocks = s.blocks := rfl
@[simp] theorem State.setNvm_regions (s : State) (n : Nat) (x : Option NvmHandle) : (s.setNvm n x).regions = s.regions := rfl
@[simp] theorem State.setNvm_chip (s : State) (n : Nat) (x : Option NvmHandle) : (s.setNvm n x).chip = s.chip := rfl
@[simp] theorem State.setNvm_cores (s : State) (n : Nat) (x : Option NvmHandle) : (s.setNvm n x).cores = s.cores := rfl
@[simp] theorem State.setNvm_locks (s : State) (n : Nat) (x : Option NvmHandle) : (s.setNvm n x).locks = s.locks := rfl
@[simp] theorem State.setNvm_sec (s : State) (n : Nat) (x : Option NvmHandle) : (s.setNvm n x).sec = s.sec := rfl
@[simp] theorem State.setNvm_power (s : State) (n : Nat) (x : Option NvmHandle) : (s.setNvm n x).power = s.power := rfl
@[simp] theorem State.setNvm_board (s : State) (n : Nat) (x : Option NvmHandle) : (s.setNvm n x).board = s.board := rfl
@[simp] theorem State.setNvm_wraps (s : State) (n : Nat) (x : Option NvmHandle) : (s.setNvm n x).wraps = s.wraps := rfl
@[simp] theorem State.setNvm_takes (s : State) (n : Nat) (x : Option NvmHandle) : (s.setNvm n x).takes = s.takes := rfl
@[simp] theorem State.setNvm_ringOrder (s : State) (n : Nat) (x : Option NvmHandle) : (s.setNvm n x).ringOrder = s.ringOrder := rfl
@[simp] theorem State.setNvm_rehomed (s : State) (n : Nat) (x : Option NvmHandle) : (s.setNvm n x).rehomed = s.rehomed := rfl

@[simp] theorem State.setCtrl_pending (s : State) (n : Nat) (x : Option NvmeCtrl) : (s.setCtrl n x).pending = s.pending := rfl
@[simp] theorem State.setCtrl_out (s : State) (n : Nat) (x : Option NvmeCtrl) : (s.setCtrl n x).out = s.out := rfl
@[simp] theorem State.setCtrl_free (s : State) (n : Nat) (x : Option NvmeCtrl) : (s.setCtrl n x).free = s.free := rfl
@[simp] theorem State.setCtrl_time (s : State) (n : Nat) (x : Option NvmeCtrl) : (s.setCtrl n x).time = s.time := rfl
@[simp] theorem State.setCtrl_hbm (s : State) (n : Nat) (x : Option NvmeCtrl) : (s.setCtrl n x).hbm = s.hbm := rfl
@[simp] theorem State.setCtrl_poison (s : State) (n : Nat) (x : Option NvmeCtrl) : (s.setCtrl n x).poison = s.poison := rfl
@[simp] theorem State.setCtrl_hostMem (s : State) (n : Nat) (x : Option NvmeCtrl) : (s.setCtrl n x).hostMem = s.hostMem := rfl
@[simp] theorem State.setCtrl_farMem (s : State) (n : Nat) (x : Option NvmeCtrl) : (s.setCtrl n x).farMem = s.farMem := rfl
@[simp] theorem State.setCtrl_farPoison (s : State) (n : Nat) (x : Option NvmeCtrl) : (s.setCtrl n x).farPoison = s.farPoison := rfl
@[simp] theorem State.setCtrl_store (s : State) (n : Nat) (x : Option NvmeCtrl) : (s.setCtrl n x).store = s.store := rfl
@[simp] theorem State.setCtrl_fns (s : State) (n : Nat) (x : Option NvmeCtrl) : (s.setCtrl n x).fns = s.fns := rfl
@[simp] theorem State.setCtrl_vfEnable (s : State) (n : Nat) (x : Option NvmeCtrl) : (s.setCtrl n x).vfEnable = s.vfEnable := rfl
@[simp] theorem State.setCtrl_numVfs (s : State) (n : Nat) (x : Option NvmeCtrl) : (s.setCtrl n x).numVfs = s.numVfs := rfl
@[simp] theorem State.setCtrl_ctxs (s : State) (n : Nat) (x : Option NvmeCtrl) : (s.setCtrl n x).ctxs = s.ctxs := rfl
@[simp] theorem State.setCtrl_turns (s : State) (n : Nat) (x : Option NvmeCtrl) : (s.setCtrl n x).turns = s.turns := rfl
@[simp] theorem State.setCtrl_sieves (s : State) (n : Nat) (x : Option NvmeCtrl) : (s.setCtrl n x).sieves = s.sieves := rfl
@[simp] theorem State.setCtrl_nvms (s : State) (n : Nat) (x : Option NvmeCtrl) : (s.setCtrl n x).nvms = s.nvms := rfl
@[simp] theorem State.setCtrl_isets (s : State) (n : Nat) (x : Option NvmeCtrl) : (s.setCtrl n x).isets = s.isets := rfl
@[simp] theorem State.setCtrl_farTimeout (s : State) (n : Nat) (x : Option NvmeCtrl) : (s.setCtrl n x).farTimeout = s.farTimeout := rfl
@[simp] theorem State.setCtrl_links (s : State) (n : Nat) (x : Option NvmeCtrl) : (s.setCtrl n x).links = s.links := rfl
@[simp] theorem State.setCtrl_extents (s : State) (n : Nat) (x : Option NvmeCtrl) : (s.setCtrl n x).extents = s.extents := rfl
@[simp] theorem State.setCtrl_domain (s : State) (n : Nat) (x : Option NvmeCtrl) : (s.setCtrl n x).domain = s.domain := rfl
@[simp] theorem State.setCtrl_echs (s : State) (n : Nat) (x : Option NvmeCtrl) : (s.setCtrl n x).echs = s.echs := rfl
@[simp] theorem State.setCtrl_binds (s : State) (n : Nat) (x : Option NvmeCtrl) : (s.setCtrl n x).binds = s.binds := rfl
@[simp] theorem State.setCtrl_evtLoop (s : State) (n : Nat) (x : Option NvmeCtrl) : (s.setCtrl n x).evtLoop = s.evtLoop := rfl
@[simp] theorem State.setCtrl_evtCoal (s : State) (n : Nat) (x : Option NvmeCtrl) : (s.setCtrl n x).evtCoal = s.evtCoal := rfl
@[simp] theorem State.setCtrl_hopLimit (s : State) (n : Nat) (x : Option NvmeCtrl) : (s.setCtrl n x).hopLimit = s.hopLimit := rfl
@[simp] theorem State.setCtrl_firings (s : State) (n : Nat) (x : Option NvmeCtrl) : (s.setCtrl n x).firings = s.firings := rfl
@[simp] theorem State.setCtrl_deliveries (s : State) (n : Nat) (x : Option NvmeCtrl) : (s.setCtrl n x).deliveries = s.deliveries := rfl
@[simp] theorem State.setCtrl_waitOrder (s : State) (n : Nat) (x : Option NvmeCtrl) : (s.setCtrl n x).waitOrder = s.waitOrder := rfl
@[simp] theorem State.setCtrl_ctls (s : State) (n : Nat) (x : Option NvmeCtrl) : (s.setCtrl n x).ctls = s.ctls := rfl
@[simp] theorem State.setCtrl_blocks (s : State) (n : Nat) (x : Option NvmeCtrl) : (s.setCtrl n x).blocks = s.blocks := rfl
@[simp] theorem State.setCtrl_regions (s : State) (n : Nat) (x : Option NvmeCtrl) : (s.setCtrl n x).regions = s.regions := rfl
@[simp] theorem State.setCtrl_chip (s : State) (n : Nat) (x : Option NvmeCtrl) : (s.setCtrl n x).chip = s.chip := rfl
@[simp] theorem State.setCtrl_cores (s : State) (n : Nat) (x : Option NvmeCtrl) : (s.setCtrl n x).cores = s.cores := rfl
@[simp] theorem State.setCtrl_locks (s : State) (n : Nat) (x : Option NvmeCtrl) : (s.setCtrl n x).locks = s.locks := rfl
@[simp] theorem State.setCtrl_sec (s : State) (n : Nat) (x : Option NvmeCtrl) : (s.setCtrl n x).sec = s.sec := rfl
@[simp] theorem State.setCtrl_power (s : State) (n : Nat) (x : Option NvmeCtrl) : (s.setCtrl n x).power = s.power := rfl
@[simp] theorem State.setCtrl_board (s : State) (n : Nat) (x : Option NvmeCtrl) : (s.setCtrl n x).board = s.board := rfl
@[simp] theorem State.setCtrl_wraps (s : State) (n : Nat) (x : Option NvmeCtrl) : (s.setCtrl n x).wraps = s.wraps := rfl
@[simp] theorem State.setCtrl_takes (s : State) (n : Nat) (x : Option NvmeCtrl) : (s.setCtrl n x).takes = s.takes := rfl
@[simp] theorem State.setCtrl_ringOrder (s : State) (n : Nat) (x : Option NvmeCtrl) : (s.setCtrl n x).ringOrder = s.ringOrder := rfl
@[simp] theorem State.setCtrl_rehomed (s : State) (n : Nat) (x : Option NvmeCtrl) : (s.setCtrl n x).rehomed = s.rehomed := rfl

@[simp] theorem State.setPch_pending (s : State) (n : Nat) (x : Pch) : (s.setPch n x).pending = s.pending := rfl
@[simp] theorem State.setPch_out (s : State) (n : Nat) (x : Pch) : (s.setPch n x).out = s.out := rfl
@[simp] theorem State.setPch_free (s : State) (n : Nat) (x : Pch) : (s.setPch n x).free = s.free := rfl
@[simp] theorem State.setPch_time (s : State) (n : Nat) (x : Pch) : (s.setPch n x).time = s.time := rfl
@[simp] theorem State.setPch_hbm (s : State) (n : Nat) (x : Pch) : (s.setPch n x).hbm = s.hbm := rfl
@[simp] theorem State.setPch_poison (s : State) (n : Nat) (x : Pch) : (s.setPch n x).poison = s.poison := rfl
@[simp] theorem State.setPch_hostMem (s : State) (n : Nat) (x : Pch) : (s.setPch n x).hostMem = s.hostMem := rfl
@[simp] theorem State.setPch_farMem (s : State) (n : Nat) (x : Pch) : (s.setPch n x).farMem = s.farMem := rfl
@[simp] theorem State.setPch_farPoison (s : State) (n : Nat) (x : Pch) : (s.setPch n x).farPoison = s.farPoison := rfl
@[simp] theorem State.setPch_store (s : State) (n : Nat) (x : Pch) : (s.setPch n x).store = s.store := rfl
@[simp] theorem State.setPch_fns (s : State) (n : Nat) (x : Pch) : (s.setPch n x).fns = s.fns := rfl
@[simp] theorem State.setPch_vfEnable (s : State) (n : Nat) (x : Pch) : (s.setPch n x).vfEnable = s.vfEnable := rfl
@[simp] theorem State.setPch_numVfs (s : State) (n : Nat) (x : Pch) : (s.setPch n x).numVfs = s.numVfs := rfl
@[simp] theorem State.setPch_ctxs (s : State) (n : Nat) (x : Pch) : (s.setPch n x).ctxs = s.ctxs := rfl
@[simp] theorem State.setPch_turns (s : State) (n : Nat) (x : Pch) : (s.setPch n x).turns = s.turns := rfl
@[simp] theorem State.setPch_sieves (s : State) (n : Nat) (x : Pch) : (s.setPch n x).sieves = s.sieves := rfl
@[simp] theorem State.setPch_nvms (s : State) (n : Nat) (x : Pch) : (s.setPch n x).nvms = s.nvms := rfl
@[simp] theorem State.setPch_ctrls (s : State) (n : Nat) (x : Pch) : (s.setPch n x).ctrls = s.ctrls := rfl
@[simp] theorem State.setPch_isets (s : State) (n : Nat) (x : Pch) : (s.setPch n x).isets = s.isets := rfl
@[simp] theorem State.setPch_farTimeout (s : State) (n : Nat) (x : Pch) : (s.setPch n x).farTimeout = s.farTimeout := rfl
@[simp] theorem State.setPch_links (s : State) (n : Nat) (x : Pch) : (s.setPch n x).links = s.links := rfl
@[simp] theorem State.setPch_extents (s : State) (n : Nat) (x : Pch) : (s.setPch n x).extents = s.extents := rfl
@[simp] theorem State.setPch_domain (s : State) (n : Nat) (x : Pch) : (s.setPch n x).domain = s.domain := rfl
@[simp] theorem State.setPch_echs (s : State) (n : Nat) (x : Pch) : (s.setPch n x).echs = s.echs := rfl
@[simp] theorem State.setPch_binds (s : State) (n : Nat) (x : Pch) : (s.setPch n x).binds = s.binds := rfl
@[simp] theorem State.setPch_evtLoop (s : State) (n : Nat) (x : Pch) : (s.setPch n x).evtLoop = s.evtLoop := rfl
@[simp] theorem State.setPch_evtCoal (s : State) (n : Nat) (x : Pch) : (s.setPch n x).evtCoal = s.evtCoal := rfl
@[simp] theorem State.setPch_hopLimit (s : State) (n : Nat) (x : Pch) : (s.setPch n x).hopLimit = s.hopLimit := rfl
@[simp] theorem State.setPch_firings (s : State) (n : Nat) (x : Pch) : (s.setPch n x).firings = s.firings := rfl
@[simp] theorem State.setPch_deliveries (s : State) (n : Nat) (x : Pch) : (s.setPch n x).deliveries = s.deliveries := rfl
@[simp] theorem State.setPch_waitOrder (s : State) (n : Nat) (x : Pch) : (s.setPch n x).waitOrder = s.waitOrder := rfl
@[simp] theorem State.setPch_ctls (s : State) (n : Nat) (x : Pch) : (s.setPch n x).ctls = s.ctls := rfl
@[simp] theorem State.setPch_blocks (s : State) (n : Nat) (x : Pch) : (s.setPch n x).blocks = s.blocks := rfl
@[simp] theorem State.setPch_regions (s : State) (n : Nat) (x : Pch) : (s.setPch n x).regions = s.regions := rfl
@[simp] theorem State.setPch_cores (s : State) (n : Nat) (x : Pch) : (s.setPch n x).cores = s.cores := rfl
@[simp] theorem State.setPch_locks (s : State) (n : Nat) (x : Pch) : (s.setPch n x).locks = s.locks := rfl
@[simp] theorem State.setPch_sec (s : State) (n : Nat) (x : Pch) : (s.setPch n x).sec = s.sec := rfl
@[simp] theorem State.setPch_power (s : State) (n : Nat) (x : Pch) : (s.setPch n x).power = s.power := rfl
@[simp] theorem State.setPch_board (s : State) (n : Nat) (x : Pch) : (s.setPch n x).board = s.board := rfl
@[simp] theorem State.setPch_wraps (s : State) (n : Nat) (x : Pch) : (s.setPch n x).wraps = s.wraps := rfl
@[simp] theorem State.setPch_takes (s : State) (n : Nat) (x : Pch) : (s.setPch n x).takes = s.takes := rfl
@[simp] theorem State.setPch_ringOrder (s : State) (n : Nat) (x : Pch) : (s.setPch n x).ringOrder = s.ringOrder := rfl
@[simp] theorem State.setPch_rehomed (s : State) (n : Nat) (x : Pch) : (s.setPch n x).rehomed = s.rehomed := rfl

@[simp] theorem State.at_pending (s : State) (t : Nat) : (s.at_ t).pending = s.pending := rfl
@[simp] theorem State.at_out (s : State) (t : Nat) : (s.at_ t).out = s.out := rfl
@[simp] theorem State.at_free (s : State) (t : Nat) : (s.at_ t).free = s.free := rfl
@[simp] theorem State.at_hbm (s : State) (t : Nat) : (s.at_ t).hbm = s.hbm := rfl
@[simp] theorem State.at_poison (s : State) (t : Nat) : (s.at_ t).poison = s.poison := rfl
@[simp] theorem State.at_hostMem (s : State) (t : Nat) : (s.at_ t).hostMem = s.hostMem := rfl
@[simp] theorem State.at_farMem (s : State) (t : Nat) : (s.at_ t).farMem = s.farMem := rfl
@[simp] theorem State.at_farPoison (s : State) (t : Nat) : (s.at_ t).farPoison = s.farPoison := rfl
@[simp] theorem State.at_store (s : State) (t : Nat) : (s.at_ t).store = s.store := rfl
@[simp] theorem State.at_fns (s : State) (t : Nat) : (s.at_ t).fns = s.fns := rfl
@[simp] theorem State.at_vfEnable (s : State) (t : Nat) : (s.at_ t).vfEnable = s.vfEnable := rfl
@[simp] theorem State.at_numVfs (s : State) (t : Nat) : (s.at_ t).numVfs = s.numVfs := rfl
@[simp] theorem State.at_ctxs (s : State) (t : Nat) : (s.at_ t).ctxs = s.ctxs := rfl
@[simp] theorem State.at_turns (s : State) (t : Nat) : (s.at_ t).turns = s.turns := rfl
@[simp] theorem State.at_sieves (s : State) (t : Nat) : (s.at_ t).sieves = s.sieves := rfl
@[simp] theorem State.at_nvms (s : State) (t : Nat) : (s.at_ t).nvms = s.nvms := rfl
@[simp] theorem State.at_ctrls (s : State) (t : Nat) : (s.at_ t).ctrls = s.ctrls := rfl
@[simp] theorem State.at_isets (s : State) (t : Nat) : (s.at_ t).isets = s.isets := rfl
@[simp] theorem State.at_farTimeout (s : State) (t : Nat) : (s.at_ t).farTimeout = s.farTimeout := rfl
@[simp] theorem State.at_links (s : State) (t : Nat) : (s.at_ t).links = s.links := rfl
@[simp] theorem State.at_extents (s : State) (t : Nat) : (s.at_ t).extents = s.extents := rfl
@[simp] theorem State.at_domain (s : State) (t : Nat) : (s.at_ t).domain = s.domain := rfl
@[simp] theorem State.at_echs (s : State) (t : Nat) : (s.at_ t).echs = s.echs := rfl
@[simp] theorem State.at_binds (s : State) (t : Nat) : (s.at_ t).binds = s.binds := rfl
@[simp] theorem State.at_evtLoop (s : State) (t : Nat) : (s.at_ t).evtLoop = s.evtLoop := rfl
@[simp] theorem State.at_evtCoal (s : State) (t : Nat) : (s.at_ t).evtCoal = s.evtCoal := rfl
@[simp] theorem State.at_hopLimit (s : State) (t : Nat) : (s.at_ t).hopLimit = s.hopLimit := rfl
@[simp] theorem State.at_firings (s : State) (t : Nat) : (s.at_ t).firings = s.firings := rfl
@[simp] theorem State.at_deliveries (s : State) (t : Nat) : (s.at_ t).deliveries = s.deliveries := rfl
@[simp] theorem State.at_waitOrder (s : State) (t : Nat) : (s.at_ t).waitOrder = s.waitOrder := rfl
@[simp] theorem State.at_ctls (s : State) (t : Nat) : (s.at_ t).ctls = s.ctls := rfl
@[simp] theorem State.at_blocks (s : State) (t : Nat) : (s.at_ t).blocks = s.blocks := rfl
@[simp] theorem State.at_regions (s : State) (t : Nat) : (s.at_ t).regions = s.regions := rfl
@[simp] theorem State.at_chip (s : State) (t : Nat) : (s.at_ t).chip = s.chip := rfl
@[simp] theorem State.at_cores (s : State) (t : Nat) : (s.at_ t).cores = s.cores := rfl
@[simp] theorem State.at_locks (s : State) (t : Nat) : (s.at_ t).locks = s.locks := rfl
@[simp] theorem State.at_sec (s : State) (t : Nat) : (s.at_ t).sec = s.sec := rfl
@[simp] theorem State.at_power (s : State) (t : Nat) : (s.at_ t).power = s.power := rfl
@[simp] theorem State.at_board (s : State) (t : Nat) : (s.at_ t).board = s.board := rfl
@[simp] theorem State.at_takes (s : State) (t : Nat) : (s.at_ t).takes = s.takes := rfl
@[simp] theorem State.at_ringOrder (s : State) (t : Nat) : (s.at_ t).ringOrder = s.ringOrder := rfl
@[simp] theorem State.at_rehomed (s : State) (t : Nat) : (s.at_ t).rehomed = s.rehomed := rfl

@[simp] theorem State.emit_pending (s : State) (o : Out) : (s.emit o).pending = s.pending := rfl
@[simp] theorem State.emit_free (s : State) (o : Out) : (s.emit o).free = s.free := rfl
@[simp] theorem State.emit_time (s : State) (o : Out) : (s.emit o).time = s.time := rfl
@[simp] theorem State.emit_hbm (s : State) (o : Out) : (s.emit o).hbm = s.hbm := rfl
@[simp] theorem State.emit_poison (s : State) (o : Out) : (s.emit o).poison = s.poison := rfl
@[simp] theorem State.emit_hostMem (s : State) (o : Out) : (s.emit o).hostMem = s.hostMem := rfl
@[simp] theorem State.emit_farMem (s : State) (o : Out) : (s.emit o).farMem = s.farMem := rfl
@[simp] theorem State.emit_farPoison (s : State) (o : Out) : (s.emit o).farPoison = s.farPoison := rfl
@[simp] theorem State.emit_store (s : State) (o : Out) : (s.emit o).store = s.store := rfl
@[simp] theorem State.emit_fns (s : State) (o : Out) : (s.emit o).fns = s.fns := rfl
@[simp] theorem State.emit_vfEnable (s : State) (o : Out) : (s.emit o).vfEnable = s.vfEnable := rfl
@[simp] theorem State.emit_numVfs (s : State) (o : Out) : (s.emit o).numVfs = s.numVfs := rfl
@[simp] theorem State.emit_ctxs (s : State) (o : Out) : (s.emit o).ctxs = s.ctxs := rfl
@[simp] theorem State.emit_turns (s : State) (o : Out) : (s.emit o).turns = s.turns := rfl
@[simp] theorem State.emit_sieves (s : State) (o : Out) : (s.emit o).sieves = s.sieves := rfl
@[simp] theorem State.emit_nvms (s : State) (o : Out) : (s.emit o).nvms = s.nvms := rfl
@[simp] theorem State.emit_ctrls (s : State) (o : Out) : (s.emit o).ctrls = s.ctrls := rfl
@[simp] theorem State.emit_isets (s : State) (o : Out) : (s.emit o).isets = s.isets := rfl
@[simp] theorem State.emit_farTimeout (s : State) (o : Out) : (s.emit o).farTimeout = s.farTimeout := rfl
@[simp] theorem State.emit_links (s : State) (o : Out) : (s.emit o).links = s.links := rfl
@[simp] theorem State.emit_extents (s : State) (o : Out) : (s.emit o).extents = s.extents := rfl
@[simp] theorem State.emit_domain (s : State) (o : Out) : (s.emit o).domain = s.domain := rfl
@[simp] theorem State.emit_echs (s : State) (o : Out) : (s.emit o).echs = s.echs := rfl
@[simp] theorem State.emit_binds (s : State) (o : Out) : (s.emit o).binds = s.binds := rfl
@[simp] theorem State.emit_evtLoop (s : State) (o : Out) : (s.emit o).evtLoop = s.evtLoop := rfl
@[simp] theorem State.emit_evtCoal (s : State) (o : Out) : (s.emit o).evtCoal = s.evtCoal := rfl
@[simp] theorem State.emit_hopLimit (s : State) (o : Out) : (s.emit o).hopLimit = s.hopLimit := rfl
@[simp] theorem State.emit_firings (s : State) (o : Out) : (s.emit o).firings = s.firings := rfl
@[simp] theorem State.emit_deliveries (s : State) (o : Out) : (s.emit o).deliveries = s.deliveries := rfl
@[simp] theorem State.emit_waitOrder (s : State) (o : Out) : (s.emit o).waitOrder = s.waitOrder := rfl
@[simp] theorem State.emit_ctls (s : State) (o : Out) : (s.emit o).ctls = s.ctls := rfl
@[simp] theorem State.emit_blocks (s : State) (o : Out) : (s.emit o).blocks = s.blocks := rfl
@[simp] theorem State.emit_regions (s : State) (o : Out) : (s.emit o).regions = s.regions := rfl
@[simp] theorem State.emit_chip (s : State) (o : Out) : (s.emit o).chip = s.chip := rfl
@[simp] theorem State.emit_cores (s : State) (o : Out) : (s.emit o).cores = s.cores := rfl
@[simp] theorem State.emit_locks (s : State) (o : Out) : (s.emit o).locks = s.locks := rfl
@[simp] theorem State.emit_sec (s : State) (o : Out) : (s.emit o).sec = s.sec := rfl
@[simp] theorem State.emit_power (s : State) (o : Out) : (s.emit o).power = s.power := rfl
@[simp] theorem State.emit_board (s : State) (o : Out) : (s.emit o).board = s.board := rfl
@[simp] theorem State.emit_wraps (s : State) (o : Out) : (s.emit o).wraps = s.wraps := rfl
@[simp] theorem State.emit_takes (s : State) (o : Out) : (s.emit o).takes = s.takes := rfl
@[simp] theorem State.emit_ringOrder (s : State) (o : Out) : (s.emit o).ringOrder = s.ringOrder := rfl
@[simp] theorem State.emit_rehomed (s : State) (o : Out) : (s.emit o).rehomed = s.rehomed := rfl

@[simp] theorem State.modFn_pending (s : State) (n : Nat) (g : Fn → Fn) : (s.modFn n g).pending = s.pending := rfl
@[simp] theorem State.modFn_out (s : State) (n : Nat) (g : Fn → Fn) : (s.modFn n g).out = s.out := rfl
@[simp] theorem State.modFn_free (s : State) (n : Nat) (g : Fn → Fn) : (s.modFn n g).free = s.free := rfl
@[simp] theorem State.modFn_time (s : State) (n : Nat) (g : Fn → Fn) : (s.modFn n g).time = s.time := rfl
@[simp] theorem State.modFn_hbm (s : State) (n : Nat) (g : Fn → Fn) : (s.modFn n g).hbm = s.hbm := rfl
@[simp] theorem State.modFn_poison (s : State) (n : Nat) (g : Fn → Fn) : (s.modFn n g).poison = s.poison := rfl
@[simp] theorem State.modFn_hostMem (s : State) (n : Nat) (g : Fn → Fn) : (s.modFn n g).hostMem = s.hostMem := rfl
@[simp] theorem State.modFn_farMem (s : State) (n : Nat) (g : Fn → Fn) : (s.modFn n g).farMem = s.farMem := rfl
@[simp] theorem State.modFn_farPoison (s : State) (n : Nat) (g : Fn → Fn) : (s.modFn n g).farPoison = s.farPoison := rfl
@[simp] theorem State.modFn_store (s : State) (n : Nat) (g : Fn → Fn) : (s.modFn n g).store = s.store := rfl
@[simp] theorem State.modFn_vfEnable (s : State) (n : Nat) (g : Fn → Fn) : (s.modFn n g).vfEnable = s.vfEnable := rfl
@[simp] theorem State.modFn_numVfs (s : State) (n : Nat) (g : Fn → Fn) : (s.modFn n g).numVfs = s.numVfs := rfl
@[simp] theorem State.modFn_ctxs (s : State) (n : Nat) (g : Fn → Fn) : (s.modFn n g).ctxs = s.ctxs := rfl
@[simp] theorem State.modFn_turns (s : State) (n : Nat) (g : Fn → Fn) : (s.modFn n g).turns = s.turns := rfl
@[simp] theorem State.modFn_sieves (s : State) (n : Nat) (g : Fn → Fn) : (s.modFn n g).sieves = s.sieves := rfl
@[simp] theorem State.modFn_nvms (s : State) (n : Nat) (g : Fn → Fn) : (s.modFn n g).nvms = s.nvms := rfl
@[simp] theorem State.modFn_ctrls (s : State) (n : Nat) (g : Fn → Fn) : (s.modFn n g).ctrls = s.ctrls := rfl
@[simp] theorem State.modFn_isets (s : State) (n : Nat) (g : Fn → Fn) : (s.modFn n g).isets = s.isets := rfl
@[simp] theorem State.modFn_farTimeout (s : State) (n : Nat) (g : Fn → Fn) : (s.modFn n g).farTimeout = s.farTimeout := rfl
@[simp] theorem State.modFn_links (s : State) (n : Nat) (g : Fn → Fn) : (s.modFn n g).links = s.links := rfl
@[simp] theorem State.modFn_extents (s : State) (n : Nat) (g : Fn → Fn) : (s.modFn n g).extents = s.extents := rfl
@[simp] theorem State.modFn_domain (s : State) (n : Nat) (g : Fn → Fn) : (s.modFn n g).domain = s.domain := rfl
@[simp] theorem State.modFn_echs (s : State) (n : Nat) (g : Fn → Fn) : (s.modFn n g).echs = s.echs := rfl
@[simp] theorem State.modFn_binds (s : State) (n : Nat) (g : Fn → Fn) : (s.modFn n g).binds = s.binds := rfl
@[simp] theorem State.modFn_evtLoop (s : State) (n : Nat) (g : Fn → Fn) : (s.modFn n g).evtLoop = s.evtLoop := rfl
@[simp] theorem State.modFn_evtCoal (s : State) (n : Nat) (g : Fn → Fn) : (s.modFn n g).evtCoal = s.evtCoal := rfl
@[simp] theorem State.modFn_hopLimit (s : State) (n : Nat) (g : Fn → Fn) : (s.modFn n g).hopLimit = s.hopLimit := rfl
@[simp] theorem State.modFn_firings (s : State) (n : Nat) (g : Fn → Fn) : (s.modFn n g).firings = s.firings := rfl
@[simp] theorem State.modFn_deliveries (s : State) (n : Nat) (g : Fn → Fn) : (s.modFn n g).deliveries = s.deliveries := rfl
@[simp] theorem State.modFn_waitOrder (s : State) (n : Nat) (g : Fn → Fn) : (s.modFn n g).waitOrder = s.waitOrder := rfl
@[simp] theorem State.modFn_ctls (s : State) (n : Nat) (g : Fn → Fn) : (s.modFn n g).ctls = s.ctls := rfl
@[simp] theorem State.modFn_blocks (s : State) (n : Nat) (g : Fn → Fn) : (s.modFn n g).blocks = s.blocks := rfl
@[simp] theorem State.modFn_regions (s : State) (n : Nat) (g : Fn → Fn) : (s.modFn n g).regions = s.regions := rfl
@[simp] theorem State.modFn_chip (s : State) (n : Nat) (g : Fn → Fn) : (s.modFn n g).chip = s.chip := rfl
@[simp] theorem State.modFn_cores (s : State) (n : Nat) (g : Fn → Fn) : (s.modFn n g).cores = s.cores := rfl
@[simp] theorem State.modFn_locks (s : State) (n : Nat) (g : Fn → Fn) : (s.modFn n g).locks = s.locks := rfl
@[simp] theorem State.modFn_sec (s : State) (n : Nat) (g : Fn → Fn) : (s.modFn n g).sec = s.sec := rfl
@[simp] theorem State.modFn_power (s : State) (n : Nat) (g : Fn → Fn) : (s.modFn n g).power = s.power := rfl
@[simp] theorem State.modFn_board (s : State) (n : Nat) (g : Fn → Fn) : (s.modFn n g).board = s.board := rfl
@[simp] theorem State.modFn_wraps (s : State) (n : Nat) (g : Fn → Fn) : (s.modFn n g).wraps = s.wraps := rfl
@[simp] theorem State.modFn_takes (s : State) (n : Nat) (g : Fn → Fn) : (s.modFn n g).takes = s.takes := rfl
@[simp] theorem State.modFn_ringOrder (s : State) (n : Nat) (g : Fn → Fn) : (s.modFn n g).ringOrder = s.ringOrder := rfl
@[simp] theorem State.modFn_rehomed (s : State) (n : Nat) (g : Fn → Fn) : (s.modFn n g).rehomed = s.rehomed := rfl

@[simp] theorem State.modCtx_pending (s : State) (n : Nat) (g : Ctx → Ctx) : (s.modCtx n g).pending = s.pending := rfl
@[simp] theorem State.modCtx_out (s : State) (n : Nat) (g : Ctx → Ctx) : (s.modCtx n g).out = s.out := rfl
@[simp] theorem State.modCtx_free (s : State) (n : Nat) (g : Ctx → Ctx) : (s.modCtx n g).free = s.free := rfl
@[simp] theorem State.modCtx_time (s : State) (n : Nat) (g : Ctx → Ctx) : (s.modCtx n g).time = s.time := rfl
@[simp] theorem State.modCtx_hbm (s : State) (n : Nat) (g : Ctx → Ctx) : (s.modCtx n g).hbm = s.hbm := rfl
@[simp] theorem State.modCtx_poison (s : State) (n : Nat) (g : Ctx → Ctx) : (s.modCtx n g).poison = s.poison := rfl
@[simp] theorem State.modCtx_hostMem (s : State) (n : Nat) (g : Ctx → Ctx) : (s.modCtx n g).hostMem = s.hostMem := rfl
@[simp] theorem State.modCtx_farMem (s : State) (n : Nat) (g : Ctx → Ctx) : (s.modCtx n g).farMem = s.farMem := rfl
@[simp] theorem State.modCtx_farPoison (s : State) (n : Nat) (g : Ctx → Ctx) : (s.modCtx n g).farPoison = s.farPoison := rfl
@[simp] theorem State.modCtx_store (s : State) (n : Nat) (g : Ctx → Ctx) : (s.modCtx n g).store = s.store := rfl
@[simp] theorem State.modCtx_fns (s : State) (n : Nat) (g : Ctx → Ctx) : (s.modCtx n g).fns = s.fns := rfl
@[simp] theorem State.modCtx_vfEnable (s : State) (n : Nat) (g : Ctx → Ctx) : (s.modCtx n g).vfEnable = s.vfEnable := rfl
@[simp] theorem State.modCtx_numVfs (s : State) (n : Nat) (g : Ctx → Ctx) : (s.modCtx n g).numVfs = s.numVfs := rfl
@[simp] theorem State.modCtx_turns (s : State) (n : Nat) (g : Ctx → Ctx) : (s.modCtx n g).turns = s.turns := rfl
@[simp] theorem State.modCtx_sieves (s : State) (n : Nat) (g : Ctx → Ctx) : (s.modCtx n g).sieves = s.sieves := rfl
@[simp] theorem State.modCtx_nvms (s : State) (n : Nat) (g : Ctx → Ctx) : (s.modCtx n g).nvms = s.nvms := rfl
@[simp] theorem State.modCtx_ctrls (s : State) (n : Nat) (g : Ctx → Ctx) : (s.modCtx n g).ctrls = s.ctrls := rfl
@[simp] theorem State.modCtx_isets (s : State) (n : Nat) (g : Ctx → Ctx) : (s.modCtx n g).isets = s.isets := rfl
@[simp] theorem State.modCtx_farTimeout (s : State) (n : Nat) (g : Ctx → Ctx) : (s.modCtx n g).farTimeout = s.farTimeout := rfl
@[simp] theorem State.modCtx_links (s : State) (n : Nat) (g : Ctx → Ctx) : (s.modCtx n g).links = s.links := rfl
@[simp] theorem State.modCtx_extents (s : State) (n : Nat) (g : Ctx → Ctx) : (s.modCtx n g).extents = s.extents := rfl
@[simp] theorem State.modCtx_domain (s : State) (n : Nat) (g : Ctx → Ctx) : (s.modCtx n g).domain = s.domain := rfl
@[simp] theorem State.modCtx_echs (s : State) (n : Nat) (g : Ctx → Ctx) : (s.modCtx n g).echs = s.echs := rfl
@[simp] theorem State.modCtx_binds (s : State) (n : Nat) (g : Ctx → Ctx) : (s.modCtx n g).binds = s.binds := rfl
@[simp] theorem State.modCtx_evtLoop (s : State) (n : Nat) (g : Ctx → Ctx) : (s.modCtx n g).evtLoop = s.evtLoop := rfl
@[simp] theorem State.modCtx_evtCoal (s : State) (n : Nat) (g : Ctx → Ctx) : (s.modCtx n g).evtCoal = s.evtCoal := rfl
@[simp] theorem State.modCtx_hopLimit (s : State) (n : Nat) (g : Ctx → Ctx) : (s.modCtx n g).hopLimit = s.hopLimit := rfl
@[simp] theorem State.modCtx_firings (s : State) (n : Nat) (g : Ctx → Ctx) : (s.modCtx n g).firings = s.firings := rfl
@[simp] theorem State.modCtx_deliveries (s : State) (n : Nat) (g : Ctx → Ctx) : (s.modCtx n g).deliveries = s.deliveries := rfl
@[simp] theorem State.modCtx_waitOrder (s : State) (n : Nat) (g : Ctx → Ctx) : (s.modCtx n g).waitOrder = s.waitOrder := rfl
@[simp] theorem State.modCtx_ctls (s : State) (n : Nat) (g : Ctx → Ctx) : (s.modCtx n g).ctls = s.ctls := rfl
@[simp] theorem State.modCtx_blocks (s : State) (n : Nat) (g : Ctx → Ctx) : (s.modCtx n g).blocks = s.blocks := rfl
@[simp] theorem State.modCtx_regions (s : State) (n : Nat) (g : Ctx → Ctx) : (s.modCtx n g).regions = s.regions := rfl
@[simp] theorem State.modCtx_chip (s : State) (n : Nat) (g : Ctx → Ctx) : (s.modCtx n g).chip = s.chip := rfl
@[simp] theorem State.modCtx_cores (s : State) (n : Nat) (g : Ctx → Ctx) : (s.modCtx n g).cores = s.cores := rfl
@[simp] theorem State.modCtx_locks (s : State) (n : Nat) (g : Ctx → Ctx) : (s.modCtx n g).locks = s.locks := rfl
@[simp] theorem State.modCtx_sec (s : State) (n : Nat) (g : Ctx → Ctx) : (s.modCtx n g).sec = s.sec := rfl
@[simp] theorem State.modCtx_power (s : State) (n : Nat) (g : Ctx → Ctx) : (s.modCtx n g).power = s.power := rfl
@[simp] theorem State.modCtx_board (s : State) (n : Nat) (g : Ctx → Ctx) : (s.modCtx n g).board = s.board := rfl
@[simp] theorem State.modCtx_wraps (s : State) (n : Nat) (g : Ctx → Ctx) : (s.modCtx n g).wraps = s.wraps := rfl
@[simp] theorem State.modCtx_takes (s : State) (n : Nat) (g : Ctx → Ctx) : (s.modCtx n g).takes = s.takes := rfl
@[simp] theorem State.modCtx_ringOrder (s : State) (n : Nat) (g : Ctx → Ctx) : (s.modCtx n g).ringOrder = s.ringOrder := rfl
@[simp] theorem State.modCtx_rehomed (s : State) (n : Nat) (g : Ctx → Ctx) : (s.modCtx n g).rehomed = s.rehomed := rfl

@[simp] theorem State.modBlock_pending (s : State) (n : Nat) (g : Block → Block) : (s.modBlock n g).pending = s.pending := rfl
@[simp] theorem State.modBlock_out (s : State) (n : Nat) (g : Block → Block) : (s.modBlock n g).out = s.out := rfl
@[simp] theorem State.modBlock_free (s : State) (n : Nat) (g : Block → Block) : (s.modBlock n g).free = s.free := rfl
@[simp] theorem State.modBlock_time (s : State) (n : Nat) (g : Block → Block) : (s.modBlock n g).time = s.time := rfl
@[simp] theorem State.modBlock_hbm (s : State) (n : Nat) (g : Block → Block) : (s.modBlock n g).hbm = s.hbm := rfl
@[simp] theorem State.modBlock_poison (s : State) (n : Nat) (g : Block → Block) : (s.modBlock n g).poison = s.poison := rfl
@[simp] theorem State.modBlock_hostMem (s : State) (n : Nat) (g : Block → Block) : (s.modBlock n g).hostMem = s.hostMem := rfl
@[simp] theorem State.modBlock_farMem (s : State) (n : Nat) (g : Block → Block) : (s.modBlock n g).farMem = s.farMem := rfl
@[simp] theorem State.modBlock_farPoison (s : State) (n : Nat) (g : Block → Block) : (s.modBlock n g).farPoison = s.farPoison := rfl
@[simp] theorem State.modBlock_store (s : State) (n : Nat) (g : Block → Block) : (s.modBlock n g).store = s.store := rfl
@[simp] theorem State.modBlock_fns (s : State) (n : Nat) (g : Block → Block) : (s.modBlock n g).fns = s.fns := rfl
@[simp] theorem State.modBlock_vfEnable (s : State) (n : Nat) (g : Block → Block) : (s.modBlock n g).vfEnable = s.vfEnable := rfl
@[simp] theorem State.modBlock_numVfs (s : State) (n : Nat) (g : Block → Block) : (s.modBlock n g).numVfs = s.numVfs := rfl
@[simp] theorem State.modBlock_ctxs (s : State) (n : Nat) (g : Block → Block) : (s.modBlock n g).ctxs = s.ctxs := rfl
@[simp] theorem State.modBlock_turns (s : State) (n : Nat) (g : Block → Block) : (s.modBlock n g).turns = s.turns := rfl
@[simp] theorem State.modBlock_sieves (s : State) (n : Nat) (g : Block → Block) : (s.modBlock n g).sieves = s.sieves := rfl
@[simp] theorem State.modBlock_nvms (s : State) (n : Nat) (g : Block → Block) : (s.modBlock n g).nvms = s.nvms := rfl
@[simp] theorem State.modBlock_ctrls (s : State) (n : Nat) (g : Block → Block) : (s.modBlock n g).ctrls = s.ctrls := rfl
@[simp] theorem State.modBlock_isets (s : State) (n : Nat) (g : Block → Block) : (s.modBlock n g).isets = s.isets := rfl
@[simp] theorem State.modBlock_farTimeout (s : State) (n : Nat) (g : Block → Block) : (s.modBlock n g).farTimeout = s.farTimeout := rfl
@[simp] theorem State.modBlock_links (s : State) (n : Nat) (g : Block → Block) : (s.modBlock n g).links = s.links := rfl
@[simp] theorem State.modBlock_extents (s : State) (n : Nat) (g : Block → Block) : (s.modBlock n g).extents = s.extents := rfl
@[simp] theorem State.modBlock_domain (s : State) (n : Nat) (g : Block → Block) : (s.modBlock n g).domain = s.domain := rfl
@[simp] theorem State.modBlock_echs (s : State) (n : Nat) (g : Block → Block) : (s.modBlock n g).echs = s.echs := rfl
@[simp] theorem State.modBlock_binds (s : State) (n : Nat) (g : Block → Block) : (s.modBlock n g).binds = s.binds := rfl
@[simp] theorem State.modBlock_evtLoop (s : State) (n : Nat) (g : Block → Block) : (s.modBlock n g).evtLoop = s.evtLoop := rfl
@[simp] theorem State.modBlock_evtCoal (s : State) (n : Nat) (g : Block → Block) : (s.modBlock n g).evtCoal = s.evtCoal := rfl
@[simp] theorem State.modBlock_hopLimit (s : State) (n : Nat) (g : Block → Block) : (s.modBlock n g).hopLimit = s.hopLimit := rfl
@[simp] theorem State.modBlock_firings (s : State) (n : Nat) (g : Block → Block) : (s.modBlock n g).firings = s.firings := rfl
@[simp] theorem State.modBlock_deliveries (s : State) (n : Nat) (g : Block → Block) : (s.modBlock n g).deliveries = s.deliveries := rfl
@[simp] theorem State.modBlock_waitOrder (s : State) (n : Nat) (g : Block → Block) : (s.modBlock n g).waitOrder = s.waitOrder := rfl
@[simp] theorem State.modBlock_ctls (s : State) (n : Nat) (g : Block → Block) : (s.modBlock n g).ctls = s.ctls := rfl
@[simp] theorem State.modBlock_regions (s : State) (n : Nat) (g : Block → Block) : (s.modBlock n g).regions = s.regions := rfl
@[simp] theorem State.modBlock_chip (s : State) (n : Nat) (g : Block → Block) : (s.modBlock n g).chip = s.chip := rfl
@[simp] theorem State.modBlock_cores (s : State) (n : Nat) (g : Block → Block) : (s.modBlock n g).cores = s.cores := rfl
@[simp] theorem State.modBlock_locks (s : State) (n : Nat) (g : Block → Block) : (s.modBlock n g).locks = s.locks := rfl
@[simp] theorem State.modBlock_sec (s : State) (n : Nat) (g : Block → Block) : (s.modBlock n g).sec = s.sec := rfl
@[simp] theorem State.modBlock_power (s : State) (n : Nat) (g : Block → Block) : (s.modBlock n g).power = s.power := rfl
@[simp] theorem State.modBlock_board (s : State) (n : Nat) (g : Block → Block) : (s.modBlock n g).board = s.board := rfl
@[simp] theorem State.modBlock_wraps (s : State) (n : Nat) (g : Block → Block) : (s.modBlock n g).wraps = s.wraps := rfl
@[simp] theorem State.modBlock_takes (s : State) (n : Nat) (g : Block → Block) : (s.modBlock n g).takes = s.takes := rfl
@[simp] theorem State.modBlock_ringOrder (s : State) (n : Nat) (g : Block → Block) : (s.modBlock n g).ringOrder = s.ringOrder := rfl
@[simp] theorem State.modBlock_rehomed (s : State) (n : Nat) (g : Block → Block) : (s.modBlock n g).rehomed = s.rehomed := rfl

@[simp] theorem State.at_time (s : State) (t : Nat) : (s.at_ t).time = t % timeMod := rfl
@[simp] theorem State.emit_out (s : State) (o : Out) : (s.emit o).out = s.out ++ [o] := rfl

@[simp] theorem State.fn_setFn_same (s : State) (n : Nat) (x : Fn) : (s.setFn n x).fn n = x := Sys2Proof.Laws.table_get_set_same _ _ _ _
theorem State.fn_setFn_ne (s : State) (n k : Nat) (x : Fn) (h : k ≠ n) : (s.setFn n x).fn k = s.fn k := Sys2Proof.Laws.table_get_set_ne _ _ _ _ _ h
@[simp] theorem State.fn_modFn_same (s : State) (n : Nat) (h : Fn → Fn) : (s.modFn n h).fn n = h (s.fn n) := State.fn_setFn_same _ _ _
theorem State.fn_modFn_ne (s : State) (n k : Nat) (h : Fn → Fn) (e : k ≠ n) : (s.modFn n h).fn k = s.fn k := State.fn_setFn_ne _ _ _ _ e
@[simp] theorem State.ctx_setCtx_same (s : State) (n : Nat) (x : Ctx) : (s.setCtx n x).ctx n = x := Sys2Proof.Laws.table_get_set_same _ _ _ _
theorem State.ctx_setCtx_ne (s : State) (n k : Nat) (x : Ctx) (h : k ≠ n) : (s.setCtx n x).ctx k = s.ctx k := Sys2Proof.Laws.table_get_set_ne _ _ _ _ _ h
@[simp] theorem State.ctx_modCtx_same (s : State) (n : Nat) (h : Ctx → Ctx) : (s.modCtx n h).ctx n = h (s.ctx n) := State.ctx_setCtx_same _ _ _
theorem State.ctx_modCtx_ne (s : State) (n k : Nat) (h : Ctx → Ctx) (e : k ≠ n) : (s.modCtx n h).ctx k = s.ctx k := State.ctx_setCtx_ne _ _ _ _ e
@[simp] theorem State.ech_setEch_same (s : State) (n : Nat) (x : Ech) : (s.setEch n x).ech n = x := Sys2Proof.Laws.table_get_set_same _ _ _ _
theorem State.ech_setEch_ne (s : State) (n k : Nat) (x : Ech) (h : k ≠ n) : (s.setEch n x).ech k = s.ech k := Sys2Proof.Laws.table_get_set_ne _ _ _ _ _ h
@[simp] theorem State.ctl_setCtl_same (s : State) (n : Nat) (x : Ictl) : (s.setCtl n x).ctl n = x := Sys2Proof.Laws.table_get_set_same _ _ _ _
theorem State.ctl_setCtl_ne (s : State) (n k : Nat) (x : Ictl) (h : k ≠ n) : (s.setCtl n x).ctl k = s.ctl k := Sys2Proof.Laws.table_get_set_ne _ _ _ _ _ h
@[simp] theorem State.block_setBlock_same (s : State) (n : Nat) (x : Block) : (s.setBlock n x).block n = x := Sys2Proof.Laws.table_get_set_same _ _ _ _
theorem State.block_setBlock_ne (s : State) (n k : Nat) (x : Block) (h : k ≠ n) : (s.setBlock n x).block k = s.block k := Sys2Proof.Laws.table_get_set_ne _ _ _ _ _ h
@[simp] theorem State.block_modBlock_same (s : State) (n : Nat) (h : Block → Block) : (s.modBlock n h).block n = h (s.block n) := State.block_setBlock_same _ _ _
theorem State.block_modBlock_ne (s : State) (n k : Nat) (h : Block → Block) (e : k ≠ n) : (s.modBlock n h).block k = s.block k := State.block_setBlock_ne _ _ _ _ e
@[simp] theorem State.region_setRegion_same (s : State) (n : Nat) (x : Region) : (s.setRegion n x).region n = x := Sys2Proof.Laws.table_get_set_same _ _ _ _
theorem State.region_setRegion_ne (s : State) (n k : Nat) (x : Region) (h : k ≠ n) : (s.setRegion n x).region k = s.region k := Sys2Proof.Laws.table_get_set_ne _ _ _ _ _ h
@[simp] theorem State.link_setLink_same (s : State) (n : Nat) (x : Link) : (s.setLink n x).link n = x := Sys2Proof.Laws.table_get_set_same _ _ _ _
theorem State.link_setLink_ne (s : State) (n k : Nat) (x : Link) (h : k ≠ n) : (s.setLink n x).link k = s.link k := Sys2Proof.Laws.table_get_set_ne _ _ _ _ _ h
@[simp] theorem State.core_setCore_same (s : State) (n : Nat) (x : Core) : (s.setCore n x).core n = x := Sys2Proof.Laws.table_get_set_same _ _ _ _
theorem State.core_setCore_ne (s : State) (n k : Nat) (x : Core) (h : k ≠ n) : (s.setCore n x).core k = s.core k := Sys2Proof.Laws.table_get_set_ne _ _ _ _ _ h
@[simp] theorem State.sieve_setSieve_same (s : State) (n : Nat) (x : Option SieveHandle) : (s.setSieve n x).sieve n = x := Sys2Proof.Laws.table_get_set_same _ _ _ _
theorem State.sieve_setSieve_ne (s : State) (n k : Nat) (x : Option SieveHandle) (h : k ≠ n) : (s.setSieve n x).sieve k = s.sieve k := Sys2Proof.Laws.table_get_set_ne _ _ _ _ _ h
@[simp] theorem State.nvm_setNvm_same (s : State) (n : Nat) (x : Option NvmHandle) : (s.setNvm n x).nvm n = x := Sys2Proof.Laws.table_get_set_same _ _ _ _
theorem State.nvm_setNvm_ne (s : State) (n k : Nat) (x : Option NvmHandle) (h : k ≠ n) : (s.setNvm n x).nvm k = s.nvm k := Sys2Proof.Laws.table_get_set_ne _ _ _ _ _ h
@[simp] theorem State.ctrl_setCtrl_same (s : State) (n : Nat) (x : Option NvmeCtrl) : (s.setCtrl n x).ctrl n = x := Sys2Proof.Laws.table_get_set_same _ _ _ _
theorem State.ctrl_setCtrl_ne (s : State) (n k : Nat) (x : Option NvmeCtrl) (h : k ≠ n) : (s.setCtrl n x).ctrl k = s.ctrl k := Sys2Proof.Laws.table_get_set_ne _ _ _ _ _ h
@[simp] theorem State.pch_setPch_same (s : State) (n : Nat) (x : Pch) : (s.setPch n x).pch n = x := Sys2Proof.Laws.table_get_set_same _ _ _ _
theorem State.pch_setPch_ne (s : State) (n k : Nat) (x : Pch) (h : k ≠ n) : (s.setPch n x).pch k = s.pch k := Sys2Proof.Laws.table_get_set_ne _ _ _ _ _ h

@[simp] theorem State.setFn_ctx (s : State) (n : Nat) (x : Fn) (k : Nat) : (s.setFn n x).ctx k = s.ctx k := rfl
@[simp] theorem State.setFn_ech (s : State) (n : Nat) (x : Fn) (k : Nat) : (s.setFn n x).ech k = s.ech k := rfl
@[simp] theorem State.setFn_ctl (s : State) (n : Nat) (x : Fn) (k : Nat) : (s.setFn n x).ctl k = s.ctl k := rfl
@[simp] theorem State.setFn_block (s : State) (n : Nat) (x : Fn) (k : Nat) : (s.setFn n x).block k = s.block k := rfl
@[simp] theorem State.setFn_region (s : State) (n : Nat) (x : Fn) (k : Nat) : (s.setFn n x).region k = s.region k := rfl
@[simp] theorem State.setFn_link (s : State) (n : Nat) (x : Fn) (k : Nat) : (s.setFn n x).link k = s.link k := rfl
@[simp] theorem State.setFn_core (s : State) (n : Nat) (x : Fn) (k : Nat) : (s.setFn n x).core k = s.core k := rfl
@[simp] theorem State.setFn_sieve (s : State) (n : Nat) (x : Fn) (k : Nat) : (s.setFn n x).sieve k = s.sieve k := rfl
@[simp] theorem State.setFn_nvm (s : State) (n : Nat) (x : Fn) (k : Nat) : (s.setFn n x).nvm k = s.nvm k := rfl
@[simp] theorem State.setFn_ctrl (s : State) (n : Nat) (x : Fn) (k : Nat) : (s.setFn n x).ctrl k = s.ctrl k := rfl
@[simp] theorem State.setFn_pch (s : State) (n : Nat) (x : Fn) (k : Nat) : (s.setFn n x).pch k = s.pch k := rfl
@[simp] theorem State.setCtx_fn (s : State) (n : Nat) (x : Ctx) (k : Nat) : (s.setCtx n x).fn k = s.fn k := rfl
@[simp] theorem State.setCtx_ech (s : State) (n : Nat) (x : Ctx) (k : Nat) : (s.setCtx n x).ech k = s.ech k := rfl
@[simp] theorem State.setCtx_ctl (s : State) (n : Nat) (x : Ctx) (k : Nat) : (s.setCtx n x).ctl k = s.ctl k := rfl
@[simp] theorem State.setCtx_block (s : State) (n : Nat) (x : Ctx) (k : Nat) : (s.setCtx n x).block k = s.block k := rfl
@[simp] theorem State.setCtx_region (s : State) (n : Nat) (x : Ctx) (k : Nat) : (s.setCtx n x).region k = s.region k := rfl
@[simp] theorem State.setCtx_link (s : State) (n : Nat) (x : Ctx) (k : Nat) : (s.setCtx n x).link k = s.link k := rfl
@[simp] theorem State.setCtx_core (s : State) (n : Nat) (x : Ctx) (k : Nat) : (s.setCtx n x).core k = s.core k := rfl
@[simp] theorem State.setCtx_sieve (s : State) (n : Nat) (x : Ctx) (k : Nat) : (s.setCtx n x).sieve k = s.sieve k := rfl
@[simp] theorem State.setCtx_nvm (s : State) (n : Nat) (x : Ctx) (k : Nat) : (s.setCtx n x).nvm k = s.nvm k := rfl
@[simp] theorem State.setCtx_ctrl (s : State) (n : Nat) (x : Ctx) (k : Nat) : (s.setCtx n x).ctrl k = s.ctrl k := rfl
@[simp] theorem State.setCtx_pch (s : State) (n : Nat) (x : Ctx) (k : Nat) : (s.setCtx n x).pch k = s.pch k := rfl
@[simp] theorem State.setEch_fn (s : State) (n : Nat) (x : Ech) (k : Nat) : (s.setEch n x).fn k = s.fn k := rfl
@[simp] theorem State.setEch_ctx (s : State) (n : Nat) (x : Ech) (k : Nat) : (s.setEch n x).ctx k = s.ctx k := rfl
@[simp] theorem State.setEch_ctl (s : State) (n : Nat) (x : Ech) (k : Nat) : (s.setEch n x).ctl k = s.ctl k := rfl
@[simp] theorem State.setEch_block (s : State) (n : Nat) (x : Ech) (k : Nat) : (s.setEch n x).block k = s.block k := rfl
@[simp] theorem State.setEch_region (s : State) (n : Nat) (x : Ech) (k : Nat) : (s.setEch n x).region k = s.region k := rfl
@[simp] theorem State.setEch_link (s : State) (n : Nat) (x : Ech) (k : Nat) : (s.setEch n x).link k = s.link k := rfl
@[simp] theorem State.setEch_core (s : State) (n : Nat) (x : Ech) (k : Nat) : (s.setEch n x).core k = s.core k := rfl
@[simp] theorem State.setEch_sieve (s : State) (n : Nat) (x : Ech) (k : Nat) : (s.setEch n x).sieve k = s.sieve k := rfl
@[simp] theorem State.setEch_nvm (s : State) (n : Nat) (x : Ech) (k : Nat) : (s.setEch n x).nvm k = s.nvm k := rfl
@[simp] theorem State.setEch_ctrl (s : State) (n : Nat) (x : Ech) (k : Nat) : (s.setEch n x).ctrl k = s.ctrl k := rfl
@[simp] theorem State.setEch_pch (s : State) (n : Nat) (x : Ech) (k : Nat) : (s.setEch n x).pch k = s.pch k := rfl
@[simp] theorem State.setBind_fn (s : State) (n i : Nat) (x : EvtBind) (k : Nat) : (s.setBind n i x).fn k = s.fn k := rfl
@[simp] theorem State.setBind_ctx (s : State) (n i : Nat) (x : EvtBind) (k : Nat) : (s.setBind n i x).ctx k = s.ctx k := rfl
@[simp] theorem State.setBind_ech (s : State) (n i : Nat) (x : EvtBind) (k : Nat) : (s.setBind n i x).ech k = s.ech k := rfl
@[simp] theorem State.setBind_ctl (s : State) (n i : Nat) (x : EvtBind) (k : Nat) : (s.setBind n i x).ctl k = s.ctl k := rfl
@[simp] theorem State.setBind_block (s : State) (n i : Nat) (x : EvtBind) (k : Nat) : (s.setBind n i x).block k = s.block k := rfl
@[simp] theorem State.setBind_region (s : State) (n i : Nat) (x : EvtBind) (k : Nat) : (s.setBind n i x).region k = s.region k := rfl
@[simp] theorem State.setBind_link (s : State) (n i : Nat) (x : EvtBind) (k : Nat) : (s.setBind n i x).link k = s.link k := rfl
@[simp] theorem State.setBind_core (s : State) (n i : Nat) (x : EvtBind) (k : Nat) : (s.setBind n i x).core k = s.core k := rfl
@[simp] theorem State.setBind_sieve (s : State) (n i : Nat) (x : EvtBind) (k : Nat) : (s.setBind n i x).sieve k = s.sieve k := rfl
@[simp] theorem State.setBind_nvm (s : State) (n i : Nat) (x : EvtBind) (k : Nat) : (s.setBind n i x).nvm k = s.nvm k := rfl
@[simp] theorem State.setBind_ctrl (s : State) (n i : Nat) (x : EvtBind) (k : Nat) : (s.setBind n i x).ctrl k = s.ctrl k := rfl
@[simp] theorem State.setBind_pch (s : State) (n i : Nat) (x : EvtBind) (k : Nat) : (s.setBind n i x).pch k = s.pch k := rfl
@[simp] theorem State.setCtl_fn (s : State) (n : Nat) (x : Ictl) (k : Nat) : (s.setCtl n x).fn k = s.fn k := rfl
@[simp] theorem State.setCtl_ctx (s : State) (n : Nat) (x : Ictl) (k : Nat) : (s.setCtl n x).ctx k = s.ctx k := rfl
@[simp] theorem State.setCtl_ech (s : State) (n : Nat) (x : Ictl) (k : Nat) : (s.setCtl n x).ech k = s.ech k := rfl
@[simp] theorem State.setCtl_block (s : State) (n : Nat) (x : Ictl) (k : Nat) : (s.setCtl n x).block k = s.block k := rfl
@[simp] theorem State.setCtl_region (s : State) (n : Nat) (x : Ictl) (k : Nat) : (s.setCtl n x).region k = s.region k := rfl
@[simp] theorem State.setCtl_link (s : State) (n : Nat) (x : Ictl) (k : Nat) : (s.setCtl n x).link k = s.link k := rfl
@[simp] theorem State.setCtl_core (s : State) (n : Nat) (x : Ictl) (k : Nat) : (s.setCtl n x).core k = s.core k := rfl
@[simp] theorem State.setCtl_sieve (s : State) (n : Nat) (x : Ictl) (k : Nat) : (s.setCtl n x).sieve k = s.sieve k := rfl
@[simp] theorem State.setCtl_nvm (s : State) (n : Nat) (x : Ictl) (k : Nat) : (s.setCtl n x).nvm k = s.nvm k := rfl
@[simp] theorem State.setCtl_ctrl (s : State) (n : Nat) (x : Ictl) (k : Nat) : (s.setCtl n x).ctrl k = s.ctrl k := rfl
@[simp] theorem State.setCtl_pch (s : State) (n : Nat) (x : Ictl) (k : Nat) : (s.setCtl n x).pch k = s.pch k := rfl
@[simp] theorem State.setBlock_fn (s : State) (n : Nat) (x : Block) (k : Nat) : (s.setBlock n x).fn k = s.fn k := rfl
@[simp] theorem State.setBlock_ctx (s : State) (n : Nat) (x : Block) (k : Nat) : (s.setBlock n x).ctx k = s.ctx k := rfl
@[simp] theorem State.setBlock_ech (s : State) (n : Nat) (x : Block) (k : Nat) : (s.setBlock n x).ech k = s.ech k := rfl
@[simp] theorem State.setBlock_ctl (s : State) (n : Nat) (x : Block) (k : Nat) : (s.setBlock n x).ctl k = s.ctl k := rfl
@[simp] theorem State.setBlock_region (s : State) (n : Nat) (x : Block) (k : Nat) : (s.setBlock n x).region k = s.region k := rfl
@[simp] theorem State.setBlock_link (s : State) (n : Nat) (x : Block) (k : Nat) : (s.setBlock n x).link k = s.link k := rfl
@[simp] theorem State.setBlock_core (s : State) (n : Nat) (x : Block) (k : Nat) : (s.setBlock n x).core k = s.core k := rfl
@[simp] theorem State.setBlock_sieve (s : State) (n : Nat) (x : Block) (k : Nat) : (s.setBlock n x).sieve k = s.sieve k := rfl
@[simp] theorem State.setBlock_nvm (s : State) (n : Nat) (x : Block) (k : Nat) : (s.setBlock n x).nvm k = s.nvm k := rfl
@[simp] theorem State.setBlock_ctrl (s : State) (n : Nat) (x : Block) (k : Nat) : (s.setBlock n x).ctrl k = s.ctrl k := rfl
@[simp] theorem State.setBlock_pch (s : State) (n : Nat) (x : Block) (k : Nat) : (s.setBlock n x).pch k = s.pch k := rfl
@[simp] theorem State.setRegion_fn (s : State) (n : Nat) (x : Region) (k : Nat) : (s.setRegion n x).fn k = s.fn k := rfl
@[simp] theorem State.setRegion_ctx (s : State) (n : Nat) (x : Region) (k : Nat) : (s.setRegion n x).ctx k = s.ctx k := rfl
@[simp] theorem State.setRegion_ech (s : State) (n : Nat) (x : Region) (k : Nat) : (s.setRegion n x).ech k = s.ech k := rfl
@[simp] theorem State.setRegion_ctl (s : State) (n : Nat) (x : Region) (k : Nat) : (s.setRegion n x).ctl k = s.ctl k := rfl
@[simp] theorem State.setRegion_block (s : State) (n : Nat) (x : Region) (k : Nat) : (s.setRegion n x).block k = s.block k := rfl
@[simp] theorem State.setRegion_link (s : State) (n : Nat) (x : Region) (k : Nat) : (s.setRegion n x).link k = s.link k := rfl
@[simp] theorem State.setRegion_core (s : State) (n : Nat) (x : Region) (k : Nat) : (s.setRegion n x).core k = s.core k := rfl
@[simp] theorem State.setRegion_sieve (s : State) (n : Nat) (x : Region) (k : Nat) : (s.setRegion n x).sieve k = s.sieve k := rfl
@[simp] theorem State.setRegion_nvm (s : State) (n : Nat) (x : Region) (k : Nat) : (s.setRegion n x).nvm k = s.nvm k := rfl
@[simp] theorem State.setRegion_ctrl (s : State) (n : Nat) (x : Region) (k : Nat) : (s.setRegion n x).ctrl k = s.ctrl k := rfl
@[simp] theorem State.setRegion_pch (s : State) (n : Nat) (x : Region) (k : Nat) : (s.setRegion n x).pch k = s.pch k := rfl
@[simp] theorem State.setLink_fn (s : State) (n : Nat) (x : Link) (k : Nat) : (s.setLink n x).fn k = s.fn k := rfl
@[simp] theorem State.setLink_ctx (s : State) (n : Nat) (x : Link) (k : Nat) : (s.setLink n x).ctx k = s.ctx k := rfl
@[simp] theorem State.setLink_ech (s : State) (n : Nat) (x : Link) (k : Nat) : (s.setLink n x).ech k = s.ech k := rfl
@[simp] theorem State.setLink_ctl (s : State) (n : Nat) (x : Link) (k : Nat) : (s.setLink n x).ctl k = s.ctl k := rfl
@[simp] theorem State.setLink_block (s : State) (n : Nat) (x : Link) (k : Nat) : (s.setLink n x).block k = s.block k := rfl
@[simp] theorem State.setLink_region (s : State) (n : Nat) (x : Link) (k : Nat) : (s.setLink n x).region k = s.region k := rfl
@[simp] theorem State.setLink_core (s : State) (n : Nat) (x : Link) (k : Nat) : (s.setLink n x).core k = s.core k := rfl
@[simp] theorem State.setLink_sieve (s : State) (n : Nat) (x : Link) (k : Nat) : (s.setLink n x).sieve k = s.sieve k := rfl
@[simp] theorem State.setLink_nvm (s : State) (n : Nat) (x : Link) (k : Nat) : (s.setLink n x).nvm k = s.nvm k := rfl
@[simp] theorem State.setLink_ctrl (s : State) (n : Nat) (x : Link) (k : Nat) : (s.setLink n x).ctrl k = s.ctrl k := rfl
@[simp] theorem State.setLink_pch (s : State) (n : Nat) (x : Link) (k : Nat) : (s.setLink n x).pch k = s.pch k := rfl
@[simp] theorem State.setCore_fn (s : State) (n : Nat) (x : Core) (k : Nat) : (s.setCore n x).fn k = s.fn k := rfl
@[simp] theorem State.setCore_ctx (s : State) (n : Nat) (x : Core) (k : Nat) : (s.setCore n x).ctx k = s.ctx k := rfl
@[simp] theorem State.setCore_ech (s : State) (n : Nat) (x : Core) (k : Nat) : (s.setCore n x).ech k = s.ech k := rfl
@[simp] theorem State.setCore_ctl (s : State) (n : Nat) (x : Core) (k : Nat) : (s.setCore n x).ctl k = s.ctl k := rfl
@[simp] theorem State.setCore_block (s : State) (n : Nat) (x : Core) (k : Nat) : (s.setCore n x).block k = s.block k := rfl
@[simp] theorem State.setCore_region (s : State) (n : Nat) (x : Core) (k : Nat) : (s.setCore n x).region k = s.region k := rfl
@[simp] theorem State.setCore_link (s : State) (n : Nat) (x : Core) (k : Nat) : (s.setCore n x).link k = s.link k := rfl
@[simp] theorem State.setCore_sieve (s : State) (n : Nat) (x : Core) (k : Nat) : (s.setCore n x).sieve k = s.sieve k := rfl
@[simp] theorem State.setCore_nvm (s : State) (n : Nat) (x : Core) (k : Nat) : (s.setCore n x).nvm k = s.nvm k := rfl
@[simp] theorem State.setCore_ctrl (s : State) (n : Nat) (x : Core) (k : Nat) : (s.setCore n x).ctrl k = s.ctrl k := rfl
@[simp] theorem State.setCore_pch (s : State) (n : Nat) (x : Core) (k : Nat) : (s.setCore n x).pch k = s.pch k := rfl
@[simp] theorem State.setSieve_fn (s : State) (n : Nat) (x : Option SieveHandle) (k : Nat) : (s.setSieve n x).fn k = s.fn k := rfl
@[simp] theorem State.setSieve_ctx (s : State) (n : Nat) (x : Option SieveHandle) (k : Nat) : (s.setSieve n x).ctx k = s.ctx k := rfl
@[simp] theorem State.setSieve_ech (s : State) (n : Nat) (x : Option SieveHandle) (k : Nat) : (s.setSieve n x).ech k = s.ech k := rfl
@[simp] theorem State.setSieve_ctl (s : State) (n : Nat) (x : Option SieveHandle) (k : Nat) : (s.setSieve n x).ctl k = s.ctl k := rfl
@[simp] theorem State.setSieve_block (s : State) (n : Nat) (x : Option SieveHandle) (k : Nat) : (s.setSieve n x).block k = s.block k := rfl
@[simp] theorem State.setSieve_region (s : State) (n : Nat) (x : Option SieveHandle) (k : Nat) : (s.setSieve n x).region k = s.region k := rfl
@[simp] theorem State.setSieve_link (s : State) (n : Nat) (x : Option SieveHandle) (k : Nat) : (s.setSieve n x).link k = s.link k := rfl
@[simp] theorem State.setSieve_core (s : State) (n : Nat) (x : Option SieveHandle) (k : Nat) : (s.setSieve n x).core k = s.core k := rfl
@[simp] theorem State.setSieve_nvm (s : State) (n : Nat) (x : Option SieveHandle) (k : Nat) : (s.setSieve n x).nvm k = s.nvm k := rfl
@[simp] theorem State.setSieve_ctrl (s : State) (n : Nat) (x : Option SieveHandle) (k : Nat) : (s.setSieve n x).ctrl k = s.ctrl k := rfl
@[simp] theorem State.setSieve_pch (s : State) (n : Nat) (x : Option SieveHandle) (k : Nat) : (s.setSieve n x).pch k = s.pch k := rfl
@[simp] theorem State.setNvm_fn (s : State) (n : Nat) (x : Option NvmHandle) (k : Nat) : (s.setNvm n x).fn k = s.fn k := rfl
@[simp] theorem State.setNvm_ctx (s : State) (n : Nat) (x : Option NvmHandle) (k : Nat) : (s.setNvm n x).ctx k = s.ctx k := rfl
@[simp] theorem State.setNvm_ech (s : State) (n : Nat) (x : Option NvmHandle) (k : Nat) : (s.setNvm n x).ech k = s.ech k := rfl
@[simp] theorem State.setNvm_ctl (s : State) (n : Nat) (x : Option NvmHandle) (k : Nat) : (s.setNvm n x).ctl k = s.ctl k := rfl
@[simp] theorem State.setNvm_block (s : State) (n : Nat) (x : Option NvmHandle) (k : Nat) : (s.setNvm n x).block k = s.block k := rfl
@[simp] theorem State.setNvm_region (s : State) (n : Nat) (x : Option NvmHandle) (k : Nat) : (s.setNvm n x).region k = s.region k := rfl
@[simp] theorem State.setNvm_link (s : State) (n : Nat) (x : Option NvmHandle) (k : Nat) : (s.setNvm n x).link k = s.link k := rfl
@[simp] theorem State.setNvm_core (s : State) (n : Nat) (x : Option NvmHandle) (k : Nat) : (s.setNvm n x).core k = s.core k := rfl
@[simp] theorem State.setNvm_sieve (s : State) (n : Nat) (x : Option NvmHandle) (k : Nat) : (s.setNvm n x).sieve k = s.sieve k := rfl
@[simp] theorem State.setNvm_ctrl (s : State) (n : Nat) (x : Option NvmHandle) (k : Nat) : (s.setNvm n x).ctrl k = s.ctrl k := rfl
@[simp] theorem State.setNvm_pch (s : State) (n : Nat) (x : Option NvmHandle) (k : Nat) : (s.setNvm n x).pch k = s.pch k := rfl
@[simp] theorem State.setCtrl_fn (s : State) (n : Nat) (x : Option NvmeCtrl) (k : Nat) : (s.setCtrl n x).fn k = s.fn k := rfl
@[simp] theorem State.setCtrl_ctx (s : State) (n : Nat) (x : Option NvmeCtrl) (k : Nat) : (s.setCtrl n x).ctx k = s.ctx k := rfl
@[simp] theorem State.setCtrl_ech (s : State) (n : Nat) (x : Option NvmeCtrl) (k : Nat) : (s.setCtrl n x).ech k = s.ech k := rfl
@[simp] theorem State.setCtrl_ctl (s : State) (n : Nat) (x : Option NvmeCtrl) (k : Nat) : (s.setCtrl n x).ctl k = s.ctl k := rfl
@[simp] theorem State.setCtrl_block (s : State) (n : Nat) (x : Option NvmeCtrl) (k : Nat) : (s.setCtrl n x).block k = s.block k := rfl
@[simp] theorem State.setCtrl_region (s : State) (n : Nat) (x : Option NvmeCtrl) (k : Nat) : (s.setCtrl n x).region k = s.region k := rfl
@[simp] theorem State.setCtrl_link (s : State) (n : Nat) (x : Option NvmeCtrl) (k : Nat) : (s.setCtrl n x).link k = s.link k := rfl
@[simp] theorem State.setCtrl_core (s : State) (n : Nat) (x : Option NvmeCtrl) (k : Nat) : (s.setCtrl n x).core k = s.core k := rfl
@[simp] theorem State.setCtrl_sieve (s : State) (n : Nat) (x : Option NvmeCtrl) (k : Nat) : (s.setCtrl n x).sieve k = s.sieve k := rfl
@[simp] theorem State.setCtrl_nvm (s : State) (n : Nat) (x : Option NvmeCtrl) (k : Nat) : (s.setCtrl n x).nvm k = s.nvm k := rfl
@[simp] theorem State.setCtrl_pch (s : State) (n : Nat) (x : Option NvmeCtrl) (k : Nat) : (s.setCtrl n x).pch k = s.pch k := rfl
@[simp] theorem State.setPch_fn (s : State) (n : Nat) (x : Pch) (k : Nat) : (s.setPch n x).fn k = s.fn k := rfl
@[simp] theorem State.setPch_ctx (s : State) (n : Nat) (x : Pch) (k : Nat) : (s.setPch n x).ctx k = s.ctx k := rfl
@[simp] theorem State.setPch_ech (s : State) (n : Nat) (x : Pch) (k : Nat) : (s.setPch n x).ech k = s.ech k := rfl
@[simp] theorem State.setPch_ctl (s : State) (n : Nat) (x : Pch) (k : Nat) : (s.setPch n x).ctl k = s.ctl k := rfl
@[simp] theorem State.setPch_block (s : State) (n : Nat) (x : Pch) (k : Nat) : (s.setPch n x).block k = s.block k := rfl
@[simp] theorem State.setPch_region (s : State) (n : Nat) (x : Pch) (k : Nat) : (s.setPch n x).region k = s.region k := rfl
@[simp] theorem State.setPch_link (s : State) (n : Nat) (x : Pch) (k : Nat) : (s.setPch n x).link k = s.link k := rfl
@[simp] theorem State.setPch_core (s : State) (n : Nat) (x : Pch) (k : Nat) : (s.setPch n x).core k = s.core k := rfl
@[simp] theorem State.setPch_sieve (s : State) (n : Nat) (x : Pch) (k : Nat) : (s.setPch n x).sieve k = s.sieve k := rfl
@[simp] theorem State.setPch_nvm (s : State) (n : Nat) (x : Pch) (k : Nat) : (s.setPch n x).nvm k = s.nvm k := rfl
@[simp] theorem State.setPch_ctrl (s : State) (n : Nat) (x : Pch) (k : Nat) : (s.setPch n x).ctrl k = s.ctrl k := rfl
@[simp] theorem State.at_fn (s : State) (t : Nat) (k : Nat) : (s.at_ t).fn k = s.fn k := rfl
@[simp] theorem State.at_ctx (s : State) (t : Nat) (k : Nat) : (s.at_ t).ctx k = s.ctx k := rfl
@[simp] theorem State.at_ech (s : State) (t : Nat) (k : Nat) : (s.at_ t).ech k = s.ech k := rfl
@[simp] theorem State.at_ctl (s : State) (t : Nat) (k : Nat) : (s.at_ t).ctl k = s.ctl k := rfl
@[simp] theorem State.at_block (s : State) (t : Nat) (k : Nat) : (s.at_ t).block k = s.block k := rfl
@[simp] theorem State.at_region (s : State) (t : Nat) (k : Nat) : (s.at_ t).region k = s.region k := rfl
@[simp] theorem State.at_link (s : State) (t : Nat) (k : Nat) : (s.at_ t).link k = s.link k := rfl
@[simp] theorem State.at_core (s : State) (t : Nat) (k : Nat) : (s.at_ t).core k = s.core k := rfl
@[simp] theorem State.at_sieve (s : State) (t : Nat) (k : Nat) : (s.at_ t).sieve k = s.sieve k := rfl
@[simp] theorem State.at_nvm (s : State) (t : Nat) (k : Nat) : (s.at_ t).nvm k = s.nvm k := rfl
@[simp] theorem State.at_ctrl (s : State) (t : Nat) (k : Nat) : (s.at_ t).ctrl k = s.ctrl k := rfl
@[simp] theorem State.at_pch (s : State) (t : Nat) (k : Nat) : (s.at_ t).pch k = s.pch k := rfl
@[simp] theorem State.emit_fn (s : State) (o : Out) (k : Nat) : (s.emit o).fn k = s.fn k := rfl
@[simp] theorem State.emit_ctx (s : State) (o : Out) (k : Nat) : (s.emit o).ctx k = s.ctx k := rfl
@[simp] theorem State.emit_ech (s : State) (o : Out) (k : Nat) : (s.emit o).ech k = s.ech k := rfl
@[simp] theorem State.emit_ctl (s : State) (o : Out) (k : Nat) : (s.emit o).ctl k = s.ctl k := rfl
@[simp] theorem State.emit_block (s : State) (o : Out) (k : Nat) : (s.emit o).block k = s.block k := rfl
@[simp] theorem State.emit_region (s : State) (o : Out) (k : Nat) : (s.emit o).region k = s.region k := rfl
@[simp] theorem State.emit_link (s : State) (o : Out) (k : Nat) : (s.emit o).link k = s.link k := rfl
@[simp] theorem State.emit_core (s : State) (o : Out) (k : Nat) : (s.emit o).core k = s.core k := rfl
@[simp] theorem State.emit_sieve (s : State) (o : Out) (k : Nat) : (s.emit o).sieve k = s.sieve k := rfl
@[simp] theorem State.emit_nvm (s : State) (o : Out) (k : Nat) : (s.emit o).nvm k = s.nvm k := rfl
@[simp] theorem State.emit_ctrl (s : State) (o : Out) (k : Nat) : (s.emit o).ctrl k = s.ctrl k := rfl
@[simp] theorem State.emit_pch (s : State) (o : Out) (k : Nat) : (s.emit o).pch k = s.pch k := rfl
@[simp] theorem State.modFn_ctx (s : State) (n : Nat) (g : Fn → Fn) (k : Nat) : (s.modFn n g).ctx k = s.ctx k := rfl
@[simp] theorem State.modFn_ech (s : State) (n : Nat) (g : Fn → Fn) (k : Nat) : (s.modFn n g).ech k = s.ech k := rfl
@[simp] theorem State.modFn_ctl (s : State) (n : Nat) (g : Fn → Fn) (k : Nat) : (s.modFn n g).ctl k = s.ctl k := rfl
@[simp] theorem State.modFn_block (s : State) (n : Nat) (g : Fn → Fn) (k : Nat) : (s.modFn n g).block k = s.block k := rfl
@[simp] theorem State.modFn_region (s : State) (n : Nat) (g : Fn → Fn) (k : Nat) : (s.modFn n g).region k = s.region k := rfl
@[simp] theorem State.modFn_link (s : State) (n : Nat) (g : Fn → Fn) (k : Nat) : (s.modFn n g).link k = s.link k := rfl
@[simp] theorem State.modFn_core (s : State) (n : Nat) (g : Fn → Fn) (k : Nat) : (s.modFn n g).core k = s.core k := rfl
@[simp] theorem State.modFn_sieve (s : State) (n : Nat) (g : Fn → Fn) (k : Nat) : (s.modFn n g).sieve k = s.sieve k := rfl
@[simp] theorem State.modFn_nvm (s : State) (n : Nat) (g : Fn → Fn) (k : Nat) : (s.modFn n g).nvm k = s.nvm k := rfl
@[simp] theorem State.modFn_ctrl (s : State) (n : Nat) (g : Fn → Fn) (k : Nat) : (s.modFn n g).ctrl k = s.ctrl k := rfl
@[simp] theorem State.modFn_pch (s : State) (n : Nat) (g : Fn → Fn) (k : Nat) : (s.modFn n g).pch k = s.pch k := rfl
@[simp] theorem State.modCtx_fn (s : State) (n : Nat) (g : Ctx → Ctx) (k : Nat) : (s.modCtx n g).fn k = s.fn k := rfl
@[simp] theorem State.modCtx_ech (s : State) (n : Nat) (g : Ctx → Ctx) (k : Nat) : (s.modCtx n g).ech k = s.ech k := rfl
@[simp] theorem State.modCtx_ctl (s : State) (n : Nat) (g : Ctx → Ctx) (k : Nat) : (s.modCtx n g).ctl k = s.ctl k := rfl
@[simp] theorem State.modCtx_block (s : State) (n : Nat) (g : Ctx → Ctx) (k : Nat) : (s.modCtx n g).block k = s.block k := rfl
@[simp] theorem State.modCtx_region (s : State) (n : Nat) (g : Ctx → Ctx) (k : Nat) : (s.modCtx n g).region k = s.region k := rfl
@[simp] theorem State.modCtx_link (s : State) (n : Nat) (g : Ctx → Ctx) (k : Nat) : (s.modCtx n g).link k = s.link k := rfl
@[simp] theorem State.modCtx_core (s : State) (n : Nat) (g : Ctx → Ctx) (k : Nat) : (s.modCtx n g).core k = s.core k := rfl
@[simp] theorem State.modCtx_sieve (s : State) (n : Nat) (g : Ctx → Ctx) (k : Nat) : (s.modCtx n g).sieve k = s.sieve k := rfl
@[simp] theorem State.modCtx_nvm (s : State) (n : Nat) (g : Ctx → Ctx) (k : Nat) : (s.modCtx n g).nvm k = s.nvm k := rfl
@[simp] theorem State.modCtx_ctrl (s : State) (n : Nat) (g : Ctx → Ctx) (k : Nat) : (s.modCtx n g).ctrl k = s.ctrl k := rfl
@[simp] theorem State.modCtx_pch (s : State) (n : Nat) (g : Ctx → Ctx) (k : Nat) : (s.modCtx n g).pch k = s.pch k := rfl
@[simp] theorem State.modBlock_fn (s : State) (n : Nat) (g : Block → Block) (k : Nat) : (s.modBlock n g).fn k = s.fn k := rfl
@[simp] theorem State.modBlock_ctx (s : State) (n : Nat) (g : Block → Block) (k : Nat) : (s.modBlock n g).ctx k = s.ctx k := rfl
@[simp] theorem State.modBlock_ech (s : State) (n : Nat) (g : Block → Block) (k : Nat) : (s.modBlock n g).ech k = s.ech k := rfl
@[simp] theorem State.modBlock_ctl (s : State) (n : Nat) (g : Block → Block) (k : Nat) : (s.modBlock n g).ctl k = s.ctl k := rfl
@[simp] theorem State.modBlock_region (s : State) (n : Nat) (g : Block → Block) (k : Nat) : (s.modBlock n g).region k = s.region k := rfl
@[simp] theorem State.modBlock_link (s : State) (n : Nat) (g : Block → Block) (k : Nat) : (s.modBlock n g).link k = s.link k := rfl
@[simp] theorem State.modBlock_core (s : State) (n : Nat) (g : Block → Block) (k : Nat) : (s.modBlock n g).core k = s.core k := rfl
@[simp] theorem State.modBlock_sieve (s : State) (n : Nat) (g : Block → Block) (k : Nat) : (s.modBlock n g).sieve k = s.sieve k := rfl
@[simp] theorem State.modBlock_nvm (s : State) (n : Nat) (g : Block → Block) (k : Nat) : (s.modBlock n g).nvm k = s.nvm k := rfl
@[simp] theorem State.modBlock_ctrl (s : State) (n : Nat) (g : Block → Block) (k : Nat) : (s.modBlock n g).ctrl k = s.ctrl k := rfl
@[simp] theorem State.modBlock_pch (s : State) (n : Nat) (g : Block → Block) (k : Nat) : (s.modBlock n g).pch k = s.pch k := rfl

/-- With no slot emptied, a context has its home (05 R165). -/
@[simp] theorem ctxHomed_nil (n : Nat) : ctxHomed [] n = ctxDef n := rfl

/-- An emptied slot changes nothing but the slot of a context's reset value (05 R166). -/
theorem ctxHomed_frame (moved : List (Nat × Nat)) (n : Nat) :
    ctxHomed moved n = { ctxDef n with r := { (ctxDef n).r with slot := (ctxHomed moved n).r.slot } } := by
  unfold ctxHomed
  split <;> rfl

end Sys2Proof.Machine
end

