-- ==== Sys2Proof/Tests/Slice0.lean ====
section
/-! SUPPORT. The session's own tests: ill-formed commands that the check refuses, for every statement with hypotheses a state and operands
that meet them, and small checks of single operations against the spec's tables. -/

namespace Sys2Proof.Tests

set_option Elab.async false

open Sys2Proof.Machine

/-! ### Ill-formed commands -/

/-- A command for each check of WellFormed, at the last instance that exists. -/
theorem test_wf_accepts_last_instances : (
  [.flr 255, .resume 0 4095 0 {}, .sense 0 0 65535 {}, .nop 0xFFFFF {}, .coastEntry (2 ^ 48 - 1), .lodgeScrub 71, .coreWake 451,
   .linkDown 23, .claimRead 8 3, .claimRead 7 1, .stuckSource 8 1023 0, .stuckSource 7 127 0, .pendSet 8 31 0, .pendSet 7 3 0,
   .substitutionEnd 7, .railMonRead 7, .pchStatRead 127, .sieveInit 451 65535 0, .nvmeControllerReady 95, .flagClear 4095,
   .vectorFiringArrival 0 2047 0, .moverUnitStart 71 7, .copy 0 0 7, .rcStop 0 0 1, .fhStatRead 0 63, .migrationPoint 0 0 7 .balance,
   .gtTimerExpiry 0 15 0, .evtBindWrite 0 3 0, .flLaneRead 0 7, .domainTimeout 31 0, .tempRead 15, .srHeadWrite 0 15 0,
   .barResize 4, .barResize 8, .vfEnableSet 255] : List Instr).all Instr.wf = true := by
  decide +kernel

/-- The same checks one instance further. -/
theorem test_wf_refuses_missing_instances : ((
  [.flr 256, .resume 0 4096 0 {}, .sense 0 0 65536 {}, .nop 0x100000 {}, .coastEntry (2 ^ 48), .lodgeScrub 72, .coreWake 452,
   .linkDown 24, .claimRead 9 0, .claimRead 8 4, .claimRead 7 2, .stuckSource 8 1024 0, .stuckSource 7 128 0, .pendSet 8 32 0,
   .pendSet 7 4 0, .substitutionEnd 8, .railMonRead 8, .pchStatRead 128, .sieveInit 0 65536 0, .nvmeControllerReady 96,
   .flagClear 4096, .vectorFiringArrival 0 2048 0, .moverUnitStart 0 8, .copy 0 0 8, .rcStop 0 0 2, .fhStatRead 0 64,
   .migrationPoint 0 0 8 .balance, .gtTimerExpiry 0 16 0, .evtBindWrite 0 4 0, .flLaneRead 0 8, .domainTimeout 32 0, .tempRead 16,
   .srHeadWrite 0 16 0, .barResize 3, .barResize 9, .vfEnableSet 256] : List Instr).any Instr.wf) = false := by
  decide +kernel

/-- No row of the table has bits, so no word spells a command. -/
theorem test_no_row_has_bits : decodeTableWord 32 0x12345678 = none := by decide

/-! ### Small states -/

/-- The command acts: it answers a next state that is not the state before. -/
def acts (i : Instr) (s : State) : Bool := match exec i s with | .next t => !(decide (t.free = s.free) && decide (t = s)) | _ => false

/-- The command answers a next state that passes the check. -/
def nextIs (r : Res) (p : State → Bool) : Bool := match r with | .next t => p t | _ => false

/-- The 48 bytes of an entry for context 5 of kind `k` with LEN 2 and tag 7. -/
def entryBytes (k kfl addr : Nat) : List Byte :=
  [0x82, BitVec.ofNat 8 k, 7, 0] ++ leBytes 4 (5 + kfl * 0x100000) ++ leBytes 8 addr ++ zeros 32

/-- That entry, taken from slot 3 of queue 1. -/
def entryOf (k kfl addr : Nat) : Taken := { q := 1, slot := 3, bytes := entryBytes k kfl addr }

/-- Queue 1 of FN[0], in host or local placement, with status ring 2 bound. -/
def queueOf (loc : Bool) : Queue := { base := 0x10000, logSize := 6, loc := loc, pollK := 0, ring := some 2, chipId := some 9, stage := .due 0 }

/-- FN[0] with queue 1, status ring 2 and the given entries. -/
def fnWith (loc : Bool) (es : List Taken) : Fn :=
  { fnDef 0 with busMaster := true, taken := es, queues := [(1, some (queueOf loc))],
                 rings := [(2, some { base := 0x20000, logSize := 6, loc := false })] }

/-- Context 5 of FN[0] in a state, a phase and with a command. -/
def ctxWith (st : Byte) (ph : Phase) (c : Cmd) : Ctx :=
  { ctxDef 5 with r := { (ctxDef 5).r with state := st }, phase := ph, cmd := c, pc := 0x1000, next := some (0, 0x1020) }

/-- The block after reset, with that context. -/
def running (st : Byte) (ph : Phase) (c : Cmd) : State := (State.reset.setFn 0 (fnWith false [])).setCtx 5 (ctxWith st ph c)

/-- Context 5 of FN[0] executes a command. -/
def executing (c : Cmd) : State := running stActive .exec c

/-- FN[0] has taken the entry, and context 5 is in the state given. -/
def withEntry (t : Taken) (st : Byte) : State := (State.reset.setFn 0 (fnWith false [t])).setCtx 5 (ctxWith st .none {})

/-! ### Witnesses: states and operands that meet the hypotheses of the statements -/

theorem witness_StepRunsFrontCommand :
    ({ State.reset with pending := [.idcode, .clamp] } : State).pending = .idcode :: [.clamp] := by decide +kernel

theorem witness_StepOnEmptyQueue : State.reset.pending = [] ∧ (∀ p ∈ State.reset.fns, p.2.state ≠ 2) := by decide +kernel

theorem witness_StepKeepsByteMapsCanonical :
    let s : State := { State.reset with hbm := [(5, 7)], hostMem := [(9, 1)] }
    s.memWf = true ∧ nextIs (step s) (fun t => !decide (t = s)) = true := by decide +kernel

theorem witness_BytesReadAsWritten :
    ([3, 4] : List Byte)[1]? = some 4 ∧ (9 : Nat) < 10 ∧ 10 + ([3, 4] : List Byte).length ≤ 12 := by decide +kernel

theorem witness_CommandBytesRoundTrip : (zeros 32).length = 32 := by decide +kernel

theorem witness_LittleEndianFields : (0xFFFF : Nat) < 256 ^ 2 ∧ (0 : Nat) < 256 ^ 0 := by decide +kernel

theorem witness_StartStartsProgram :
    let e := entryOf 1 1 0x7FE0
    let s := withEntry e stIdle
    (s.fn 0).waits 1 3 1 = some e ∧ s.entryOpen 0 e = true ∧ s.substituted e.ctx = false ∧ s.notAllotted 0 e.ctx = false ∧
    (s.ctx e.ctx).r.state = stIdle ∧ e.badAddress = false ∧ (s.fn 0).state = 0 := by decide +kernel

theorem witness_EntriesOfAnAllottedContext :
    let e := entryOf 2 0 0
    let s := withEntry e stHeld
    (s.fn 0).waits 1 3 2 = some e ∧ s.entryOpen 0 e = true ∧ s.notAllotted 0 e.ctx = false ∧ (s.ctx e.ctx).r.state = stHeld ∧
    (s.ctx e.ctx).ended = none ∧ (s.ctx e.ctx).chain = false := by decide +kernel

theorem witness_EntriesOfAnAllottedContext_halt : ∀ st ∈ [stIdle, stPending, stHeld, stQueued, stActive, stHalting], ∀ sus ∈ [false, true],
    let e := entryOf 3 (b2n sus) 0
    let s := withEntry e st
    (s.fn 0).waits 1 3 3 = some e ∧ s.entryOpen 0 e = true ∧ bit e.kflags 0 = sus ∧ s.notAllotted 0 e.ctx = false ∧
    (s.ctx e.ctx).r.state ≠ stFrozen := by decide +kernel

theorem witness_EntriesOfAnAllottedContext_clear : ∀ k ∈ [4, 5], ∀ st ∈ [stIdle, stActive],
    let e := entryOf k 0 0
    let s := withEntry e st
    (s.fn 0).waits 1 3 k = some e ∧ s.entryOpen 0 e = true ∧ s.up = true ∧ (s.fn 0).oldest e = true ∧
    s.notAllotted 0 e.ctx = false ∧ (s.ctx e.ctx).r.state ≠ stFrozen := by decide +kernel

theorem witness_CompletionRecordWritten : ∀ loc ∈ [false, true], ∀ wrap ∈ [false, true],
    let e := entryOf (if wrap then 6 else 7) 0 0
    let s := State.reset.setFn 0 (fnWith loc [e])
    (s.fn 0).waits 1 3 (if wrap then 6 else 7) = some e ∧ s.up = true ∧ (s.fn 0).queue e.q = some (queueOf loc) ∧ (s.fn 0).state = 0 ∧
    ((queueOf loc).loc = true ∨ (s.fn 0).stopped = false) ∧ ({} : Wr).comp = none ∧ e.bytes.length = 16 * (e.len + 1) := by decide +kernel

theorem witness_DispatchTurnGiven : ∀ lodged ∈ [false, true],
    let s := (running stQueued .ready {}).setCtx 5 { ctxWith stQueued .ready {} with lodged := lodged }
    s.turn 5 = some 5 ∧ s.turnOpen 5 = true ∧ (s.ctx 5).lodged = lodged ∧ (s.ctx 5).r.supervisor = false := by decide +kernel

theorem witness_RecordsAndReadAheadsArrive :
    (running stQueued .lodging {}).up = true ∧ ((running stQueued .lodging {}).ctx 5).phase = .lodging := by decide +kernel

/-- Eight commands fit from the first of an aligned block on, one from its last; a reported failure makes the read fail. -/
theorem witness_RecordsAndReadAheadsArrive_ahead : ∀ fs ∈ [[], [{ space := 0, addr := 0x10E0, len := 8, why := .ats }]],
    ∀ p ∈ [((0x1000 : W64), 8), (0x10E0, 1)],
    let c : Ctx := { ctxWith stActive .fetch {} with pc := p.1, fails := fs }
    let s := (running stActive .fetch {}).setCtx 5 c
    s.up = true ∧ (s.ctx 5).phase = .fetch ∧ 1 ≤ p.2 ∧ p.2 ≤ (256 - c.pc.toNat % 256) / 32 ∧
    (s.readRange (c.who 0) c.space.toNat c.pc.toNat (32 * p.2)).2.isSome = !fs.isEmpty := by decide +kernel

/-- A demand fetch from memory, and of a supervisor context's command from a read-ahead copy. -/
theorem witness_FetchedCommandBegins :
    let s := running stActive .fetch {}
    let c := s.ctx 5
    s.up = true ∧ c.phase = .fetch ∧ (s.fn c.r.ownerFn.toNat).stopped = false ∧
    (s.tellFetch 5).readRange (c.who 0) c.space.toNat c.pc.toNat 32 = (zeros 32, none) ∧
    (∀ p ∈ c.readAhead, ¬(p.1 = c.space.toNat ∧ p.2.1 = c.pc)) ∧
    ([((0 : Nat), (0x1000 : W64), zeros 32)].find? fun p => decide (p.1 = c.space.toNat) && decide (p.2.1 = c.pc)) =
      some (0, 0x1000, zeros 32) := by decide +kernel

/-- One NOPROG below the budget the command begins, at the budget it does not. -/
theorem witness_FetchedCommandBegins_budget : ∀ n ∈ [65535, 65536],
    let cmd : Cmd := { op := 0x30, flags := 1 }
    let s := (running stActive .fetch {}).modCtx 5 fun c => { c with r := { c.r with noprog := BitVec.ofNat 32 n } }
    let c := s.ctx 5
    let s1 := s.modCtx 5 fun c => { c with fails := [] }
    c.rest = .none ∧ (c.r.noprog < c.r.budget ↔ n = 65535) ∧ (c.r.budget ≤ c.r.noprog ↔ n = 65536) ∧ s.earlyCheck 5 cmd = none ∧
    cmd.readsFirst = false ∧ s1.resourceCheck 5 cmd cmd.inlineHandle (c.chain && !c.noHold) = none ∧ s1.eventDenied 5 cmd = false ∧
    cmd.hold = false := by decide +kernel

/-- A block of host memory of FN[0]. -/
def hostAt (a : Nat) (bs : List Byte) (s : State) : State := { s with hostMem := s.hostMem.writeN (s.hostKey 0 a) bs }

/-- The context's command waits for its descriptor, which stands at 0x4000. -/
def awaiting (c : Cmd) (bs : List Byte) : State := hostAt 0x4000 bs (running stActive .desc c)

/-- A layout of one field: 4 bytes at offset 0 of a row of 8. -/
def layoutBytes : List Byte := [1, 0, 8, 0] ++ zeros 28 ++ [0, 0, 4, 0] ++ zeros 12

theorem witness_DescriptorsAreReadFirst_layout : ∀ op ∈ [0xA, 0xB],
    let s := awaiting { op := BitVec.ofNat 8 op, c := 0x4000 } layoutBytes
    let c := s.ctx 5
    let hdr := layoutBytes.take 32
    s.up = true ∧ c.phase = .desc ∧ (c.cmd.opn = 0xA ∨ c.cmd.opn = 0xB) ∧ s.readRange c.me 0 0x4000 32 = (hdr, none) ∧
    layoutLen hdr = some 48 ∧ s.readRange c.me 0 0x4020 16 = (layoutBytes.drop 32, none) ∧ layoutOk layoutBytes 0 0 = true := by
  decide +kernel

/-- A range descriptor of one term over records of 64 bytes, whose map header stands at 0x5000: one column, runs of 4,096 records, one run. -/
def rangeBytes : List Byte :=
  leBytes 8 0x5000 ++ [3, 0, 0, 0, 0, 0, 64, 0] ++ zeros 4 ++ [1, 0, 0, 0] ++ zeros 8 ++ [0, 0, 0, 8] ++ zeros 28

def mapHeader : List Byte := [1, 12, 0, 0, 1, 0, 0, 0] ++ zeros 24

theorem witness_DescriptorsAreReadFirst_range :
    let s := hostAt 0x5000 mapHeader (awaiting { op := 9, c := 0x4000, count := 4096 } rangeBytes)
    let c := s.ctx 5
    let hdr := rangeBytes.take 32
    s.up = true ∧ c.phase = .desc ∧ c.cmd.opn = 9 ∧ s.readRange c.me 0 0x4000 32 = (hdr, none) ∧ rangeLen hdr = some 64 ∧
    s.readRange c.me 0 0x4020 32 = (rangeBytes.drop 32, none) ∧ mapRefOk rangeBytes = true ∧ field rangeBytes 0 8 = 0x5000 ∧
    s.readRange c.me 0 0x5000 32 = (mapHeader, none) ∧ rangeOk rangeBytes mapHeader c.cmd = true := by decide +kernel

/-- A bucket table of one bucket in LOCAL space, and an NVM-PASS image. -/
theorem witness_DescriptorsAreReadFirst_table :
    let bs : List Byte := [1, 0] ++ zeros 30 ++ leBytes 8 0x800 ++ leBytes 8 64 ++ zeros 16
    let s := awaiting { op := 0xE, b := 0x4000 } bs
    let c := s.ctx 5
    s.up = true ∧ c.phase = .desc ∧ c.cmd.opn = 0xE ∧ c.chain = false ∧ c.xfer.expect = none ∧
    s.readRange c.me c.cmd.spaceB c.cmd.cb c.cmd.tableLen = (bs, none) ∧ tableOk bs c.cmd = true := by decide +kernel

theorem witness_DescriptorsAreReadFirst_pass :
    let bs : List Byte := [4] ++ zeros 63
    let s := (awaiting { op := 0x1A, a := 0x4000 } bs).setNvm 0 (some { holder := 0, ctrl := 2, nsid := 1, blocks := 100, blockSize := 512 })
    let s := s.modFn 0 fun f => { f with nvmPolicy := 0x10 }
    let c := s.ctx 5
    s.up = true ∧ c.phase = .desc ∧ c.cmd.opn = 0x1A ∧ s.readRange c.me c.cmd.spaceA c.cmd.ca 64 = (bs, none) ∧
    imageOk bs c.cmd.cnt = true ∧ s.resourceCheck 5 c.cmd none false = none ∧
    (s.fn c.r.ownerFn.toNat).nvmPolicy.getLsbD (byteAt bs 0) = true := by decide +kernel

theorem witness_BytesStoredInEachSpace :
    let who := (ctxWith stActive .exec {}).who 0
    ([1, 2] : List Byte).length ≤ 2 ^ 64 ∧ State.reset.absLocal who (ctxStoreBase - 2) + ([1, 2] : List Byte).length ≤ ctxStoreBase ∧
    ([1, 2] : List Byte)[1]? = some 2 ∧ (∀ i, i < 2 → (7 : Nat) ≠ State.reset.hostKey who.fn ((100 + i) % 2 ^ 64)) := by decide +kernel

theorem witness_FillStoresItsPattern : ∀ k ∈ [0, 9],
    let s := executing { op := 2, b := 0x3000, count := BitVec.ofNat 32 k, c := 0xAB }
    let c := s.ctx 5
    s.mayRun 5 (isOp 2) = true ∧ s.writeFail c.me c.cmd.spaceB c.cmd.cb (c.cmd.fillBytes c.xfer.off c.left).length = none ∧
    acts (.fill 5 {}) s = true := by decide +kernel

/-- A copy, a copy with SKIP, a producer and a consumer. -/
theorem witness_MoveCopiesBytes : ∀ c ∈ [({ op := 1, count := 2, flags := 1 } : Cmd), { op := 1, count := 2, flags := 4 },
      { op := 1, count := 2, flags := 1, spaces := 0xC }, { op := 1, count := 2, spaces := 3 }],
    let s := (executing { c with b := if c.spaceB = 3 then 0 else 0x3000 }).modCtx 5 fun c => { c with grp := { c.grp with data := [1, 2, 3] } }
    let cmd := (s.ctx 5).cmd
    s.mayRun 5 (isOp 1) = true ∧ s.input 5 = (if c.consumer then [1, 2] else [0, 0], none) ∧
    (cmd.skip = true ∨ cmd.producer = true ∨ s.writeFail (s.ctx 5).me cmd.spaceB cmd.cb 2 = none) ∧
    acts (.move 5 {}) s = true := by decide +kernel

/-- Operands in memory that differ in their second byte, and a pattern that agrees with memory. -/
theorem witness_CompareSetsEquality :
    (let s := hostAt 0x3000 [1, 3] (hostAt 0x2000 [1, 2] (executing { op := 3, a := 0x2000, b := 0x3000, count := 2, flags := 1 }))
     s.mayRun 5 (isOp 3) = true ∧ s.input 5 = ([1, 2], none) ∧ s.readRange (s.ctx 5).me 0 0x3000 2 = ([1, 3], none) ∧
     ([1, 2] : List Byte).take 1 = ([1, 3] : List Byte).take 1 ∧ ([1, 2] : List Byte)[1]? ≠ ([1, 3] : List Byte)[1]?) ∧
    (let s := hostAt 0x2000 [1, 2] (executing { op := 3, modifier := 1, a := 0x2000, c := 0x201, count := 2, flags := 1 })
     s.mayRun 5 (isOp 3) = true ∧ s.input 5 = ([1, 2], none) ∧ (leBytes 2 0x201).drop 0 = [1, 2]) := by decide +kernel

theorem witness_DigestFeedsAndCloses : ∀ c ∈ [({ op := 4, count := 2 } : Cmd), { op := 4, count := 2, flags := 3 }, { op := 4, count := 2, flags := 4 }],
    let s := executing { c with a := 0x2000, b := 0x3000 }
    s.mayRun 5 (isOp 4) = true ∧ s.input 5 = ([0, 0], none) ∧ acts (.digest 5 {}) s = true := by decide +kernel

theorem witness_AtomicsActOnce : ∀ m ∈ [0, 1, 2],
    let s := executing { op := 0x14, modifier := BitVec.ofNat 8 m, a := 0x2000, b := 0x3000, count := 8 }
    let c := s.ctx 5
    s.readRange c.me 0 0x3000 32 = (zeros 32, none) ∧ s.atomicFail c.me 0 0x2000 8 = none ∧
    s.mayRun 5 (isMod 0x14 m) = true := by decide +kernel

/-- Whatever an atomic stores in host memory, a later write there does not fail. -/
theorem witness_AtomicsActOnce_result (v : Nat) :
    let s := executing { op := 0x14, a := 0x2000, b := 0x3000, count := 8 }
    let c := s.ctx 5
    ((s.bytesOut c.me 0 0x2000 (leBytes 8 v)).modCtx 5 fun c => c.wrote 0).writeFail c.me 0 0x3000 8 = none := rfl

/-- A data member that has written, and a command without writes on their way. -/
theorem witness_MemberEnds :
    (let c : Ctx := { ctxWith stActive .exec { op := 2 } with dirty := [0] }
     c.cmd.isData = true ∧ c.r.supervisor = false ∧ c.dirty ≠ []) ∧
    (let c := ctxWith stActive .exec { op := 0x30, flags := 1 }
     c.dirty = [] ∧ c.cmd.mark = false ∧ c.cmd.cont = false ∧ c.cmd.producer = false ∧ c.marks = [] ∧ c.grp.marks = [] ∧
     c.grp.failed = none ∧ c.halt = .none ∧ c.frozenFn = false ∧ c.next = some (0, 0x1020)) := by decide +kernel

/-- A slot that moves an immediate to a port under a guard (08 Table 08.2). -/
def immSlot (g dst v : Nat) : Nat := g * 2 ^ 28 + 2 ^ 27 + dst * 2 ^ 18 + v % 2 ^ 18

/-- A slot that moves a port to a port. -/
def portSlot (g dst src : Nat) : Nat := g * 2 ^ 28 + dst * 2 ^ 18 + src * 2 ^ 9

/-- An image whose INIT is VRD.t_ready and whose RECORD gives verdict `v` (09 Table 09.10): 1 keeps each record. -/
def imageWords (v : Nat) : List W64 :=
  [BitVec.ofNat 64 (1 + 2 * 2 ^ 16 + 3 * 2 ^ 48), BitVec.ofNat 64 (immSlot 0 0x1D1 0), BitVec.ofNat 64 (immSlot 0 0x1D0 v)]

/-- The block with that image under handle 3 of FN[0]. -/
def withImage (v : Nat) (s : State) : State := s.setSieve 3 (some { owner := 0, state := 1, words := imageWords v })

/-- A member of a chain that executes, with a descriptor. -/
def member (c : Cmd) (desc : List Byte) : State :=
  (executing c).modCtx 5 fun x => { x with xfer := { x.xfer with desc := desc, members := [⟨0x1000, c⟩] } }

theorem witness_GatheringTransformsCompleteMembers_sieve : ∀ v ∈ [0, 1, 2],
    let s := withImage v (member { op := 8, a := 0x2000, b := 0x3000, count := 8, c := 0x80003 } [])
    let c := (s.sieveBegins 5).ctx 5
    let r := (s.sieveBegins 5).input 5
    let l := State.sieveLoop 5 0 8 ((s.sieveBegins 5).judgeOf c) 8 r.1 0 (s.sieveBegins 5)
    s.mayRun 5 (isOp 8) = true ∧ (s.ctx 5).cmd.skip = false ∧ c.xfer.part = [] ∧ r.1.length = 8 ∧ r.2 = none ∧ l.1 = 8 ∧
    l.2.1.isNone = true ∧ (l.2.2.unitsTaken 5 r.1 8 8).2 = (0, none) := by decide +kernel

theorem witness_GatheringTransformsCompleteMembers_shred :
    let s := member { op := 0xA, a := 0x2000, b := 0x3000, count := 8, c := 0x4000 } layoutBytes
    let c := s.ctx 5
    let l := layoutOf c.xfer.desc
    let r := s.input 5
    let t := State.shredRows 5 false l c.xfer.ordinal 0 (chunks 8 8 r.1) s
    s.mayRun 5 (isOp 0xA) = true ∧ c.cmd.skip = false ∧ c.xfer.part = [] ∧ r.1.length = 8 ∧ r.2 = none ∧ t.1 = 1 ∧ t.2.1 = none := by
  decide +kernel

/-- Two integers of one byte, of whose octet the rest stays 0, and eight, which fill one. -/
theorem witness_GatheringTransformsCompleteMembers_slice : ∀ k ∈ [2, 8],
    let s := member { op := 0xC, a := 0x2000, b := 0x3000, count := BitVec.ofNat 32 k, c := 0x4003 } []
    let c := s.ctx 5
    let r := s.input 5
    let t := State.sliceInts 5 false c.xfer.ordinal 0 (chunks k c.cmd.width r.1) s
    let u := State.putPlanes 5 false 0 0 ((t.2.2.setOrdinal 5 k).ctx 5).xfer.planes (t.2.2.setOrdinal 5 k)
    s.mayRun 5 (isOp 0xC) = true ∧ c.cmd.skip = false ∧ r.2 = none ∧ t.1 = k ∧ t.2.1 = none ∧ k < 8 * c.cmd.stride ∧
    (k % 8 = 0 ∨ u.2 = none) := by decide +kernel

theorem witness_GatheringTransformsCompleteMembers_fold :
    let s := (member { op := 0xE, a := 0x2000, b := 0x4000, count := 8, c := 8 } [1]).modCtx 5 fun x => { x with
      xfer := { x.xfer with buckets := [{ base := 0x800, cap := 64, fill := 0 }] } }
    let s1 := (s.takeCell 5).sieveBegins 5
    let r := s1.input 5
    let t := State.foldLoop 5 9 r.1 0 s1
    s.mayRun 5 (isOp 0xE) = true ∧ s.cellFree 5 = true ∧ (s.ctx 5).cmd.skip = false ∧ r.2 = none ∧ r.1.length = 8 ∧ t.1 = 8 ∧ t.2.1.isNone = true := by
  decide +kernel

theorem witness_GatheringTransformsCompleteMembers_skip : ∀ o ∈ [8, 0xA, 0xC, 0xE],
    let s := executing { op := BitVec.ofNat 8 o, flags := 4, count := 4 }
    (s.ctx 5).cmd.skip = true ∧ s.mayRun 5 (isOp o) = true := by decide +kernel

/-- A second fold finds both cells of its block busy. -/
theorem witness_GatheringTransformsCompleteMembers_busy :
    let fold : Cmd := { op := 0xE, count := 8, c := 8 }
    let s := [68, 135].foldl (fun s m => s.setCtx m { ctxDef m with phase := .exec, cmd := fold, chain := true }) (executing fold)
    s.mayRun 5 (isOp 0xE) = true ∧ s.cellFree 5 = false := by decide +kernel

theorem witness_CountedTransformsComplete_weave :
    let s := member { op := 0xB, a := 0x2000, b := 0x3000, count := 2, c := 0x4000 } layoutBytes
    let c := s.ctx 5
    let t := State.weaveRows 5 false (layoutOf c.xfer.desc) c.xfer.off c.left s
    s.mayRun 5 (isOp 0xB) = true ∧ t.2.1 = none := by decide +kernel

theorem witness_CountedTransformsComplete_unslice :
    let s := member { op := 0xD, a := 0x2000, b := 0x3000, count := 2, c := 0x4003 } []
    let c := s.ctx 5
    let t := State.unsliceInts 5 false c.xfer.off c.left s
    s.mayRun 5 (isOp 0xD) = true ∧ t.2.1 = none := by decide +kernel

/-- The first run of a map waits for its entry; once it is decided and not read, the command has nothing left to read. -/
theorem witness_CountedTransformsComplete_map :
    let s := (member { op := 9, a := 0x2000, b := 0x300000, count := 4096, c := 0x4000 } rangeBytes).modCtx 5 fun x => { x with
      xfer := { x.xfer with maph := mapHeader } }
    let c := s.ctx 5
    s.mayRun 5 (isOp 9) = true ∧ c.xfer.runs.length < c.runCount ∧ c.xfer.mapFail = none ∧
    (s.readRange c.me (field c.xfer.desc 0 8 % 4) (c.xfer.entryAddr 0) c.xfer.entrySize).2 = none := by decide +kernel

theorem witness_CountedTransformsComplete_runs :
    let d : RunDec := ⟨zeros 64, false⟩
    let s := (member { op := 9, a := 0x2000, b := 0x300000, count := 4096, c := 0x4000 } rangeBytes).modCtx 5 fun x => { x with
      xfer := { x.xfer with maph := mapHeader, runs := [d] } }
    let c := s.ctx 5
    s.mayRun 5 (isOp 9) = true ∧ c.runCount ≤ c.xfer.runs.length ∧ c.cmd.skip = false ∧ c.xfer.runs[0]? = some d ∧
    (match (s.sieveBegins 5).mapRun 5 0 d (s.judgeOf c) with | .done t => (t.ctx 5).xfer.mapFail.isNone | _ => false) = true := by
  decide +kernel

/-- A namespace of 100 blocks of a controller that serves, under handle 0 of FN[0]. -/
def withNvm (s : State) : State :=
  ((s.setNvm 0 (some { holder := 0, ctrl := 2, nsid := 1, blocks := 100, blockSize := 512 })).setCtrl 2
    (some { link := 2, rid := 0, mdts := 131072, pairs := 1 })).setLink 2 { mode := 1, kind := 1, present := true }

/-- A FLUSH, and a READ, a WRITE, a WRITE with FUA, a DEALLOCATE and a PASS. -/
theorem witness_NvmCommandsSubmit : ∀ k ∈ [(0x19, 2, 0), (0x18, 0, 4), (0x19, 0, 4), (0x19, 1, 4), (0x19, 3, 4), (0x1A, 0, 0)],
    let s := withNvm (executing { op := BitVec.ofNat 8 k.1, modifier := BitVec.ofNat 8 k.2.1, count := BitVec.ofNat 32 k.2.2 })
    let c := s.ctx 5
    (match s.nvm (c.cmd.cf 0 16) with | none => false | some h => s.ctrlReady h.ctrl && (s.ctrl h.ctrl).isSome) = true ∧
    s.mayRun 5 (isNvm k.1 k.2.1) = true ∧ byteAt c.xfer.desc 0 % 4 ≠ 1 := by decide +kernel

theorem witness_JumpsCallsAndReturns : ∀ o ∈ [0x20, 0x21, 0x22],
    let s := executing { op := BitVec.ofNat 8 o, a := 0x2000 }
    s.mayRun 5 (isOp o) = true ∧ s.condition 5 = true ∧ (executing { op := 0x20, modifier := 4 }).condition 5 = false := by
  decide +kernel

/-- A call stack of no entry and one of three. -/
theorem witness_JumpsCallsAndReturns_stack : ∀ k ∈ [0, 3], ({ callDepth := BitVec.ofNat 3 k } : CtxRec).callDepth.toNat < 4 := by
  decide +kernel

theorem witness_JumpsCallsAndReturns_conditions : ∀ m ∈ List.range 11, ((executing { op := 0x20, modifier := BitVec.ofNat 8 m }).ctx 5).cmd.mod = m := by
  decide +kernel

/-- A WAIT with CLEAR on a flag that is set, a WAIT for no time, one that waits for an event and one that waits for a time. -/
theorem witness_WaitsAndSignals_wait : ∀ x ∈ [(5, 0, true), (2, 0, false), (1, 0, false), (2, 7, false)],
    let s := (executing { op := 0x24, modifier := BitVec.ofNat 8 x.1, count := BitVec.ofNat 32 x.2.1, c := 9 }).setEch 9 { flag := x.2.2 }
    let c := s.ctx 5
    s.mayRun 5 (isOp 0x24) = true ∧ (s.ech (c.cmd.cf 0 12)).flag = x.2.2 ∧ c.halt = .none ∧ c.frozenFn = false ∧
    bit c.cmd.mod 0 = decide (x.1 ≠ 2) ∧ bit c.cmd.mod 1 = decide (x.1 = 2) ∧ c.cmd.cnt = x.2.1 := by decide +kernel

/-- A WAIT whose deadline is now. -/
theorem witness_WaitsAndSignals_timeout :
    let x : Waiting := { chan := none, clear := false, began := 0, deadline := some 1000 }
    let s := (running stActive .waiting { op := 0x24, modifier := 2, count := 1 }).modCtx 5 fun c => { c with wait := some x }
    s.up = true ∧ (s.ctx 5).phase = .waiting ∧ (s.ctx 5).wait = some x ∧ x.deadline = some 1000 ∧ s.time ≤ 1000 ∧
    acts (.waitTimeout 5 1000 {}) s = true := by decide +kernel

/-- At its deadline a WAIT on channel 9, at which a firing arrives next. -/
theorem witness_WaitsAndSignals_fires :
    let x : Waiting := { chan := some 9, clear := false, began := 0, deadline := some 1000 }
    let f : Firing := { toVector := false, dest := 9, origin := 9, hop := 0, attrS := true }
    let s := { (running stActive .waiting { op := 0x24, modifier := 3, count := 1, c := 9 }).modCtx 5 fun c => { c with wait := some x } with
      firings := [f], pending := [.eventFiringArrival 9 1 {}] }
    s.up = true ∧ (s.ctx 5).wait = some x ∧ s.notBefore 1000 = true ∧ s.waitOver 1000 1000 = true ∧ s.firesNext 9 = true := by decide +kernel

theorem witness_WaitsAndSignals_others : ∀ o ∈ [0x25, 0x28, 0x26, 0x30, 0x2A], (executing { op := BitVec.ofNat 8 o }).mayRun 5 (isOp o) = true := by
  decide +kernel

/-- A FINISH outside a domain, and one in a domain. -/
theorem witness_FinishAsksAndCompletes : ∀ joined ∈ [false, true],
    let s : State := { executing { op := 0x29, c := 7 } with domain := { joined := joined, members := 7, present := 2 } }
    s.mayRun 5 (isOp 0x29) = true ∧ s.domain.asks.length < 1024 ∧
    firstFrom (fun k => (Table.get noneDef s.domain.asks (k % 65536)).isNone) s.domain.nextAsk 1025 = some 0 ∧
    acts (.finish 5 {}) s = true := by decide +kernel

/-- A FINISH that nothing is waited for, while no member is absent and while member 2 is. -/
theorem witness_FinishAsksAndCompletes_end : ∀ lost ∈ [false, true],
    let s : State := ({ running stActive .finishing { op := 0x29, c := 7 } with
      domain := { joined := lost, members := 5, asks := [(4, some { epoch := 7, waiting := [] })] } }).modCtx 5 fun c => { c with ask := some 4 }
    let d := { s.domain with asks := Table.erase s.domain.asks 4 }
    s.up = true ∧ (s.ctx 5).phase = .finishing ∧ (s.ctx 5).ask = some 4 ∧
    Table.get noneDef s.domain.asks 4 = some { epoch := 7, waiting := [] } ∧ (s.ctx 5).snapshot = [] ∧
    d.lost = (if lost then some 2 else none) := by decide +kernel

theorem witness_EpochComparison :
    ({ op := 0x29, c := 0xFFFFFFFF } : Cmd).reservedOk = true ∧ ({ op := 0x29, c := 0x100000000 } : Cmd).reservedOk = false ∧
    acts (.finish 5 {}) (executing { op := 0x29, c := 7 }) = true := by decide +kernel

/-- An ADMIN entry of FN[0] with a code, a target and an odd number of parameter words, taken from slot 3 of the admin queue. -/
def admEntry (acode target : Nat) (ps : List Nat) : Taken :=
  { q := 0, slot := 3, bytes := [BitVec.ofNat 8 (0x80 + ps.length / 2), 0x10, 7, 0] ++ leBytes 2 acode ++ [BitVec.ofNat 8 target, 0] ++
    ps.flatMap (leBytes 8) }

/-- FN[0] has taken the entry; context 5 is in the state given. -/
def admin (t : Taken) (st : Byte) : State := (State.reset.setFn 0 (fnWith false [t])).setCtx 5 (ctxWith st .none {})

theorem witness_AdminQueuesAndRings_create :
    let t := admEntry 0x0101 0 [0x40000, 6 + 10 * 64, 0]
    let s := admin t stIdle
    let f := s.fn 0
    s.adminReady 0 3 t createQueueSpec ∧ admChecks (s.ringChecks 0 t 16 true) = none ∧ countP (fun q => q.2.isSome) f.queues < 4096 ∧
    s.chipIds.length < 65536 ∧ firstFrom (fun i => (f.queue i).isNone) 1 4095 = some 2 ∧
    firstFrom (fun k => !s.chipIds.contains k) 0 65536 = some 0 ∧ acts (.createQueue 0 3 {}) s = true := by
  unfold State.adminReady; decide +kernel

/-- The slowest interval, and for the admin queue the fastest that it may have. -/
theorem witness_AdminQueuesAndRings_interval : ∀ k ∈ [0, 24],
    let t := admEntry 0x0102 0 [1, k, 0]
    let s := admin t stIdle
    s.adminReady 0 3 t setQueueIntervalSpec ∧ t.pf 1 0 5 = k ∧ t.pf 0 0 12 = 1 ∧ (s.fn 0).queue 1 = some (queueOf false) ∧
    (queueOf false).pollK ≤ k := by unfold State.adminReady; decide +kernel

theorem witness_AdminQueuesAndRings_others :
    (let t := admEntry 0x0103 0 [1, 0, 0]
     let s := admin t stIdle
     s.adminReady 0 3 t destroyQueueSpec ∧ t.pf 0 0 12 = 1 ∧ ((s.fn 0).queue 1).isSome = true ∧ (s.fn 0).owes 1 = false) ∧
    (let t := admEntry 0x0104 0 [0x40000, 6, 0]
     let s := admin t stIdle
     s.adminReady 0 3 t createStatusRingSpec ∧ admChecks (s.ringChecks 0 t 32 false) = none ∧
     countP (fun r => r.2.isSome) (s.fn 0).rings < 16 ∧ firstFrom (fun i => ((s.fn 0).ring i).isNone) 0 16 = some 0 ∧
     s.fns.foldl (fun a p => a + countP (fun r => r.2.isSome) p.2.rings) 0 < 4096) ∧
    (let t := admEntry 0x0105 0 [2, 0, 0]
     let s := (admin t stIdle).modFn 0 fun f => { f with queues := [] }
     s.adminReady 0 3 t destroyStatusRingSpec ∧ ((s.fn 0).ring 2).isSome = true ∧ (s.fn 0).queues = [] ∧ s.ringAwaited 0 2 = false) := by
  unfold State.adminReady; decide +kernel

/-- A range that ends with the last context that can be allotted. -/
theorem witness_AdminContexts_range :
    (let t := admEntry 0x0201 0 [0xFEFFE + 2 * 2 ^ 20, 0, 0]
     let s := admin t stIdle
     s.adminReady 0 3 t allotContextsSpec ∧ t.pf 0 0 20 + t.pf 0 20 21 = lastCtx + 1 ∧
     s.rangeAll (t.pf 0 0 20) (t.pf 0 20 21) true (fun c => decide (c.r.state = stFree)) = true) ∧
    (let t := admEntry 0x0202 0 [5 + 2 ^ 20, 0, 0]
     let s := admin t stIdle
     s.adminReady 0 3 t releaseContextsSpec ∧ t.pf 0 0 20 = 5 ∧ t.pf 0 20 21 = 1 ∧
     s.rangeAll 5 1 false (fun c => decide (c.r.state = stIdle) && decide (c.r.ownerFn.toNat = t.target)) = true) := by
  unfold State.adminReady; decide +kernel

theorem witness_AdminContexts_one :
    (let t := admEntry 0x0203 0 [5 + 7 * 2 ^ 32 + 7 * 2 ^ 36, 0, 0]
     let s := admin t stIdle
     s.adminReady 0 3 t pinContextSpec ∧ (s.blockOf (t.pf 0 32 3) (t.pf 0 36 3)).isSome = true ∧ s.allottedTo t.target 5 = true ∧
     (s.ctx 5).r.state = stIdle) ∧
    (let t := admEntry 0x0204 0 [5, 0, 0]
     (admin t stActive).adminReady 0 3 t unpinContextSpec ∧ (admin t stActive).allottedTo t.target (t.pf 0 0 20) = true) ∧
    (∀ b ∈ [1024, 16777216], let t := admEntry 0x0205 0 [5, b, 0]
     (admin t stActive).adminReady 0 3 t setBudgetSpec ∧ t.pf 1 0 25 = b ∧ (admin t stActive).allottedTo t.target (t.pf 0 0 20) = true) := by
  unfold State.adminReady; decide +kernel

theorem witness_AdminContexts_keys :
    (let t := admEntry 0x0206 0 [5, 0x1234, 0]
     (admin t stIdle).adminReady 0 3 t setKeysSpec ∧ (admin t stIdle).allottedTo t.target (t.pf 0 0 20) = true ∧
     ((admin t stIdle).ctx 5).r.state = stIdle) ∧
    (let t := admEntry 0x0207 0 ([5] ++ List.replicate 14 0)
     (admin t stActive).adminReady 0 3 t queryContextSpec ∧ (admin t stActive).allottedTo t.target (t.pf 0 0 20) = true) := by
  unfold State.adminReady; decide +kernel

theorem witness_AdminContexts_record : (255 : Nat) < 256 ∧ (0 : Nat) < 1 := by decide

theorem witness_AdminSievesAndFarMemory_load :
    let t := admEntry 0x0301 0 [0x4000, 24, 0]
    let s := admin t stIdle
    let r : AdminRead := { host := wordBytes (imageWords 1) }
    s.adminReady 0 3 t loadSieveSpec ∧ t.pf 0 0 2 = 0 ∧ t.pf 1 0 15 = 24 ∧ s.sourceOk 0 0 0x4000 24 = true ∧ s.freeHandle = some 0 ∧
    (match s.adminSource 0 0 0x4000 24 r with | .ok bs => decide (bs = r.host) | _ => false) = true ∧
    verify (wordsOfBytes r.host) = none := by unfold State.adminReady; decide +kernel

theorem witness_AdminSievesAndFarMemory_unload :
    (let t := admEntry 0x0302 0 [3, 0, 0]
     let s := withImage 1 (admin t stIdle)
     s.adminReady 0 3 t unloadSieveSpec ∧ s.sieve (t.pf 0 0 16) = some { owner := 0, state := 1, words := imageWords 1 }) ∧
    (let t := { admEntry 0x0302 0 [3, 0, 0] with stage := .acting }
     let s := withImage 1 (admin t stIdle)
     s.adminActing 0 3 t 0x0302 ∧ s.sieveUsers (t.pf 0 0 16) = 0) := by unfold State.adminReady State.adminActing; decide +kernel

/-- An extent that ends with the tenant area, a far timeout at both ends of its range. -/
theorem witness_AdminSievesAndFarMemory_extent :
    let t := admEntry 0x0401 0 [0x2300000000 - 2 ^ 21, 2 ^ 21, 0]
    let s := admin t stIdle
    s.adminReady 0 3 t setExtentSpec ∧ t.param 1 ≤ tenantSize ∧ t.param 0 + t.param 1 = tenantSize ∧
    s.extentClash t.target (t.param 0) (t.param 1) = false ∧ s.extentBusy t.target = false := by unfold State.adminReady; decide +kernel

theorem witness_AdminSievesAndFarMemory_timeout : ∀ us ∈ [50, 64000],
    let t := admEntry 0x0404 0 [us, 0, 0]
    (admin t stIdle).adminReady 0 3 t setFarTimeoutSpec ∧ t.pf 0 0 17 = us := by unfold State.adminReady; decide +kernel

/-- One invalid entry, and one that maps the first page of a set. -/
theorem witness_AdminSievesAndFarMemory_ftt : ∀ e ∈ [0, 7],
    let t := admEntry 0x0402 0 [0x3FFFFFFE00000, 1, 0x4000]
    let s : State := { admin t stIdle with isets := [(0, some { base := 0, size := 0x10000000, ways := 1, logGran := 8, links := [0] })] }
    let r : AdminRead := { host := leBytes 16 e }
    let s1 := (s.sawHost 0 0 0x4000 r.host).modFn 0 (Fn.putFtts false 0x1FFFFFFF ((entryWords r.host 1).map Prod.fst))
    s.adminReady 0 3 t writeFttSpec ∧ t.param 0 / 0x200000 * 0x200000 + 0x200000 = 0x4000000000000 ∧ t.pf 1 0 17 = 1 ∧ t.pf 2 0 2 = 0 ∧
    s.sourceOk 0 0 0x4000 16 = true ∧ (match s.adminSource 0 0 0x4000 16 r with | .ok bs => decide (bs = r.host) | _ => false) = true ∧
    ((entryWords r.host 1).all fun e => fttReserved e.1 e.2 && s.fttValue false e.1) = true ∧ s1.leaves ≤ 7680 := by
  unfold State.adminReady; decide +kernel

/-- A WRITE-FTT that waits for earlier far requests, and a RESET-VF, whose ends are due. -/
theorem witness_AdminSievesAndFarMemory_due :
    (let t := { admEntry 0x0402 0 [0, 1, 0x4000] with stage := .acting }
     let u := { admEntry 0x0507 1 [0, 0, 0] with stage := .acting }
     let s := admin t stIdle
     (s.fn 0).adminFront = some t ∧ t.stage = .acting ∧ t.acode = 0x0402 ∧ s.farOutstanding t.target = false ∧
     (((admin u stIdle).fn 0).adminFront = some u ∧ u.acode = 0x0507 ∧ ((admin u stIdle).fn u.target).state ≠ 2)) := by decide +kernel

theorem witness_AdminSievesAndFarMemory_interleave :
    (let t := admEntry 0x0403 0 [1, 0, 0, 0, 0]
     (admin t stIdle).adminReady 0 3 t setInterleaveSpec ∧ t.pf 0 16 1 = 0 ∧ (admin t stIdle).iset (t.pf 0 0 4) = none) ∧
    (∀ g ∈ [8, 14], let t := admEntry 0x0403 0 [1 + 16 + g * 512 + 2 ^ 16, 2 ^ 50 - 0x10000000, 0x10000000, 2, 0]
     let s := (admin t stIdle).setLink 2 { mode := 2, kind := 4, present := true }
     s.adminReady 0 3 t setInterleaveSpec ∧ t.pf 0 16 1 = 1 ∧ t.pf 0 4 5 = 1 ∧ t.pf 0 9 4 = g ∧ t.param 1 + t.param 2 = 2 ^ 50 ∧
     s.setClash (t.pf 0 0 4) (t.param 1) (t.param 2) = false ∧ (∀ j, j < 16 → s.wayOk t 1 j = true)) := by
  unfold State.adminReady; decide +kernel

theorem witness_AdminEventsAndVectors_channels :
    (let t := admEntry 0x0501 0 [3071 + 2 ^ 12, 0, 0]
     let s := admin t stIdle
     s.adminReady 0 3 t grantEventsSpec ∧ t.chans = [3071] ∧ (s.ech 3071).supervisor = false ∧ (s.ech 3071).ownerFn = 0) ∧
    (let t := admEntry 0x0502 0 [3071 + 2 ^ 12, 0, 0]
     let s := admin t stIdle
     s.adminReady 0 3 t revokeEventsSpec ∧ t.chans = [3071] ∧ (s.ech 3071).ownerFn = t.target ∧ s.chanBusy 3071 = false) ∧
    (∀ v ∈ [0, 1], let t := admEntry 0x0503 0 [9, 10 + v * 2 ^ 16, 0]
     let s := admin t stIdle
     s.adminReady 0 3 t bindEventSpec ∧ s.ownsChan 0 9 = true ∧ 10 < (s.fn 0).vecCount ∧ s.ownsChan 0 10 = true ∧
     s.bindSlot 0 9 (decide (v = 1)) 10 = none ∧ firstFrom (fun i => !(s.bind 9 i).valid) 0 4 = some 0) ∧
    (let t := admEntry 0x0504 0 [9, 10, 0]
     let s := (admin t stIdle).setBind 9 2 { valid := true, fn := 0, dest := 10, maker := some 0 }
     s.adminReady 0 3 t unbindEventSpec ∧ s.ownsChan 0 9 = true ∧ s.ownsChan 0 10 = true ∧ s.bindSlot 0 9 false 10 = some 2) := by
  unfold State.adminReady; decide +kernel

theorem witness_AdminEventsAndVectors_vectors :
    (let t := admEntry 0x0505 0 [2047, 0, 0]
     (admin t stIdle).adminReady 0 3 t setModerationSpec ∧ t.pf 0 0 11 < ((admin t stIdle).fn 0).vecCount) ∧
    (∀ k ∈ [1, 2048], let t := admEntry 0x0506 1 [k, 0, 0]
     let s : State := { admin t stIdle with vfEnable := false, numVfs := 2 }
     s.adminReady 0 3 t setVfVectorsSpec ∧ t.pf 0 0 12 = k ∧ s.vfEnable = false ∧
     ((List.range 256).foldl (fun a k => a + (if k = t.target then t.pf 0 0 12 else (s.fn k).vecCount)) 0 ≤ 32768 ↔ k = 1)) ∧
    (let t := admEntry 0x0507 1 [0, 0, 0]
     ({ admin t stIdle with vfEnable := true, numVfs := 1 } : State).adminReady 0 3 t resetVfSpec) ∧
    (let e : Ech := { ownerFn := 3 }
     e.ownerFn ≠ 4 ∧ e.ownerFn = 3 ∧ e.supervisor = false) := by unfold State.adminReady; decide +kernel

/-- A namespace of 512-byte and one of 65,536-byte blocks. -/
theorem witness_AdminDevicesDomainFirmware_nvm :
    (∀ size ∈ [512, 65536], let t := admEntry 0x0601 0 [2 * 2 ^ 16, 1, 0, 0, 0, 0, 0]
     let s := (withNvm (admin t stIdle)).setNvm 0 none
     s.adminReady 0 3 t attachNamespaceSpec ∧ t.pf 0 16 5 = 2 ∧ s.ctrlAt 2 0 = some 2 ∧ s.ctrlReady 2 = true ∧ 512 ≤ size ∧ size ≤ 65536 ∧
     firstFrom (fun h => (s.nvm h).isNone) 0 65536 = some 0) ∧
    (let t := admEntry 0x0602 0 [0, 0, 0]
     let s := withNvm (admin t stIdle)
     s.adminReady 0 3 t detachNamespaceSpec ∧ s.nvm (t.pf 0 0 16) = some { holder := 0, ctrl := 2, nsid := 1, blocks := 100, blockSize := 512 }) ∧
    (let t := { admEntry 0x0602 0 [0, 0, 0] with stage := .acting }
     let s := withNvm (admin t stIdle)
     s.adminActing 0 3 t 0x0602 ∧ (s.ctxs.any fun p => p.2.nvHandles.contains (t.pf 0 0 16)) = false) ∧
    (let t := admEntry 0x0603 0 [1, 2, 3, 4, 0]
     (admin t stIdle).adminReady 0 3 t setNvmPolicySpec) := by unfold State.adminReady State.adminActing; decide +kernel

theorem witness_AdminDevicesDomainFirmware_domain : ∀ us ∈ [0, 100, 1000000],
    let t := admEntry 0x0701 0 [31 + 2 ^ 8, 0x80000001, us]
    let u := admEntry 0x0701 0 [0, 0, 0]
    (admin t stIdle).adminReady 0 3 t setDomainSpec ∧ ((admin t stIdle).ctxs.any fun p => decide (p.2.phase = .finishing)) = false ∧
    t.pf 0 8 1 = 1 ∧ (BitVec.ofNat 32 (t.param 1)).getLsbD (t.pf 0 0 5) = true ∧ t.pf 2 0 20 = us ∧
    (admin u stIdle).adminReady 0 3 u setDomainSpec ∧ u.pf 0 8 1 = 0 ∧ u.pf 0 0 5 = 0 ∧ u.param 1 = 0 ∧ u.pf 2 0 20 = 0 := by
  unfold State.adminReady; decide +kernel

theorem witness_AdminDevicesDomainFirmware_reports :
    (∀ sp ∈ [0, 1], let t := admEntry 0x0901 0 [0x4000 + sp, 0, 0]
     let s := admin t stIdle
     s.adminReady 0 3 t identifySpec ∧ ({} : AdminRead).fail = false ∧ s.sourceOk 0 sp 0x4000 4096 = true ∧ t.pf 0 0 2 = sp ∧
     (s.fn 0).stopped = false) ∧
    (let t := admEntry 0x0902 0 [0, 0, 0, 0, 0]
     (admin t stIdle).adminReady 0 3 t getHealthSpec) := by unfold State.adminReady; decide +kernel

/-- A chunk of one byte, and an image that ends with the bank. -/
theorem witness_AdminDevicesDomainFirmware_firmware :
    (let t := admEntry 0x0A01 0 [0x4000, 0, 1]
     let s := admin t stIdle
     let r : AdminRead := { host := [9] }
     s.adminReady 0 3 t fwStageSpec ∧ t.pf 0 0 2 = 0 ∧ t.pf 2 0 21 = 1 ∧ s.sourceOk 0 0 0x4000 1 = true ∧ t.param 1 + 1 ≤ bankSize ∧
     s.sec.fwBusy = none ∧ s.supplyOk = true ∧
     (match s.adminSource 0 0 0x4000 1 r with | .ok bs => decide (bs = [9]) | _ => false) = true) ∧
    (∀ n ∈ [4096, bankSize], let t := admEntry 0x0A02 0 [n, 0, 0]
     let s := admin t stIdle
     s.adminReady 0 3 t fwCommitSpec ∧ t.pf 0 0 24 = n ∧ s.store.torn = [] ∧ s.supplyOk = true) := by
  unfold State.adminReady; decide +kernel

/-- A core that works, with a CODE, a handle of window 2, and entries on its stacks and in its frames. -/
def yqCore (id : Nat) : Core :=
  let c : Core := { coreDef id with asleep := false, started := true, dstack := [⟨7, tgInt⟩], rstack := [⟨8, tgCode⟩], mbx := [⟨9, tgInt⟩] }
  let area := if coreKind id = .sv then svRam else if coreKind id = .sup then supRam else blkRam
  let c := ((c.setReg 0x040 ⟨5, tgCode⟩).setReg 0x041 ⟨BitVec.ofNat 64 (2 * 2 ^ 60), tgHndl⟩).setReg 0x060 ⟨BitVec.ofNat 64 (2 * 2 ^ 60), tgHndl⟩
  let c := c.setWin 2 { open_ := true, base := area, len := 64, read := true, write := true }
  let c := ((c.setReg 0x070 ⟨100, tgInt⟩).setReg 0x098 ⟨3, tgInt⟩).setReg 0x09A ⟨64, tgInt⟩
  { c with frames := [c.frame (coreKind id) false], phase := 2, record := { data := zeros 64, budget := 100 } }

/-- The block with that core. -/
def yqState (id : Nat) : State := State.reset.setCore id (yqCore id)

/-- The word of one slot. -/
def oneSlot (w : Nat) : IWord := { word := BitVec.ofNat 64 w }

/-- The core may issue the word outside image code, the word passes every check with one move that takes place, the row lists it, and it
completes. -/
def wordRuns (s : State) (id : Nat) (i : IWord) (row : Instr) : Bool :=
  s.coreRuns id && !(s.core id).mustTake (coreBus id) s && !(s.core id).inImage (coreKind id) && s.fetchFits id i && !(s.runWord id i).mailFull &&
  (match (s.core id).gather (coreBus id) (coreKind id) i s with
   | .ok r => (match r.ms with | [m] => decide ((yslots i.word).1.dst = m.y.dst) && m.row.isSome | [m, _] => m.row.isSome || true | _ => false)
   | .error _ => false) &&
  (wordRows id i).any (fun p => decide (p.1 = row) && p.2) && acts row s

/-- The word `w` runs on core `id`, under the row that the function names. -/
def runs (id w : Nat) (row : Nat → IWord → Instr) : Bool :=
  wordRuns (yqState id) id (oneSlot (0xF0000000 * 2 ^ 32 + w)) (row id (oneSlot (0xF0000000 * 2 ^ 32 + w)))

/-- Control, tags and stacks: every row of a common port, on the four kinds of cores. -/
theorem witness_WordsOfACoreComplete_common : ∀ id ∈ [0, 1, 5, 432, 448],
    (runs id (immSlot 0 0x001 2) .pcJump && runs id (immSlot 0 0x002 2) .pcCall && runs id (portSlot 0 0x003 0x040) .pcRet &&
     runs id (immSlot 0 0x004 0) .pcRti && runs id (immSlot 0 0x008 15) .flgNzcv && runs id (immSlot 0 0x009 0) .flgTest &&
     runs id (immSlot 0 0x018 0) .ctlWait && runs id (immSlot 0 0x020 0) .tagGet && runs id (immSlot 0 0x022 0) .tagSet &&
     runs id (portSlot 0 0x063 0x041) .lsuLoad && runs id (immSlot 0 0x064 1) .lsuStore && runs id (immSlot 0 0x071 99) .bndCheck &&
     runs id (immSlot 0 0x078 1) .dsPush && runs id (portSlot 0 0x042 0x079) .dsPop && runs id (portSlot 0 0x080 0x040) .retPush &&
     runs id (portSlot 0 0x042 0x081) .retPop && runs id (portSlot 0 0x042 0x085) .retBottom && runs id (portSlot 0 0x086 0x040) .retTFill &&
     runs id (immSlot 0 0x09C 0) .winOpen && runs id (immSlot 0 0x09D 0) .winClose && runs id (immSlot 0 0x042 7) .yqPortWrite) = true := by
  decide +kernel

/-- Every operation of an ALU, on the last ALU of each kind of core. -/
theorem witness_WordsOfACoreComplete_alu : ∀ id ∈ [0, 1, 5, 432],
    ([(opAdd, Instr.aluAdd), (opSub, .aluSub), (opCmp, .aluCmp), (opNeg, .aluNeg), (opAnd, .aluAnd), (opOr, .aluOr), (opXor, .aluXor),
      (opNot, .aluNot), (opShl, .aluShl), (opShr, .aluShr), (opSar, .aluSar), (opRol, .aluRol), (opRor, .aluRor), (opMulu, .aluMulu),
      (opMuls, .aluMuls), (opDivu, .aluDivu), (opDivs, .aluDivs), (opSeq, .aluSeq), (opSltu, .aluSltu), (opSlts, .aluSlts)].all
      fun p => runs id (immSlot 0 (0x100 + 0x20 * (aluCount (coreKind id) - 1) + p.1) 3) p.2) = true := by decide +kernel

/-- Ports of the sequencer and of the gate core. -/
theorem witness_WordsOfACoreComplete_block :
    (runs 0 (immSlot 0 0x182 0) .ctxRead && runs 0 (immSlot 0 0x183 0) .ctxWrite && runs 0 (immSlot 0 0x188 0) .cmdDecode &&
     runs 0 (immSlot 0 0x190 0) .fchFetch && runs 0 (immSlot 0 0x19D 0) .dscPost && runs 0 (immSlot 0 0x1B8 4095) .bevFire &&
     runs 5 (immSlot 0 0x182 4095) .evrSubscribe && runs 5 (immSlot 0 0x183 1) .evrClear && runs 5 (immSlot 0 0x184 4095) .evrFire &&
     runs 5 (immSlot 0 0x192 100) .tmrArm && runs 5 (immSlot 0 0x193 0) .tmrCancel && runs 5 (immSlot 0 0x1A2 0) .fhFlush) = true := by
  decide +kernel

/-- The sequencer's control FIFO of block 0 holds one item; `k` is 1 for a fetch that has completed. -/
def seqItem (k : Byte) (s : State) : State := s.modFifo 0 toSeq fun x => { x with words := [(zeros 8 ++ [k] ++ zeros 7, true)] }

/-- EVQ.pop of an event that waits, and a supervisor core that releases a lock which it holds. -/
theorem witness_WordsOfACoreComplete_waiting :
    (let s := seqItem 0 (State.reset.setCore 0 { yqCore 0 with imask := true })
     wordRuns s 0 (oneSlot (0xF0000000 * 2 ^ 32 + portSlot 0 0x042 0x1A0)) (.evqPop 0 (oneSlot (0xF0000000 * 2 ^ 32 + portSlot 0 0x042 0x1A0))) &&
     (((s.block (coreBlk 0)).fifo toSeq).takeItem).1.isSome) = true ∧
    (let s := { yqState 432 with locks := [(63, some 432)] }
     wordRuns s 432 (oneSlot (0xF0000000 * 2 ^ 32 + immSlot 0 0x191 63)) (.lockRelease 432 (oneSlot (0xF0000000 * 2 ^ 32 + immSlot 0 0x191 63)))) =
      true := by decide +kernel

theorem witness_WordsOfACoreComplete_supervisor : ∀ id ∈ [432, 451],
    (runs id (portSlot 0 0x042 0x180) .irqClaimPort && runs id (immSlot 0 0x181 0) .irqDonePort && runs id (immSlot 0 0x189 1) .mbxSend &&
     runs id (portSlot 0 0x042 0x18A) .mbxPop && runs id (immSlot 0 0x190 63) .lockAcquire) = true := by decide +kernel

/-- Ports of a sieve core outside image code. -/
theorem witness_WordsOfACoreComplete_sieve :
    (runs 1 (immSlot 0 0x180 1) .recWord && runs 1 (immSlot 0 0x195 1) .wcmpEq && runs 1 (immSlot 0 0x1A4 1) .rngU &&
     runs 1 (immSlot 0 0x1A5 1) .rngS && runs 1 (immSlot 0 0x1B1 1) .hshMix && runs 1 (immSlot 0 0x1B2 1) .hshFin &&
     runs 1 (immSlot 0 0x1C0 1) .emtPut && runs 1 (immSlot 0 0x1C3 1) .emtPut && runs 1 (immSlot 0 0x1C5 64) .emtCopy &&
     runs 1 (immSlot 0 0x1D0 2) .vrdVerdict) = true := by decide +kernel

/-- The word passes its checks on core `id` with one move, to port `p`, of which `ok` holds. -/
def oneMove (id w p : Nat) (ok : Ready → Bool) : Bool :=
  let i := oneSlot (0xF0000000 * 2 ^ 32 + w)
  match (yqCore id).gather (coreBus id) (coreKind id) i (yqState id) with
  | .ok r => (match r.ms with | [m] => decide (m.y.dst = p) && decide (m.row = portOf (coreKind id) p) && ok r | _ => false)
  | .error _ => false

/-- One move to each port of the statement; the access of a load and of a store is planned, and the window is one of the sixteen. -/
theorem witness_EffectOfACommonMove :
    ([0x001, 0x002, 0x008, 0x009, 0x018, 0x020, 0x022, 0x040, 0x05F, 0x071, 0x078, 0x101, 0x114].all
      fun p => oneMove 0 (immSlot 0 p 3) p fun _ => true) = true ∧
    ([0x003, 0x080, 0x086].all fun p => oneMove 0 (portSlot 0 p 0x040) p fun _ => true) = true ∧
    ([0x004, 0x09C, 0x09D].all fun p => oneMove 0 (immSlot 0 p 0) p fun r => decide ((r.c1.reg 0x098).v.toNat < 16)) = true ∧
    (oneMove 0 (portSlot 0 0x063 0x041) 0x063 fun r => (r.c1.plan (coreBus 0) true (r.c1.reg 0x041) r.s1).toOption.isSome) = true ∧
    (oneMove 0 (immSlot 0 0x064 1) 0x064 fun r => (r.c1.plan (coreBus 0) false (r.c1.reg 0x060) r.s1).toOption.isSome) = true := by
  decide +kernel

theorem witness_EffectOfAKindSpecificMove :
    ([0x182, 0x183, 0x188, 0x190, 0x19D, 0x1B8].all fun p => oneMove 0 (immSlot 0 p 0) p fun _ => true) = true ∧
    ([0x182, 0x183, 0x184, 0x192, 0x193, 0x1A2].all fun p => oneMove 5 (immSlot 0 p 0) p fun r =>
      decide ((r.c1.reg 0x1A0).v.toNat < 64)) = true ∧
    ([0x181, 0x189, 0x190].all fun p => oneMove 432 (immSlot 0 p 0) p fun r => decide (r.s1.lockHolder 0 = none)) = true ∧
    coreKind 0 = .sq ∧ coreKind 5 = .gt ∧ coreKind 432 = .sup ∧
    ((yqState 0).setCtx 0 { ctxDef 0 with lodged := true, lodgeSlot := 7 }).inLodge 0 7 = some 0 := by decide +kernel

theorem witness_EffectOfASieveMove :
    ([0x180, 0x195, 0x1A4, 0x1A5, 0x1B1, 0x1B2, 0x1C0, 0x1C3, 0x1C5, 0x1D0].all fun p =>
      oneMove 1 (immSlot 0 p 1) p fun r => match r.ms with | [m] => decide (m.row = portFor .sv true true p) | _ => false) = true ∧
    (portFor .sv true true 0x1E6).isSome = true := by decide +kernel

/-- Whatever a sieve core's unit is given, its bus writes it as the statement asks. -/
theorem witness_EffectOfASieveMove_bus : svPure.write = svWrite ∧ (coreBus 1).write = svWrite := ⟨rfl, rfl⟩

/-- A sieve core that runs the image of handle 3 from slot 0, at its RECORD entry, with a word `w` there. -/
def imageCore (w phase cycles : Nat) : State :=
  let ws := (imageWords 1).set 2 (BitVec.ofNat 64 (0xF0000000 * 2 ^ 32 + w))
  let s := State.reset.setSieve 3 (some { owner := 0, state := 1, words := ws })
  s.setCore 1 { coreDef 1 with asleep := false, started := true, threadPriv := false, images := [⟨0, 3, 0, ws⟩], pc := 2, phase := phase,
                               record := { data := zeros 64, budget := 100, cycles := cycles } }

/-- The image word runs: its checks pass, or when `bad` its trap is answered, and the row that lists it completes. -/
def imageRuns (w phase cycles : Nat) (bad : Bool) (row : Nat → IWord → Instr) : Bool :=
  let s := imageCore w phase cycles
  let c := s.core 1
  let i := oneSlot (0xF0000000 * 2 ^ 32 + w)
  s.coreRuns 1 && c.inImage (coreKind 1) && s.fetchFits 1 i && !(s.runWord 1 i).mailFull &&
  (match (c.charge (c.landed!.wordCost i.word)).gather (coreBus 1) .sv i s with | .ok _ => !bad | .error _ => bad) &&
  (wordRows 1 i).any (fun p => decide (p.1 = row 1 i) && p.2) && acts (row 1 i) s

/-- The emulated ports, VRD.t_ready, a word whose budget is spent, and a privileged write that traps. -/
theorem witness_ImageWordsComplete :
    (imageRuns (immSlot 0 0x1E0 3) 2 0 false .a7Fetch && imageRuns (immSlot 0 0x1E3 0) 2 0 false .a7Keep &&
     imageRuns (immSlot 0 0x1E4 0) 2 0 false .a7Drop && imageRuns (immSlot 0 0x1E6 1) 2 0 false .a7Crc &&
     imageRuns (immSlot 0 0x1D1 0) 1 0 false .vrdReady && imageRuns (immSlot 0 0x042 0) 2 99 false .yqPortWrite &&
     imageRuns (immSlot 0 0x098 0) 2 0 true .yqPortWrite &&
     (let c := (imageCore (immSlot 0 0x1E0 3) 2 99).core 1
      decide (c.landed!.wordCost (BitVec.ofNat 64 (0xF0000000 * 2 ^ 32 + immSlot 0 0x1E0 3)) ≠ 0) && !c.spent &&
      (c.charge (c.landed!.wordCost (BitVec.ofNat 64 (0xF0000000 * 2 ^ 32 + immSlot 0 0x1E0 3)))).spent) && ((imageCore 0 2 100).core 1).spent) = true := by decide +kernel

/-- TRAP.t_soft traps: outside a handler the vector is known, inside it is a double trap. -/
theorem witness_TrapsAreTaken : ∀ inTrap ∈ [false, true],
    let i := oneSlot (0xF0000000 * 2 ^ 32 + immSlot 0 0x010 9)
    let s := State.reset.setCore 0 { yqCore 0 with inTrap := inTrap, code := [(0x12, some 0x100)] }
    s.coreRuns 0 = true ∧ (s.core 0).inImage (coreKind 0) = false ∧ s.fetchFits 0 i = true ∧ (s.runWord 0 i).mailFull = false ∧
    (match (s.core 0).gather (coreBus 0) (coreKind 0) i s with
     | .error (t, c) => decide (t.cause = 0x12) && decide (c.inTrap = inTrap) && decide (c.known (c.vbase.toNat + t.cause) = some 0x100)
     | .ok _ => false) = true ∧ (wordRows 0 i).any (fun p => decide (p.1 = .trapSoft 0 i) && p.2) = true ∧
    acts (.trapSoft 0 i) s = true := by decide +kernel

/-- Sources that pop, with an entry and without one. -/
theorem witness_PortsThatPop : ∀ p ∈ [0x079, 0x081, 0x085],
    (yqCore 0).substFor 0 = none ∧ (yslots (BitVec.ofNat 64 (portSlot 0 0x042 p))).1.imm = false ∧
    (yslots (BitVec.ofNat 64 (portSlot 0 0x042 p))).1.src = p ∧ (yqCore 0).dstack = [⟨7, tgInt⟩] ∧ (yqCore 0).rstack = [] ++ [⟨8, tgCode⟩] ∧
    (coreDef 0).dstack = [] ∧ (coreDef 0).rstack = [] ∧ coreKind 0 = .sq ∧ coreKind 432 = .sup ∧ (coreDef 432).mbx = [] ∧
    ((State.reset.block (coreBlk 0)).fifo toSeq).committed = 0 := by decide +kernel

theorem witness_TwoMovesExchangeRegisters :
    let w := portSlot 0 0x05F 0x040 * 2 ^ 32 + portSlot 0 0x040 0x05F
    let c := (yqState 0).core 0
    (yqState 0).coreRuns 0 = true ∧ c.inImage (coreKind 0) = false ∧ (yqState 0).fetchFits 0 (oneSlot w) = true ∧
    ((yqState 0).runWord 0 (oneSlot w)).mailFull = false ∧ (oneSlot w).fetched = true ∧ codeHas (coreKind 0) c.pc.toNat = true ∧
    c.pending = [] ∧ c.subst = [] ∧ (c.reg 0x040).tag < 8 ∧ (c.reg 0x05F).tag < 8 ∧
    yslots (BitVec.ofNat 64 w) =
      ({ guard := 0, imm := false, dst := 0x040, src := 0x05F, low := 0, imm18 := (yslots (BitVec.ofNat 64 w)).1.imm18 },
       { guard := 0, imm := false, dst := 0x05F, src := 0x040, low := 0, imm18 := (yslots (BitVec.ofNat 64 w)).2.imm18 }) := by decide +kernel

theorem witness_ArithmeticOfTheAlu : (1 : W64) ≠ 0 ∧ ¬((1 : W64) = 0x8000000000000000#64 ∧ (1 : W64) = BitVec.allOnes 64) := by decide

theorem witness_ShiftsAndRotates : (64 : W64).toNat = 64 ∧ 64 < (65 : W64).toNat ∧ (63 : W64).toNat % 64 ≠ 0 ∧ (128 : W64).toNat % 64 = 0 := by
  decide

theorem witness_DivisionSpecialCases :
    (([] : List (Nat × Nat)).find? fun f => decide (f.1 = 0)) = none ∧ (3 : Nat) < 4 ∧ (1 : W64) ≠ 0 := by decide

theorem witness_ResultsInterruptsAndSleep_land :
    let s := State.reset.setCore 0 { yqCore 0 with pending := [{ unit := 0x100, left := 1 }] }
    s.coreRuns 0 = true ∧ (s.core 0).landed = false ∧ (∃ p ∈ (s.core 0).pending, p.left ≤ 1) := by decide +kernel

theorem witness_ResultsInterruptsAndSleep_interrupt :
    let s := seqItem 0 (State.reset.setCore 0 { yqCore 0 with imask := false, code := [(0x24, some 0x200)] })
    let c := s.core 0
    s.coreRuns 0 = true ∧ c.hold = false ∧ c.landed = false ∧ (coreBus 0).request s c = some 4 ∧ c.level < 4 ∧ c.imask = false ∧ c.inTrap = false ∧
    c.known (c.vbase.toNat + (0x20 + 4)) = some 0x200 ∧ acts (.interruptEntry 0 (some 4)) s = true := by decide +kernel

theorem witness_ResultsInterruptsAndSleep_wake :
    let s := seqItem 1 (State.reset.setCore 0 { yqCore 0 with asleep := true, deadline := some 50 })
    s.coreOn 0 = true ∧ (s.core 0).asleep = true ∧ s.notBefore 50 = true ∧ (s.core 0).deadline = some 50 ∧ 50 ≤ (s.at_ 50).uptime ∧
    (coreBus 0).request s (s.core 0) = some 6 := by decide +kernel

/-- An idle sieve cell without and with the image, and with the record start state of that image. -/
theorem witness_TheRecordLoop :
    let c : Core := { coreDef 1 with started := true, threadPriv := false }
    let s := withImage 1 (State.reset.setCore 1 c)
    let t := withImage 1 (State.reset.setCore 1 { c with images := [⟨0, 3, 0, imageWords 1⟩], starts := [(0, some {})] })
    s.svIdle 1 = true ∧ s.slotWith (s.core 1) 3 = none ∧ t.svIdle 1 = true ∧ t.slotWith (t.core 1) 3 = some 0 ∧
    s.sieve 3 = some { owner := 0, state := 1, words := imageWords 1 } ∧ (t.core 1).imageIn (t.core 1).slot = some (imageWords 1) ∧
    Table.get noneDef (t.core 1).starts (t.core 1).slot = some {} ∧ acts (.recordPresent 1 0 1 (zeros 8)) t = true := by decide +kernel

theorem witness_TheRecordLoop_budget :
    let s := imageCore 0 2 100
    coreKind 1 = .sv ∧ s.coreRuns 1 = true ∧ 1 ≤ (s.core 1).phase ∧ (s.core 1).record.budget ≤ (s.core 1).record.cycles := by decide +kernel

/-! ### Ring channels and register channels -/

/-- The 32 bytes of a descriptor in the state OWN. -/
def descOf (op count src dst param : Nat) : List Byte :=
  [0x80, 0, 0, BitVec.ofNat 8 op] ++ leBytes 4 count ++ leBytes 8 src ++ leBytes 8 dst ++ leBytes 8 param

/-- Ring channel 2 of mover 1 of block 3 as `g` changes it, with the descriptors `ds` in its slots from 0 on. -/
def ringWith (ds : List (List Byte)) (g : RingChan → RingChan) : State :=
  ((ds.foldl (fun p d => (p.1 + 1, (p.2.modBlock 3 fun b => { b with sram := b.sram.writeN (slotAddr 1 2 p.1) d }))) (0, State.reset.setFn 0 (fnWith false []))).2).modRingCh
    3 1 2 g

/-- The channel runs the descriptor of slot 0. -/
def ringRuns (d : List Byte) (bound : Bool) : State :=
  (ringWith [d] fun x => { x with bound := bound, running := some 0 }).modMover 3 1 fun v => { v with unit := some (.ring 3 1 2) }

/-- The seven data kinds, with a source and a destination in local memory where the kind has one. -/
def dataKinds : List (Nat × List Byte) :=
  [(0, descOf 0x05 64 0 4096 0), (1, descOf 0x15 64 0 4096 0), (2, descOf 0x25 64 0 4096 0), (3, descOf 0x35 64 0 4096 0x4000),
   (4, descOf 0x45 64 0 4096 0x4000), (5, descOf 0x54 64 7 4096 3), (6, descOf 0x61 64 0 0 0)]

theorem witness_RingChannels_data :
    (dataKinds.all fun (k, d) => [true, false].all fun bound =>
      let s := ringRuns d bound
      let x := s.ringCh 3 1 2
      match s.runningDesc 3 1 2 with
      | none => false
      | some e => s.moverGoes 3 1 && decide (e.kind = k) && decide ((e.check x).isNone = bound) && !(s.fn x.fn).stopped &&
          decide (e.ss ≠ 3) && decide (e.ds ≠ 3)) = true ∧
    (([.copy 3 1 2, .deal 3 1 2, .merge 3 1 2, .planes 3 1 2, .unplanes 3 1 2, .descFill 3 1 2, .descRead 3 1 2] : List Instr).zip dataKinds).all
      (fun (i, p) => acts i (ringRuns p.2 true) && acts i (ringRuns p.2 false)) = true := by decide +kernel

/-- A COPY from a stream FIFO with one word, and one to such a FIFO. -/
theorem witness_RingChannels_stream :
    (let s := (ringRuns (descOf 0x07 128 5 4096 0) true).modFifo 3 5 fun f => { f with words := [(zeros 64, true)] }
     match s.runningDesc 3 1 2 with
     | none => false
     | some d => decide (d.check (s.ringCh 3 1 2) = none) && decide (d.ss = 3) &&
         decide ((s.streamStep 3 (s.ringCh 3 1 2) d).map (fun p => (p.1, p.2.1)) = some (64, none)) && acts (.copy 3 1 2) s) = true ∧
    (let s := ringRuns (descOf 0x0D 128 4096 5 0) true
     match s.runningDesc 3 1 2 with
     | none => false
     | some d => decide (d.check (s.ringCh 3 1 2) = none) && decide (d.ds = 3) &&
         decide ((s.streamStep 3 (s.ringCh 3 1 2) d).map (fun p => (p.1, p.2.1)) = some (128, none)) && acts (.copy 3 1 2) s) = true := by
  decide +kernel

/-- Overlapping ranges in both directions of copying. -/
theorem witness_RingChannels_overlap :
    (let s := State.reset.modBlock 3 fun b => { b with sram := b.sram.writeN 0 [1, 2, 3, 4] }
     (s.block 3).sram.wf && decide (((s.copyBytes (.block 3) (.block 3) 0 1 3 3 true).2.block 3).sram.readN 0 4 = [1, 1, 2, 3]) &&
     decide (((s.copyBytes (.block 3) (.block 3) 1 0 3 3 false).2.block 3).sram.readN 0 4 = [2, 3, 4, 4])) = true := by decide +kernel

/-- A BIND that keeps its rules, and one with a reserved bit. -/
theorem witness_RingChannels_bind :
    (let d := [0x80, 0, 0, 0xF0, 5, 0, 0, 0, 7, 2, 9, 1, 4] ++ zeros 19
     [(d, true), (d.set 10 16, false)].all fun (d, good) =>
       let s := ringRuns d false
       match s.runningDesc 3 1 2 with
       | none => false
       | some e => decide ((s.ringCh 3 1 2).running = some 0) && s.moverGoes 3 1 && decide (e.kind = 0xF) && decide (e.bindOk = good) &&
           nextIs (exec (.bindChan 3 1 2) s) fun t => decide ((t.ringCh 3 1 2).bound = good)) = true := by decide +kernel

/-- A notice of a slot without OWN, of a data descriptor and of a STOP. -/
theorem witness_RingChannels_notice :
    ([zeros 32, descOf 0x05 64 0 4096 0, descOf 0xE0 0 0 0 0].all fun d =>
      let s := (ringWith [d] id).modFifo 3 (toMover 1) fun x => { x with words := [(zeros 9 ++ [1, 2, 0] ++ zeros 4, true)] }
      s.moverGoes 3 1 && (((s.block 3).fifo (toMover 1)).takeItem).1.isSome && acts (.descriptorNotice 3 1 2 0) s) = true := by
  decide +kernel

/-- A ring channel and a register channel that are ready. -/
theorem witness_RingChannels_start :
    (let s := ringWith [descOf 0x05 64 0 4096 0] fun x => { x with bound := true }
     let t := s.modRegCh 3 1 1 fun y => { y with ready := true }
     [(s, false, 2), (t, true, 1)].all fun (s, reg, k) =>
       decide (s.nextUnit 3 1 = some (reg, k)) && s.moverGoes 3 1 && ((s.block 3).mover 1).unit.isNone && !s.islandGated 3 2 &&
       acts (.moverUnitStart 3 1) s) = true := by decide +kernel

/-- The next descriptor has a reserved kind, or stands in a word with an uncorrectable error. -/
theorem witness_RingChannels_refused :
    (let s := ringWith [descOf 0x85 64 0 4096 0] fun x => { x with bound := true }
     let d := s.desc 3 1 2 (s.ringCh 3 1 2).next
     let t := (ringWith [descOf 0x05 64 0 4096 0] fun x => { x with bound := true }).modBlock 3 fun b => { b with sramBad := [slotAddr 1 2 0 / 8] }
     decide (s.nextUnit 3 1 = some (false, 2)) && decide (7 ≤ d.kind ∧ d.kind ≤ 0xB) && (d.check (s.ringCh 3 1 2)).isSome &&
     decide (t.nextUnit 3 1 = some (false, 2)) && (t.blockBad 3 (slotAddr 1 2 0) 32).isSome) = true := by decide +kernel

/-- STOP, CUT and ABORT in slot 1 while nothing runs, while slot 0 runs, and while its ending waits for a read-back. -/
theorem witness_RingChannels_control :
    ([0xE, 0xC, 0xD].all fun k =>
      let s := ringWith [descOf 0x05 64 0 4096 0, descOf (16 * k) 0 0 0 0] fun x => { x with bound := true, control := [1] }
      let r := (s.modRingCh 3 1 2 fun x => { x with running := some 0 }).modMover 3 1 fun v => { v with unit := some (.ring 3 1 2) }
      let e := r.modRingCh 3 1 2 fun x => { x with ended := some (0, 0) }
      [s, r, e].all fun s => s.controlRead 3 1 2 1 k && (s.ringCh 3 1 2).cutBy.isNone) = true := by decide +kernel

/-- Register channel 1 of mover 1 of block 3. -/
def regWith (g : RegChan → RegChan) : State := State.reset.modRegCh 3 1 1 g

/-- A copy of 64 bytes from local memory to local memory. -/
def regCopy (y : RegChan) : RegChan := { y with count := 64, dst := 4096, ctrl := 0x05 }

/-- START with and without a trigger, of a transfer that breaks a check, on a busy channel, and with a reserved value. -/
theorem witness_TransfersResponsesAndFifos_start :
    ([(regWith regCopy, 0x8000000000000005, false), (regWith regCopy, 0x8000000004000005, false), (regWith id, 0x8000000000000005, false),
      (regWith fun y => { y with busy := true }, 0x8000000000000005, true), (regWith regCopy, 0x8000000000000015, true)].all
        fun ((s, v, refused) : State × W64 × Bool) => let x := s.regCh 3 1 1
      s.moverUp 3 1 && v.getLsbD 63 && decide ((x.busy || x.lodge || rcCtrlBad v) = refused) && acts (.rcStart 3 1 1 v) s) = true ∧
    ((regCopy {}).formatOk && !({ ctrl := 5 } : RegChan).formatOk) = true := by decide +kernel

theorem witness_TransfersResponsesAndFifos_stop :
    ([regWith id, regWith fun y => { y with busy := true }, regWith fun y => { y with busy := true, running := true }].all fun s =>
      s.moverUp 3 1 && (!(s.regCh 3 1 1).busy || acts (.rcStop 3 1 1) s)) = true := by decide +kernel

/-- A transfer at its end, at a chunk boundary and stopped there, and one that has not moved its bytes yet. -/
theorem witness_TransfersResponsesAndFifos_end :
    ([(fun y => { regCopy y with ended := some (0x31, 8) }), (fun y => { regCopy y with ended := some (0, 0) }),
      (fun y => { regCopy y with ended := some (0, 8), stop := true }), (fun y => { regCopy y with ended := some (0, 8) }), regCopy].all
        fun (g : RegChan → RegChan) =>
      let s := (regWith fun y => { g y with busy := true, running := true }).modMover 3 1 fun v => { v with unit := some (.reg 3 1 1) }
      let x := s.regCh 3 1 1
      s.moverUp 3 1 && x.running && x.dirty.isEmpty && !s.rcWaits x && !x.bar && acts (.rcTransferEnd 3 1 1 none) s) = true := by
  decide +kernel

/-- The registers that clear on a read. -/
theorem witness_TransfersResponsesAndFifos_reads :
    (State.reset.up = true ∧ nextIs (exec (.rchStatRead 71 7 7) (State.reset.modRingCh 71 7 7 fun x => { x with abandoned := 9 }))
        (fun t => (t.ringCh 71 7 7).abandoned = 0) = true) ∧
    nextIs (exec (.fhStatRead 71 63) (State.reset.modFifo 71 63 fun f => { f with crossings := 9 })) (fun t => ((t.block 71).fifo 63).crossings = 0) =
      true ∧
    acts (.fifoPointerMismatch 71 63 {}) State.reset = true := by decide +kernel

/-- Responses to a context with the present bib, an earlier one and one of an abandoned request, to a context that asks for nothing, to a
ring channel whose read is live, was abandoned or is of another birth, and to a register channel. -/
theorem witness_TransfersResponsesAndFifos_responses :
    (let s := (executing {}).modCtx 5 fun c => { c with late := [2] }
     let c := s.ctx 5
     let q := (running stIdle .none {}).ctx 5
     s.up && c.asks && !c.abandoned 0 && c.abandoned 1 && c.abandoned 2 && !q.asks && !q.abandoned 0 &&
     acts (.moverReadResponse (.ctx 5) 0 64 (.fail .poisoned false)) s && acts (.moverReadResponse (.ctx 5) 1 64 (.data [1])) s &&
     acts (.moverReadResponse (.reg 3 1 1) 0 64 (.fail .poisoned false)) (regWith fun y => { y with running := true }) &&
     (let r := ringRuns (descOf 0x05 64 0 4096 0) true
      let x := r.ringCh 3 1 2
      let l := ringWith [] fun x => { x with lost := [0, 4] }
      let y := l.ringCh 3 1 2
      x.running.isSome && x.bound && decide (x.bib = 0) && x.lost.isEmpty && acts (.moverReadResponse (.ring 3 1 2) 0 64 (.fail .poisoned false)) r &&
      acts (.moverReadResponse (.ring 3 1 2) 1 64 (.data [1])) r && y.running.isNone && y.lost.contains 4 &&
      acts (.moverReadResponse (.ring 3 1 2) 4 64 (.data [1])) l)) = true := by decide +kernel

/-- Read-backs and acknowledged writes of a context, a ring channel and a register channel. -/
theorem witness_TransfersResponsesAndFifos_readBack :
    (let s := (executing {}).modCtx 5 fun c => { c with dirty := [1] }
     let r := (ringRuns (descOf 0x05 64 0 4096 0) true).modRingCh 3 1 2 fun x => { x with dirty := [1], ended := some (0, 0) }
     let x := r.ringCh 3 1 2
     let g := regWith fun y => { regCopy y with ctrl := 0x100005, running := true, dirty := [1], ended := some (0, 0) }
     let y := g.regCh 3 1 1
     s.up && readable (s.ctx 5).dirty && !s.hostWaits (s.ctx 5).r.ownerFn.toNat ((s.ctx 5).dirty.contains 0) &&
     acts (.readBackComplete (.ctx 5) none {}) s && acts (.readBackComplete (.ctx 5) (some .poisoned) {}) s &&
     r.up && readable x.dirty && !r.hostWaits x.fn (x.dirty.contains 0) && decide (x.ended = some (0, 0)) && decide (x.running = some 0) &&
     acts (.readBackComplete (.ring 3 1 2) none {}) r &&
     g.moverUp 3 1 && y.running && y.bar && decide (y.xform ≠ 6) && !g.rcWaits y && decide (y.ds = 1) && y.ended.isSome && decide (y.dirty = [1]) &&
     acts (.readBackComplete (.reg 3 1 1) none {}) g) = true ∧
    (let s := (executing {}).modCtx 5 fun c => { c with dirty := [1, unacked] }
     let r := (ringRuns (descOf 0x05 64 0 4096 0) true).modRingCh 3 1 2 fun x => { x with dirty := [1, unacked] }
     let g := (regWith fun y => { regCopy y with ctrl := 0x100005, running := true, dirty := [1, unacked] }).modMover 3 1
       fun v => { v with unit := some (.reg 3 1 1) }
     let y := g.regCh 3 1 1
     s.up && (s.ctx 5).dirty.contains unacked && acts (.localWriteAcknowledged (.ctx 5)) s &&
     r.up && (r.ringCh 3 1 2).dirty.contains unacked && acts (.localWriteAcknowledged (.ring 3 1 2)) r &&
     g.moverUp 3 1 && y.running && y.bar && decide (y.xform ≠ 6) && decide (y.ds = 1) && y.ended.isNone && !g.rcWaits y &&
     acts (.localWriteAcknowledged (.reg 3 1 1)) g) = true := by decide +kernel

/-- A word into an empty FIFO, into a full one and into one that discards the rest of an item; a read of all words, of one more, and of an
empty FIFO. -/
theorem witness_TransfersResponsesAndFifos_fifos :
    0 < ({ words := [(zeros 16, true), (zeros 16, false)] } : Fifo).committed ∧
    ({ words := [(zeros 16, true), (zeros 16, false)] } : Fifo).committed < 2 ∧
    (let full := State.reset.modFifo 71 63 fun f => { f with words := List.replicate 16 (zeros 16, true) }
     let mid := State.reset.modFifo 71 63 fun f => { f with midItem := true }
     ((zeros 16 : List Byte).length = wordLen 63 ∧ ((full.block 71).fifo 63).words.length = fifoCap 63 ∧ ((full.block 71).fifo 63).committed = 16 ∧
       ((mid.block 71).fifo 63).midItem = true ∧ ((State.reset.block 71).fifo 63).committed = 0) ∧
     ([State.reset, mid].all fun s => s.up && acts (.fifoItemWrite 71 63 (zeros 16) true) s) = true ∧
     acts (.fifoItemRead 71 63 16) full = true ∧ (State.reset.block 71).evWait = []) := by decide +kernel

/-! ### The host interface -/

/-- The admin queue is created, refused for its configuration, and refused because it exists. -/
theorem witness_ControlAndMemoryWindows_aqCreate :
    (let f := fnWith false []
     [({ f with aqCfg := 0x286 }, 1), ({ f with aqCfg := 6 }, aqBadConfig), (f.setQueue 0 (some (queueOf false)), aqExists)].all fun (f, r) =>
       let s := State.reset.setFn 0 f
       s.up && s.fnExists 0 && decide ((s.fn 0).state ≠ 2) && decide (f.createResult = r) &&
         nextIs (exec (.aqCreate 0 1) s) fun t => decide ((t.fn 0).aqResult = r)) = true := by decide +kernel

/-- SR_HEAD up to the tail, beyond it, and outside the ring. -/
theorem witness_ControlAndMemoryWindows_srHead :
    (let r : StatusRing := { base := 0x20000, logSize := 6, loc := false, tail := 3 }
     let s := State.reset.setFn 0 { fnDef 0 with rings := [(15, some r)] }
     s.up && s.fnExists 0 && decide ((s.fn 0).ring 15 = some r) &&
     [(0x10003, 3), (0x10004, 0), (0x10040, 0)].all fun ((v, h) : Nat × Nat) =>
       nextIs (exec (.srHeadWrite 0 15 (BitVec.ofNat 32 v)) s) fun t => decide (((t.fn 0).ring 15).map StatusRing.head = some h)) = true := by
  decide +kernel

/-- The first and the last words of the control window and of the register spaces, and GO of a region's supervisor core. -/
theorem witness_ControlAndMemoryWindows_registers :
    ((State.reset.up ∧ State.reset.fnExists 0 ∧ (State.reset.fn 0).state ≠ 2) ∧
     [(0x48, 4), (0x3FFFF8, 8)].all (fun ((a, n) : Nat × Nat) => decide (a + n ≤ 0x400000) && decide (a % n = 0)) = true ∧
     acts (.registerWrite (.host 0 0x4A 4 5)) State.reset = true ∧
     [(regBase, 1), (regBase + 0x7FFFFF8, 8), (chipBase, 8)].all (fun ((a, n) : Nat × Nat) => inRegs a && inRegs (a + n - 1)) = true ∧
     (State.reset.regAt (regBase + 0xF00000)).map isBoot = some true ∧
     acts (.cellBootGo (.supervisor (regBase + 0xF00000) 8 0x8000000000000040)) State.reset = true) := by decide +kernel

/-- Aligned reads of FN_INFO and of the last word, while the function works and while it is RESETTING; a ring that does not exist. -/
theorem witness_ControlAndMemoryWindows_reads :
    (let s := State.reset
     let r := s.modFn 0 fun f => { f with state := 2 }
     (s.fn 0).state ≠ 2 ∧ (r.fn 0).state = 2 ∧ (s.fn 0).ring 15 = none ∧ (s.hostLoad 0 0 8).1 ≠ 0 ∧ (r.hostLoad 0 0 8).1 ≠ 0 ∧
     s.hostLoad 0 0x3FFFF8 8 = (0, s) ∧ r.hostLoad 0 0x18 8 = (0, r) ∧ (s.hostLoad 0 2 4).1 = 0) := by decide +kernel

/-- The device-fatal state, in which a request to a BAR is aborted. -/
theorem witness_ControlAndMemoryWindows_fatal :
    (let s : State := { State.reset with chip := { State.reset.chip with fatal := true } }
     s.chip.fatal = true ∧ s.board.cold = false ∧ nextIs (exec .lmwDeniedRead s) (fun t => t.out = [.completerAbort]) = true) := by
  decide +kernel

/-- Accesses of the local memory window, the last of them at the end of a window of 16 GiB. -/
theorem witness_ControlAndMemoryWindows_lmw :
    (State.reset.up = true ∧
     [(0, LmwOp.read 64), (1, .write [1, 2]), (0x3FFFFFFF8, .fetchAdd 8 1), (8, .swap 4 9), (16, .cas 16 0 5), (16, .cas 4 1 5)].all (fun (a, op) =>
       lmwOk a op && decide (a + lmwSize op ≤ 2 ^ (State.reset.fn 0).lmwLog * 0x40000000) &&
       !State.reset.lmwPoison ((State.reset.fn 0).lmwBase * 0x40000000 + a) (lmwSize op) && acts (.lmwAccess a op) State.reset) = true ∧
     lmwNext 0 (.cas 16 0 5) = some 5 ∧ lmwNext 0 (.cas 4 1 5) = none ∧
     nextIs (exec .lmwDeniedRead (State.reset.modFn 0 fun f => { f with lmwDenied := 3 })) (fun t => (t.fn 0).lmwDenied = 0) = true) := by
  decide +kernel

/-- Cold and warm reset, in which a configuration request is to be retried. -/
theorem witness_ConfigurationAndInterruptEvents_retry :
    ([{ State.reset.board with cold := true }, { State.reset.board with warm := true }].all fun b =>
      (b.cold || b.warm) && nextIs (exec (.flr 0) { State.reset with board := b }) fun t => decide (t.out = [.requestRetry])) = true := by
  decide +kernel

/-- Configuration space events. -/
theorem witness_ConfigurationAndInterruptEvents_config :
    ((State.reset.board.cold = false ∧ State.reset.board.warm = false ∧ State.reset.chip.fatal = false ∧ State.reset.vfEnable = false) ∧
     [0, 8].all (fun k => nextIs (exec (.barResize k) State.reset) fun t => (t.fn 0).lmwLog = k) = true ∧
     nextIs (exec (.flr 0) State.reset) (fun t => (t.fn 0).state = 2) = true ∧
     nextIs (exec (.vfEnableSet 255) State.reset) (fun t => t.fnExists 255) = true ∧
     (let s := { State.reset with vfEnable := true, numVfs := 255 }
      nextIs (exec (.flr 255) s) (fun t => (t.fn 255).state = 2) = true ∧ nextIs (exec .vfEnableClear s) (fun t => !t.fnExists 255) = true)) := by
  decide +kernel

theorem witness_ConfigurationAndInterruptEvents_power :
    ([true, false].all fun on =>
      let s := State.reset.modFn 0 fun f => { f with d0 := !on, busMaster := !on }
      s.up && s.fnExists 0 && decide ((s.fn 0).d0 ≠ on) && decide ((s.fn 0).busMaster ≠ on) &&
      acts (.dStateChange 0 ⟨on, false⟩ {}) s && acts (.busMasterEnableChange 0 on {}) s) = true ∧
    ([true, false].all fun d0 =>
      let s := State.reset.modFn 0 fun f => { f with d0 := d0, pmeStatus := true, pmeEn := true }
      s.up && s.fnExists 0 && (s.fn 0).pmeStatus && acts (.pmeStatusClear 0) s && acts (.pmeTimeout 0) s) = true := by
  decide +kernel

theorem witness_ConfigurationAndInterruptEvents_vectors :
    (2047 < (State.reset.fn 0).vecCount ∧
     acts (.msixMaskClear 0 (.vector 2047)) State.reset = true ∧
     (let s := State.reset.modFn 0 fun f => f.setVec 2047 { f.vec 2047 with pending := 3, since := some 0, holdoff := 2 }
      let x := (s.fn 0).vec 2047
      (s.notBefore 2000 = true ∧ x.since = some 0 ∧ x.pending ≠ 0 ∧ reached 2000 (0 + 1000 * x.holdoff) = true) ∧
      nextIs (exec (.moderationHoldoffExpiry 0 2047 2000) s) (fun t => ((t.fn 0).vec 2047).pending = 0) = true) ∧
     acts (.atsInvalidate 0) State.reset = true) := by decide +kernel

/-! ### Reads of entries -/

/-- Queue 1 in a stage. -/
def polling (g : PollStage) : State :=
  (State.reset.setFn 0 { fnWith false [] with queues := [(1, some { queueOf false with stage := g })] })

theorem witness_ReadsOfEntriesAndResponses_polls :
    (let s := polling (.due 0)
     let r := polling (.reading false)
     let x : Queue := { queueOf false with stage := .reading false }
     s.grooms 0 && acts (.queuePoll 0 1 s.time) s && r.grooms 0 && decide ((r.fn 0).queue 1 = some x) &&
     ([0x00, 0x80, 0xC0].all fun (b : Byte) => r.ringAgrees 0 x (x.base + 16 * x.f) 1 (.ok [b]) &&
       acts (.pollReadComplete 0 1 (.ok b)) r) &&
     acts (.pollReadComplete 0 1 (.fail .poisoned)) r) = true := by decide +kernel

/-- A START entry in the last three slots of the ring, an entry with a reserved KIND, and a failed read. -/
theorem witness_ReadsOfEntriesAndResponses_entries :
    (let x : Queue := { queueOf false with f := 61, stage := .entry 0x82 }
     let s := State.reset.setFn 0 { fnWith false [] with queues := [(1, some x)] }
     let good : List Byte := entryBytes 1 0 0x1000
     let bad : List Byte := entryBytes 0x3F 0 0x1000
     s.grooms 0 && decide ((s.fn 0).queue 1 = some x) &&
     ([good, bad].all fun bs => s.ringAgrees 0 x (x.base + 16 * x.f) 48 (.ok bs) && acts (.entryReadComplete 0 1 (.ok bs) {}) s) &&
     decide (structural false 0x82 x.f x.slots good = none) && (structural false 0x82 x.f x.slots bad).isSome &&
     acts (.entryReadComplete 0 1 (.fail .poisoned) {}) s) = true := by decide +kernel

theorem witness_ReadsOfEntriesAndResponses_freeze :
    ([true, false].all fun e =>
      let s := State.reset.setFn 0 { fnWith false [] with state := 1, freezing := true, errVecEn := e }
      s.up && (s.fn 0).freezing && decide ((s.fn 0).state = 1) && (s.fn 0).taken.isEmpty && (s.fn 0).held.isEmpty &&
      ((s.ctxsOf 0).all fun n => !(s.ctx n).hasProgram) && acts (.freezeFinish 0 {}) s) = true := by decide +kernel

/-- Responses with the present bib and with one of an abandoned request. -/
theorem witness_ReadsOfEntriesAndResponses_responses :
    (let s := (executing {}).modCtx 5 fun c => { c with late := [2] }
     s.up && (s.ctx 5).asks && !(s.ctx 5).abandoned 0 && (s.ctx 5).abandoned 2 && !(s.fn (s.ctx 5).r.ownerFn.toNat).stopped &&
     ([AccFail.poisoned, .farUr].all fun f => [true, false].all fun wr =>
       nextIs (exec (.farResponse ⟨5, 0⟩ 64 (.fail f wr)) s) (fun t => (t.ctx 5).fails.length = 1) &&
       nextIs (exec (.hostCompletion ⟨5, 0⟩ 64 (.fail f wr)) s) (fun t => (t.ctx 5).fails.length = b2n (!wr))) &&
     nextIs (exec (.hostCompletion ⟨5, 0⟩ 64 (.fail .ats true)) s) (fun t => (t.ctx 5).fails.length = 1) &&
     nextIs (exec (.hostCompletionTimeout ⟨5, 0⟩ 64 8) s) (fun t => (t.ctx 5).fails.length = 1)) = true := by
  decide +kernel

/-! ### Management, attestation, debug ports, power and reset -/

/-- The device in a life cycle state, with a management session 7. -/
def secured (lc : Nat) : State :=
  { State.reset with store := { State.reset.store with lifecycle := lc, secret := some 5, chain := [1, 2] },
                     sec := { State.reset.sec with debug := 0, sessions := [(7, true, 0)] } }

theorem witness_ManagementAndAttestation_mctp :
    (let s := State.reset
     (s.mgUp = true ∧ s.sec.zeroising = none ∧ s.leaveLowPower.store.lifecycle = 0 ∧ (secured 0).leaveLowPower.store.secret ≠ none ∧
       (secured 1).leaveLowPower.store.lifecycle = 1) ∧
     acts (.getState .mctp) s = true ∧ acts (.readLedger .mctp 16368 16) s = true ∧
     acts (.setDebug .mctp 2) s = true ∧
     nextIs (exec (.provision .mctp 3 4) s) (fun t => t.store.secret = some 3 && decide (t.store.publicKey = 4)) = true ∧
     nextIs (exec (.installCert .mctp [9]) (secured 0)) (fun t => t.store.lifecycle = 1 && decide (t.store.chain = [9])) = true ∧
     nextIs (exec (.lockDevice .mctp) (secured 1)) (fun t => t.store.lifecycle = 2) = true) := by decide +kernel

theorem witness_ManagementAndAttestation_nonces :
    (let s := secured 2
     let x : Nonce := { value := 11, session := 7, purpose := 1, born := 0 }
     let w := fun (p : Nat) => { s with sec := { s.sec with nonces := [{ x with purpose := p }] } }
     (s.mgUp = true ∧ s.securedIn (.session 7) = some 7 ∧ s.store.lifecycle = 2 ∧ s.sec.zeroising = none ∧ s.sec.debug = 0) ∧
     [1, 3].all (fun p => acts (.unlockChallenge (.session 7) p 11 s.time) s) = true ∧
     (∀ p ∈ [1, 2, 3], ((w p).liveNonce 7 11 s.time).map Nonce.purpose = some p) ∧
     nextIs (exec (.unlockResponse (.session 7) 11 true s.time) (w 1)) (fun t => t.sec.debug = 1) = true ∧
     nextIs (exec (.unlockResponse (.session 7) 11 true s.time) (w 2)) (fun t => t.sec.zeroising = some (2, 7)) = true ∧
     nextIs (exec (.retire (.session 7) 11 true s.time) (w 3)) (fun t => t.sec.zeroising = some (3, 7)) = true ∧
     nextIs (exec (.unlockResponse (.session 7) 11 false s.time) (w 1)) (fun t => t.sec.debug = 0) = true ∧
     nextIs (exec (.nonceExpiry 11 60000000000) { w 1 with time := 5 }) (fun t => t.sec.nonces.isEmpty) = true) := by decide +kernel

/-- Zeroisation on the way to FULL and to RETIRED, with a byte of the tenant area set. -/
theorem witness_ManagementAndAttestation_zeroisation :
    (let s := fun (p : Nat) => { secured 2 with hbm := (secured 2).hbm.write 64 9, sec := { (secured 2).sec with zeroising := some (p, 7) } }
     ((s 2).up = true ∧ (s 2).allStopped = true ∧ ((s 3).erase 7).supplyOk = true) ∧
     nextIs (exec .zeroisation (s 2)) (fun t => t.sec.debug = 2 && decide (t.hbm.read 64 = 0) && decide (t.store.lifecycle = 2)) = true ∧
     nextIs (exec .zeroisation (s 3)) (fun t => t.store.lifecycle = 3 && decide (t.store.secret = none)) = true) := by decide +kernel

theorem witness_ManagementAndAttestation_attestation :
    (let s := secured 2
     (s.mgUp = true ∧ s.sessionOpen 7 = true ∧ (s.cic 960).provisioned = true ∧ s.session 8 = none ∧ s.sec.sessions.length < 4 ∧
       (s.session 7).isSome = true) ∧
     ([.getMeasurements 7 false, .getMeasurements 7 true, .getCertificate 7 0, .challenge 7 0, .keyExchange 8 false, .spdmSessionEnd 7] :
       List Instr).all (fun i => acts i s) = true ∧
     acts (.keyExchange 8 true) { s with sec := { s.sec with sessions := [] } } = true) := by decide +kernel

theorem witness_ManagementAndAttestation_tdisp :
    (let s := fun (x : Tdi) => ({ secured 2 with vfEnable := true, numVfs := 1 } : State).modFn 1 fun f => { f with tdi := x }
     ((s .run).mgUp = true ∧ (s .run).isTdi 1 = true ∧ (s .run).store.lifecycle = 2 ∧ (s .run).sec.debug < 2 ∧ (s .run).up = true ∧
       (s .run).board.warm = false ∧ (s .run).chip.fatal = false) ∧
     nextIs (exec (.tdispLockInterface 1) (s .configUnlocked)) (fun t => (t.fn 1).tdi = .configLocked) = true ∧
     nextIs (exec (.tdispStartInterface 1) (s .configLocked)) (fun t => (t.fn 1).tdi = .run) = true ∧
     acts (.tdispStopInterface 1) (s .run) = true ∧
     nextIs (exec (.tdiError 1) (s .run)) (fun t => (t.fn 1).tdi = .error) = true) := by decide +kernel

theorem witness_ManagementAndAttestation_firmware :
    (let s := State.reset
     let b := { s with sec := { s.sec with fwBusy := some s.updateBank } }
     (s.mgUp = true ∧ s.supplyOk = true ∧ s.sec.fwBusy = none) ∧
     acts (.pldmFirmwareUpdate .begin) s = true ∧ acts (.pldmFirmwareUpdate (.chunk (bankSize - 1) [7])) b = true ∧
     acts (.pldmFirmwareUpdate (.activate bankSize true 3)) b = true ∧ acts (.pldmFirmwareUpdate .cancel) b = true) := by
  decide +kernel

/-- Frames at the three debug levels: faulty ones, SEC_STATE, a register and local memory. -/
theorem witness_DebugPortsPowerAndReset_frames :
    (let s := fun (l : Nat) => { State.reset with sec := { State.reset.sec with debug := l } }
     let fs : List DapFrame := [{ parityGood := false }, { addr := 4 }, {}, { addr := secStateAddr }, { addr := regBase }, { addr := 64, data := 9 }]
     ((s 0).mgUp = true ∧ fs.map dapFaulty = [true, true, false, false, false, false] ∧
       [0, 1, 2].map (fun l => fs.map fun f => (dapAllowed l f.addr false, dapAllowed l f.addr true)) =
         [[(false, false), (false, false), (false, false), (true, false), (false, false), (false, false)],
          [(false, false), (false, false), (false, false), (true, false), (true, false), (false, false)],
          [(true, true), (true, true), (true, true), (true, true), (true, true), (true, true)]] ∧
       dapPlace 64 = .local_ ∧ (s 2).poisonIn 64 8 = none) ∧
     ([0, 1, 2].all fun l => fs.all fun f => acts (.dapRead f) (s l) && acts (.dapWrite f) (s l) &&
       (decide (f.addr ≠ 0 ∧ dapFaulty f = false) || acts (.dapStatus f) (s l))) = true) := by decide +kernel

theorem witness_DebugPortsPowerAndReset_port :
    (let s := State.reset
     s.notBefore s.time = true ∧ s.mgUp = true ∧
     ([.dapFrameTimeout s.time, .mctpReassemblyTimeout s.time, .smbusClockTimeout s.time, .idcode, .bypass 1, .samplePreload 1, .extest,
       .internalScan, .memoryBist] : List Instr).all (fun i => acts i s) = true) := by
  decide +kernel

/-- An idle island of the last cell, gated and running again. -/
theorem witness_DebugPortsPowerAndReset_glide :
    (let s := State.reset
     let g := { s with power := { s.power with gated := [16] } }
     (s.up = true ∧ s.power.state = 0 ∧ s.islands.contains 16 = true ∧ s.power.gated.contains 16 = false ∧ s.idleCell 1 0 = true) ∧
     nextIs (exec (.glideEntry 16 s.time) s) (fun t => t.power.gated = [16]) = true ∧
     nextIs (exec (.glideExit 16) g) (fun t => t.power.gated = []) = true) := by decide +kernel

/-- Coast and Park at level FULL and below it, and the way back. -/
theorem witness_DebugPortsPowerAndReset_coastPark :
    (let f := { State.reset with vfEnable := false }.modFn 0 fun f => { f with d0 := false }
     let s := { f with sec := { f.sec with debug := 0 } }
     let p := { s with power := { s.power with state := 1 } }
     (s.up = true ∧ s.coastIdle ≠ 0 ∧ s.coastCond = true ∧ s.parkEn = true ∧ s.allD3 = true ∧ f.sec.debug = 2 ∧ f.power.coastTold = false ∧
       f.power.parkTold = false ∧ p.triggered .management = true) ∧
     nextIs (exec (.coastEntry s.time) s) (fun t => t.power.state = 1) = true ∧
     nextIs (exec (.coastEntry s.time) f) (fun t => t.power.refusals = 1) = true ∧
     nextIs (exec (.parkEntry s.time) s) (fun t => t.power.state = 2) = true ∧
     nextIs (exec (.parkEntry s.time) f) (fun t => t.power.refusals = 1) = true ∧
     nextIs (exec (.coastParkExit .management) p) (fun t => t.power.state = 0) = true ∧ acts .pwrStatRead p = true) := by
  decide +kernel

theorem witness_DebugPortsPowerAndReset_resets :
    (let s := State.reset
     let w := { s with board := { s.board with warm := true } }
     let c := { s with board := { s.board with cold := true } }
     let st : StartUp := { fpbif := List.replicate 12 16, smbAddr := [0, 16] }
     (w.board.cold = false ∧ w.chip.fatal = false ∧ c.board.breach = false ∧ c.board.thermtrip = false ∧ st.fpbif.length = 12 ∧
       st.smbAddr.length = 2) ∧
     acts .warmReset s = true ∧ nextIs (exec (.warmResetRelease st) w) (fun t => !t.board.warm) = true ∧
     nextIs (exec (.coldReset .pwrGood) s) (fun t => t.board.cold) = true ∧
     nextIs (exec (.coldResetRelease st) c) (fun t => !t.board.cold && decide (t.board.fpbif = 0xFFF) && decide (t.board.smbAddr = 2)) = true ∧
     nextIs (exec (.powerOrderBreach 7) c) (fun t => t.board.breach && !acts (.coldResetRelease st) t) = true) := by decide +kernel

/-! ### Events and interrupts -/

/-- Two firings at channel 4095 in one cycle, the second of the lower origin, and a firing elsewhere. -/
theorem witness_FiringsDeliveriesAndBindings_arrival :
    (let f : Firing := { toVector := false, dest := 4095, origin := 9, hop := 0, attrS := true }
     let g : Firing := { f with origin := 3 }
     let o : Firing := { f with dest := 1 }
     let s := { State.reset with firings := [f, o, g] }
     (s.up = true ∧ takeFirings (fun f => !f.toVector && decide (f.dest = 4095)) 2 s.firings = ([f, g], [o]) ∧
       lowestOrigin [f, g] = some g ∧ g.attrS = true ∧ (∀ p ∈ s.waitOrder, p.1 ≠ 4095)) ∧
     nextIs (exec (.eventFiringArrival 4095 2 {}) s) (fun t =>
       (t.ech 4095).flag && decide ((t.ech 4095).from_ = 3) && decide ((t.ech 4095).coal = 1) && decide (t.firings = [o])) = true ∧
     ({ f with attrS := false } : Firing).attrS = false ∧ (s.ech 4095).attrS = true ∧ (s.ech 0).attrS = false) := by decide +kernel

/-- Two firings at a vector, counted or busy, and the firing of a register. -/
theorem witness_FiringsDeliveriesAndBindings_vectors :
    (let f : Firing := { toVector := true, fn := 0, dest := 7, origin := 9, hop := 0, attrS := true }
     ([({ State.reset with firings := [f, f] }, false), (({ State.reset with firings := [f, f] } : State).modFn 0 fun x => { x with d0 := false }, true)].all
       fun ((s, busy) : State × Bool) => s.up && decide (takeFirings (fun f => f.toVector && decide (f.fn = 0) && decide (f.dest = 7)) 2 s.firings = ([f, f], [])) &&
         decide (s.vectorBusy 0 7 = busy) && acts (.vectorFiringArrival 0 7 2) s) = true ∧
     State.reset.blockOn 70 = true ∧ nextIs (exec (.blkEvtFire 70 0xFFF) State.reset) (fun t => t.firings.length = 1) = true) := by decide +kernel

/-- A delivery to a view bit, and one to a register channel. -/
theorem witness_FiringsDeliveriesAndBindings_delivery :
    ([Consumer.blkView 71 63 63, .rc 71 7 1].all fun w =>
      let s := { State.reset with deliveries := [{ chan := 4095, who := w }] }
      s.up && decide (({ chan := 4095, who := w } : Delivery) ∈ s.deliveries) &&
      nextIs (exec (.consumerDelivery 4095 w) s) fun t => t.deliveries.isEmpty) = true := by decide +kernel

theorem witness_FiringsDeliveriesAndBindings_registers :
    (let s := State.reset.modBlock 70 fun b => { b with timers := Table.set timerDef b.timers 15 { armed := true, deadline := 100, chan := 5 } }
     let x := Table.get timerDef (s.block 70).timers 15
     (s.up = true ∧ s.blockOn 70 = true ∧ x.armed = true ∧ s.notBefore 100 = true ∧ x.deadline ≤ (s.at_ 100).uptime) ∧
     nextIs (exec (.gtTimerExpiry 70 15 100) s) (fun t => t.firings.length = 1) = true ∧
     acts (.flagClear 4095) (s.modEch 4095 fun e => { e with flag := true }) = true ∧ acts (.evtChRead 4095) s = true ∧ acts .evtCtlRead s = true) := by
  decide +kernel

/-- A binding of channel 4095 to channel 4094, one to vector 2047 of FN[0], and one that is not valid. -/
theorem witness_FiringsDeliveriesAndBindings_bindings :
    ([0x8000000000000FFE, 0x80000000000107FF, 0].all fun (v : W64) =>
      decide (v.toNat / 0x10000 % 4 < 2) && !State.reset.bindRefused 4095 3 (bindOfWord v) &&
      (decide ((bindOfWord v).toVector = true ∨ (bindOfWord v).fn = 0)) &&
      nextIs (exec (.evtBindWrite 4095 3 v) State.reset) fun t => decide (t.bind 4095 3 = bindOfWord v)) = true := by decide +kernel

/-- A reserved DST, a channel bound to itself, a second binding of one destination, and a channel as destination with a function. -/
theorem witness_FiringsDeliveriesAndBindings_refused :
    (let s := State.reset.setBind 4095 0 (bindOfWord 0x8000000000000FFE)
     decide (2 ≤ (0x8000000000020FFE : W64).toNat / 0x10000 % 4) && s.bindRefused 4095 3 (bindOfWord 0x8000000000000FFF) &&
     s.bindRefused 4095 3 (bindOfWord 0x8000000000000FFE) && (bindOfWord 0x8000000000000FFE).valid &&
     decide ((bindOfWord 0x8000000001000FFE).fn ≠ 0 ∧ (bindOfWord 0x8000000001000FFE).toVector = false)) = true := by decide +kernel

/-- Controller 8 with source 1023 as `x`, target 3 as `g`, and a hold-off of the group of the source. -/
def irqWith (x : Src) (g : Tgt) : State :=
  State.reset.modCtl 8 fun c => { (c.setSrc 1023 x) with tgts := [(3, g)], holdoff := [(31, 2)], until_ := [(31, 50)] }

theorem witness_InterruptControllers_samples :
    (let s := irqWith { enabled := true, input := true } {}
     (s.up = true ∧ ctlHas 8 1023 = true ∧ Table.get natDef (s.ctl 8).until_ 31 = 50 ∧ Table.get natDef (s.ctl 8).holdoff (1023 / 32) = 2 ∧
       ((s.ctl 8).src 1023).input = true ∧ ((s.ctl 8).src 1023).stuck = false ∧ ((s.ctl 8).src 1023).since + 1600 * 2 < 3201) ∧
     ({ s with time := 0 } : State).time = 0 ∧
     [true, false].all (fun l => acts (.sourceEdge 8 1023 l 3 60) { s with time := 0 }) = true ∧
     acts (.groupHoldoffExpiry 8 31 50) { s with time := 0 } = true ∧
     nextIs (exec (.stuckSource 8 1023 3201) { s with time := 0 }) (fun t => ((t.ctl 8).src 1023).stuck) = true ∧
     nextIs (exec (.srcCfgRead 8 1023) s) (fun t => ((t.ctl 8).src 1023).extra = 0) = true) := by decide +kernel

/-- A claim over a preempted source, and claims in a stack fault and without a source. -/
theorem witness_InterruptControllers_claims :
    (let s := irqWith { pending := true, enabled := true, prio := 5, target := some 3 } { en := true, stack := [(2, 4)] }
     (s.up = true ∧ 3 < ctlTargets 8 ∧ ((s.ctl 8).tgt 3).fault = false ∧ (s.ctl 8).best 3 = some 1023) ∧
     nextIs (exec (.claimRead 8 3) s) (fun t => ((t.ctl 8).tgt 3).stack = [(1023, 5), (2, 4)]) = true ∧
     (let f := irqWith {} { fault := true }
      ((f.ctl 8).tgt 3).fault = true ∧ acts (.claimRead 8 3) f = true ∧
      nextIs (exec (.stackFaultClear 8 3) f) (fun t => !((t.ctl 8).tgt 3).fault) = true) ∧
     (State.reset.ctl 8).best 3 = none ∧ acts (.claimRead 8 3) State.reset = true) := by decide +kernel

/-- DONE of the top source and of another, and the bitmap registers of the last word. -/
theorem witness_InterruptControllers_done :
    (let s := irqWith { active := true } { en := true, stack := [(1023, 5), (2, 4)] }
     ((s.ctl 8).tgt 3).stack = [(1023, 5), (2, 4)] ∧
     nextIs (exec (.doneWrite 8 3 1023) s) (fun t => ((t.ctl 8).tgt 3).stack = [(2, 4)]) = true ∧
     nextIs (exec (.doneWrite 8 3 2) s) (fun t => ((t.ctl 8).tgt 3).fault) = true ∧
     ctlWord 8 31 = true ∧ ctlWord 7 3 = true ∧
     ([.pendSet 8 31 0x80000000, .enableSet 7 3 1] : List Instr).all (fun i => acts i s) = true) := by
  decide +kernel

/-! ### Links, controllers and capacity -/

/-- Link 22 in a mode, with a partner of kind 4. -/
def linkIn (m : Nat) : State := State.reset.setLink 22 { State.reset.link 22 with mode := m, kind := 4, memOn := decide (m = 2) }

/-- A partner that offers CXL and one that does not, with the widest link. -/
theorem witness_LinksControllersAndCapacity_up :
    ([(true, 2), (false, 1)].all fun ((cxl, m) : Bool × Nat) =>
      let s := State.reset
      let x := s.link 22
      let tr : Training := { partnerCxl := cxl, rate := min x.maxRate 5, width := 8, retimers := 2, kind := 4, pMaxRate := 5 }
      s.up && !s.absent 22 && decide (x.mode = 0) && decide (x.trains tr.partnerCxl = some m) && decide (tr.width ≤ s.lanes 22) &&
      nextIs (exec (.linkUp 22 tr) s) fun t => decide ((t.link 22).mode = m) && decide ((t.link 22).memOn = cxl)) = true := by decide +kernel

theorem witness_LinksControllersAndCapacity_link :
    ([1, 2].all (fun m => nextIs (exec (.linkDown 22) (linkIn m)) fun t => decide ((t.link 22).mode = 0) && decide ((t.link 22).downs = 1)) = true ∧
     ((State.reset.link 22).mode = 0 ∧ (State.reset.link 22).en = true ∧ (State.reset.link 22).downAt + 100000000 ≤ State.reset.time + 100000000) ∧
     acts (.linkRetrainTimer 22 (State.reset.time + 100000000)) State.reset = true ∧
     (State.reset.link 22).present ≠ true ∧ acts (.presenceChange 22 true) State.reset = true ∧ ((linkIn 2).link 22).hasMem = true ∧
     ([.flStatRead 22, .flLaneRead 22 7, .fabricError 22 .cor, .lateResponse 22, .cxlEventLog 22 0 3 1 64 {}] : List Instr).all
       (fun i => acts i (linkIn 2)) = true) := by decide +kernel

/-- An extent that is added, released at once or later, and withdrawn. -/
theorem witness_LinksControllersAndCapacity_capacity :
    (let s := linkIn 2
     let y : Extent := { link := 22, rid := 3, base := 0x40000000, len2m := 8 }
     let e := { s with extents := [y] }
     let m := e.modFn 0 fun f => { f with ftt2m := [(5, 0x40000001)] }
     (s.up = true ∧ (s.link 22).hasMem = true ∧ e.extents.find? (fun e => e.named 22 3 0x40000000 8 && !e.withdrawn) = some y ∧
       e.rangeMapped 0x40000000 (8 * 0x200000) = false ∧ m.rangeMapped 0x40000000 (8 * 0x200000) = true) ∧
     nextIs (exec (.dcAdd 22 3 0x40000000 8 {}) s) (fun t => t.extents = [y]) = true ∧
     acts (.dcReleaseRequest 22 3 0x40000000 8 {}) e = true ∧
     nextIs (exec (.dcReleaseRequest 22 3 0x40000000 8 {}) m) (fun t => t.extents = [{ y with releasing := true }]) = true ∧
     nextIs (exec (.dcForcedRelease 22 3 0x40000000 8 {}) m) (fun t => t.extents = [{ y with withdrawn := true }]) = true) := by decide +kernel

/-- The block with a piece of an NVM-READ of context 5 outstanding at controller 2. -/
def withPiece : State :=
  (withNvm (executing { op := 0x18, count := 4 })).modCtx 5 fun c => { c with
    pieces := [{ ctrl := 2, cid := 6, first := 0, blocks := 4, bytes := 16 }] }

theorem witness_LinksControllersAndCapacity_pieces :
    (let s := withPiece
     (s.up = true ∧ (s.ctrl 2).isSome = true ∧ s.pieceOwner 2 6 = some 5 ∧
       (((s.ctx 5).pieces.find? fun p => decide (p.ctrl = 2) && decide (p.cid = 6) && !p.done).map fun p => (s.ctx 5).pieceData p) = some 16 ∧
       (s.ctx 5).cmd.opn ≠ 0x1A ∧ (s.fn (s.ctx 5).r.ownerFn.toNat).stopped = false ∧ (s.ctx 5).phase ≠ .none ∧
       (∀ p ∈ (s.ctx 5).pieces, p.issued + s.farTimeout * 1000 ≤ s.time + s.farTimeout * 1000)) ∧
     acts (.nvmeCompletion 2 6 .success (zeros 16) {}) s = true ∧ acts (.nvmeCompletion 2 6 (.media 1) [] {}) s = true ∧
     acts (.downstreamTimeout (.piece 2 6) (s.time + s.farTimeout * 1000) {}) s = true ∧
     acts (.downstreamTimeout (.far 5 0 64 8) (s.time + s.farTimeout * 1000) {}) s = true) := by decide +kernel

/-- A late completion, and the states of a controller. -/
theorem witness_LinksControllersAndCapacity_controllers :
    (let s := withNvm State.reset
     let x : NvmeCtrl := { link := 2, rid := 0, mdts := 131072, pairs := 1 }
     let r := s.setCtrl 2 (some { x with reserved := [6] })
     let d := s.setCtrl 2 (some { x with ready := false })
     (r.pieceOwner 2 6 = none ∧ (r.ctrl 2).map NvmeCtrl.reserved = some [6] ∧ s.ctrlReady 2 = true ∧
       (d.ctrl 2).map (fun x => (x.ready, x.removed)) = some (false, false)) ∧
     nextIs (exec (.nvmeCompletion 2 6 .success [] {}) r) (fun t => (t.ctrl 2).map NvmeCtrl.reserved = some []) = true ∧
     nextIs (exec (.nvmeControllerReady 2) d) (fun t => t.ctrlReady 2) = true ∧
     [CtrlFail.fatal, .notReady, .removed].all (fun w => nextIs (exec (.nvmeControllerFail 2 w {}) s) fun t => !t.ctrlReady 2) = true ∧
     acts (.nvmeAsyncEvent 2 1 {}) s = true) := by decide +kernel

/-- The ways of a stripe of twelve granules are twelve different ways. -/
theorem witness_LinksControllersAndCapacity_ways :
    (let x : ISet := { base := 0, size := 0x300000000, ways := 12, logGran := 8, links := [] }
     (List.range 12).all fun w => decide (((List.range 12).filter fun k => decide (x.way (12 * 256 * 5 + 256 * k) = w)).length = 1)) = true := by
  decide +kernel

/-! ### Migration, translation and the domain -/

/-- A context at a fetch that is to migrate to slot 1 of its region, for each reason. -/
theorem witness_MigrationTranslationAndDomain_leaves :
    (let s := (running stActive .ready {}).modCtx 5 fun c => { c with migrateTo := some (7, 7) }
     let r := (running stActive .ready {}).modCtx 5 fun c => { c with migrateTo := some (0, 5) }
     let x := (running stActive .ready {}).setRegion 0 { subst := some (5, 5, 0) }
     [(s, 7, 7, MigrateWhy.balance), (r, 0, 5, .retirement), (x, 0, 5, .substitution)].all fun (s, g, l, why) =>
       let c := s.ctx 5
       s.up && c.hasProgram && decide (c.phase ≠ .migrating) && s.migrationDue 5 g l why && c.boundaryPoint && !c.chain &&
       nextIs (exec (.migrationPoint 5 g l why) s) fun t => decide ((t.ctx 5).phase = .migrating) && decide ((t.ctx 5).r.bib = 1)) = true := by
  decide +kernel

/-- The arrival of a context that fetched and of one that waited. -/
theorem witness_MigrationTranslationAndDomain_arrives :
    ([(Phase.fetch, Phase.ready), (.ready, .ready)].all fun (was, phase) =>
      let s := (running stActive .migrating {}).modCtx 5 fun c => { c with was := was }
      let c := s.ctx 5
      s.up && decide (c.phase = .migrating) && decide (s.homeBlock 5 = some 5) && !c.needsTurn && !c.frozenFn &&
      nextIs (exec (.migrationArrival 5 {}) s) fun t => decide ((t.ctx 5).phase = phase)) = true ∧
    ((running stActive .migrating {}).turnOpen 5 && (((running stActive .migrating {}).modCtx 5 fun c => { c with was := .exec }).ctx 5).needsTurn) =
      true := by decide +kernel

/-- The arrival at step 9 of a context that is to be frozen, and of an interrupted one that is to halt. -/
theorem witness_MigrationTranslationAndDomain_stops :
    ([(true, HaltPend.none), (false, .stop)].all fun (fr, h) =>
      let s := (running stActive .migrating {}).modCtx 5 fun c => { c with was := .exec, frozenFn := fr, halt := h }
      let c := s.ctx 5
      s.up && decide (c.phase = .migrating) && decide (s.homeBlock 5 = some 5) && s.turnOpen 5 && c.interrupted &&
      nextIs (exec (.migrationArrival 5 {}) s) fun t => decide ((t.ctx 5).r.state = if fr then stFrozen else stIdle)) = true := by
  decide +kernel

theorem witness_MigrationTranslationAndDomain_regions :
    (let s := { State.reset with time := 0 }
     let x := s.setRegion 7 { subst := some (3, 3, 0) }
     (s.up = true ∧ (s.region 7).sampled + 1000000 ≤ 1000000 ∧
       (∀ p ∈ s.loads 7, 2 * ((s.loads 7).map Prod.snd).foldl (· + ·) 0 ≥ p.2 * (s.loads 7).length) ∧
       (x.region 7).subst = some (3, 3, 0) ∧ (x.region 7).substLate = false ∧ x.substEmpty 7 3 = true ∧
       (∀ b ∈ List.range 9, (x.block (63 + b)).blockRetired = false)) ∧
     nextIs (exec (.loadBalanceSample 7 1000000) s) (fun t => (t.region 7).sampled = 1000000) = true ∧
     nextIs (exec (.substitutionTimeout 7 1000000) x) (fun t => (t.region 7).substLate) = true ∧
     nextIs (exec (.substitutionEnd 7) x) (fun t => (t.region 7).slots.getD 3 0 = 8 && decide ((t.region 7).reserve = 15)) = true) := by
  decide +kernel

theorem witness_MigrationTranslationAndDomain_walks :
    (let s := State.reset.modFn 0 fun f => { f with ftt2m := [(9, 0x40000001)], ftt1g := [(4095, 0x80000001)] }
     s.up = true ∧ s.fnExists 0 = true ∧
     [(9, false), (4095, true)].all (fun ((p, g) : Nat × Bool) => [RecordRead.good, .shadowBad, .bad].all fun r =>
       acts (.fttWalkComplete 7 0 g p r) s) = true) := by decide +kernel

/-- The block as member 2 of a domain of four, with an ask 6 outstanding of member 1 and an answer to it. -/
def joined : State :=
  let a : Ask := { epoch := 3, waiting := [(1, 0)] }
  let d : Domain := { joined := true, member := 2, members := 0xF, timeout := 5, present := 0xB, helloDue := 100 }
  { State.reset with time := 0, domain := { d with asks := [(6, some a)], answering := [(1, 6, 3, [])] } }

theorem witness_MigrationTranslationAndDomain_messages :
    (let m : DomMsg := { type := 1, sender := 1, dest := 2, epoch := 3, askId := 6, members := 0xF }
     joined.up = true ∧ [1, 2, 3, 4].all (fun k => decide (joined.domain.hears { m with type := k } = .accepted)) = true ∧
     Table.get noneDef ((joined.heardFrom 1).cic 888).domain.asks 6 = some { epoch := 3, waiting := [(1, 0)] } ∧
     acts (.hello m) joined = true ∧ acts (.ask { m with type := 2 }) joined = true ∧
     nextIs (exec (.reply { m with type := 3 }) joined) (fun t => Table.get noneDef t.domain.asks 6 = some { epoch := 3, waiting := [] }) = true ∧
     nextIs (exec (.leave { m with type := 4 }) joined) (fun t => !t.domain.present.getLsbD 1) = true ∧
     (joined.heardFrom 1).domain.present.getLsbD 1 = true) := by decide +kernel

theorem witness_MigrationTranslationAndDomain_timers :
    (let d := joined.domain
     (joined.up = true ∧ d.joined = true ∧ d.answering = [(1, 6, 3, [])] ∧ d.helloDue ≤ 100 ∧ 1 ≠ d.member ∧ d.present.getLsbD 1 = true ∧
       reached 5000 (Table.get natDef d.silentAt 1) = true ∧ reached 100 d.helloDue = true ∧ joined.notBefore 5000 = true) ∧
     nextIs (exec (.askReplySend 1 6) joined) (fun t => t.domain.answering.isEmpty) = true ∧
     nextIs (exec (.helloTimer 100) joined) (fun t => t.domain.helloDue = 1000100) = true ∧
     nextIs (exec (.domainTimeout 1 5000) joined) (fun t => !t.domain.present.getLsbD 1 &&
       decide (Table.get noneDef t.domain.asks 6 = some { epoch := 3, waiting := [] })) = true ∧
     acts .domCntRead joined = true) := by decide +kernel

/-! ### Errors, stores and sensors -/

/-- Three errors in one cycle, of two severities, at a capture of each kind. -/
theorem witness_ErrorsRepairAndStores_arrival :
    ([CapId.cell 7 7 15, .block 7 7, .region 7, .chip].all fun l =>
      let es : List ErrIn := [{ code := .eccCorrected, source := 9 }, { code := .fttLeaf, source := 8 }, { code := .eccCorrected, source := 2 }]
      !State.reset.board.cold && State.reset.capLive l && (es.all fun e => decide (e.code ≠ .freeze)) &&
      acts (.errorArrival l es) State.reset && acts (.errCntRead l) State.reset) = true := by
  decide +kernel

theorem witness_ErrorsRepairAndStores_hbm :
    (let s := State.reset
     (s.up = true ∧ (s.pch 127).retired = false ∧ countP (fun n => (s.pch n).retired) (List.range 128) < 4 ∧ s.blockActive 70 = true ∧
       7 * 32 < unpopBase) ∧
     nextIs (exec (.rowRepair 127 5 true) s) (fun t => (t.pch 127).rows = 1) = true ∧
     nextIs (exec (.rowRepair 127 5 false) s) (fun t => (t.pch 127).unrep = 1) = true ∧
     nextIs (exec (.pchRetirement 127) s) (fun t => (t.pch 127).retired) = true ∧
     acts (.pchStatRead 127) s = true ∧ acts (.regStaleRead 7) s = true ∧
     acts (.patrolScrub [3] [7]) s = true) := by decide +kernel

theorem witness_ErrorsRepairAndStores_aging :
    (let s := State.reset
     (s.up = true ∧ s.chip.agingDue ≤ s.time + s.chip.agingDue) ∧
     [700, 800].all (fun mv => nextIs (exec (.agingMeasurement (List.replicate 64 (2000, 120)) (List.replicate 32 7) mv (s.time + s.chip.agingDue) {}) s)
       fun t => t.board.vddRequest = mv && decide (Table.get natDef t.chip.ageMargin 63 = 100)) = true) := by decide +kernel

/-- A ledger record and a job that wait, with good margins and with one that is too low. -/
theorem witness_ErrorsRepairAndStores_stores :
    (let s := { State.reset with store := { State.reset.store with ledgerQueue := [zeros 32], jobs := [{ area := 2, data := [] }] } }
     let l := { s with board := { s.board with rails := [(6, { sampled := true, margin := 11 })] } }
     (s.board.cold = false ∧ (s.at_ s.time).supplyOk = true ∧ (l.at_ s.time).supplyOk = false) ∧
     nextIs (exec (.ledgerRetry s.time) s) (fun t => t.store.ledgerQueue.isEmpty) = true ∧
     nextIs (exec (.ledgerRetry s.time) l) (fun t => !t.store.ledgerQueue.isEmpty) = true ∧
     nextIs (exec (.storeRetry s.time) s) (fun t => t.store.jobs.isEmpty) = true ∧
     nextIs (exec (.storeRetry s.time) l) (fun t => !t.store.jobs.isEmpty) = true ∧ acts .storeComplete s = true) := by decide +kernel

/-- Samples of the last rail at, below and above the bound of 5%, the error, and the read of its counter. -/
theorem witness_RailsClocksAndTemperatures_rails :
    ([(950, 0), (949, 1), (1000, 0)].all (fun ((mv, n) : Nat × Nat) =>
       nextIs (exec (.railSample 7 mv) State.reset) fun t => decide ((t.rail 7).under = n) && decide ((t.rail 7).mv = mv)) = true ∧
     (State.reset.vnom 7 = 1000 ∧ marginOf 950 1000 = 0 ∧ marginOf 980 1000 = 12 ∧ marginOf 1000 1000 = 20) ∧
     (let s := State.reset.setRail 7 { sampled := true, mv := 949 }
      (s.rail 7).sampled = true ∧ 20 * (s.rail 7).mv < 19 * s.vnom 7 ∧ acts (.railUndervoltage 7) s = true ∧
      acts (.railMonRead 7) s = true)) := by decide +kernel

/-- Answers on the AVSBus at the bound of 10 mV, beyond it, a fault and none; and the retry. -/
theorem witness_RailsClocksAndTemperatures_avs :
    (let s := { State.reset with time := 0, board := { State.reset.board with avsPendingAt := some 0, vddRequest := 770 } }
     [(AvsAnswer.ok 780, false), (.ok 760, false), (.ok 781, true), (.ok 759, true), (.fault, true), (.silent, true)].all (fun (a, bad) =>
       nextIs (exec (.avsReadback a 1000000) s) fun t => t.board.avsFault == bad) = true ∧
     acts (.avsRetry 100000000) { s with board := { s.board with avsFault := true } } = true) := by decide +kernel

theorem witness_RailsClocksAndTemperatures_clocks :
    (State.reset.board.cold = false ∧ acts .refclkLoss State.reset = true ∧ State.reset.board.mclkLost = false ∧
     nextIs (exec .mclkLoss State.reset) (fun t => t.board.mclkLost && acts .mclkRestore t) = true) := by decide +kernel

/-- The thresholds of both kinds of sensors. -/
theorem witness_RailsClocksAndTemperatures_temperatures :
    ((List.range 16).all (fun i => tempFits (tempTrip i) &&
       nextIs (exec (.tempWarning i (tempWarn i)) State.reset) (fun t => (t.temp i).warn && decide ((t.temp i).alarms = 1)) &&
       nextIs (exec (.tempHard i (tempHard i)) State.reset) (fun t => (t.temp i).hard) &&
       nextIs (exec (.thermtrip i (tempTrip i)) State.reset) (fun t => t.board.thermtrip) &&
       acts (.tempRead i) State.reset && ([true, false].all fun h =>
         let s := State.reset.setTemp i { warn := !h, hard := h }
         nextIs (exec (.tempThresholdClear i h ((if h then tempHard i else tempWarn i) - 24)) s) fun t => !(t.temp i).warn && !(t.temp i).hard)) = true ∧
     ([.temp 15, .rail 7, .link 23, .health, .deviceState, .powerFault, .clock] : List SensorId).all
       (fun x => acts (.pldmSensorRead x) State.reset) = true) := by decide +kernel

/-! ### Values that the spec works out -/

/-- The words of the example after R243: a move under AL, an immediate under EQ, and a backward branch under NE. -/
theorem test_words_of_the_encoding_example :
    ((yslots 0x1C04000504008600).1 = { guard := 0, imm := false, dst := 0x100, src := 0x043, low := 0, imm18 := 0x08600 } ∧
     (yslots 0x1C04000504008600).2.guard = 1 ∧ (yslots 0x1C04000504008600).2.imm = true ∧ (yslots 0x1C04000504008600).2.dst = 0x101 ∧
     (yslots 0x1C04000504008600).2.imm18 = 5 ∧ (yslots 0x2807FFFD).1.guard = 2 ∧ (yslots 0x2807FFFD).1.imm = true ∧
     (yslots 0x2807FFFD).1.dst = 0x001 ∧ (yslots 0x2807FFFD).1.imm18 = 0x3FFFD) := by decide

/-- The edge cases of Table 08.10: operands, out, out_hi where the table gives it, and N Z C V. -/
theorem test_edge_cases_of_the_alu :
    ([(opNeg, 0, 0x8000000000000000, 0x8000000000000000, none, 0b1001), (opNeg, 0, 0, 0, none, 0b0110),
      (opAdd, 0x7FFFFFFFFFFFFFFF, 1, 0x8000000000000000, none, 0b1001), (opAdd, 0xFFFFFFFFFFFFFFFF, 1, 0, none, 0b0110),
      (opSub, 0, 1, 0xFFFFFFFFFFFFFFFF, none, 0b1000),
      (opDivs, 0x8000000000000000, 0xFFFFFFFFFFFFFFFF, 0x8000000000000000, some 0, 0b1001),
      (opDivs, -7, 2, -3, some (-1), 0b1000), (opDivu, 0x1234, 0, 0, some 0x1234, 0b0101),
      (opShl, 0x8000000000000001, 64, 0, none, 0b0110), (opShl, 0x8000000000000001, 65, 0, none, 0b0100),
      (opShr, 0x8000000000000001, 64, 0, none, 0b0110), (opShr, 1, 0xFFFFFFFFFFFFFFFF, 0, none, 0b0100),
      (opSar, 0x8000000000000000, 200, 0xFFFFFFFFFFFFFFFF, none, 0b1010), (opSar, 0x7000000000000000, 64, 0, none, 0b0100),
      (opRol, 0x8000000000000000, 65, 1, none, 0b0010),
      (opMulu, 0xFFFFFFFFFFFFFFFF, 0xFFFFFFFFFFFFFFFF, 1, some 0xFFFFFFFFFFFFFFFE, 0b1011),
      (opMuls, 0x8000000000000000, -1, 0x8000000000000000, some 0, 0b0011), (opMuls, -1, -1, 1, some 0, 0b0000)] :
      List (Nat × W64 × W64 × W64 × Option W64 × BitVec 4)).all (fun (op, a, b, out, hi, flags) =>
        decide (aluOp op ⟨a, tgInt⟩ ⟨b, tgInt⟩ = { out := some ⟨out, tgInt⟩, hi := hi.map fun h => ⟨h, tgInt⟩, flags := flags })) = true := by
  decide +kernel

/-- The vectors of Table 04.19. -/
theorem test_hash_vectors : th64 [] 0 = 0x6D3211D0D3A81D86 ∧ th64 [0, 1, 2, 3, 4, 5, 6, 7] 0 = 0xB630A40ACFE2CE61 := by decide +kernel

/-- The homes of the contexts of the example after R165. -/
theorem test_homes_of_contexts : [0x4A30, 0x4A31, 0x4A32, 0x4A37].map homeOf = [28, 29, 30, 27] := by decide

/-- The way of the example after R361. -/
theorem test_way_of_an_interleave_set :
    ({ base := 0x1000000000, size := 0x1000000000, ways := 12, logGran := 12, links := [] } : ISet).way 0x1000025000 = 5 := by decide

/-- The 64 bytes of local memory from `a` after the command on the running descriptor, with `src` from byte 0 on. -/
def shuffled (i : Instr) (d src : List Byte) (offs : List Nat) : Option (List Byte) :=
  match exec i (let s := ringRuns d true; { s with hbm := s.hbm.writeN 0 src }) with
  | .next t => some (offs.map fun o => t.hbm.read (4096 + o))
  | _ => none

/-- The planes of Table 04.16, written by a PLANES descriptor, and their integers, with and without sign, by UNPLANES. -/
theorem test_planes_of_ten_integers :
    shuffled (.planes 3 1 2) (descOf 0x35 10 0 4096 0x4002) [5, 0, 7, 2, 3, 6, 1, 4, 7, 0] [0, 1, 64, 65, 128, 129] =
      some [0x55, 0x01, 0x3C, 0x01, 0xA5, 0x01] ∧
    (let planes : List Byte := [0x55, 0x01] ++ zeros 62 ++ [0x3C, 0x01] ++ zeros 62 ++ [0xA5, 0x01]
     shuffled (.unplanes 3 1 2) (descOf 0x45 10 0 4096 0x4002) planes (List.range 10) = some [5, 0, 7, 2, 3, 6, 1, 4, 7, 0] ∧
     shuffled (.unplanes 3 1 2) ((descOf 0x45 10 0 4096 0x4002).set 2 8) planes [0, 2, 8] = some [0xFD, 0xFF, 0xFF]) := by decide +kernel

/-- DEAL of five elements of two bytes over two lanes 16 bytes apart, and MERGE back (R318). -/
theorem test_deal_and_merge :
    shuffled (.deal 3 1 2) (descOf 0x15 10 0 4096 0x100041) [1, 2, 3, 4, 5, 6, 7, 8, 9, 10] [0, 1, 2, 3, 4, 5, 16, 17, 18, 19, 20] =
      some [1, 2, 5, 6, 9, 10, 3, 4, 7, 8, 0] ∧
    shuffled (.merge 3 1 2) (descOf 0x25 10 0 4096 0x100041) ([1, 2, 5, 6, 9, 10] ++ zeros 10 ++ [3, 4, 7, 8]) (List.range 10) =
      some [1, 2, 3, 4, 5, 6, 7, 8, 9, 10] := by decide +kernel

/-- The check values of the digests in the table of R150. -/
theorem test_check_values_of_digests :
    (let text : List Byte := [0x31, 0x32, 0x33, 0x34, 0x35, 0x36, 0x37, 0x38, 0x39]
     crc32c text = 0xE3069283 ∧ text.foldl crc64Step 0 = 0x6C40DF5F0B497347) := by decide +kernel

/-- The SLICE of Table 04.16 as a command of a context. -/
theorem test_slice_of_ten_integers :
    nextIs (exec (.slice 5 {}) (let s := member { op := 0xC, spaces := 5, a := 0x2000, b := 0x3000, count := 10, c := 0x4002 } []
      { s with hbm := s.hbm.writeN 0x2000 [5, 0, 7, 2, 3, 6, 1, 4, 7, 0] })) (fun t =>
        decide ([0, 1, 64, 65, 128, 129].map (fun o => t.hbm.read (0x3000 + o)) = [0x55, 0x01, 0x3C, 0x01, 0xA5, 0x01])) = true := by decide +kernel

end Sys2Proof.Tests
end

section
/-! PROOFS. Numbers in bytes: the bits of the number that bytes spell, and the bytes of a number (00 R9). -/

namespace Sys2Proof.Laws
open Sys2Proof Sys2Proof.Machine

theorem leVal_cons (b : Byte) (bs : List Byte) : leVal (b :: bs) = 2 ^ 8 * leVal bs + b.toNat := Nat.add_comm _ _

/-- Eight bits stand in each byte, the lowest byte first (00 R9). -/
theorem leVal_testBit (bs : List Byte) (k : Nat) : (leVal bs).testBit k = (bs.getD (k / 8) 0).getLsbD (k % 8) := by
  induction bs generalizing k with
  | nil => simp [leVal]
  | cons b bs ih =>
    rw [leVal_cons, Nat.testBit_two_pow_mul_add _ b.isLt]
    split
    · next low => rw [Nat.div_eq_of_lt low, Nat.mod_eq_of_lt low]; rfl
    · next high =>
      obtain ⟨j, rfl⟩ := Nat.exists_eq_add_of_le' (Nat.le_of_not_lt high)
      simp [ih]

@[simp] theorem leBytes_length (n x : Nat) : (leBytes n x).length = n := by
  induction n generalizing x with
  | zero => rfl
  | succ n ih => simp [leBytes, ih]

/-- The `n` bytes of any number spell it modulo 256^n. -/
theorem leVal_leBytes (n x : Nat) : leVal (leBytes n x) = x % 256 ^ n := by
  induction n generalizing x with
  | zero => simp [leBytes, leVal, Nat.mod_one]
  | succ n ih =>
    have low : (BitVec.ofNat 8 x).toNat = x % 256 := BitVec.toNat_ofNat x 8
    rw [leBytes, leVal, low, ih, Nat.pow_succ', Nat.mod_mul]

/-- Settles O8: the bits by induction on the bytes, the bytes of a number by induction on how many there are. -/
theorem littleEndianFields : Obligations.LittleEndianFields :=
  ⟨leVal_testBit, fun n x h => ⟨leBytes_length n x, (leVal_leBytes n x).trans (Nat.mod_eq_of_lt h)⟩⟩

end Sys2Proof.Laws
end

section
/-! PROOFS. When a command's event occurs: what `whenB` and a configuration request answer. -/

namespace Sys2Proof.Laws
open Sys2Proof Sys2Proof.Machine

@[simp] theorem whenB_true (s s' : State) (why : String) : whenB s true why s' = .next s' := rfl

/-- A part that works is out of both resets (15 R428). -/
theorem up_out_of_reset {s : State} (h : s.up = true) : s.board.cold = false ∧ s.board.warm = false := by
  simp only [State.up, Bool.and_eq_true, Bool.not_eq_true'] at h
  obtain ⟨⟨⟨-, cold⟩, warm⟩, -⟩ := h
  exact ⟨cold, warm⟩

/-- In reset a configuration request is to be retried, whatever it asks for (15 R428). -/
theorem config_in_reset {s : State} (h : s.board.cold = true ∨ s.board.warm = true) (c : Bool) (why : String) (s' : State) :
    s.config c why s' = .next (s.emit .requestRetry) :=
  if_pos (Bool.or_eq_true_iff.mpr h)

/-- Out of reset a configuration request acts when its condition holds. -/
theorem config_out_of_reset {s s' : State} {c : Bool} {why : String} (hc : s.board.cold = false) (hw : s.board.warm = false)
    (h : c = true) : s.config c why s' = .next s' := by
  rw [State.config, hc, hw, h]
  rfl

theorem config_of_up {s s' : State} {c : Bool} {why : String} (hup : s.up = true) (h : c = true) : s.config c why s' = .next s' :=
  have ⟨cold, warm⟩ := up_out_of_reset hup
  config_out_of_reset cold warm h

end Sys2Proof.Laws
end

section
/-! PROOFS. The reset of a function (06 R215): no part of it moves device time, and it leaves the function RESETTING from that time on. -/

namespace Sys2Proof.Laws
open Sys2Proof Sys2Proof.Machine

/-- What every step of a fold leaves alone, the fold leaves alone. -/
theorem foldl_frame {σ α β : Type} (p : σ → β) (f : σ → α → σ) (h : ∀ s a, p (f s a) = p s) (l : List α) (s : σ) :
    p (l.foldl f s) = p s := by
  induction l generalizing s with
  | nil => rfl
  | cons a l ih => exact (ih _).trans (h s a)

@[simp] theorem dropAsk_time (s : State) (n : Nat) : (s.dropAsk n).time = s.time := by
  unfold State.dropAsk
  split <;> rfl

@[simp] theorem dropPieces_time (s : State) (n : Nat) : (s.dropPieces n).time = s.time := by
  refine foldl_frame State.time _ (fun s p => ?_) _ s
  split <;> rfl

@[simp] theorem farArrived_time (s : State) (n : Nat) : (s.farArrived n).time = s.time := rfl

@[simp] theorem flrCtx_time (s : State) (n : Nat) : (s.flrCtx n).time = s.time := by
  simp [State.flrCtx]

/-- The record that a reset leaves: RESETTING since the device time of its step 1 (Table 06.32). -/
theorem resetFn_fn_same (s : State) (n : Nat) :
    (s.resetFn n).fn n = { (((s.ctxsOf n).foldl State.flrCtx s).fn n).flr n with state := 2, resetAt := s.time } := by
  have now : ((s.ctxsOf n).foldl State.flrCtx s).time = s.time := foldl_frame State.time _ flrCtx_time _ s
  rw [← now]
  exact State.fn_setFn_same _ _ _

@[simp] theorem resetFn_time (s : State) (n : Nat) : (s.resetFn n).time = s.time :=
  foldl_frame State.time State.flrCtx flrCtx_time (s.ctxsOf n) s

@[simp] theorem resetVfs_time (s : State) : s.resetVfs.time = s.time := by
  refine foldl_frame State.time _ (fun s i => ?_) _ s
  split
  · exact resetFn_time s (i + 1)
  · rfl

theorem beginFlr_zero_fn (s : State) (n : Nat) :
    (s.beginFlr 0).fn n = (({ s.resetVfs with vfEnable := false, numVfs := 0 }).resetFn 0).fn n := by
  simp only [State.beginFlr, if_true, State.fn]

theorem beginFlr_of_ne_zero (s : State) {n : Nat} (h : n ≠ 0) : s.beginFlr n = s.resetFn n := if_neg h

/-- An FLR makes the function RESETTING from now on, FN[0] as much as a virtual function (06 R215). -/
theorem beginFlr_resetting (s : State) (n : Nat) : ((s.beginFlr n).fn n).state = 2 ∧ ((s.beginFlr n).fn n).resetAt = s.time := by
  by_cases h : n = 0
  · subst h
    rw [beginFlr_zero_fn, resetFn_fn_same]
    simp
  · rw [beginFlr_of_ne_zero s h, resetFn_fn_same]
    exact ⟨rfl, rfl⟩

end Sys2Proof.Laws
end

section
/-! PROOFS. Configuration requests and interrupt events of the host link (06 R179 to R183, R213 to R215, 15 R428): one lemma for each
event that says what the command does when the event occurs. -/

namespace Sys2Proof.Laws
open Sys2Proof Sys2Proof.Machine

theorem configuration_request_in_reset {s : State} (h : s.board.cold = true ∨ s.board.warm = true) (k fn : Nat) (on pme : Bool) (w : Wr) :
    ∀ i ∈ [Instr.barResize k, .flr fn, .vfEnableClear, .vfEnableSet k, .dStateChange fn ⟨on, pme⟩ w, .busMasterEnableChange fn on w,
           .pmeStatusClear fn], exec i s = .next (s.emit .requestRetry) := by
  simp only [List.forall_mem_cons]
  exact ⟨config_in_reset h .., config_in_reset h .., config_in_reset h .., config_in_reset h .., config_in_reset h ..,
    config_in_reset h .., config_in_reset h .., List.forall_mem_nil _⟩

theorem exec_barResize {s : State} {k : Nat} (hc : s.board.cold = false) (hw : s.board.warm = false) (hk : k ≤ 8) :
    exec (.barResize k) s = .next (s.modFn 0 fun f => { f with lmwLog := k, lmwBase := 0 }) :=
  config_out_of_reset hc hw (decide_eq_true hk)

theorem exec_flr {s : State} {fn : Nat} (hc : s.board.cold = false) (hw : s.board.warm = false) (he : s.fnExists fn = true)
    (hf : s.chip.fatal = false) : exec (.flr fn) s = .next (s.beginFlr fn) := by
  have acts : (if s.chip.fatal then s else s.beginFlr fn) = s.beginFlr fn := by simp [hf]
  rw [← acts]
  exact config_out_of_reset hc hw he

theorem exec_vfEnableClear {s : State} (hup : s.up = true) (hv : s.vfEnable = true) :
    exec .vfEnableClear s = .next { s.resetVfs with vfEnable := false } :=
  config_of_up hup (by simp [hup, hv])

theorem exec_vfEnableSet {s : State} {n : Nat} (hup : s.up = true) (hv : s.vfEnable = false) (hn : n ≤ 255) :
    exec (.vfEnableSet n) s = .next { s with vfEnable := true, numVfs := n } :=
  config_of_up hup (by simp [hup, hv, hn])

/-- A write that changes the power state: entering D0 lets go what waits, in D3hot what waits asks for PME (06 R180). -/
theorem exec_dStateChange {s : State} {fn : Nat} {d0 pme : Bool} {w : Wr} (hup : s.up = true) (he : s.fnExists fn = true)
    (hd : (s.fn fn).d0 ≠ d0) :
    let t := (s.modFn fn fun f => { f with d0 := d0, pmeEn := pme }).cic (512 + fn)
    exec (.dStateChange fn ⟨d0, pme⟩ w) s =
      .next (if d0 then t.stir.releaseHeld fn w else if (s.fn fn).someWaits then t.askPme fn else t) := by
  refine (config_of_up hup (by simp [hup, he])).trans ?_
  cases d0 with
  | false => simp [hd]
  | true => simp [hd]

theorem exec_busMasterEnableChange {s : State} {fn : Nat} {on : Bool} {w : Wr} (hup : s.up = true) (he : s.fnExists fn = true)
    (hb : (s.fn fn).busMaster ≠ on) :
    let t := (s.modFn fn fun f => { f with busMaster := on }).cic (512 + fn)
    exec (.busMasterEnableChange fn on w) s = .next (if on then t.releaseHeld fn w else t) :=
  config_of_up hup (by simp [hup, he, hb])

/-- Clearing the mask of a vector, the function mask or the function's disable sends what is pending behind it (06 R213). -/
theorem exec_msixMaskClear {s : State} {fn v : Nat} (hup : s.up = true) (he : s.fnExists fn = true) :
    let all := fun (s : State) => (Table.keys (s.fn fn).vecs).foldl (fun s v => s.unmask fn v) s
    (v < (s.fn fn).vecCount →
      exec (.msixMaskClear fn (.vector v)) s = .next ((s.modFn fn fun f => f.setVec v { f.vec v with masked := false }).unmask fn v)) ∧
    exec (.msixMaskClear fn .function) s = .next (all (s.modFn fn fun f => { f with fnMask := false })) ∧
    exec (.msixMaskClear fn .enable) s = .next (all (s.modFn fn fun f => { f with msixEn := true })) := by
  refine ⟨fun hv => ?vector, ?function, ?enable⟩
  case vector => change execMsixMaskClear fn (.vector v) s = _; simp [execMsixMaskClear, hup, he, hv]
  case function => change execMsixMaskClear fn .function s = _; simp [execMsixMaskClear, hup, he]
  case enable => change execMsixMaskClear fn .enable s = _; simp [execMsixMaskClear, hup, he]

/-- Clearing PME_Status asks again while something still waits in D3hot (Table 06.31). -/
theorem exec_pmeStatusClear {s : State} {fn : Nat} (hup : s.up = true) (he : s.fnExists fn = true) (hp : (s.fn fn).pmeStatus = true) :
    exec (.pmeStatusClear fn) s =
      .next (if (s.fn fn).d0 = false ∧ (s.fn fn).pmeEn = true ∧ (s.fn fn).someWaits = true then s.emit (.pmPme fn)
        else s.setFn fn { s.fn fn with pmeStatus := false }) :=
  (config_of_up hup (by simp [hup, he, hp])).trans (by simp [and_assoc])

theorem exec_pmeTimeout {s : State} {fn : Nat} (hup : s.up = true) (he : s.fnExists fn = true) (hp : (s.fn fn).pmeStatus = true) :
    exec (.pmeTimeout fn) s = .next (s.emit (.pmPme fn)) := by
  change execPmeTimeout fn s = _
  simp [execPmeTimeout, hup, he, hp]

/-- A hold-off that has passed makes the message of what is pending due (06 R213). -/
theorem exec_moderationHoldoffExpiry {s : State} {fn v t t0 : Nat} (hup : s.up = true) (he : s.fnExists fn = true)
    (ht : s.notBefore t = true) (hs : ((s.fn fn).vec v).since = some t0) (hp : ((s.fn fn).vec v).pending ≠ 0)
    (hr : reached t (t0 + 1000 * ((s.fn fn).vec v).holdoff) = true) :
    exec (.moderationHoldoffExpiry fn v t) s = .next ((s.at_ t).dueMsg fn v) := by
  change execModerationHoldoffExpiry fn v t s = _
  simp [execModerationHoldoffExpiry, hs, hup, he, ht, hp, hr]

theorem exec_atsInvalidate {s : State} {fn : Nat} (hup : s.up = true) (he : s.fnExists fn = true) :
    exec (.atsInvalidate fn) s = .next (s.answer mgOk) := by
  change execAtsInvalidate fn s = _
  simp [execAtsInvalidate, hup, he]

/-- Settles O51: each clause is the lemma about its event; an FLR rests on `beginFlr_resetting`. -/
theorem configurationAndInterruptEvents : Obligations.ConfigurationAndInterruptEvents := by
  refine ⟨fun s h => configuration_request_in_reset h, fun k s => exec_barResize, ?flr, ?vfEnableClear, fun n s => exec_vfEnableSet,
    fun fn d0 pme w s => exec_dStateChange, fun fn on w s => exec_busMasterEnableChange, fun fn v s => exec_msixMaskClear,
    ?pme, fun fn v t t0 s => exec_moderationHoldoffExpiry, fun fn s => exec_atsInvalidate, ?identifiers⟩
  case flr => exact fun fn s hc hw he hf => ⟨s.beginFlr fn, exec_flr hc hw he hf, rfl, beginFlr_resetting s fn⟩
  case vfEnableClear => exact fun s hup hv => ⟨_, exec_vfEnableClear hup hv, rfl, rfl⟩
  case pme => exact fun fn s hup he hp => ⟨exec_pmeStatusClear hup he hp, exec_pmeTimeout hup he hp⟩
  case identifiers => exact fun fn s => ⟨rfl, rfl, rfl, rfl, rfl, rfl, rfl⟩

end Sys2Proof.Laws
end

section
/-! PROOFS. Byte maps: what a byte reads after a write of one byte and of a list of bytes (02 R69). -/

namespace Sys2Proof.Laws
open Sys2Proof Sys2Proof.Machine

@[simp] theorem mem_read_write_same (m : Mem) (a : Nat) (b : Byte) : (m.write a b).read a = b :=
  table_get_set_same _ m a b

theorem mem_read_write_ne (m : Mem) (a x : Nat) (b : Byte) (h : x ≠ a) : (m.write a b).read x = m.read x :=
  table_get_set_ne _ m a x b h

theorem mem_read_writeN_outside (m : Mem) (a : Nat) (bs : List Byte) (x : Nat) (h : x < a ∨ a + bs.length ≤ x) :
    (m.writeN a bs).read x = m.read x := by
  induction bs generalizing m a with
  | nil => rfl
  | cons b bs ih =>
    simp only [List.length_cons] at h
    calc ((m.write a b).writeN (a + 1) bs).read x
      _ = (m.write a b).read x := ih _ _ (by omega)
      _ = m.read x := mem_read_write_ne m a x b (by omega)

/-- The first byte written is not written again. -/
theorem mem_read_writeN_head (m : Mem) (a : Nat) (b : Byte) (bs : List Byte) : (m.writeN a (b :: bs)).read a = b :=
  (mem_read_writeN_outside (m.write a b) (a + 1) bs a (.inl (Nat.lt_succ_self a))).trans (mem_read_write_same m a b)

theorem mem_read_writeN_inside (m : Mem) (a : Nat) (bs : List Byte) (i : Nat) (b : Byte) (h : bs[i]? = some b) :
    (m.writeN a bs).read (a + i) = b := by
  induction bs generalizing m a i with
  | nil => cases h
  | cons c bs ih =>
    cases i with
    | zero =>
      obtain rfl : c = b := by simpa using h
      exact mem_read_writeN_head m a c bs
    | succ i =>
      rw [Nat.add_comm i 1, ← Nat.add_assoc]
      exact ih (m.write a c) (a + 1) i h

theorem mem_readN_writeN (m : Mem) (a : Nat) (bs : List Byte) : (m.writeN a bs).readN a bs.length = bs := by
  induction bs generalizing m a with
  | nil => rfl
  | cons b bs ih =>
    change (m.writeN a (b :: bs)).read a :: ((m.write a b).writeN (a + 1) bs).readN (a + 1) bs.length = b :: bs
    rw [mem_read_writeN_head, ih]

/-- Settles O6, by induction on the bytes written. -/
theorem bytesReadAsWritten : Obligations.BytesReadAsWritten := fun m a bs =>
  ⟨mem_read_writeN_inside m a bs, mem_read_writeN_outside m a bs, mem_readN_writeN m a bs⟩

end Sys2Proof.Laws
end

section
/-! PROOFS. The call stack, the condition of a JUMP, and JUMP, CALL and RETURN (02 R57, R58, 03 R111, R112). -/

namespace Sys2Proof.Laws
open Sys2Proof Sys2Proof.Machine

@[simp] theorem push_callDepth (r : CtxRec) (sp : BitVec 2) (a : W64) : (r.push sp a).callDepth = r.callDepth + 1 := by
  unfold CtxRec.push
  dsimp only
  split <;> rfl

/-- The space of the entry that is pushed takes the place of what stood in its two bits. -/
theorem push_stackSpaces (r : CtxRec) (sp : BitVec 2) (a : W64) :
    let d := r.callDepth.toNat
    (r.push sp a).stackSpaces = BitVec.ofNat 8
      (r.stackSpaces.toNat - bits r.stackSpaces.toNat (2 * d) 2 * 2 ^ (2 * d) + sp.toNat * 2 ^ (2 * d)) := by
  unfold CtxRec.push
  dsimp only
  split <;> rfl

/-- The address goes to the place that the depth names; every other place keeps its address (02 R58). -/
theorem push_stack (r : CtxRec) (sp : BitVec 2) (a : W64) :
    let d := r.callDepth.toNat
    (r.push sp a).stack0 = (if d = 0 then a else r.stack0) ∧ (r.push sp a).stack1 = (if d = 1 then a else r.stack1) ∧
    (r.push sp a).stack2 = (if d = 2 then a else r.stack2) ∧ (r.push sp a).stack3 = (if 3 ≤ d then a else r.stack3) := by
  unfold CtxRec.push
  dsimp only
  split
  case h_4 ne0 ne1 ne2 =>
    have deep : 3 ≤ r.callDepth.toNat := Nat.lt_of_le_of_ne (Nat.lt_of_le_of_ne (Nat.pos_of_ne_zero ne0) (Ne.symm ne1)) (Ne.symm ne2)
    exact ⟨(if_neg ne0).symm, (if_neg ne1).symm, (if_neg ne2).symm, (if_pos deep).symm⟩
  all_goals simp [*]

/-- A stack of at most three entries has room for one more. -/
theorem push_callDepth_toNat {r : CtxRec} (sp : BitVec 2) (a : W64) (h : r.callDepth.toNat < 4) :
    (r.push sp a).callDepth.toNat = r.callDepth.toNat + 1 := by
  rw [push_callDepth, BitVec.toNat_add]
  exact Nat.mod_eq_of_lt (Nat.lt_trans (Nat.succ_lt_succ h) (by decide))

theorem depth_of_free_place {d : Nat} (h : d < 4) : d = 0 ∨ d = 1 ∨ d = 2 ∨ d = 3 := by omega

/-- Of four fields of two bits in a byte, the field that is replaced reads its new value. -/
theorem bits_of_replaced {x d v : Nat} (hx : x < 256) (hv : v < 4) (hd : d < 4) :
    bits ((x - bits x (2 * d) 2 * 2 ^ (2 * d) + v * 2 ^ (2 * d)) % 256) (2 * d) 2 = v := by
  obtain rfl | rfl | rfl | rfl := depth_of_free_place hd
  all_goals
    simp only [bits, Nat.reduceMul, Nat.reducePow]
    omega

theorem push_top {r : CtxRec} (sp : BitVec 2) (a : W64) (h : r.callDepth.toNat < 4) : (r.push sp a).top = (sp, a) := by
  have space : bits (r.push sp a).stackSpaces.toNat (2 * r.callDepth.toNat) 2 = sp.toNat := by
    rw [push_stackSpaces, BitVec.toNat_ofNat]
    exact bits_of_replaced r.stackSpaces.isLt sp.isLt h
  obtain ⟨s0, s1, s2, s3⟩ := push_stack r sp a
  simp only [CtxRec.top, push_callDepth_toNat sp a h, Nat.add_sub_cancel, space, BitVec.ofNat_toNat, BitVec.setWidth_eq, s0, s1, s2, s3]
  obtain d | d | d | d := depth_of_free_place h
  all_goals
    rw [d]
    rfl

/-- What a CALL pushes a RETURN finds on top, and the entries below keep their addresses (02 R58). -/
theorem call_then_return (r : CtxRec) (sp : BitVec 2) (a : W64) (h : r.callDepth.toNat < 4) :
    (r.push sp a).top = (sp, a) ∧ (r.push sp a).callDepth.toNat = r.callDepth.toNat + 1 ∧
    (0 < r.callDepth.toNat → (r.push sp a).stack0 = r.stack0) ∧ (1 < r.callDepth.toNat → (r.push sp a).stack1 = r.stack1) ∧
    (2 < r.callDepth.toNat → (r.push sp a).stack2 = r.stack2) := by
  obtain ⟨s0, s1, s2, -⟩ := push_stack r sp a
  exact ⟨push_top sp a h, push_callDepth_toNat sp a h, fun below => s0.trans (if_neg (Nat.ne_of_gt below)),
    fun below => s1.trans (if_neg (Nat.ne_of_gt below)), fun below => s2.trans (if_neg (Nat.ne_of_gt below))⟩

theorem exec_jump {n : Nat} {s : State} (w : Wr) (h : s.mayRun n (isOp 0x20) = true) :
    exec (.jump n w) s = .next ((if s.condition n then s.modCtx n Ctx.jumpsTo else s).memberDone n false w) := by
  change execJump n w s = _
  rw [execJump, h, whenB_true]

theorem exec_call {n : Nat} {s : State} (w : Wr) (h : s.mayRun n (isOp 0x21) = true) :
    exec (.call n w) s =
      .next ((s.modCtx n fun c => { c with r := c.r.push c.space (c.pc + 32) }.jumpsTo).memberDone n false w) := by
  change execCall n w s = _
  rw [execCall, h, whenB_true]

theorem exec_ret {n : Nat} {s : State} (w : Wr) (h : s.mayRun n (isOp 0x22) = true) :
    exec (.ret n w) s = .next ((s.modCtx n fun c =>
      { c with next := some c.r.top, readAhead := [], r := { c.r with callDepth := c.r.callDepth - 1 } }).memberDone n false w) := by
  change execRet n w s = _
  rw [execRet, h, whenB_true]

/-- Settles O26: the commands by their effects, the stack by `call_then_return`, the conditions row by row of Table 03.19. -/
theorem jumpsCallsAndReturns : Obligations.JumpsCallsAndReturns := by
  refine ⟨fun n w s => ⟨?taken, ?passed, exec_call w, exec_ret w⟩, call_then_return, fun s n => ?conditions⟩
  case taken =>
    intro may holds
    rw [exec_jump w may, if_pos holds]
    rfl
  case passed =>
    intro may fails
    rw [exec_jump w may, fails]
    rfl
  case conditions =>
    refine ⟨?_, ?_, ?_, ?_, ?_, ?_, ?_, ?_, ?_, ?_, ?_⟩ <;>
    · intro modifier
      simp only [State.condition, modifier]

end Sys2Proof.Laws
end

section
/-! PROOFS. Entries of a context: when an entry takes effect, that its effect has begun, and a program that starts (02 R36, R37, R71). -/

namespace Sys2Proof.Laws
open Sys2Proof Sys2Proof.Machine

/-- An entry acts on a context that is allotted to its function and not FROZEN (02 R64, 06 R207). -/
theorem semantic_of_allotted {s act : State} {fn : Nat} {e : Taken} {w : Wr} (ha : s.notAllotted fn e.ctx = false)
    (hf : (s.ctx e.ctx).r.state ≠ stFrozen) : s.semantic fn e w act = act := by
  rw [State.semantic, ha, if_neg Bool.false_ne_true, if_neg hf]

@[simp] theorem act_ctx (s : State) (fn : Nat) (e : Taken) (n : Nat) : (s.act fn e).ctx n = s.ctx n := rfl

@[simp] theorem act_domain (s : State) (fn : Nat) (e : Taken) : (s.act fn e).domain = s.domain := rfl

/-- The entry has begun: of its function nothing changes but the stage of what was taken from its slot. -/
theorem act_fn_same (s : State) (fn : Nat) (e : Taken) : (s.act fn e).fn fn = { s.fn fn with
    taken := (s.fn fn).taken.map fun x => if x.q = e.q ∧ x.slot = e.slot then { x with stage := .acting } else x } :=
  State.fn_modFn_same _ _ _

theorem act_fn_ne (s : State) (fn : Nat) (e : Taken) {n : Nat} (h : n ≠ fn) : (s.act fn e).fn n = s.fn n :=
  State.fn_modFn_ne _ _ _ _ h

@[simp] theorem startCtx_fn (s : State) (n space addr queue slot tag k : Nat) :
    (s.startCtx n space addr queue slot tag).fn k = s.fn k := rfl

/-- The context stands at the start address with the record of a program that starts (02 R37). -/
theorem startCtx_ctx_same (s : State) (n space addr queue slot tag : Nat) :
    (s.startCtx n space addr queue slot tag).ctx n =
      { (s.ctx n).idle ((s.ctx n).r.started space addr s.domain.ec queue slot tag) with
        phase := .ready, pc := BitVec.ofNat 64 addr, space := BitVec.ofNat 2 space } :=
  State.ctx_modCtx_same _ _ _

theorem startCtx_ctx_ne (s : State) (n space addr queue slot tag : Nat) {k : Nat} (h : k ≠ n) :
    (s.startCtx n space addr queue slot tag).ctx k = s.ctx k :=
  State.ctx_modCtx_ne _ _ _ _ h

/-- A START that does not wait and whose context, program address and function are good (02 R36, R37). -/
theorem exec_start {fn q slot : Nat} {s : State} {e : Taken} (w : Wr) (hw : (s.fn fn).waits q slot 1 = some e)
    (ho : s.entryOpen fn e = true) (hs : s.substituted e.ctx = false) (ha : s.notAllotted fn e.ctx = false)
    (hi : (s.ctx e.ctx).r.state = stIdle) (hb : e.badAddress = false) (hf : (s.fn fn).state = 0)
    (hl : (s.ctx e.ctx).late.contains ((s.ctx e.ctx).r.bib + 1) = false) :
    exec (.start fn q slot w) s = .next ((s.act fn e).startCtx e.ctx e.space e.addr ((s.fn fn).chipOf q) slot e.tag) := by
  have alive : (s.ctx e.ctx).r.state ≠ stFrozen := by rw [hi]; decide
  have enabled : ((s.act fn e).fn fn).state = 0 := by
    rw [act_fn_same]
    exact hf
  change execStart fn q slot w s = _
  simp only [execStart, hw, ho, hs, ha, hl, semantic_of_allotted ha alive, hb]
  simp [hi, enabled]

/-- Settles O9: the record of `startCtx` field by field, and the frames of `act` and `startCtx`. -/
theorem startStartsProgram : Obligations.StartStartsProgram := by
  intro fn q slot w s e hw ho hs ha hi hb hf hl
  refine ⟨_, exec_start w hw ho hs ha hi hb hf hl, ?_⟩
  simp only [startCtx_ctx_same, Ctx.idle, CtxRec.started, act_ctx, act_domain, startCtx_fn, true_and]
  exact ⟨fun n other => startCtx_ctx_ne _ _ _ _ _ _ _ other, act_fn_same s fn e, fun n other => act_fn_ne s fn e other, rfl⟩

end Sys2Proof.Laws
end

section
/-! PROOFS. RESUME, HALT, CLEAR and SENSE of a context that is allotted to the entry's function (02 R52, R63 to R65, Table 02.7). -/

namespace Sys2Proof.Laws
open Sys2Proof Sys2Proof.Machine

theorem exec_resume {fn q slot : Nat} {s : State} {e : Taken} (w : Wr) (hw : (s.fn fn).waits q slot 2 = some e)
    (ho : s.entryOpen fn e = true) (ha : s.notAllotted fn e.ctx = false) (hh : (s.ctx e.ctx).r.state = stHeld)
    (he : (s.ctx e.ctx).ended = none) :
    exec (.resume fn q slot w) s = .next ((s.stir.modCtx e.ctx Ctx.resume).complete fn e [0, 0] w) := by
  have alive : (s.ctx e.ctx).r.state ≠ stFrozen := by rw [hh]; decide
  change execResume fn q slot w s = _
  simp only [execResume, hw, ho, whenB_true, semantic_of_allotted ha alive]
  simp [hh, he]

/-- What RESUME makes of its context: outside a chain the command is fetched again where it was left (02 R52). -/
theorem resumed (c : Ctx) :
    c.resume.r.state = stActive ∧ c.resume.r.qual = 0 ∧ c.resume.phase = .ready ∧ c.resume.marks = c.marks ∧
    c.resume.noHold = decide (c.r.qual ≠ 0x11) ∧ (c.chain = false → c.resume.pc = c.pc) :=
  ⟨rfl, rfl, rfl, rfl, rfl, fun single => by simp [Ctx.resume, single]⟩

/-- HALT and HALT with SUSPEND are one entry, told apart by its flag (02 R63). -/
theorem exec_halt {fn q slot : Nat} {s : State} {e : Taken} {suspend : Bool} (w : Wr) (hw : (s.fn fn).waits q slot 3 = some e)
    (ho : s.entryOpen fn e = true) (hk : bit e.kflags 0 = suspend) (ha : s.notAllotted fn e.ctx = false)
    (hf : (s.ctx e.ctx).r.state ≠ stFrozen) :
    exec (if suspend then .haltSuspend fn q slot w else .halt fn q slot w) s = .next (s.haltEntry fn e suspend w) := by
  have one : exec (if suspend then .haltSuspend fn q slot w else .halt fn q slot w) s = s.haltWith fn q slot suspend w := by
    cases suspend <;> rfl
  rw [one]
  simp only [State.haltWith, hw, ho, hk, semantic_of_allotted ha hf, decide_true, Bool.and_self, whenB_true]

theorem exec_clear {fn q slot : Nat} {s : State} {e : Taken} (w : Wr) (hw : (s.fn fn).waits q slot 4 = some e)
    (ho : s.entryOpen fn e = true) (ha : s.notAllotted fn e.ctx = false) (hf : (s.ctx e.ctx).r.state ≠ stFrozen) :
    exec (.clear fn q slot w) s = .next (if (s.ctx e.ctx).r.state = stIdle ∨ (s.ctx e.ctx).r.state = stPending
      then s.complete fn e [0, 1] w else (s.act fn e).clearProgram e.ctx w) := by
  change execClear fn q slot w s = _
  simp only [execClear, hw, ho, semantic_of_allotted ha hf, whenB_true, Bool.or_eq_true, decide_eq_true_eq]

/-- SENSE does not wait for a migration: it reports the bib before it (02 R64, 05 R176). -/
theorem exec_sense {fn q slot : Nat} {s : State} {e : Taken} (w : Wr) (hw : (s.fn fn).waits q slot 5 = some e) (hup : s.up = true)
    (ho : (s.fn fn).oldest e = true) (ha : s.notAllotted fn e.ctx = false) (hf : (s.ctx e.ctx).r.state ≠ stFrozen) :
    let c := s.ctx e.ctx
    exec (.sense fn q slot w) s = .next (s.complete fn e
      ([0, 0] ++ (if c.phase = .migrating then { c.r with bib := c.r.bib - 1 } else c.r).completionTail) w) := by
  change execSense fn q slot w s = _
  simp only [execSense, hw, hup, ho, semantic_of_allotted ha hf, Bool.and_self, whenB_true]

/-- Settles O10: each clause is the lemma about its entry; the cases of HALT are those of `haltEntry` (Table 02.7). -/
theorem entriesOfAnAllottedContext : Obligations.EntriesOfAnAllottedContext :=
  ⟨fun _ _ _ w _ _ => exec_resume w, resumed, fun _ _ _ w _ _ _ => exec_halt w, fun _ _ _ w _ _ => exec_clear w,
    fun _ _ _ w _ _ => exec_sense w⟩

end Sys2Proof.Laws
end

section
/-! PROOFS. Demand fetches, and what a fetched command does: it begins, or the program ends with RUNAWAY (02 R39 to R43, R61, R75, 03 R85). -/

namespace Sys2Proof.Laws
open Sys2Proof Sys2Proof.Machine

section
variable {s : State} {n : Nat} (hup : s.up = true) (hp : (s.ctx n).phase = .fetch)
    (hm : (s.ctx n).space.toNat ≠ 0 ∨ (s.ctx n).r.supervisor = true ∨ (s.fn (s.ctx n).r.ownerFn.toNat).stopped = false)
include hup hp hm

/-- A fetch from HOST waits while the function of a tenant context is stopped (02 R39, 06 R180). -/
theorem fetch_outstanding :
    (s.up && decide ((s.ctx n).phase = .fetch) && (decide ((s.ctx n).space.toNat ≠ 0) || (s.ctx n).r.supervisor ||
      !(s.fn (s.ctx n).r.ownerFn.toNat).stopped)) = true := by
  simp only [hup, hp, Bool.and_eq_true, Bool.or_eq_true, Bool.not_eq_true', decide_eq_true_eq, or_assoc, true_and]
  exact hm

/-- With no copy read ahead the 32 bytes come from memory (02 R39). -/
theorem exec_demandFetch_memory {bs : List Byte} (w : Wr)
    (hr : (s.tellFetch n).readRange ((s.ctx n).who 0) (s.ctx n).space.toNat (s.ctx n).pc.toNat 32 = (bs, none))
    (hc : ∀ p ∈ (s.ctx n).readAhead, ¬(p.1 = (s.ctx n).space.toNat ∧ p.2.1 = (s.ctx n).pc)) :
    exec (.demandFetchComplete n w) s = .next ((s.tellFetch n).fetched n (Cmd.decode bs) w) := by
  have noCopy : (s.ctx n).readAhead.find? (fun p => decide (p.1 = (s.ctx n).space.toNat) && decide (p.2.1 = (s.ctx n).pc)) = none :=
    List.find?_eq_none.mpr fun p hp => by simpa using hc p hp
  change execDemandFetchComplete n w s = _
  simp only [execDemandFetchComplete, fetch_outstanding hup hp hm, noCopy, hr, whenB_true]

/-- A copy that was read ahead is taken, and used up (02 R39). -/
theorem exec_demandFetch_copy {p : Nat × W64 × List Byte} (w : Wr)
    (hc : (s.ctx n).readAhead.find? (fun p => decide (p.1 = (s.ctx n).space.toNat) && decide (p.2.1 = (s.ctx n).pc)) = some p) :
    exec (.demandFetchComplete n w) s = .next (((s.tellFetch n).modCtx n fun c => { c with
      readAhead := c.readAhead.filter fun q => decide (q ≠ p) }).fetched n (Cmd.decode p.2.2) w) := by
  change execDemandFetchComplete n w s = _
  simp only [execDemandFetchComplete, fetch_outstanding hup hp hm, hc, whenB_true]

end

/-- A command that passes steps 7 and 8 of R85 and is not held begins (03 R85, 02 R52). -/
theorem letIn_begins {s : State} {n : Nat} {cmd : Cmd} {handle : Option Nat} (w : Wr)
    (hr : s.resourceCheck n cmd handle ((s.ctx n).chain && !(s.ctx n).again) = none) (he : s.eventDenied n cmd = false)
    (hh : cmd.hold = false ∨ (s.ctx n).noHold = true) : s.letIn n cmd handle w = s.modCtx n fun c => c.beginCmd cmd handle := by
  have runs : (cmd.hold && !(s.ctx n).noHold) = false := by
    rcases hh with hh | hh <;> simp [hh]
  simp only [State.letIn, hr, he, runs, Bool.false_eq_true, if_false]

/-- A fetched command below the budget that passes every check begins; what failed before it is forgotten (02 R61, 03 R85). -/
theorem fetched_begins {s : State} {n : Nat} {cmd : Cmd} (w : Wr) (hrest : (s.ctx n).rest = .none)
    (hb : (s.ctx n).r.noprog < (s.ctx n).r.budget) (hearly : s.earlyCheck n cmd = none) (hd : cmd.readsFirst = false)
    (hr : (s.modCtx n fun c => { c with fails := [] }).resourceCheck n cmd cmd.inlineHandle ((s.ctx n).chain && !(s.ctx n).again) = none)
    (he : (s.modCtx n fun c => { c with fails := [] }).eventDenied n cmd = false) (hh : cmd.hold = false ∨ (s.ctx n).noHold = true) :
    s.fetched n cmd w = (s.modCtx n fun c => { c with fails := [] }).modCtx n fun c => c.beginCmd cmd cmd.inlineHandle := by
  have within : ¬(s.ctx n).r.budget ≤ (s.ctx n).r.noprog := Nat.not_le.mpr hb
  have forgets : ((s.modCtx n fun c => { c with fails := [] }).ctx n) = { s.ctx n with fails := [] } := State.ctx_modCtx_same ..
  rw [← letIn_begins w (by rw [forgets]; exact hr) he (by rw [forgets]; exact hh)]
  simp only [State.fetched, hrest, within, hearly, hd, decide_true, decide_false, Bool.and_false, Bool.false_and, Bool.false_eq_true,
    if_false]

/-- At the budget the program ends at the fetched command, a chain closed first (02 R61). -/
theorem fetched_runaway {s : State} {n : Nat} (cmd : Cmd) (w : Wr) (hrest : (s.ctx n).rest = .none)
    (hb : (s.ctx n).r.budget ≤ (s.ctx n).r.noprog) :
    let g := s.groupEnding n ((s.ctx n).endingAt ⟨(s.ctx n).pc, cmd⟩ deRunaway 0 0 none) true
    s.fetched n cmd w = (if (s.ctx n).chain then g.2.closeChain n else g.2).finishProgram n g.1 w := by
  simp only [State.fetched, hrest, hb, decide_true, Bool.and_self, if_true]

/-- With no failure of a producer the ending is the one that was met. -/
theorem groupEnding_of_no_failure {s : State} {n : Nat} (e : Ending) (early : Bool) (h : (s.ctx n).grp.failed = none) :
    s.groupEnding n e early = (e, s) := by
  simp only [State.groupEnding, h]

/-- With a failure of a producer the ending is that failure or the one that was met (02 R48, R66). -/
theorem groupEnding_of_failure {s : State} {n : Nat} (e : Ending) (early : Bool) {p : Ending} (h : (s.ctx n).grp.failed = some p) :
    (s.groupEnding n e early).1 = p ∨ (s.groupEnding n e early).1 = e := by
  simp only [State.groupEnding, h]
  split
  · exact .inr rfl
  · split
    · exact .inl rfl
    · dsimp only
      split
      · exact .inl rfl
      · exact .inr rfl

/-- Settles O14: the fetch by `exec_demandFetch_memory` and `exec_demandFetch_copy`, the command by `fetched_begins`, the budget by
`fetched_runaway` and `groupEnding`. -/
theorem fetchedCommandBegins : Obligations.FetchedCommandBegins := by
  refine ⟨fun n w s hup hp hm => ⟨?memory, fun p => exec_demandFetch_copy hup hp hm w⟩, ?begins, ?runaway⟩
  case memory => exact fun bs ⟨hr, hc⟩ => exec_demandFetch_memory hup hp hm w hr hc
  case begins =>
    intro n cmd w s c hrest hb hearly hd hr he hh
    dsimp only
    rw [fetched_begins w hrest hb hearly hd hr he hh, State.ctx_modCtx_same, State.ctx_modCtx_same]
    exact ⟨rfl, rfl, rfl, rfl, rfl, fun m other => (State.ctx_modCtx_ne _ _ _ _ other).trans (State.ctx_modCtx_ne _ _ _ _ other), rfl⟩
  case runaway =>
    exact fun n cmd w s hrest hb =>
      ⟨fetched_runaway cmd w hrest hb, groupEnding_of_no_failure _ true, fun p => groupEnding_of_failure _ true⟩

end Sys2Proof.Laws
end

section
/-! PROOFS. Queues: polls, reads of entries, what a ring read leaves alone, and an entry that is taken (06 R197, R198, R201, R202, R208). -/

namespace Sys2Proof.Laws
open Sys2Proof Sys2Proof.Machine

@[simp] theorem queue_setQueue_same (f : Fn) (q : Nat) (x : Option Queue) : (f.setQueue q x).queue q = x :=
  table_get_set_same _ f.queues q x

/-- Taking an entry of `n` slots moves f past them; at the end of the ring f returns to 0 and the parity turns (06 R198). -/
theorem took_f_e (x : Queue) (n now : Nat) :
    (x.took n now).f = (if x.f + n = x.slots then 0 else x.f + n) ∧ (x.took n now).e = (x.e ^^ decide (x.f + n = x.slots)) := by
  simp only [Queue.took]
  split <;> simp [Queue.rest]

/-- A ring read shows host memory, and changes nothing else. -/
theorem learnHost_frame (s : State) (fn : Nat) (x : Queue) (a : Nat) (bs : List Byte) :
    s.learnHost fn x a bs = { s with hostMem := (s.learnHost fn x a bs).hostMem } := by
  unfold State.learnHost
  split <;> rfl

@[simp] theorem learnHost_fn (s : State) (fn : Nat) (x : Queue) (a : Nat) (bs : List Byte) (k : Nat) :
    (s.learnHost fn x a bs).fn k = s.fn k := by
  rw [learnHost_frame]; rfl

@[simp] theorem learnHost_takes (s : State) (fn : Nat) (x : Queue) (a : Nat) (bs : List Byte) :
    (s.learnHost fn x a bs).takes = s.takes := by
  rw [learnHost_frame]

/-- The function with entry `e` of queue `q` among those taken, and the queue as `y` (06 R198 step 4). -/
def withEntry (q : Nat) (y : Queue) (e : Taken) (f : Fn) : Fn := { f.setQueue q (some y) with taken := f.taken ++ [e] }

/-- The state once entry `e` of queue `q` has been taken, which leaves the queue as `y`. -/
def takeEntry (s : State) (fn q : Nat) (y : Queue) (e : Taken) : State :=
  { s.modFn fn (withEntry q y e) with takes := s.takes + 1 }

@[simp] theorem withEntry_taken (q : Nat) (y : Queue) (e : Taken) (f : Fn) : (withEntry q y e f).taken = f.taken ++ [e] := rfl

@[simp] theorem withEntry_queue (q : Nat) (y : Queue) (e : Taken) (f : Fn) : (withEntry q y e f).queue q = some y :=
  queue_setQueue_same f q (some y)

theorem takeEntry_fn_same (s : State) (fn q : Nat) (y : Queue) (e : Taken) :
    (takeEntry s fn q y e).fn fn = withEntry q y e (s.fn fn) :=
  State.fn_modFn_same s fn (withEntry q y e)

theorem takeEntry_queue (s : State) (fn q : Nat) (y : Queue) (e : Taken) : ((takeEntry s fn q y e).fn fn).queue q = some y := by
  rw [takeEntry_fn_same, withEntry_queue]

theorem takeEntry_fn_ne (s : State) {fn m : Nat} (q : Nat) (y : Queue) (e : Taken) (h : m ≠ fn) :
    (takeEntry s fn q y e).fn m = s.fn m :=
  State.fn_modFn_ne s fn m (withEntry q y e) h

/-- Any ring read can fail (06 R208). -/
theorem ringAgrees_fail (s : State) (fn : Nat) (x : Queue) (a n : Nat) (why : AccFail) : s.ringAgrees fn x a n (.fail why) = true := by
  unfold State.ringAgrees
  split
  · cases s.ringLocal fn a n <;> rfl
  · rfl

theorem exec_queuePoll {fn q t lo : Nat} {x : Queue} {s : State} (hg : s.grooms fn = true) (hq : (s.fn fn).queue q = some x)
    (hs : x.stage = .due lo) (ht : s.notBefore t = true) (hr : reached t lo = true) :
    exec (.queuePoll fn q t) s = .next ((s.at_ t).modFn fn fun f =>
      f.setQueue q (some { x with stage := .reading false, chased := 0, polled := t })) := by
  change execQueuePoll fn q t s = _
  simp only [execQueuePoll, hq, hs, hg, ht, hr, Bool.and_self, whenB_true]

theorem exec_pollRead_byte {fn q : Nat} {chase : Bool} {x : Queue} {s : State} {b : Byte} (hg : s.grooms fn = true)
    (hq : (s.fn fn).queue q = some x) (hs : x.stage = .reading chase)
    (ha : s.ringAgrees fn x (x.base + 16 * x.f) 1 (.ok [b]) = true) :
    exec (.pollReadComplete fn q (.ok b)) s = .next ((s.learnHost fn x (x.base + 16 * x.f) [b]).modFn fn fun f => f.setQueue q (some
      (if b.getLsbD 7 = true ∧ b.getLsbD 6 = x.e then { x with stage := .entry b } else x.rest))) := by
  change execPollReadComplete fn q (.ok b) s = _
  simp only [execPollReadComplete, hq, hs, hg, ha, Bool.and_self, whenB_true, Bool.and_eq_true, decide_eq_true_eq]

theorem exec_pollRead_fail {fn q : Nat} {chase : Bool} {x : Queue} {s : State} (why : AccFail) (hg : s.grooms fn = true)
    (hq : (s.fn fn).queue q = some x) (hs : x.stage = .reading chase) :
    exec (.pollReadComplete fn q (.fail why)) s = .next (s.ringReadFail fn q x 0) := by
  change execPollReadComplete fn q (.fail why) s = _
  simp only [execPollReadComplete, hq, hs, hg, ringAgrees_fail, Bool.and_self, whenB_true]

section
variable {fn q : Nat} {b0 : Byte} {x : Queue} {s : State} (hg : s.grooms fn = true) (hq : (s.fn fn).queue q = some x)
  (hs : x.stage = .entry b0)
include hg hq hs

theorem exec_entryRead_fail (why : AccFail) (w : Wr) :
    exec (.entryReadComplete fn q (.fail why) w) s = .next (s.ringReadFail fn q x b0.toNat) := by
  change execEntryReadComplete fn q (.fail why) w s = _
  simp only [execEntryReadComplete, hq, hs, hg, ringAgrees_fail, Bool.and_self, whenB_true]

/-- An entry with a structural fault freezes the function (06 R207, R208). -/
theorem exec_entryRead_faulty {bs : List Byte} {cause : Nat} (w : Wr)
    (ha : s.ringAgrees fn x (x.base + 16 * x.f) (16 * (b0.toNat % 64 + 1)) (.ok bs) = true)
    (hc : structural (decide (q = 0)) b0 x.f x.slots bs = some cause) :
    exec (.entryReadComplete fn q (.ok bs) w) s =
      .next (((s.learnHost fn x (x.base + 16 * x.f) bs).modFn fn fun f => f.setQueue q (some x.rest)).freeze fn cause
        (freezeAt q x.f (byteAt bs 0) (byteAt bs 1)) .freeze none w) := by
  change execEntryReadComplete fn q (.ok bs) w s = _
  simp only [execEntryReadComplete, hq, hs, hg, ha, hc, Bool.and_self, whenB_true]

/-- A good entry that is no ADMIN entry is taken, and nothing else happens at once (06 R198). -/
theorem exec_entryRead_taken {bs : List Byte} (w : Wr)
    (ha : s.ringAgrees fn x (x.base + 16 * x.f) (16 * (b0.toNat % 64 + 1)) (.ok bs) = true)
    (hc : structural (decide (q = 0)) b0 x.f x.slots bs = none) (hk : byteAt bs 1 ≠ 0x10) :
    exec (.entryReadComplete fn q (.ok bs) w) s =
      .next (let l := s.learnHost fn x (x.base + 16 * x.f) bs
        takeEntry l fn q (x.took (b0.toNat % 64 + 1) l.time) { q := q, slot := x.f, bytes := bs, seq := l.takes }) := by
  change execEntryReadComplete fn q (.ok bs) w s = _
  simp only [execEntryReadComplete, hq, hs, hg, ha, hc, hk, Bool.and_self, whenB_true, if_false]
  rfl

/-- The queue and the list of taken entries after that, and the frame. -/
theorem entryRead_takes_entry {bs : List Byte} (w : Wr)
    (ha : s.ringAgrees fn x (x.base + 16 * x.f) (16 * (b0.toNat % 64 + 1)) (.ok bs) = true)
    (hc : structural (decide (q = 0)) b0 x.f x.slots bs = none) (hk : byteAt bs 1 ≠ 0x10) :
    let n := b0.toNat % 64 + 1
    Completes (.entryReadComplete fn q (.ok bs) w) s fun t =>
      (t.fn fn).taken = (s.fn fn).taken ++ [{ q := q, slot := x.f, bytes := bs, seq := s.takes }] ∧ t.takes = s.takes + 1 ∧
      (∃ y, (t.fn fn).queue q = some y ∧ y.f = (if x.f + n = x.slots then 0 else x.f + n) ∧ y.e = (x.e ^^ decide (x.f + n = x.slots))) ∧
      (∀ m, m ≠ fn → t.fn m = s.fn m) ∧ t = { s with fns := t.fns, hostMem := t.hostMem, takes := t.takes } := by
  refine ⟨_, exec_entryRead_taken hg hq hs w ha hc hk, ?taken, congrArg (· + 1) (learnHost_takes ..), ⟨_, takeEntry_queue .., took_f_e x _ _⟩,
    fun m other => (takeEntry_fn_ne _ q _ _ other).trans (learnHost_fn ..), ?frame⟩
  case taken => rw [takeEntry_fn_same, learnHost_fn, withEntry_taken, learnHost_takes]
  case frame =>
    rw [learnHost_frame]
    rfl

end

end Sys2Proof.Laws
end

section
/-! PROOFS. The end of a freeze (06 R209, R210), and what answers a context's requests (02 R62, 03 R86, 05 R175). -/

namespace Sys2Proof.Laws
open Sys2Proof Sys2Proof.Machine

/-- At the end of a freeze nothing of the function is outstanding: its last record is posted, unless it has been (Table 06.28). -/
theorem exec_freezeFinish {fn : Nat} {s : State} (w : Wr) (hup : s.up = true) (hf : (s.fn fn).freezing = true)
    (hs : (s.fn fn).state = 1) (ht : (s.fn fn).taken = []) (hh : (s.fn fn).held = [])
    (hp : ∀ n ∈ s.ctxsOf fn, (s.ctx n).hasProgram = false) :
    let t := if (s.fn fn).errPosted then s
      else (s.postStatus fn 0 (s.fn fn).errorRecord w).modFn fn fun f => { f with errPosted := true }
    exec (.freezeFinish fn w) s = .next (if (t.fn fn).held = [] then t.freezeEnd fn else t) := by
  have idle : ((s.ctxsOf fn).all fun n => !(s.ctx n).hasProgram) = true :=
    List.all_eq_true.mpr fun n hn => by rw [hp n hn]; rfl
  change execFreezeFinish fn w s = _
  simp only [execFreezeFinish, hup, hf, hs, ht, hh, idle, List.isEmpty_iff, List.isEmpty_nil, decide_true, Bool.and_self, whenB_true]

theorem replyTo_abandoned {s : State} {n : Nat} {bib : Byte} (stale live : State) (h : (s.ctx n).abandoned bib = true) :
    s.replyTo n bib stale live = stale :=
  if_pos h

theorem replyTo_awaited {s : State} {n : Nat} {bib : Byte} (stale live : State) (h : (s.ctx n).abandoned bib = false)
    (ha : (s.ctx n).asks = true) : s.replyTo n bib stale live = live := by
  rw [State.replyTo, h, ha]
  rfl

theorem response_to_abandoned {s : State} {n : Nat} {bib : Byte} (hup : s.up = true) (h : (s.ctx n).abandoned bib = true) (a : Nat)
    (r : Answer) :
    exec (.hostCompletion ⟨n, bib⟩ a r) s = .next (s.staleResponse n bib) ∧
    exec (.farResponse ⟨n, bib⟩ a r) s = .next (s.staleResponse n bib) := by
  constructor
  · change execHostCompletion ⟨n, bib⟩ a r s = _
    simp only [execHostCompletion, hup, whenB_true, replyTo_abandoned _ _ h]
  · change execFarResponse ⟨n, bib⟩ a r s = _
    simp only [execFarResponse, hup, whenB_true, replyTo_abandoned _ _ h]

theorem timeout_of_abandoned {s : State} {n : Nat} {bib : Byte} (hup : s.up = true) (h : (s.ctx n).abandoned bib = true) (a len : Nat) :
    exec (.hostCompletionTimeout ⟨n, bib⟩ a len) s = .next (s.lateOver n bib) := by
  change execHostCompletionTimeout ⟨n, bib⟩ a len s = _
  simp only [execHostCompletionTimeout, hup, h, replyTo_abandoned _ _ h, Bool.true_or, Bool.and_self, whenB_true]

section
variable {s : State} {n : Nat} {bib : Byte} (hup : s.up = true) (h : (s.ctx n).abandoned bib = false) (ha : (s.ctx n).asks = true)
include hup h ha

theorem exec_hostCompletion_data (a : Nat) (bs : List Byte) :
    exec (.hostCompletion ⟨n, bib⟩ a (.data bs)) s = .next (s.learn (.mem (s.ctx n).me 0) a bs) := by
  change execHostCompletion ⟨n, bib⟩ a (.data bs) s = _
  rw [execHostCompletion, hup, whenB_true, replyTo_awaited _ _ h ha]

/-- A posted write has no failure but that of its translation (03 R86). -/
theorem exec_hostCompletion_fail (a : Nat) (why : AccFail) (wr : Bool) :
    exec (.hostCompletion ⟨n, bib⟩ a (.fail why wr)) s =
      .next (if wr = true ∧ why ≠ .ats then s else s.addFail n 0 a 1 why (some wr)) := by
  change execHostCompletion ⟨n, bib⟩ a (.fail why wr) s = _
  rw [execHostCompletion, hup, whenB_true, replyTo_awaited _ _ h ha]
  simp only [Bool.and_eq_true, decide_eq_true_eq]

/-- A timeout runs while the function is not stopped (02 R62, 06 R180). -/
theorem exec_hostCompletionTimeout (a len : Nat) (hr : (s.ctx n).r.supervisor = true ∨ (s.fn (s.ctx n).r.ownerFn.toNat).stopped = false) :
    exec (.hostCompletionTimeout ⟨n, bib⟩ a len) s = .next (s.addFail n 0 a len .hostTimeout (some false)) := by
  have runs : ((s.ctx n).r.supervisor || !(s.fn (s.ctx n).r.ownerFn.toNat).stopped) = true := by simpa using hr
  change execHostCompletionTimeout ⟨n, bib⟩ a len s = _
  simp only [execHostCompletionTimeout, hup, h, runs, replyTo_awaited _ _ h ha, Bool.false_or, Bool.and_self, whenB_true]

theorem exec_farResponse_data (a : Nat) (bs : List Byte) :
    exec (.farResponse ⟨n, bib⟩ a (.data bs)) s = .next (s.learn (.mem (s.ctx n).me 2) a bs) := by
  change execFarResponse ⟨n, bib⟩ a (.data bs) s = _
  rw [execFarResponse, hup, whenB_true, replyTo_awaited _ _ h ha]

theorem exec_farResponse_fail (a : Nat) (why : AccFail) (wr : Bool) :
    exec (.farResponse ⟨n, bib⟩ a (.fail why wr)) s = .next (s.addFail n 2 a 1 why (some wr)) := by
  change execFarResponse ⟨n, bib⟩ a (.fail why wr) s = _
  rw [execFarResponse, hup, whenB_true, replyTo_awaited _ _ h ha]

end

/-- Settles O52: each clause is the lemma about its event; what is taken of an entry is `entryRead_takes_entry`. -/
theorem readsOfEntriesAndResponses : Obligations.ReadsOfEntriesAndResponses := by
  refine ⟨fun fn q t lo x s => exec_queuePoll, ?pollRead, ?entryRead, ?freezeFinish, ?responses⟩
  case pollRead =>
    exact fun fn q chase x s hg hq hs => ⟨fun b => exec_pollRead_byte hg hq hs, fun why => exec_pollRead_fail why hg hq hs⟩
  case entryRead =>
    exact fun fn q b0 w x s hg hq hs => ⟨fun why => exec_entryRead_fail hg hq hs why w, fun bs ha =>
      ⟨fun cause => exec_entryRead_faulty hg hq hs w ha, entryRead_takes_entry hg hq hs w ha⟩⟩
  case freezeFinish =>
    intro fn w s f t hup hf hs ht hh hp
    have finish := exec_freezeFinish w hup hf hs ht hh hp
    constructor
    · intro fresh
      rw [if_neg (ne_true_of_eq_false fresh)] at finish
      exact finish
    · intro posted
      rw [if_pos posted] at finish
      exact finish.trans (congrArg Host.Outcome.next (if_pos hh))
  case responses =>
    exact fun n a bib s hup => ⟨fun h => response_to_abandoned hup h a, fun h => timeout_of_abandoned hup h a, fun h ha =>
      ⟨exec_hostCompletion_data hup h ha a, exec_hostCompletion_fail hup h ha a, exec_hostCompletionTimeout hup h ha a,
        exec_farResponse_data hup h ha a, exec_farResponse_fail hup h ha a⟩⟩

end Sys2Proof.Laws
end

section
/-! PROOFS. The rows of a Yaquelux word: whichever row names a word, the core runs the whole word; a word of image code runs under the record
loop (08 R248, R268, 09 R292, R442). -/

namespace Sys2Proof.Laws
open Sys2Proof Sys2Proof.Machine

/-- Every row of a word is one word of the core, under the condition that the row names. -/
theorem exec_of_mem_wordRows (id : Nat) (i : IWord) (s : State) : ∀ p ∈ wordRows id i, exec p.1 s = s.wordRow id i p.2 :=
  List.map_inj_left.mp rfl

theorem kind_of_inImage {k : CoreKind} {c : Core} (h : c.inImage k = true) : k = .sv :=
  of_decide_eq_true (Bool.and_eq_true_iff.mp h).1

theorem coreBus_of_sv {id : Nat} (h : coreKind id = .sv) : coreBus id = svBus (coreView id) (coreRefused id) fun s => s := by
  simp only [coreBus, h]

/-- A sieve core has no request input (Table 09.1). -/
theorem mustTake_of_sv {id : Nat} (h : coreKind id = .sv) (s : State) (c : Core) : c.mustTake (coreBus id) s = false := by
  rw [coreBus_of_sv h]
  exact Bool.and_false _

theorem runWord_of_inImage {s : State} {id : Nat} (h : (s.core id).inImage (coreKind id) = true) (i : IWord) :
    s.runWord id i = ((s.core id).svWord (coreBus id) i s).1.putCore id (s.core id) ((s.core id).svWord (coreBus id) i s).2 := by
  simp only [State.runWord, h, if_true]

/-- Whichever row names a word of image code, the record loop runs it. -/
theorem exec_image_word {s : State} {id : Nat} {i : IWord} (hr : s.coreRuns id = true) (hi : (s.core id).inImage (coreKind id) = true)
    (hf : s.fetchFits id i = true) (hm : (s.runWord id i).mailFull = false) {p : Instr × Bool} (hp : p ∈ wordRows id i)
    (hrow : p.2 = true) {r : State × Core} (hw : (s.core id).svWord (coreBus id) i s = r) :
    exec p.1 s = .next (r.1.putCore id (s.core id) r.2) := by
  have free := mustTake_of_sv (kind_of_inImage hi) s (s.core id)
  subst hw
  rw [exec_of_mem_wordRows id i s p hp, State.wordRow, hr, free, hrow, hf, hm, ← runWord_of_inImage hi]
  rfl

end Sys2Proof.Laws
end

section
/-! PROOFS. A word of image code under the record loop: one lemma for each way that it can go (08 R267, R268, 09 R292, R296 to R298). -/

namespace Sys2Proof.Laws
open Sys2Proof Sys2Proof.Machine

theorem issue_of_gather_ok {b : Bus} {k : CoreKind} {i : IWord} {s : State} {c : Core} {r : Ready} (h : c.gather b k i s = .ok r) :
    c.issue b k i s = .done (r.act b k i).1 (r.act b k i).2 := by
  rw [Core.issue, h]

theorem issue_of_gather_error {b : Bus} {k : CoreKind} {i : IWord} {s : State} {c c' : Core} {t : Trap}
    (h : c.gather b k i s = .error (t, c')) : c.issue b k i s = .trap t c' := by
  rw [Core.issue, h]

/-- Filling in the value that a slot would have written changes nothing else of a trap (08 R269). -/
theorem fillValue_frame (b : Bus) (ys : List (Nat × YSlot)) (lit : Nat → W64) (s : State) (c : Core) (t : Trap) :
    c.fillValue b ys lit s t = { t with value := (c.fillValue b ys lit s t).value } := by
  unfold Core.fillValue
  split <;> rfl

section
variable {b : Bus} {i : IWord} {s : State} {c : Core}

theorem svWord_of_spent (h : c.spent = true) : c.svWord b i s = c.lost b s { cause := cBudget } := by
  simp only [Core.svWord, h, if_true]

/-- A budget that lasts for the charge of a word's emulated accesses. -/
theorem charge_within (hbudget : c.landed!.wordCost i.word = 0 ∨ (c.charge (c.landed!.wordCost i.word)).spent = false) :
    (decide (c.landed!.wordCost i.word ≠ 0) && (c.charge (c.landed!.wordCost i.word)).spent) = false := by
  rcases hbudget with hcost | hpaid
  · rw [hcost]; rfl
  · rw [hpaid, Bool.and_false]

variable (h : c.spent = false)
include h

/-- The charge of the emulated accesses spends the budget of a word that would take effect (09 R296, R298). -/
theorem svWord_of_charge_spent {r : Ready} (hcost : c.landed!.wordCost i.word ≠ 0)
    (hpaid : (c.charge (c.landed!.wordCost i.word)).spent = true)
    (hg : (c.charge (c.landed!.wordCost i.word)).gather b .sv i s = .ok r) :
    c.svWord b i s = (c.charge (c.landed!.wordCost i.word)).lost b s { cause := cBudget } := by
  simp [Core.svWord, h, issue_of_gather_ok hg, hcost, hpaid]

/-- The charge of the emulated accesses spends the budget before a check fails that comes after them. -/
theorem svWord_of_charge_spent_trap {t : Trap} {c' : Core} (hcost : c.landed!.wordCost i.word ≠ 0)
    (hpaid : (c.charge (c.landed!.wordCost i.word)).spent = true)
    (hg : (c.charge (c.landed!.wordCost i.word)).gather b .sv i s = .error (t, c')) (hlate : t.first = false) :
    c.svWord b i s = (c.charge (c.landed!.wordCost i.word)).lost b s { cause := cBudget } := by
  simp [Core.svWord, h, issue_of_gather_error hg, hcost, hpaid, hlate]

/-- A word that fails a check is answered by the firmware. Its emulated accesses are not charged (09 R296 to R298). -/
theorem svWord_of_trap {t : Trap} {c' : Core}
    (hbudget : c.landed!.wordCost i.word = 0 ∨ (c.charge (c.landed!.wordCost i.word)).spent = false ∨ t.first = true)
    (hg : (c.charge (c.landed!.wordCost i.word)).gather b .sv i s = .error (t, c')) :
    c.svWord b i s =
      ({ c' with record := { c'.record with cycles := c'.record.cycles - c.landed!.wordCost i.word } } : Core).answer b s t := by
  have within : (decide (c.landed!.wordCost i.word ≠ 0) && (c.charge (c.landed!.wordCost i.word)).spent && !t.first) = false := by
    rcases or_assoc.mpr hbudget with lasts | hfirst
    · rw [charge_within lasts]; rfl
    · rw [hfirst]; exact Bool.and_false _
  simp only [Core.svWord, h, issue_of_gather_error hg, within]
  rfl

section
variable {r : Ready} (hbudget : c.landed!.wordCost i.word = 0 ∨ (c.charge (c.landed!.wordCost i.word)).spent = false)
  (hg : (c.charge (c.landed!.wordCost i.word)).gather b .sv i s = .ok r)
include hbudget hg

theorem svWord_of_effect (hnone : c.landed!.a7Traps (c.landed!.onSlots i.word) = []) :
    c.svWord b i s = ((r.act b .sv i).1, (r.act b .sv i).2.settle) := by
  simp only [Core.svWord, h, issue_of_gather_ok hg, charge_within hbudget, hnone]
  rfl

/-- TRAP tells of the trap of the word's last emulated access (08 R272, 09 R298). -/
theorem svWord_of_emulated_effect {t : Trap} (hlast : (c.landed!.a7Traps (c.landed!.onSlots i.word)).getLast? = some t) :
    ∃ v, c.svWord b i s = ((r.act b .sv i).1, ((r.act b .sv i).2.note { t with value := v }).settle) := by
  simp only [Core.svWord, h, issue_of_gather_ok hg, charge_within hbudget, hlast]
  exact ⟨_, congrArg (fun u => ((r.act b .sv i).1, ((r.act b .sv i).2.note u).settle)) (fillValue_frame ..)⟩

end

end

/-- Settles O41: whichever row names the word, the record loop runs it (`exec_image_word`); each clause is the lemma about one way that the
word can go. -/
theorem imageWordsComplete : Obligations.ImageWordsComplete := by
  intro id i s c b traps cost paid got hr hi hf hm p hp hrow
  have runs {r : State × Core} : c.svWord b i s = r → exec p.1 s = got r := exec_image_word hr hi hf hm hp hrow
  refine ⟨fun spent => runs (svWord_of_spent spent), ?charged, ?effect, ?trapped⟩
  case charged =>
    exact fun within hcost hpaid => ⟨fun r hg => runs (svWord_of_charge_spent within hcost hpaid hg),
      fun t c' hg late => runs (svWord_of_charge_spent_trap within hcost hpaid hg late)⟩
  case effect =>
    intro within hbudget r hg
    refine ⟨fun hnone => runs (svWord_of_effect within hbudget hg hnone), fun t hlast => ?_⟩
    obtain ⟨v, run⟩ := svWord_of_emulated_effect within hbudget hg hlast
    exact ⟨v, runs run⟩
  case trapped => exact fun within t c' hbudget hg => runs (svWord_of_trap within hbudget hg)

end Sys2Proof.Laws
end

section
/-! PROOFS. The record loop of a sieve cell: the image that it takes, INIT, RECORD and the BUDGET trap (04 R127, 09 R292, R293, R299). -/

namespace Sys2Proof.Laws
open Sys2Proof Sys2Proof.Machine

/-- Which slot a load takes changes nothing but the free values drawn (09 R299, log 7). -/
theorem loadSlot_frame (s : State) (c : Core) : (s.loadSlot c).2 = { s with free := (s.loadSlot c).2.free } := by
  unfold State.loadSlot
  dsimp only [State.drawWord]
  split <;> rfl

@[simp] theorem loadSlot_core (s : State) (c : Core) (k : Nat) : (s.loadSlot c).2.core k = s.core k := by
  rw [loadSlot_frame]
  rfl

/-- Making a slot the one used last changes the order of the images alone. -/
theorem useSlot_frame (c : Core) (slot : Nat) : c.useSlot slot = { c with images := (c.useSlot slot).images } := by
  unfold Core.useSlot
  split <;> rfl

/-- The core with a loaded image in a slot: the slot's earlier image, its record start state and its code words are gone (09 R299). -/
def loadImage (c : Core) (x : SvImage) : Core :=
  { c with
    images := x :: c.images.filter fun p => decide (p.slot ≠ x.slot)
    starts := Table.set noneDef c.starts x.slot none
    code := c.code.filter fun p : Nat × Option W64 => decide (p.1 / 2048 ≠ x.slot) }

section
variable {id : Nat} {s : State} (hidle : s.svIdle id = true)
include hidle

theorem exec_imageLoadComplete {h : Nat} {x : SieveHandle} (hx : s.sieve h = some x) (hnew : s.slotWith (s.core id) h = none) :
    exec (.imageLoadComplete id h) s = .next ((s.loadSlot (s.core id)).2.setCore id
      (loadImage (s.core id) ⟨(s.loadSlot (s.core id)).1, h, x.serial, x.words⟩)) := by
  change execImageLoadComplete id h s = _
  simp only [execImageLoadComplete, hx, hidle, hnew, Option.isNone_none, Bool.and_self, whenB_true, loadImage]

theorem exec_sieveInit {h slot : Nat} {x : SieveHandle} (param : BitVec 16) (hx : s.sieve h = some x)
    (hheld : s.slotWith (s.core id) h = some slot) :
    exec (.sieveInit id h param) s = .next (s.setCore id (((s.core id).useSlot slot).beginInit x.words slot param)) := by
  change execSieveInit id h param s = _
  simp only [execSieveInit, hx, hheld, hidle, whenB_true]

theorem exec_recordPresent (ordinal : Nat) {budget : Nat} {data : List Byte} {ws : List W64} {st : SvStart} (hb : 1 ≤ budget)
    (hd : data.length ≤ 16777216) (hi : (s.core id).imageIn (s.core id).slot = some ws)
    (hs : Table.get noneDef (s.core id).starts (s.core id).slot = some st) :
    exec (.recordPresent id ordinal budget data) s = .next (s.setCore id ((s.core id).beginRecord ws (s.core id).slot st
      { data := data, ordinal := ordinal, param := (s.core id).record.param, budget := budget })) := by
  change execRecordPresent id ordinal budget data s = _
  simp only [execRecordPresent, hi, hs, hidle, hb, hd, decide_true, Bool.and_self, whenB_true]

end

/-- An event of the record loop that changes one core changes no other core, and nothing else of the state. -/
theorem setCore_frame (s : State) (id : Nat) (c : Core) :
    (∀ m, m ≠ id → (s.setCore id c).core m = s.core m) ∧ s.setCore id c = { s with cores := (s.setCore id c).cores } :=
  ⟨fun m other => State.core_setCore_ne s id m c other, rfl⟩

/-- The entry of a handler changes the program counter of the core, and what it knows of code memory (08 R270). -/
theorem vector_frame (s : State) (c : Core) (e : Nat) :
    (Core.vector s c e).2 = { c with pc := (Core.vector s c e).2.pc, code := (Core.vector s c e).2.code } := by
  unfold Core.vector Core.codeWord
  cases c.known (c.vbase.toNat + e) <;> rfl

/-- A trap outside a trap handler tells its cause and names the word (08 R272). -/
theorem trap_cause_epc {c : Core} (h : c.inTrap = false) (b : Bus) (k : CoreKind) (s : State) (t : Trap) :
    (c.trap b k s t).2.cause = t.cause ∧ (c.trap b k s t).2.epc = c.pc := by
  rw [Core.trap, h, if_neg Bool.false_ne_true, vector_frame]
  exact ⟨rfl, rfl⟩

theorem exec_svBudgetTrap {id : Nat} {s : State} (hk : coreKind id = .sv) (hr : s.coreRuns id = true) (hp : 1 ≤ (s.core id).phase)
    (hb : (s.core id).record.budget ≤ (s.core id).record.cycles) :
    let r := (s.core id).lost (coreBus id) s { cause := cBudget }
    exec (.svBudgetTrap id) s = .next (r.1.putCore id (s.core id) r.2) := by
  change execSvBudgetTrap id s = _
  simp only [execSvBudgetTrap, Core.spent, hk, hr, hp, hb, decide_true, Bool.and_self, whenB_true]

/-- Settles O47: each clause is the lemma about its event; the frames are those of the slot that is chosen, of the core that is set and of
the trap. -/
theorem theRecordLoop : Obligations.TheRecordLoop := by
  refine ⟨?load, ?init, ?record, ?budget⟩
  case load =>
    intro id h x s c hidle hx hnew
    refine ⟨_, exec_imageLoadComplete hidle hx hnew, (s.loadSlot c).1, ?_⟩
    have ⟨others, frame⟩ := setCore_frame (s.loadSlot c).2 id (loadImage c ⟨(s.loadSlot c).1, h, x.serial, x.words⟩)
    rw [State.core_setCore_same]
    refine ⟨rfl, fun p hp => ?_, table_get_set_same noneDef c.starts _ none, fun m other => (others m other).trans (loadSlot_core s c m), ?_⟩
    · simpa [loadImage] using hp
    · rw [frame, loadSlot_frame]
  case init =>
    intro id h slot param x s c hidle hx hheld
    have init := exec_sieveInit hidle param hx hheld
    rw [useSlot_frame] at init
    refine ⟨_, init, ?_⟩
    dsimp only
    rw [State.core_setCore_same]
    exact ⟨rfl, rfl, rfl, rfl, rfl, rfl, rfl, rfl, rfl, rfl, rfl, rfl, rfl, rfl, rfl, setCore_frame ..⟩
  case record =>
    intro id ordinal budget data ws st s c hidle hb hd hi hs
    refine ⟨_, exec_recordPresent hidle ordinal hb hd hi hs, ?_⟩
    dsimp only
    rw [State.core_setCore_same]
    exact ⟨rfl, rfl, rfl, rfl, rfl, rfl, rfl, rfl, rfl, rfl, rfl, rfl, rfl, rfl, rfl, rfl, setCore_frame ..⟩
  case budget =>
    exact fun id s hk hr hp hb => ⟨exec_svBudgetTrap hk hr hp hb, rfl, rfl, rfl, fun out => trap_cause_epc out ..⟩

end Sys2Proof.Laws
end

section
/-! PROOFS. The lodge: a context that is evicted, the room that is made, and the slot that a fill takes (05 R153, R154, R158). -/

namespace Sys2Proof.Laws
open Sys2Proof Sys2Proof.Machine

/-- The context once its record is back in the store, with the words of TRANSFER that were written there. -/
def storedBack (transfer : List W64) (c : Ctx) : Ctx :=
  { c with r := { c.r with transfer := transfer }, lodged := false, hbmCopy := none }

/-- Free bytes that are drawn or not: at most so many, and only the count of free values has moved (log 7). -/
theorem draw_if (s : State) (c : Bool) (n : Nat) :
    ∃ bs free, bs.length ≤ n ∧ (if c then s.drawBytes n else ([], s)) = (bs, { s with free := free }) := by
  cases c with
  | false => exact ⟨[], s.free, Nat.zero_le n, rfl⟩
  | true => exact ⟨_, s.free + n, Nat.le_of_eq (by rw [List.length_map, List.length_range]), rfl⟩

/-- An eviction stores the record back, and writes at most the bytes of the context's extension slot (05 R158). -/
theorem evict_of_lodged {s : State} {n : Nat} (h : (s.ctx n).lodged = true) : ∃ transfer free ext, ext.length ≤ 2048 ∧
    s.evict n = { s.modCtx n (storedBack transfer) with free := free, hbm := s.hbm.writeN (extensionBase + 2048 * n) ext } := by
  obtain ⟨bs, f, -, words⟩ := draw_if s (s.ctx n).unfinished 152
  obtain ⟨ext, free, short, bytes⟩ := draw_if { s with free := f } (s.ctx n).extends_ 2048
  refine ⟨if (s.ctx n).unfinished then (List.range 19).map fun i => BitVec.ofNat 64 (field bs (8 * i) 8) else [], free, ext, short, ?_⟩
  simp only [State.evict, h, words, bytes]
  cases ext <;> rfl

/-- State `t` is `s` but for evictions: of lodged contexts, of their extension slots and of the free values drawn (05 R158). -/
def EvictsOnly (s t : State) : Prop :=
  (∀ m, t.ctx m = s.ctx m ∨ (s.ctx m).lodged = true ∧ t.ctx m = storedBack (t.ctx m).r.transfer (s.ctx m)) ∧
  (∀ a, (∀ m, (s.ctx m).lodged = true → a < extensionBase + 2048 * m ∨ extensionBase + 2048 * (m + 1) ≤ a) →
    t.hbm.read a = s.hbm.read a) ∧
  t = { s with ctxs := t.ctxs, hbm := t.hbm, free := t.free }

theorem evictsOnly_refl (s : State) : EvictsOnly s s := ⟨fun _ => .inl rfl, fun _ _ => rfl, rfl⟩

theorem evictsOnly_evict {s : State} {n : Nat} (h : (s.ctx n).lodged = true) : EvictsOnly s (s.evict n) := by
  obtain ⟨transfer, free, ext, short, evicted⟩ := evict_of_lodged h
  have ctx (m : Nat) : (s.evict n).ctx m = (s.modCtx n (storedBack transfer)).ctx m := by rw [evicted]; rfl
  refine ⟨fun m => ?ctxs, fun a outside => ?hbm, by rw [evicted]; rfl⟩
  case ctxs =>
    rw [ctx]
    by_cases same : m = n
    · subst same
      rw [State.ctx_modCtx_same]
      exact .inr ⟨h, rfl⟩
    · exact .inl (State.ctx_modCtx_ne _ _ _ _ same)
  case hbm =>
    rw [evicted]
    exact mem_read_writeN_outside _ _ _ _ (by have := outside n h; omega)

theorem mem_of_oldest {s : State} {l : List Nat} {n : Nat} (h : s.oldest l = some n) : n ∈ l := by
  cases l with
  | nil => cases h
  | cons k ks =>
    obtain rfl := Option.some.inj h
    refine List.foldlRecOn ks _ (motive := (· ∈ k :: ks)) List.mem_cons_self fun m hm j hj => ?_
    split
    · exact List.mem_cons_of_mem k hj
    · exact hm

/-- Making room evicts at most one context, which is lodged (05 R158). -/
theorem evictsOnly_makeRoom (s : State) (b : Nat) : EvictsOnly s (s.makeRoom b) := by
  unfold State.makeRoom
  dsimp only
  split
  · exact evictsOnly_refl s
  · split
    · exact evictsOnly_refl s
    · next n oldest =>
      have evictable := (List.mem_filter.mp (mem_of_oldest oldest)).2
      exact evictsOnly_evict (Bool.and_eq_true_iff.mp evictable).1

end Sys2Proof.Laws
end

section
/-! PROOFS. Dispatch turns (05 R158, R159, R168). -/

namespace Sys2Proof.Laws
open Sys2Proof Sys2Proof.Machine

/-- The state once the turn of context `n` of block `b` is counted, and its function remembered if it is a tenant context (05 R168). -/
def turnCounted (s : State) (b n : Nat) : State :=
  { s with
    turns := s.turns + 1
    blocks := if (s.ctx n).r.supervisor then s.blocks else (s.modBlock b fun x => { x with lastFn := (s.ctx n).r.ownerFn.toNat }).blocks }

@[simp] theorem turnCounted_ctx (s : State) (b n m : Nat) : (turnCounted s b n).ctx m = s.ctx m := rfl

theorem turnCounted_lastFn {s : State} {n : Nat} (b : Nat) (h : (s.ctx n).r.supervisor = false) :
    ((turnCounted s b n).block b).lastFn = (s.ctx n).r.ownerFn.toNat := by
  have remembers : (turnCounted s b n).blocks = (s.modBlock b fun x => { x with lastFn := (s.ctx n).r.ownerFn.toNat }).blocks :=
    if_neg (ne_true_of_eq_false h)
  rw [State.block, remembers]
  exact congrArg Block.lastFn (State.block_modBlock_same ..)

/-- A lodged context begins; the record of another one is on its way, once there is room for it (05 R158). -/
theorem giveTurn_eq (s : State) (b n : Nat) :
    s.giveTurn b n = if (s.ctx n).lodged then (turnCounted s b n).modCtx n fun c => { c.begins with lastTurn := s.turns + 1 }
      else ((turnCounted s b n).makeRoom b).modCtx n fun c => { c with phase := .lodging, lastTurn := s.turns + 1 } := by
  simp only [State.giveTurn, turnCounted]
  cases (s.ctx n).r.supervisor <;> rfl

theorem exec_dispatchTurn {s : State} {blk n : Nat} (ht : s.turn blk = some n) (ho : s.turnOpen blk = true) :
    exec (.dispatchTurn blk) s = .next (s.giveTurn blk n) := by
  change execDispatchTurn blk s = _
  simp only [execDispatchTurn, ht, ho, whenB_true]

/-- Settles O12: a lodged context begins where the turn is counted; for another one room is made first, by evictions only. -/
theorem dispatchTurnGiven : Obligations.DispatchTurnGiven := by
  intro blk n s ht ho
  refine ⟨_, exec_dispatchTurn ht ho, ?_⟩
  dsimp only
  cases lodged : (s.ctx n).lodged with
  | true =>
    rw [giveTurn_eq, if_pos lodged, State.ctx_modCtx_same]
    refine ⟨rfl, rfl, fun _ => ⟨rfl, rfl, ?_, rfl, rfl⟩, nofun, fun _ _ => rfl, turnCounted_lastFn blk, rfl⟩
    exact fun m other => State.ctx_modCtx_ne _ _ _ _ other
  | false =>
    obtain ⟨ctxs, hbm, frame⟩ := evictsOnly_makeRoom (turnCounted s blk n) blk
    have stays : ((turnCounted s blk n).makeRoom blk).ctx n = s.ctx n :=
      (ctxs n).resolve_right fun evicted => Bool.false_ne_true (lodged.symm.trans evicted.1)
    rw [giveTurn_eq, if_neg (ne_true_of_eq_false lodged), State.ctx_modCtx_same]
    refine ⟨?turns, rfl, nofun, fun _ => ⟨rfl, fun m other => ?others⟩, hbm, ?lastFn, ?frame⟩
    case turns => rw [State.modCtx_turns, frame]; rfl
    case others =>
      rw [State.ctx_modCtx_ne _ _ _ _ other]
      exact (ctxs m).imp_right And.right
    case lastFn =>
      intro tenant
      rw [← turnCounted_lastFn blk tenant, State.block, State.modCtx_blocks, frame]
      rfl
    case frame =>
      generalize (turnCounted s blk n).makeRoom blk = r at frame
      rw [frame]
      rfl

end Sys2Proof.Laws
end

section
/-! PROOFS. Fills of the lodge, records that are lost, and read-aheads (02 R39, 05 R156, R158). -/

namespace Sys2Proof.Laws
open Sys2Proof Sys2Proof.Machine

/-- Which slot a fill takes changes nothing but the free values drawn (05 R158, log 7). -/
theorem pickLodge_frame (s : State) (n : Nat) : (s.pickLodge n).2 = { s with free := s.free + 1 } := rfl

section
variable {s : State} {n : Nat} (hup : s.up = true) (hp : (s.ctx n).phase = .lodging) (w : Wr)
include hup hp

theorem exec_lodgeFill_lodges {r : RecordRead} (hr : r = .good ∨ r = .shadowBad) :
    exec (.lodgeFillComplete n r w) s = .next ((s.pickLodge n).2.modCtx n fun c =>
      { c.begins with lodged := true, hbmCopy := some c.r, lodgeSlot := (s.pickLodge n).1 }) := by
  change execLodgeFillComplete n r w s = _
  rcases hr with rfl | rfl <;> simp only [execLodgeFillComplete, hup, hp, decide_true, Bool.true_or, Bool.and_self, whenB_true, if_true]

theorem exec_lodgeFill_bad : exec (.lodgeFillComplete n .bad w) s = .next (s.recoverCtx n w) := by
  change execLodgeFillComplete n .bad w s = _
  simp only [execLodgeFillComplete, hup, hp, decide_true, Bool.true_or, Bool.and_self, whenB_true]

theorem exec_lodgeFill_lost (owned : Bool) : exec (.lodgeFillComplete n (.lost owned) w) s = .next (s.loseCtx n owned w) := by
  change execLodgeFillComplete n (.lost owned) w s = _
  simp only [execLodgeFillComplete, hup, hp, decide_true, Bool.true_or, Bool.and_self, whenB_true]

end

/-- The copies of `k` commands from the context's place on, of the bytes that were read (02 R39). -/
def readCopies (c : Ctx) (bs : List Byte) (k : Nat) : List (Nat × W64 × List Byte) :=
  (List.range k).map fun i => (c.space.toNat, c.pc + BitVec.ofNat 64 (32 * i), (bs.drop (32 * i)).take 32)

/-- The copies that the context keeps: new ones in the place of those of the same commands. -/
def keepCopies (new : List (Nat × W64 × List Byte)) (c : Ctx) : Ctx :=
  { c with readAhead := c.readAhead.filter (fun p => !(new.any fun q => decide (q.1 = p.1) && decide (q.2.1 = p.2.1))) ++ new }

theorem mem_keepCopies {new : List (Nat × W64 × List Byte)} {p : Nat × W64 × List Byte} (c : Ctx) (h : p ∈ new) :
    p ∈ (keepCopies new c).readAhead :=
  List.mem_append_right _ h

section
variable {s : State} {n k : Nat} {bs : List Byte} (hup : s.up = true) (hp : (s.ctx n).phase = .fetch) (hk : 1 ≤ k)
  (hroom : k ≤ (256 - (s.ctx n).pc.toNat % 256) / 32)
include hup hp hk hroom

theorem exec_readAhead {f : Option (Nat × AccFail)}
    (hr : s.readRange ((s.ctx n).who 0) (s.ctx n).space.toNat (s.ctx n).pc.toNat (32 * k) = (bs, f)) :
    exec (.readAheadComplete n k) s = .next (if f.isSome then s else s.modCtx n (keepCopies (readCopies (s.ctx n) bs k))) := by
  change execReadAheadComplete n k s = _
  simp only [execReadAheadComplete, hup, hp, hk, hroom, hr, decide_true, Bool.and_self, whenB_true]
  rfl

end

/-- Settles O13: each clause is the lemma about its event; a fill lodges the context beside the free value that picks its slot. -/
theorem recordsAndReadAheadsArrive : Obligations.RecordsAndReadAheadsArrive := by
  refine ⟨?fill, fun n w s hup hp => ⟨exec_lodgeFill_bad hup hp w, exec_lodgeFill_lost hup hp w⟩, ?readAhead⟩
  case fill =>
    intro n r w s hup hp hr
    refine ⟨_, exec_lodgeFill_lodges hup hp w hr, ?_⟩
    dsimp only
    rw [State.ctx_modCtx_same]
    exact ⟨rfl, rfl, rfl, rfl, fun m other => State.ctx_modCtx_ne _ _ _ _ other, rfl⟩
  case readAhead =>
    intro n k s bs c hup hp hk hroom
    refine ⟨fun ⟨f, failed⟩ => exec_readAhead hup hp hk hroom failed, fun good => ⟨_, exec_readAhead hup hp hk hroom good, ?_⟩⟩
    dsimp only [Option.isSome_none]
    rw [if_neg Bool.false_ne_true, State.ctx_modCtx_same]
    exact ⟨fun i hi => mem_keepCopies _ (List.mem_map.mpr ⟨i, List.mem_range.mpr hi, rfl⟩), rfl,
      fun m other => State.ctx_modCtx_ne _ _ _ _ other, rfl⟩

end Sys2Proof.Laws
end

section
/-! PROOFS. Admin commands: an entry that comes next, passes the checks that all share, and then its command's own (07 R219, R221, R223). -/

namespace Sys2Proof.Laws
open Sys2Proof Sys2Proof.Machine

/-- An entry that is ready completes with code 0 when its command is done (07 R219, R220). -/
theorem admin_of_done {s s' : State} {fn slot : Nat} {t : Taken} {sp : Taken → AdmSpec} {act : Taken → AdmRes} {q : List Nat} (w : Wr)
    (h : s.adminReady fn slot t sp) (ha : act t = .done s' q) : s.admin fn slot w sp act = .next (s'.adminEnd fn t 0 0 q w) := by
  obtain ⟨front, up, hslot, stage, code, power, behind, check⟩ := h
  simp only [State.admin, front, up, hslot, stage, ← code, behind, check, ha, decide_true, Bool.true_and, Bool.not_false, Bool.and_true,
    Bool.or_eq_true, decide_eq_true_eq, power, if_true]

theorem admWhen_of_checks {l : List (Bool × Nat × Nat)} (go : AdmRes) (h : admChecks l = none) : admWhen l go = go := by
  rw [admWhen, h]

@[simp] theorem admChecks_cons_eq_none {ok : Bool} {c a : Nat} {l : List (Bool × Nat × Nat)} :
    admChecks ((ok, c, a) :: l) = none ↔ ok = true ∧ admChecks l = none := by
  cases ok <;> simp [admChecks]

@[simp] theorem admChecks_nil : admChecks [] = none := rfl

end Sys2Proof.Laws
end

section
/-! PROOFS. The admin commands for contexts (05 R163, R165, R167, 07 R227, R228). -/

namespace Sys2Proof.Laws
open Sys2Proof Sys2Proof.Machine

theorem rangeChecks_pass {t : Taken} (hl : t.pf 0 0 20 ≤ lastCtx) (hc : 1 ≤ t.pf 0 20 21)
    (he : t.pf 0 0 20 + t.pf 0 20 21 ≤ lastCtx + 1) {l : List (Bool × Nat × Nat)} (h : admChecks l = none) :
    admChecks (rangeChecks t ++ l) = none := by
  simp [rangeChecks, hl, hc, he, h]

section
variable {s : State} {fn slot : Nat} {t : Taken} (w : Wr)

theorem exec_allotContexts (h : s.adminReady fn slot t allotContextsSpec) (hl : t.pf 0 0 20 ≤ lastCtx) (hc : 1 ≤ t.pf 0 20 21)
    (he : t.pf 0 0 20 + t.pf 0 20 21 ≤ lastCtx + 1)
    (hf : s.rangeAll (t.pf 0 0 20) (t.pf 0 20 21) true (fun c => decide (c.r.state = stFree)) = true) :
    exec (.allotContexts fn slot w) s = .next (((List.range (t.pf 0 20 21)).foldl (fun s i =>
      s.modCtx (t.pf 0 0 20 + i) fun c => { c with r := c.r.allotted t.target (s.homeFor (t.pf 0 0 20 + i)) }) s).adminEnd fn t 0 0 [] w) :=
  admin_of_done w h (admWhen_of_checks _ (rangeChecks_pass hl hc he (by simp [hf])))

theorem exec_releaseContexts (h : s.adminReady fn slot t releaseContextsSpec) (hl : t.pf 0 0 20 ≤ lastCtx) (hc : 1 ≤ t.pf 0 20 21)
    (he : t.pf 0 0 20 + t.pf 0 20 21 ≤ lastCtx + 1)
    (hm : s.rangeAll (t.pf 0 0 20) (t.pf 0 20 21) false
      (fun c => decide (c.r.state = stIdle) && decide (c.r.ownerFn.toNat = t.target)) = true) :
    exec (.releaseContexts fn slot w) s = .next (((List.range (t.pf 0 20 21)).foldl (fun s i =>
      s.modCtx (t.pf 0 0 20 + i) fun c => { c with r := { c.r with state := stFree } }) s).adminEnd fn t 0 0 [] w) :=
  admin_of_done w h (admWhen_of_checks _ (rangeChecks_pass hl hc he (by simp [hm])))

theorem exec_pinContext (h : s.adminReady fn slot t pinContextSpec) (hb : (s.blockOf (t.pf 0 32 3) (t.pf 0 36 3)).isSome = true)
    (ha : s.allottedTo t.target (t.pf 0 0 20) = true) (hi : (s.ctx (t.pf 0 0 20)).r.state = stIdle) :
    exec (.pinContext fn slot w) s = .next (((s.evict (t.pf 0 0 20)).modCtx (t.pf 0 0 20) fun c =>
      { c with r := { c.r with region := BitVec.ofNat 3 (t.pf 0 32 3), slot := BitVec.ofNat 3 (t.pf 0 36 3), pinned := true } }).adminEnd
      fn t 0 0 [] w) :=
  admin_of_done w h (admWhen_of_checks _ (by simp [hb, ha, hi]))

theorem exec_unpinContext (h : s.adminReady fn slot t unpinContextSpec) (ha : s.allottedTo t.target (t.pf 0 0 20) = true) :
    exec (.unpinContext fn slot w) s =
      .next ((s.modCtx (t.pf 0 0 20) fun c => { c with r := { c.r with pinned := false } }).adminEnd fn t 0 0 [] w) :=
  admin_of_done w h (admWhen_of_checks _ (by simp [ha]))

theorem exec_setBudget (h : s.adminReady fn slot t setBudgetSpec) (hmin : 1024 ≤ t.pf 1 0 25) (hmax : t.pf 1 0 25 ≤ 16777216)
    (ha : s.allottedTo t.target (t.pf 0 0 20) = true) :
    exec (.setBudget fn slot w) s = .next ((s.modCtx (t.pf 0 0 20) fun c =>
      { c with r := { c.r with budget := BitVec.ofNat 32 (t.pf 1 0 25) } }).adminEnd fn t 0 0 [] w) :=
  admin_of_done w h (admWhen_of_checks _ (by simp [hmin, hmax, ha]))

theorem exec_setKeys (h : s.adminReady fn slot t setKeysSpec) (ha : s.allottedTo t.target (t.pf 0 0 20) = true)
    (hi : (s.ctx (t.pf 0 0 20)).r.state = stIdle) :
    exec (.setKeys fn slot w) s = .next ((s.modCtx (t.pf 0 0 20) fun c =>
      { c with r := { c.r with keys := BitVec.ofNat 64 (t.param 1) } }).adminEnd fn t 0 0 [] w) :=
  admin_of_done w h (admWhen_of_checks _ (by simp [ha, hi]))

theorem exec_queryContext (h : s.adminReady fn slot t queryContextSpec) (ha : s.allottedTo t.target (t.pf 0 0 20) = true) :
    exec (.queryContext fn slot w) s = .next (s.adminEnd fn t 0 0
      ((s.ctx (t.pf 0 0 20)).queryWords (decide (fn = 0) && (s.fn t.target).tdiHeld)) w) :=
  admin_of_done w h (admWhen_of_checks _ (by simp [ha]))

end

/-- One context after the other, each changed in a way that may depend on the state it meets. -/
def modRange (g : State → Nat → Ctx → Ctx) (n count : Nat) (s : State) : State :=
  (List.range count).foldl (fun s i => s.modCtx (n + i) (g s (n + i))) s

theorem modRange_succ (g : State → Nat → Ctx → Ctx) (n count : Nat) (s : State) :
    modRange g n (count + 1) s = (modRange g n count s).modCtx (n + count) (g (modRange g n count s) (n + count)) := by
  rw [modRange, List.range_succ, List.foldl_append]
  rfl

theorem modRange_frame (g : State → Nat → Ctx → Ctx) (n count : Nat) (s : State) :
    modRange g n count s = { s with ctxs := (modRange g n count s).ctxs } := by
  induction count with
  | zero => rfl
  | succ count ih => rw [modRange_succ, ih]; rfl

theorem modRange_ctx_outside (g : State → Nat → Ctx → Ctx) (n count : Nat) (s : State) {m : Nat} (h : m < n ∨ n + count ≤ m) :
    (modRange g n count s).ctx m = s.ctx m := by
  induction count with
  | zero => rfl
  | succ count ih =>
    rw [modRange_succ, State.ctx_modCtx_ne _ _ _ _ (by omega)]
    exact ih (by omega)

/-- Each context of the range is changed once, from what it was before. -/
theorem modRange_ctx_inside (g : State → Nat → Ctx → Ctx) (n : Nat) {count : Nat} (s : State) {i : Nat} (h : i < count) :
    ∃ s', (modRange g n count s).ctx (n + i) = g s' (n + i) (s.ctx (n + i)) := by
  induction count with
  | zero => exact absurd h (Nat.not_lt_zero i)
  | succ count ih =>
    rw [modRange_succ]
    by_cases last : i = count
    · subst last
      exact ⟨_, by rw [State.ctx_modCtx_same, modRange_ctx_outside _ _ _ _ (.inr (Nat.le_refl _))]⟩
    · rw [State.ctx_modCtx_ne _ _ _ _ (by omega)]
      exact ih (by omega)

/-- What ALLOT-CONTEXTS makes of one context (05 R163). -/
def allot (fn : Nat) (s : State) (n : Nat) (c : Ctx) : Ctx := { c with r := c.r.allotted fn (s.homeFor n) }

/-- Settles O31: each command is the lemma about it; a range is allotted context by context (`modRange`). -/
theorem adminContexts : Obligations.AdminContexts := by
  refine ⟨fun fn slot w s t => ⟨exec_allotContexts w, exec_releaseContexts w, exec_pinContext w, exec_unpinContext w, exec_setBudget w,
    exec_setKeys w, exec_queryContext w⟩, fun s fn n count hfn => ⟨fun i hi => ?inside, ?outside, modRange_frame (allot fn) n count s⟩⟩
  case inside =>
    obtain ⟨s', allotted⟩ := modRange_ctx_inside (allot fn) n s hi
    have record := congrArg Ctx.r allotted
    exact ⟨congrArg CtxRec.state record, (congrArg (fun r => r.ownerFn.toNat) record).trans (Nat.mod_eq_of_lt hfn),
      congrArg CtxRec.supervisor record, congrArg CtxRec.pinned record, congrArg CtxRec.budget record, congrArg CtxRec.keys record,
      congrArg CtxRec.residual record, congrArg CtxRec.survivors record, congrArg CtxRec.stale record, (congrArg CtxRec.bib record).trans rfl⟩
  case outside => exact fun m => modRange_ctx_outside (allot fn) n count s

end Sys2Proof.Laws
end

section
/-! PROOFS. The completion record of a WRAP or NOP entry (06 R195, R199, R204, Table 06.25). -/

namespace Sys2Proof.Laws
open Sys2Proof Sys2Proof.Machine

theorem mem_readN_append (m : Mem) (a k l : Nat) : m.readN a (k + l) = m.readN a k ++ m.readN (a + k) l := by
  induction k generalizing a with
  | zero => rw [Nat.zero_add]; rfl
  | succ k ih =>
    have next : a + (k + 1) = a + 1 + k := by omega
    rw [Nat.succ_add, next]
    exact congrArg (m.read a :: ·) (ih (a + 1))

theorem mem_readN_writeN_outside (m : Mem) (a : Nat) (bs : List Byte) (x n : Nat) (h : x + n ≤ a ∨ a + bs.length ≤ x) :
    (m.writeN a bs).readN x n = m.readN x n := by
  induction n generalizing x with
  | zero => rfl
  | succ n ih =>
    change (m.writeN a bs).read x :: (m.writeN a bs).readN (x + 1) n = m.read x :: m.readN (x + 1) n
    rw [mem_read_writeN_outside m a bs x (by omega), ih (x + 1) (by omega)]

/-- Eight bytes from `a + 8` on, and then the first byte: bytes 1 to 7 are not written (Table 06.25, R206). -/
def putRecord (m : Mem) (a : Nat) (first : Byte) (rest : List Byte) : Mem := (m.writeN (a + 8) rest).writeN a [first]

theorem putRecord_readN (m : Mem) (a : Nat) (first : Byte) {rest : List Byte} (h : rest.length = 8) :
    (putRecord m a first rest).readN a 16 = first :: (m.readN (a + 1) 7 ++ rest) := by
  have kept : (putRecord m a first rest).readN (a + 1) 7 = m.readN (a + 1) 7 :=
    (mem_readN_writeN_outside _ a [first] (a + 1) 7 (.inr (Nat.le_refl _))).trans
      (mem_readN_writeN_outside m (a + 8) rest (a + 1) 7 (.inl (by omega)))
  have written : (putRecord m a first rest).readN (a + 8) 8 = rest := by
    rw [putRecord, mem_readN_writeN_outside _ a [first] (a + 8) 8 (.inr (Nat.add_le_add_left (show 1 ≤ 8 by decide) a)), ← h, mem_readN_writeN]
  calc (putRecord m a first rest).readN a 16
    _ = (putRecord m a first rest).read a :: (putRecord m a first rest).readN (a + 1) (7 + 8) := rfl
    _ = first :: (m.readN (a + 1) 7 ++ rest) := by
      rw [mem_readN_append, kept, written, putRecord, mem_read_writeN_head]

theorem putRecord_read_outside (m : Mem) (a : Nat) (first : Byte) {rest : List Byte} (h : rest.length = 8) {b : Nat}
    (out : b < a ∨ a + 16 ≤ b) : (putRecord m a first rest).read b = m.read b := by
  rw [putRecord, mem_read_writeN_outside _ a [first] b (by rw [List.length_singleton]; omega),
    mem_read_writeN_outside m (a + 8) rest b (by omega)]

/-- The bytes of the record of an entry that completes with CLASS 0 and CODE 0 (Table 06.25). -/
theorem putRecord_completion (m : Mem) (a : Nat) (e : Taken) (time : Nat) :
    let r := putRecord m a e.done0 (completionBytes time [0, 0])
    r.readN a 16 = BitVec.ofNat 8 (byteAt e.bytes 0 % 128) :: (m.readN (a + 1) 7 ++ [0, 0] ++ leBytes 6 time) ∧
    ∀ b, b < a ∨ a + 16 ≤ b → r.read b = m.read b := by
  have bytes : completionBytes time [0, 0] = [0, 0] ++ leBytes 6 time := List.append_nil _
  have eight : (completionBytes time [0, 0]).length = 8 := by rw [bytes, List.length_append, leBytes_length]; rfl
  refine ⟨?_, fun b => putRecord_read_outside m a _ eight⟩
  rw [List.append_assoc, ← bytes]
  exact putRecord_readN m a _ eight

/-- A part that works is not in the device-fatal state (13 R379). -/
theorem up_not_fatal {s : State} (h : s.up = true) : s.chip.fatal = false := by
  simp only [State.up, Bool.and_eq_true, Bool.not_eq_true'] at h
  obtain ⟨⟨⟨fatal, -⟩, -⟩, -⟩ := h
  exact fatal

theorem waits_kind {f : Fn} {q slot k : Nat} {e : Taken} (h : f.waits q slot k = some e) : e.kind = k := by
  have found := List.find?_some h
  simp only [Bool.and_eq_true, decide_eq_true_eq] at found
  exact found.2

/-- The state with the record of entry `e` in its slot of the ring of queue `x`, in the placement of the queue (06 R193, R204). -/
def recordWritten (s : State) (fn : Nat) (x : Queue) (e : Taken) (body : List Byte) : State :=
  if x.loc then
    { s with hbm := putRecord s.hbm ((s.fn fn).extBase + (x.base + 16 * e.slot)) e.done0 (completionBytes s.time body) }
  else { s with hostMem := putRecord s.hostMem (s.hostKey fn (x.base + 16 * e.slot)) e.done0 (completionBytes s.time body) }

theorem ringWrite_record (s : State) (fn : Nat) (x : Queue) (e : Taken) (body : List Byte) :
    (s.ringWrite fn x.loc (x.base + 16 * e.slot + 8) (completionBytes s.time body)).ringWrite fn x.loc (x.base + 16 * e.slot) [e.done0] =
      recordWritten s fn x e body := by
  unfold recordWritten
  cases x.loc <;> simp [State.ringWrite, State.hostKey, State.fn, putRecord, Nat.add_assoc]

/-- A WRAP or NOP entry of a queue that may be written completes, and counts no event (06 R204, R213). -/
theorem complete_uncounted {s : State} {fn : Nat} {e : Taken} {x : Queue} {w : Wr} (body : List Byte) (hup : s.up = true)
    (hq : (s.fn fn).queue e.q = some x) (hs : (s.fn fn).state = 0) (hp : x.loc = true ∨ (s.fn fn).stopped = false) (hw : w.comp = none)
    (hk : e.kind = 6 ∨ e.kind = 7) :
    s.complete fn e body w = (recordWritten s fn x e body).modFn fn fun f => f.dropTaken e.q e.slot := by
  have goesOut : (!x.loc && (s.fn fn).stopped) = false := by
    rcases hp with inLocal | runs
    · rw [inLocal]; rfl
    · rw [runs, Bool.and_false]
  have uncounted : (decide (e.kind = 6) || decide (e.kind = 7)) = true := by simpa using hk
  rw [← ringWrite_record]
  simp [State.complete, State.writeCompletion, hq, up_not_fatal hup, hs, goesOut, hw, uncounted]

theorem exec_wrap_or_nop {fn q slot : Nat} {s : State} {e : Taken} {wrap : Bool} (w : Wr)
    (h : (s.fn fn).waits q slot (if wrap then 6 else 7) = some e) (hup : s.up = true) :
    exec (if wrap then .wrap fn q slot w else .entryNop fn q slot w) s = .next (s.complete fn e [0, 0] w) := by
  cases wrap with
  | true =>
    change (s.fn fn).waits q slot 6 = some e at h
    change execWrap fn q slot w s = _
    simp only [execWrap, h, hup, whenB_true]
  | false =>
    change (s.fn fn).waits q slot 7 = some e at h
    change execEntryNop fn q slot w s = _
    simp only [execEntryNop, h, hup, whenB_true]

/-- Settles O11: the entry completes by `complete_uncounted`, and `putRecord_completion` says what the bytes are. -/
theorem completionRecordWritten : Obligations.CompletionRecordWritten := by
  intro fn q slot w s e wrap x he hup hq hs hp hw
  have kind : e.kind = 6 ∨ e.kind = 7 := by
    have k := waits_kind he
    cases wrap with
    | true => exact .inl k
    | false => exact .inr k
  refine ⟨_, exec_wrap_or_nop w he hup, ?_⟩
  rw [complete_uncounted _ hup hq hs hp hw kind]
  unfold recordWritten
  cases x.loc with
  | true =>
    have ⟨record, outside⟩ := putRecord_completion s.hbm ((s.fn fn).extBase + (x.base + 16 * e.slot)) e s.time
    exact ⟨record, outside, State.fn_modFn_same .., fun n other => State.fn_modFn_ne _ _ _ _ other, rfl⟩
  | false =>
    have ⟨record, outside⟩ := putRecord_completion s.hostMem (s.hostKey fn (x.base + 16 * e.slot)) e s.time
    exact ⟨record, outside, State.fn_modFn_same .., fun n other => State.fn_modFn_ne _ _ _ _ other, rfl⟩

end Sys2Proof.Laws
end

section
/-! PROOFS. Management commands carried in MCTP (14 R397, R398, R406, R418): one lemma for each command that says what it answers. -/

namespace Sys2Proof.Laws
open Sys2Proof Sys2Proof.Machine

/-- A state-changing command of good form, carried in MCTP while no command executes, acts (14 R398). -/
theorem mgGate_mctp {s : State} (hz : s.sec.zeroising = none) {ok : Bool} (hok : ok = true) (go : State) :
    s.mgGate .mctp ok go = go := by
  simp [State.mgGate, hz, hok]

section
variable {s : State} (hup : s.mgUp = true)
include hup

theorem exec_getState : exec (.getState .mctp) s = .next (s.answer mgOk [s.secState.toNat, s.pwrStat.toNat]) := by
  change execGetState .mctp s = _
  simp [execGetState, hup]

theorem exec_readLedger {slot n : Nat} (h1 : 1 ≤ n) (h16 : n ≤ 16) (hend : slot + n ≤ 16384) :
    exec (.readLedger .mctp slot n) s =
      .next (s.answer mgOk ((List.range n).flatMap fun i => (s.store.ledgerSlot (slot + i)).map BitVec.toNat)) := by
  change execReadLedger .mctp slot n s = _
  have nonzero : n ≠ 0 := Nat.ne_of_gt h1
  simp [execReadLedger, hup, nonzero, Nat.not_lt.mpr h16, Nat.not_lt.mpr hend]

variable (hz : s.sec.zeroising = none)
include hz

/-- On a LOCKED device the debug level only goes from OBSERVE to NONE (14 R406). -/
theorem exec_setDebug {level : Nat} (hl : level ≤ 2)
    (ha : s.leaveLowPower.store.lifecycle ≠ 2 ∨ (s.leaveLowPower.sec.debug = 1 ∧ level = 0)) :
    exec (.setDebug .mctp level) s =
      .next (({ s.leaveLowPower with sec := { s.leaveLowPower.sec with debug := level } } : State).answer mgOk) := by
  have allowed : (decide (s.leaveLowPower.store.lifecycle = 2) &&
      !(decide (s.leaveLowPower.sec.debug = 1) && decide (level = 0))) = false := by
    rcases ha with unlocked | ⟨observe, lower⟩
    · simp [unlocked]
    · simp [observe, lower]
  change execSetDebug .mctp level s = _
  simp only [execSetDebug, hup, whenB_true, mgGate_mctp hz (decide_eq_true hl), allowed, Bool.false_eq_true, if_false]

theorem exec_provision (k p : Nat) (hb : s.leaveLowPower.store.lifecycle = 0) :
    exec (.provision .mctp k p) s = .next (if s.leaveLowPower.supplyOk
      then ({ s.leaveLowPower with store := { s.leaveLowPower.store with secret := some k, publicKey := p } } : State).answer mgOk [p]
      else s.leaveLowPower.refuseStore.answer mgSupply) := by
  change execProvision .mctp k p s = _
  simp [execProvision, hup, mgGate_mctp hz, hb, State.mgStore]

theorem exec_installCert {chain : List Byte} (hne : chain ≠ []) (hlen : chain.length ≤ 16384)
    (hb : s.leaveLowPower.store.lifecycle = 0) (hk : s.leaveLowPower.store.secret ≠ none) :
    exec (.installCert .mctp chain) s = .next (if s.leaveLowPower.supplyOk
      then (({ s.leaveLowPower with store := { s.leaveLowPower.store with chain := chain } } : State).lifecycle 1).answer mgOk
      else s.leaveLowPower.refuseStore.answer mgSupply) := by
  change execInstallCert .mctp chain s = _
  simp [execInstallCert, hup, mgGate_mctp hz, hne, hlen, hb, hk, State.mgStore]

theorem exec_lockDevice (ho : s.leaveLowPower.store.lifecycle = 1) :
    exec (.lockDevice .mctp) s = .next (if s.leaveLowPower.supplyOk
      then (({ s.leaveLowPower with sec := { s.leaveLowPower.sec with debug := 0 } } : State).lifecycle 2).answer mgOk
      else s.leaveLowPower.refuseStore.answer mgSupply) := by
  change execLockDevice .mctp s = _
  simp [execLockDevice, hup, mgGate_mctp hz, ho, State.mgStore]

end

end Sys2Proof.Laws
end

section
/-! PROOFS. The unlock protocol: nonces, signatures, and zeroisation (14 R407, R408). -/

namespace Sys2Proof.Laws
open Sys2Proof Sys2Proof.Machine

@[simp] theorem cic_sec (s : State) (k : Nat) : (s.cic k).sec = s.sec := rfl
@[simp] theorem cic_out (s : State) (k : Nat) : (s.cic k).out = s.out := rfl

section
variable {s : State} {id t : Nat} (hup : s.mgUp = true) (ht : s.notBefore t = true) (hs : s.securedIn (.session id) = some id)
  (hl : s.store.lifecycle = 2)
include hup ht hs hl

/-- A LOCKED device gives a nonce for each of the three purposes (14 R407). -/
theorem exec_unlockChallenge {purpose nonce : Nat} (h1 : 1 ≤ purpose) (h3 : purpose ≤ 3) (hn : nonce < 2 ^ 384) :
    let q := (s.at_ t).cic 960
    exec (.unlockChallenge (.session id) purpose nonce t) s = .next ((({ q with sec := { q.sec with
      nonces := q.sec.nonces ++ [{ value := nonce, session := id, purpose := purpose, born := t }] } } : State).cic 961).answer mgOk [nonce]) := by
  have known : (decide (purpose = 0) || decide (3 < purpose)) = false := by
    simp [Nat.ne_of_gt h1, Nat.not_lt.mpr h3]
  change execUnlockChallenge (.session id) purpose nonce t s = _
  simp only [execUnlockChallenge, hup, ht, hs, hl, decide_eq_true hn, known, Bool.and_self, whenB_true, Bool.false_eq_true, if_false, ne_eq,
    not_true_eq_false]

variable {nonce : Nat} {x : Nonce} (hz : s.sec.zeroising = none) (hx : s.liveNonce id nonce t = some x)
include hz hx

/-- Where a good signature of a live nonce leads: the purpose decides, and a level that is in force is not given again (14 R406, R407). -/
theorem exec_unlockResponse_good :
    let used := ((s.at_ t).cic 960).useNonce id nonce
    exec (.unlockResponse (.session id) nonce true t) s = .next (
      if x.purpose = 3 then used.answer mgSignature else if x.purpose ≤ s.sec.debug then used.answer mgState
      else if x.purpose = 1 then ({ used.leaveLowPower with sec := { used.leaveLowPower.sec with debug := 1 } } : State).answer mgOk
      else used.beginZeroise 2 id) := by
  change execUnlockResponse (.session id) nonce true t s = _
  simp [execUnlockResponse, hup, ht, hs, hl, hz, hx]

theorem exec_unlockResponse_bad :
    exec (.unlockResponse (.session id) nonce false t) s = .next ((((s.at_ t).cic 960).useNonce id nonce).badSignature id) := by
  change execUnlockResponse (.session id) nonce false t s = _
  simp [execUnlockResponse, hup, ht, hs, hl, hz, hx]

theorem exec_retire (hp : x.purpose = 3) :
    exec (.retire (.session id) nonce true t) s = .next ((((s.at_ t).cic 960).useNonce id nonce).beginZeroise 3 id) := by
  change execRetire (.session id) nonce true t s = _
  simp [execRetire, hup, ht, hs, hl, hz, hx, hp]

end

theorem exec_nonceExpiry {s : State} {nonce t : Nat} {x : Nonce} (hup : s.mgUp = true) (ht : s.notBefore t = true)
    (hx : x ∈ s.sec.nonces) (hv : x.value = nonce) (hr : reached t (x.born + nonceLife) = true) :
    exec (.nonceExpiry nonce t) s = .next { s.at_ t with sec := { s.sec with nonces := s.sec.nonces.filter fun y =>
      !(decide (y.value = nonce) && reached t (y.born + nonceLife)) } } := by
  have old : (s.sec.nonces.any fun y => decide (y.value = nonce) && reached t (y.born + nonceLife)) = true :=
    List.any_eq_true.mpr ⟨x, hx, by simp [hv, hr]⟩
  change execNonceExpiry nonce t s = _
  simp only [execNonceExpiry, hup, ht, old, Bool.and_self, whenB_true, State.at_sec]

theorem mem_read_clearRange (m : Mem) {lo hi a : Nat} (hlo : lo ≤ a) (hhi : a < hi) : (m.clearRange lo hi).read a = 0 := by
  induction m with
  | nil => rfl
  | cons p m ih =>
    obtain ⟨k, v⟩ := p
    unfold Mem.clearRange at ih ⊢
    rw [List.filter_cons]
    split
    · next kept =>
      have other : k ≠ a := by
        rintro rfl
        simp [hlo, hhi] at kept
      exact (if_neg other).trans ih
    · exact ih

/-- The device once it has erased what a zeroisation erases (Table 14.7 steps 3 to 5). -/
def zeroised (s : State) (id : Nat) : State :=
  { s.erase id with sec := { (s.erase id).sec with zeroising := none, zeroised := true } }

section
variable {s : State} {purpose id : Nat} (hup : s.up = true) (hstop : s.allStopped = true) (hz : s.sec.zeroising = some (purpose, id))
include hup hstop hz

theorem exec_zeroisation_unlock (hp : purpose ≠ 3) : exec .zeroisation s =
    .next (({ zeroised s id with sec := { (zeroised s id).sec with debug := 2 } } : State).answer mgOk) := by
  change execZeroisation s = _
  simp only [execZeroisation, zeroised, hz, hup, hstop, Bool.and_self, whenB_true, if_neg hp]

theorem exec_zeroisation_retire (hp : purpose = 3) (hsup : (zeroised s id).supplyOk = true) :
    let z := zeroised s id
    let r := ({ z with store := { z.store with secret := none, publicKey := 0, chain := [] } } : State).lifecycle 3
    exec .zeroisation s = .next (({ r with sec := { r.sec with debug := 2 } } : State).answer mgOk) := by
  unfold zeroised at hsup ⊢
  change execZeroisation s = _
  simp only [execZeroisation, hz, hup, hstop, Bool.and_self, whenB_true, if_pos hp, if_pos hsup]

end

end Sys2Proof.Laws
end

section
/-! PROOFS. Attestation and its sessions, TDISP, and the firmware update over PLDM (06 R179, 14 R396, R400, R401, R404, R418). -/

namespace Sys2Proof.Laws
open Sys2Proof Sys2Proof.Machine

section
variable {s : State} {id : Nat} (hup : s.mgUp = true) (ho : s.sessionOpen id = true)
include hup ho

theorem exec_getMeasurements_unsigned :
    exec (.getMeasurements id false) s = .next ((s.cic 960).answer mgOk (s.cic 960).measurements) := by
  change execGetMeasurements id false s = _
  simp [execGetMeasurements, hup, ho]

variable (hp : (s.cic 960).provisioned = true)
include hp

theorem exec_getMeasurements_signed : let q := s.cic 960
    exec (.getMeasurements id true) s = .next ((q.drawKey 1).2.answer mgOk ((q.drawKey 1).2.measurements ++ [(q.drawKey 1).1])) := by
  change execGetMeasurements id true s = _
  simp [execGetMeasurements, hup, ho, hp]

theorem exec_getCertificate : let q := s.cic 960
    exec (.getCertificate id 0) s =
      .next ((q.drawKey 2).2.answer mgOk ((q.drawKey 2).2.store.chain.map BitVec.toNat ++ [(q.drawKey 2).1])) := by
  change execGetCertificate id 0 s = _
  simp [execGetCertificate, hup, ho, hp]

theorem exec_challenge : let q := s.cic 960
    exec (.challenge id 0) s = .next ((q.drawKey 3).2.answer mgOk [(q.drawKey 3).1]) := by
  change execChallenge id 0 s = _
  simp [execChallenge, hup, ho, hp]

end

/-- There is room for a fourth session, and for a first one on the management interfaces (14 R400). -/
theorem session_room {l : List (Nat × Bool × Nat)} (mgmt : Bool) (hroom : l.length < 4) (hone : mgmt = true → ∀ x ∈ l, x.2.1 = false) :
    (decide (4 ≤ l.length) || (mgmt && l.any fun x => x.2.1)) = false := by
  have single : (mgmt && l.any fun x => x.2.1) = false := by
    cases mgmt with
    | false => rfl
    | true => exact List.any_eq_false.mpr fun x hx => ne_true_of_eq_false (hone rfl x hx)
  rw [single, decide_eq_false (Nat.not_le.mpr hroom)]
  rfl

theorem exec_keyExchange {s : State} {id : Nat} {mgmt : Bool} (hup : s.mgUp = true) (hid : id ≠ 0) (hnew : s.session id = none)
    (hp : (s.cic 960).provisioned = true) (hroom : s.sec.sessions.length < 4)
    (hone : mgmt = true → ∀ x ∈ s.sec.sessions, x.2.1 = false) :
    let r := ((s.cic 960).drawKey 4).2
    exec (.keyExchange id mgmt) s = .next (({ r with sec := { r.sec with sessions := r.sec.sessions ++ [(id, mgmt, 0)] } } : State).answer
      mgOk [((s.cic 960).drawKey 4).1]) := by
  have room := session_room (l := (s.cic 960).sec.sessions) mgmt hroom hone
  change execKeyExchange id mgmt s = _
  simp only [execKeyExchange, hup, hnew, hp, room, decide_eq_true hid, Option.isNone_none, Bool.and_self, whenB_true, Bool.not_true,
    Bool.false_eq_true, if_false]

theorem exec_spdmSessionEnd {s : State} {id : Nat} (hup : s.mgUp = true) (hs : (s.session id).isSome = true) :
    exec (.spdmSessionEnd id) s = .next (s.endSession id) := by
  change execSpdmSessionEnd id s = _
  simp only [execSpdmSessionEnd, hup, hs, Bool.and_self, whenB_true]

theorem endSession_session (s : State) (id : Nat) : (s.endSession id).session id = none :=
  List.find?_eq_none.mpr fun x hx => by
    obtain ⟨-, other⟩ := List.mem_filter.mp hx
    simpa using other

theorem endSession_nonces {s : State} {id : Nat} {x : Nonce} (h : x ∈ (s.endSession id).sec.nonces) : x.session ≠ id :=
  of_decide_eq_true (List.mem_filter.mp h).2

section
variable {s : State} {fn : Nat} (hup : s.mgUp = true) (hi : s.isTdi fn = true)
include hup hi

theorem exec_tdispLockInterface (hl : s.store.lifecycle = 2) (hd : s.sec.debug < 2) (hu : (s.fn fn).tdi = .configUnlocked) :
    exec (.tdispLockInterface fn) s =
      .next (((s.cic 960).modFn fn fun f => { f with tdi := .configLocked, ideSecure := true }).answer mgOk) := by
  have locked : (s.cic 960).store.lifecycle = 2 := hl
  have unlocked : ((s.cic 960).fn fn).tdi = .configUnlocked := hu
  change execTdispLockInterface fn s = _
  simp [execTdispLockInterface, hup, hi, locked, Nat.not_le.mpr hd, unlocked]

theorem exec_tdispStartInterface (hl : (s.fn fn).tdi = .configLocked) :
    exec (.tdispStartInterface fn) s = .next (((s.cic 960).modFn fn fun f => { f with tdi := .run }).answer mgOk) := by
  have locked : ((s.cic 960).fn fn).tdi = .configLocked := hl
  change execTdispStartInterface fn s = _
  simp [execTdispStartInterface, hup, hi, locked]

theorem exec_tdispStopInterface (hw : s.board.warm = false) (hf : s.chip.fatal = false) :
    exec (.tdispStopInterface fn) s = .next (((s.cic 960).beginFlr fn).answer mgOk) := by
  have alive : (s.cic 960).chip.fatal = false := hf
  change execTdispStopInterface fn s = _
  simp [execTdispStopInterface, hup, hi, hw, alive]

end

theorem exec_tdiError {s : State} {fn : Nat} (hup : s.up = true) (hi : s.isTdi fn = true)
    (ht : (s.fn fn).tdi = .configLocked ∨ (s.fn fn).tdi = .run) : exec (.tdiError fn) s =
      .next ((s.modFn fn fun f => { f with tdi := .error, ideSecure := false }).freeze fn 7 0 .freeze none {}) := by
  have held : (decide ((s.fn fn).tdi = .configLocked) || decide ((s.fn fn).tdi = .run)) = true := by simpa using ht
  change execTdiError fn s = _
  simp only [execTdiError, hup, hi, held, Bool.and_self, whenB_true]

section
variable {s : State} (hup : s.mgUp = true)
include hup

theorem exec_pldm_cancel {k : Nat} (hb : s.sec.fwBusy = some k) : exec (.pldmFirmwareUpdate .cancel) s =
    .next (({ s with sec := { s.sec with fwBusy := none } } : State).answer mgOk) := by
  change execPldmFirmwareUpdate .cancel s = _
  simp only [execPldmFirmwareUpdate, hup, hb, whenB_true]

variable (hs : s.supplyOk = true)
include hs

theorem exec_pldm_begin (hb : s.sec.fwBusy = none) (hf : s.fwExecutes = false) : exec (.pldmFirmwareUpdate .begin) s =
    .next (({ s with sec := { s.sec with fwBusy := some s.updateBank } } : State).answer mgOk) := by
  change execPldmFirmwareUpdate .begin s = _
  simp only [execPldmFirmwareUpdate, hup, hb, hf, hs, whenB_true, Bool.false_eq_true, if_false, if_true]

theorem exec_pldm_chunk {k off : Nat} {bs : List Byte} (hb : s.sec.fwBusy = some k) (hne : bs ≠ []) (hfit : off + bs.length ≤ bankSize) :
    exec (.pldmFirmwareUpdate (.chunk off bs)) s = .next (({ s with
      store := { s.store.writeBank k off bs with torn := restaged k off bs.length s.store.torn } } : State).answer mgOk) := by
  have torn : (s.store.writeBank k off bs).torn = s.store.torn := by
    unfold Store.writeBank
    split <;> rfl
  change execPldmFirmwareUpdate (.chunk off bs) s = _
  simp [execPldmFirmwareUpdate, hup, hb, hs, hne, Nat.not_lt.mpr hfit, torn]

theorem exec_pldm_activate {k len : Nat} (version : W32) (hb : s.sec.fwBusy = some k) (h0 : len ≠ 0) (hfit : len ≤ bankSize) :
    exec (.pldmFirmwareUpdate (.activate len true version)) s =
      .next (({ s with store := s.store.commitBank k version, sec := { s.sec with fwBusy := none } } : State).answer mgOk) := by
  change execPldmFirmwareUpdate (.activate len true version) s = _
  simp [execPldmFirmwareUpdate, hup, hb, hs, h0, Nat.not_lt.mpr hfit]

end

/-- Settles O53: each clause is the lemma about its command; what a good signature leads to is `exec_unlockResponse_good`, and what is
erased reads 0 by `mem_read_clearRange`. -/
theorem managementAndAttestation : Obligations.ManagementAndAttestation := by
  refine ⟨?mctp, ?unlock, ?zeroisation, ?expiry, ?attestation, ?keyExchange, ?sessionEnd, ?tdisp, ?firmware⟩
  case mctp =>
    exact fun s hup => ⟨exec_getState hup, fun slot n => exec_readLedger hup, fun hz => ⟨fun level => exec_setDebug hup hz,
      exec_provision hup hz, fun chain => exec_installCert hup hz, exec_lockDevice hup hz⟩⟩
  case unlock =>
    intro id t s hup ht hs hl
    refine ⟨fun purpose nonce h1 h3 hn => ⟨_, exec_unlockChallenge hup ht hs hl h1 h3 hn, rfl, rfl, rfl⟩, fun nonce x hz hx => ?_⟩
    have good := exec_unlockResponse_good hup ht hs hl hz hx
    refine ⟨fun observe locked => ?_, fun full below => ?_, exec_retire hup ht hs hl hz hx, exec_unlockResponse_bad hup ht hs hl hz hx⟩
    · simpa [observe, locked] using good
    · simpa [full, Nat.not_le.mpr below] using good
  case zeroisation =>
    intro purpose id s e z hup hstop hz
    refine ⟨fun hp => ⟨_, exec_zeroisation_unlock hup hstop hz hp, rfl, rfl, rfl, fun a ha => ?_, rfl⟩,
      exec_zeroisation_retire hup hstop hz⟩
    exact mem_read_clearRange s.hbm (Nat.zero_le a) ha
  case expiry =>
    intro nonce t x s hup ht hx hv hr
    refine ⟨_, exec_nonceExpiry hup ht hx hv hr, fun kept => ?_, fun y hy other => ?_, rfl⟩
    · have expired : reached t (x.born + nonceLife) = true := hr
      simpa [hv, expired] using (List.mem_filter.mp kept).2
    · exact List.mem_filter.mpr ⟨hy, by simp [other]⟩
  case attestation =>
    intro id s q hup ho hp
    exact ⟨exec_getMeasurements_unsigned hup ho, exec_getMeasurements_signed hup ho hp,
      exec_getCertificate hup ho hp, exec_challenge hup ho hp⟩
  case keyExchange => exact fun id mgmt s => exec_keyExchange
  case sessionEnd =>
    exact fun id s hup hs => ⟨_, exec_spdmSessionEnd hup hs, endSession_session s id, fun x => endSession_nonces⟩
  case tdisp =>
    intro fn s q hup hi
    exact ⟨exec_tdispLockInterface hup hi, exec_tdispStartInterface hup hi, exec_tdispStopInterface hup hi,
      fun h => exec_tdiError h hi⟩
  case firmware =>
    exact fun k s hup hs => ⟨exec_pldm_begin hup hs, fun hb => ⟨fun off bs => exec_pldm_chunk hup hs hb,
      fun len version => exec_pldm_activate hup hs version hb, exec_pldm_cancel hup hb⟩⟩

end Sys2Proof.Laws
end

section
/-! PROOFS. Admin commands: checks that hold together, entries that wait for others and their end (07 R219, R221). -/

namespace Sys2Proof.Laws
open Sys2Proof Sys2Proof.Machine

/-- An entry that is ready begins to wait when its command completes later (07 R221). -/
theorem admin_of_later {s s' : State} {fn slot : Nat} {t : Taken} {sp : Taken → AdmSpec} {act : Taken → AdmRes} (w : Wr)
    (h : s.adminReady fn slot t sp) (ha : act t = .later s') : s.admin fn slot w sp act = .next (s'.act fn t) := by
  obtain ⟨front, up, hslot, stage, code, power, behind, check⟩ := h
  simp only [State.admin, front, up, hslot, stage, ← code, behind, check, ha, decide_true, Bool.true_and, Bool.not_false, Bool.and_true,
    Bool.or_eq_true, decide_eq_true_eq, power, if_true]

/-- An entry that waits completes with code 0 when what it waits for is over (07 R221). -/
theorem adminLate_of_some {s s' : State} {fn slot acode : Nat} {t : Taken} {act : Taken → Option State} (w : Wr)
    (h : s.adminActing fn slot t acode) (ha : act t = some s') : s.adminLate fn slot acode w act = .next (s'.adminEnd fn t 0 0 [] w) := by
  obtain ⟨front, up, hslot, stage, code⟩ := h
  simp only [State.adminLate, front, up, hslot, stage, code, ha, decide_true, Bool.and_self, if_true]

/-- The command of FN[0] that is executed ends when the reset or the far requests that it waits for are over (log 164). -/
theorem adminDue_of_over {s : State} {t : Taken} (front : (s.fn 0).adminFront = some t) (stage : t.stage = .acting)
    (ended : (t.acode = 0x0507 ∧ (s.fn t.target).state ≠ 2) ∨ (t.acode = 0x0402 ∧ s.farOutstanding t.target = false)) :
    s.adminDue = s.adminEnd 0 t 0 0 [] {} := by
  have due : (t.acode = 0x0507 ∧ (s.fn t.target).state ≠ 2) ∨ (t.acode = 0x0402 ∧ !s.farOutstanding t.target) := by
    simpa using ended
  simp only [State.adminDue, front, stage, ne_eq, not_true_eq_false, if_false]
  exact if_pos due

theorem admChecks_eq_none {l : List (Bool × Nat × Nat)} : admChecks l = none ↔ ∀ x ∈ l, x.1 = true := by
  induction l with
  | nil => simp
  | cons x l ih => obtain ⟨ok, c, a⟩ := x; simp [ih]

@[simp] theorem admChecks_append_eq_none {l m : List (Bool × Nat × Nat)} :
    admChecks (l ++ m) = none ↔ admChecks l = none ∧ admChecks m = none := by
  simp only [admChecks_eq_none, List.forall_mem_append]

theorem firstFrom_eq_none {p : Nat → Bool} {lo n : Nat} : firstFrom p lo n = none ↔ ∀ i, lo ≤ i → i < lo + n → p i = false := by
  induction n generalizing lo with
  | zero => exact ⟨fun _ i _ _ => by omega, fun _ => rfl⟩
  | succ n ih =>
    rw [firstFrom]
    cases first : p lo with
    | true => exact ⟨nofun, fun all => absurd (all lo (Nat.le_refl lo) (by omega)) (by simp [first])⟩
    | false =>
      refine ih.trans ⟨fun rest i low high => ?_, fun all i low high => all i (by omega) (by omega)⟩
      obtain rfl | later : i = lo ∨ lo + 1 ≤ i := by omega
      · exact first
      · exact rest i later (by omega)

/-- Where the row assigns no bit, an entry that passes the shared checks has none set (07 R219). -/
theorem param_reserved {s : State} {fn slot : Nat} {t : Taken} {sp : Taken → AdmSpec} (h : s.adminReady fn slot t sp) {i : Nat}
    (hi : i < 2 * (sp t).len + 1) : t.param i &&& (2 ^ 64 - 1 - (sp t).masks.getD i 0) = 0 := by
  obtain ⟨-, -, -, -, -, -, -, check⟩ := h
  unfold State.adminCheck at check
  split at check
  next => exact nomatch check
  next len =>
    cases reserved : t.reserved (sp t).masks with
    | some a => rw [reserved] at check; exact nomatch check
    | none =>
      unfold Taken.reserved at reserved
      split at reserved
      next => exact nomatch reserved
      next =>
        have clear := firstFrom_eq_none.mp (Option.map_eq_none_iff.mp reserved) i (Nat.zero_le i) (by omega)
        simpa using clear

end Sys2Proof.Laws
end
section
/-! PROOFS. The admin commands for queues and status rings (07 R224 to R226, 06 R203). -/

namespace Sys2Proof.Laws
open Sys2Proof Sys2Proof.Machine

/-- The queue that CREATE-QUEUE describes, under a chip-wide id (Table 07.5). -/
def newQueue (t : Taken) (id time : Nat) : Queue :=
  { base := t.param 0, logSize := t.pf 1 0 5, loc := decide (t.pf 1 5 1 = 1), pollK := t.pf 1 6 5,
    vec := if t.pf 1 27 1 = 1 then some (t.pf 1 16 11) else none, ring := if t.pf 1 32 1 = 1 then some (t.pf 1 28 4) else none,
    chipId := some id, stage := .due time }

/-- A queue of the function is bound to status ring `i` (07 R226). -/
def bindsRing (f : Fn) (i : Nat) : Bool :=
  f.queues.any fun q => match q.2 with | none => false | some x => decide (x.ring = some i)

/-- The status ring that CREATE-STATUS-RING describes (Table 07.5). -/
def newRing (t : Taken) : StatusRing :=
  { base := t.param 0, logSize := t.pf 1 0 5, loc := decide (t.pf 1 5 1 = 1), vec := if t.pf 1 27 1 = 1 then some (t.pf 1 16 11) else none }

section
variable {s : State} {fn slot : Nat} {t : Taken} (w : Wr)

theorem exec_createQueue (h : s.adminReady fn slot t createQueueSpec) (i id : Nat) (hr : admChecks (s.ringChecks fn t 16 true) = none)
    (hq : countP (fun q => q.2.isSome) (s.fn fn).queues < 4096) (hc : s.chipIds.length < 65536)
    (hb : s.pollCharge + (newQueue t id s.time).charge ≤ pollBudget)
    (hi : firstFrom (fun i => ((s.fn fn).queue i).isNone) 1 4095 = some i)
    (hid : firstFrom (fun k => !s.chipIds.contains k) 0 65536 = some id) :
    exec (.createQueue fn slot w) s = .next ((s.setFn fn ((s.fn fn).setQueue i (some (newQueue t id s.time)))).adminEnd
      fn t 0 0 [id * 65536 + i] w) := by
  have charge : s.pollCharge + (newQueue t 0 s.time).charge ≤ pollBudget := hb
  refine admin_of_done w h ((admWhen_of_checks _ ?checks).trans ?creates)
  case checks => exact admChecks_append_eq_none.mpr ⟨hr, admChecks_cons_eq_none.mpr ⟨by simp [hq, hc],
    admChecks_cons_eq_none.mpr ⟨decide_eq_true charge, rfl⟩⟩⟩
  case creates => rw [hi, hid]; rfl

theorem exec_setQueueInterval (h : s.adminReady fn slot t setQueueIntervalSpec) (x : Queue) (hk : t.pf 1 0 5 ≤ 24)
    (ha : t.pf 0 0 12 ≠ 0 ∨ 10 ≤ t.pf 1 0 5) (hx : (s.fn fn).queue (t.pf 0 0 12) = some x)
    (hb : x.pollK ≤ t.pf 1 0 5 ∨ s.pollCharge + ({ x with pollK := t.pf 1 0 5 } : Queue).charge - x.charge ≤ pollBudget) :
    exec (.setQueueInterval fn slot w) s = .next ((s.setFn fn ((s.fn fn).setQueue (t.pf 0 0 12)
      (some { x with pollK := t.pf 1 0 5 }))).adminEnd fn t 0 0 [] w) := by
  refine admin_of_done w h ((admWhen_of_checks _ (by simpa [hk] using ha)).trans ?_)
  rw [hx]
  exact if_neg fun ⟨faster, excess⟩ => hb.elim (Nat.not_le_of_lt faster) (Nat.not_le_of_lt excess)

theorem exec_destroyQueue (h : s.adminReady fn slot t destroyQueueSpec) (hi : t.pf 0 0 12 ≠ 0)
    (hq : ((s.fn fn).queue (t.pf 0 0 12)).isSome = true) (ho : (s.fn fn).owes (t.pf 0 0 12) = false) :
    exec (.destroyQueue fn slot w) s = .next ((s.setFn fn ((s.fn fn).setQueue (t.pf 0 0 12) none)).adminEnd fn t 0 0 [] w) :=
  admin_of_done w h (admWhen_of_checks _ (by simp [hi, hq, ho]))

theorem exec_createStatusRing (h : s.adminReady fn slot t createStatusRingSpec) (i : Nat)
    (hr : admChecks (s.ringChecks fn t 32 false) = none) (hf : countP (fun r => r.2.isSome) (s.fn fn).rings < 16)
    (ha : s.fns.foldl (fun a p => a + countP (fun r => r.2.isSome) p.2.rings) 0 < 4096)
    (hi : firstFrom (fun i => ((s.fn fn).ring i).isNone) 0 16 = some i) :
    exec (.createStatusRing fn slot w) s =
      .next ((s.setFn fn ((s.fn fn).setRing i (some (newRing t)))).adminEnd fn t 0 0 [i] w) := by
  refine admin_of_done w h ((admWhen_of_checks _ (by simp [hr, hf, ha])).trans ?_)
  rw [hi]
  rfl

theorem exec_destroyStatusRing (h : s.adminReady fn slot t destroyStatusRingSpec) (hr : ((s.fn fn).ring (t.pf 0 0 4)).isSome = true)
    (hb : bindsRing (s.fn fn) (t.pf 0 0 4) = false)
    (ha : s.ringAwaited fn (t.pf 0 0 4) = false) :
    exec (.destroyStatusRing fn slot w) s = .next ((s.setFn fn ((s.fn fn).setRing (t.pf 0 0 4) none)).adminEnd fn t 0 0 [] w) := by
  have free : (!bindsRing (s.fn fn) (t.pf 0 0 4) && !s.ringAwaited fn (t.pf 0 0 4)) = true := by rw [hb, ha]; rfl
  exact admin_of_done w h (admWhen_of_checks _ (admChecks_cons_eq_none.mpr ⟨hr, admChecks_cons_eq_none.mpr ⟨free, rfl⟩⟩))

end

/-- Settles O30: each command is the lemma about it. -/
theorem adminQueuesAndRings : Obligations.AdminQueuesAndRings :=
  fun _ _ w _ _ => ⟨exec_createQueue w, exec_setQueueInterval w, exec_destroyQueue w, exec_createStatusRing w,
    exec_destroyStatusRing w⟩

end Sys2Proof.Laws
end

section
/-! PROOFS. The admin commands for events, vectors and virtual functions (07 R232, 11 R333, R338, 06 R183, R213). -/

namespace Sys2Proof.Laws
open Sys2Proof Sys2Proof.Machine

/-- A field of two bits whose upper bit is reserved. -/
theorem bits_two_le_one_of_testBit {x lo : Nat} (h : x.testBit (lo + 1) = false) : bits x lo 2 ≤ 1 := by
  have clear : x / 2 ^ lo / 2 % 2 ≠ 1 := by
    rw [Nat.testBit_eq_decide_div_mod_eq, Nat.pow_succ, ← Nat.div_div_eq_div_mul] at h
    exact of_decide_eq_false h
  change x / 2 ^ lo % 4 ≤ 1
  omega

/-- DKIND of an entry that passes the shared checks is 0 or 1: its upper bit is reserved (log 38). -/
theorem dkind_le_one {s : State} {fn slot : Nat} {t : Taken} {sp : Taken → AdmSpec} (h : s.adminReady fn slot t sp)
    (hl : (sp t).len = 1) (hm : (sp t).masks = [ones 0 12, ones 0 17]) : t.pf 1 16 2 ≤ 1 := by
  have clear := congrArg (Nat.testBit · 17) (param_reserved h (i := 1) (by omega))
  have reserved : (2 ^ 64 - 1 - ones 0 17).testBit 17 = true := by decide
  simp only [hm, List.getD_cons_succ, List.getD_cons_zero, Nat.testBit_and, reserved, Bool.and_true, Nat.zero_testBit] at clear
  exact bits_two_le_one_of_testBit clear

/-- A destination that the function may name passes its checks (Table 07.10). -/
theorem destChecks_pass {s : State} {fn lim : Nat} {t : Taken} (hk : t.pf 1 16 2 ≤ 1) (hc : s.ownsChan fn (t.pf 0 0 12) = true)
    (hd : if decide (t.pf 1 16 2 = 1) then t.pf 1 0 16 < lim else t.pf 1 0 16 ≤ 4095 ∧ s.ownsChan fn (t.pf 1 0 16) = true) :
    admChecks (s.destChecks fn t lim) = none := by
  obtain channel | vector : t.pf 1 16 2 = 0 ∨ t.pf 1 16 2 = 1 := by omega
  · simp only [channel] at hd
    simpa [State.destChecks, channel, hc] using hd
  · simp only [vector] at hd
    simpa [State.destChecks, vector, hc] using hd

section
variable {s : State} {fn slot : Nat} {t : Taken} (w : Wr)

theorem exec_grantEvents (h : s.adminReady fn slot t grantEventsSpec) (hmin : 1 ≤ t.pf 0 12 13) (hmax : t.pf 0 12 13 ≤ 4096)
    (he : t.pf 0 0 12 + t.pf 0 12 13 ≤ 4096)
    (ho : ∀ x ∈ t.chans, (s.ech x).supervisor = false ∧ ((s.ech x).ownerFn = 0 ∨ (s.ech x).ownerFn = t.target)) :
    exec (.grantEvents fn slot w) s = .next
      ((t.chans.foldl (fun s c => s.modEch c fun e => e.ownedBy t.target false false) s).adminEnd fn t 0 0 [] w) :=
  admin_of_done w h (admWhen_of_checks _ (by simpa [chanChecks, hmin, hmax, he] using ho))

theorem exec_revokeEvents (h : s.adminReady fn slot t revokeEventsSpec) (hmin : 1 ≤ t.pf 0 12 13) (hmax : t.pf 0 12 13 ≤ 4096)
    (he : t.pf 0 0 12 + t.pf 0 12 13 ≤ 4096)
    (ho : ∀ x ∈ t.chans, (s.ech x).supervisor = false ∧ (s.ech x).ownerFn = t.target ∧ s.chanBusy x = false) :
    exec (.revokeEvents fn slot w) s = .next
      ((t.chans.foldl (fun s c => s.modEch c fun e => e.ownedBy 0 false false) s).adminEnd fn t 0 0 [] w) := by
  have mine : ∀ x ∈ t.chans, (s.ech x).supervisor = false ∧ (s.ech x).ownerFn = t.target :=
    fun x hx => (ho x hx).imp_right And.left
  have idle : ∀ x ∈ t.chans, s.chanBusy x = false := fun x hx => (ho x hx).2.2
  exact admin_of_done w h (admWhen_of_checks _ (by simpa [chanChecks, hmin, hmax, he] using ⟨mine, idle⟩))

theorem exec_bindEvent (h : s.adminReady fn slot t bindEventSpec) (i : Nat) (hc : s.ownsChan fn (t.pf 0 0 12) = true)
    (hd : if decide (t.pf 1 16 2 = 1) then t.pf 1 0 16 < (s.fn fn).vecCount
      else t.pf 1 0 16 ≤ 4095 ∧ s.ownsChan fn (t.pf 1 0 16) = true ∧ t.pf 1 0 16 ≠ t.pf 0 0 12)
    (hb : s.bindSlot fn (t.pf 0 0 12) (decide (t.pf 1 16 2 = 1)) (t.pf 1 0 16) = none)
    (hi : firstFrom (fun i => !(s.bind (t.pf 0 0 12) i).valid) 0 4 = some i) :
    exec (.bindEvent fn slot w) s = .next ((s.setBind (t.pf 0 0 12) i
      { valid := true, fn := if decide (t.pf 1 16 2 = 1) then fn else 0, toVector := decide (t.pf 1 16 2 = 1), dest := t.pf 1 0 16,
        maker := some fn }).adminEnd fn t 0 0 [] w) := by
  have dest : admChecks (s.destChecks fn t (s.fn fn).vecCount) = none := by
    refine destChecks_pass (dkind_le_one h rfl rfl) hc ?_
    split at hd
    next vector => rwa [if_pos vector]
    next channel => rw [if_neg channel]; exact hd.imp_right And.left
  have noLoop : t.pf 1 16 2 = 1 ∨ t.pf 1 0 16 ≠ t.pf 0 0 12 := by
    by_cases vector : t.pf 1 16 2 = 1
    · exact .inl vector
    · simp only [vector] at hd
      exact .inr hd.2.2
  refine admin_of_done w h ((admWhen_of_checks _ (by simpa [dest, hb, hi] using noLoop)).trans ?_)
  rw [hi]
  rfl

theorem exec_unbindEvent (h : s.adminReady fn slot t unbindEventSpec) (i : Nat) (hc : s.ownsChan fn (t.pf 0 0 12) = true)
    (hd : if decide (t.pf 1 16 2 = 1) then t.pf 1 0 16 < 2048 else t.pf 1 0 16 ≤ 4095 ∧ s.ownsChan fn (t.pf 1 0 16) = true)
    (hi : s.bindSlot fn (t.pf 0 0 12) (decide (t.pf 1 16 2 = 1)) (t.pf 1 0 16) = some i) :
    exec (.unbindEvent fn slot w) s = .next ((s.setBind (t.pf 0 0 12) i {}).adminEnd fn t 0 0 [] w) := by
  refine admin_of_done w h ((admWhen_of_checks _ (destChecks_pass (dkind_le_one h rfl rfl) hc hd)).trans ?_)
  rw [hi]

theorem exec_setModeration (h : s.adminReady fn slot t setModerationSpec) (hv : t.pf 0 0 11 < (s.fn fn).vecCount) :
    exec (.setModeration fn slot w) s = .next ((s.setMod fn (t.pf 0 0 11) (t.pf 1 0 16) (t.pf 1 16 16)).adminEnd fn t 0 0 [] w) :=
  admin_of_done w h (admWhen_of_checks _ (by simp [hv]))

theorem setVfVectorsAct_sets (hmin : 1 ≤ t.pf 0 0 12) (hmax : t.pf 0 0 12 ≤ 2048) (he : s.vfEnable = false)
    (ht : (List.range 256).foldl (fun a k => a + (if k = t.target then t.pf 0 0 12 else (s.fn k).vecCount)) 0 ≤ 32768) :
    setVfVectorsAct s t = .done (s.modFn t.target fun f => { f with vecCount := t.pf 0 0 12 }) := by
  refine admWhen_of_checks _ ?_
  generalize (List.range 256).foldl (fun a k => a + (if k = t.target then t.pf 0 0 12 else (s.fn k).vecCount)) 0 = total at ht ⊢
  simp [hmin, hmax, he, ht]

theorem exec_setVfVectors (h : s.adminReady fn slot t setVfVectorsSpec) (hmin : 1 ≤ t.pf 0 0 12) (hmax : t.pf 0 0 12 ≤ 2048)
    (he : s.vfEnable = false)
    (ht : (List.range 256).foldl (fun a k => a + (if k = t.target then t.pf 0 0 12 else (s.fn k).vecCount)) 0 ≤ 32768) :
    exec (.setVfVectors fn slot w) s = .next ((s.modFn t.target fun f => { f with vecCount := t.pf 0 0 12 }).adminEnd fn t 0 0 [] w) :=
  admin_of_done w h (setVfVectorsAct_sets hmin hmax he ht)

theorem exec_resetVf (h : s.adminReady fn slot t resetVfSpec) :
    exec (.resetVf fn slot w) s = .next ((s.beginFlr t.target).act fn t) :=
  admin_of_later (act := resetVfAct s) w h rfl

end

/-- A channel that stays with its owner keeps its flag and counters, and one that changes it loses them (11 R333). -/
theorem ownedBy_fields (e : Ech) (f : Nat) (attr sup : Bool) : let x := e.ownedBy f attr sup
    x.ownerFn = f ∧ x.attrS = attr ∧ x.supervisor = sup ∧
    ((e.ownerFn ≠ f ∨ e.supervisor ≠ sup) → x.flag = false ∧ x.busy = 0 ∧ x.loop = 0 ∧ x.coal = 0 ∧ x.merged = 0) ∧
    (e.ownerFn = f → e.supervisor = sup → x = { e with attrS := attr }) := by
  refine ⟨rfl, rfl, rfl, fun change => ?changes, ?stays⟩
  case changes =>
    have other : ¬(e.supervisor = sup ∧ e.ownerFn = f) := fun ⟨sameSup, sameFn⟩ => change.elim (· sameFn) (· sameSup)
    simp [Ech.ownedBy, other]
  case stays =>
    rintro rfl rfl
    simp [Ech.ownedBy]

/-- Settles O33: each command is the lemma about it; a RESET-VF ends by `adminDue`. -/
theorem adminEventsAndVectors : Obligations.AdminEventsAndVectors :=
  ⟨fun _ _ w _ _ => ⟨exec_grantEvents w, exec_revokeEvents w, exec_bindEvent w, exec_unbindEvent w, exec_setModeration w,
    exec_setVfVectors w, exec_resetVf w, fun front stage code ended => adminDue_of_over front stage (.inl ⟨code, ended⟩)⟩, ownedBy_fields⟩

end Sys2Proof.Laws
end

section
/-! PROOFS. The admin commands for sieve programs and far memory (07 R229 to R231, 12 R360 to R363, 09 R300). -/

namespace Sys2Proof.Laws
open Sys2Proof Sys2Proof.Machine

theorem ownsSieve_of_loaded {s : State} {fn h : Nat} {x : SieveHandle} (hx : s.sieve h = some x) (ho : x.owner = fn) (hs : x.state = 1) :
    s.ownsSieve fn h = some x := by
  rw [State.ownsSieve, hx]
  exact if_pos ⟨ho, hs⟩

/-- The program that LOAD-SIEVE puts under handle `h`: the image's words, loaded, with the next serial (07 R229). -/
def loadedSieve (s : State) (fn h : Nat) (bs : List Byte) : SieveHandle :=
  { owner := fn, state := 1, serial := (((s.sieve h).map SieveHandle.serial).getD 0 + 1) % 2 ^ 32, words := wordsOfBytes bs }

/-- Bytes of a page that WRITE-FTT writes (07 R230). -/
def pageSize (big : Bool) : Nat := if big then 0x40000000 else 0x200000

/-- The entries that WRITE-FTT has read are in the target's tables (07 R230). -/
def fttWritten (s : State) (fn : Nat) (t : Taken) (bs : List Byte) : State :=
  let big := decide (t.pf 0 0 1 = 1)
  (s.sawHost fn (t.pf 2 0 2) (t.param 2 / 16 * 16) bs).modFn t.target
    (Fn.putFtts big (t.param 0 / 0x200000 * 0x200000 / pageSize big) ((entryWords bs (t.pf 1 0 17)).map Prod.fst))

/-- Translations of the pages written have left the caches (07 R231). -/
def fttSettled (s : State) (fn : Nat) (t : Taken) (bs : List Byte) (w : Wr) : State :=
  let big := decide (t.pf 0 0 1 = 1)
  ((fttWritten s fn t bs).dropFtc t.target big (t.param 0 / 0x200000 * 0x200000 / pageSize big) (t.pf 1 0 17)).dcSettle w

/-- Memory of set `k` is mapped (07 R230). -/
def setMapped (s : State) (k : Nat) : Bool := match s.iset k with | none => false | some x => s.rangeMapped x.base x.size

section
variable {s : State} {fn slot : Nat} {t : Taken} (r : AdminRead) (w : Wr)

theorem exec_loadSieve (h : s.adminReady fn slot t loadSieveSpec) (bs : List Byte) (k : Nat) (hs : t.pf 0 0 2 ≤ 1) (hmin : 8 ≤ t.pf 1 0 15)
    (hmax : t.pf 1 0 15 ≤ 16384) (hd : t.pf 1 0 15 % 8 = 0)
    (hok : s.sourceOk fn (t.pf 0 0 2) (t.param 0 / 64 * 64) (t.pf 1 0 15) = true) (hk : s.freeHandle = some k)
    (hb : s.adminSource fn (t.pf 0 0 2) (t.param 0 / 64 * 64) (t.pf 1 0 15) r = .ok bs) (hv : verify (wordsOfBytes bs) = none) :
    exec (.loadSieve fn slot r w) s = .next (((s.sawHost fn (t.pf 0 0 2) (t.param 0 / 64 * 64) bs).setSieve k
      (some (loadedSieve s fn k bs))).adminEnd fn t 0 0 [k] w) := by
  refine admin_of_done w h ((admWhen_of_checks _ (by simp [hs, hmin, hmax, hd, hok, hk])).trans ?_)
  simp only [hb, hv, hk, loadedSieve]
  cases s.sieve k <;> rfl

theorem exec_unloadSieve (h : s.adminReady fn slot t unloadSieveSpec) (x : SieveHandle) (hx : s.sieve (t.pf 0 0 16) = some x)
    (ho : x.owner = fn) (hs : x.state = 1) :
    exec (.unloadSieve fn slot w) s = .next ((s.setSieve (t.pf 0 0 16) (some { x with state := 2 })).act fn t) := by
  refine admin_of_later (act := unloadSieveAct fn s) w h ?_
  simp only [unloadSieveAct, ownsSieve_of_loaded hx ho hs]

theorem exec_unloadSieveComplete (h : s.adminActing fn slot t 0x0302) (hu : s.sieveUsers (t.pf 0 0 16) = 0) :
    exec (.unloadSieveComplete fn slot w) s =
      .next ((s.setSieve (t.pf 0 0 16) ((s.sieve (t.pf 0 0 16)).map SieveHandle.free)).adminEnd fn t 0 0 [] w) :=
  adminLate_of_some w h (if_pos hu)

theorem exec_setExtent (h : s.adminReady fn slot t setExtentSpec) (hl : t.param 1 ≤ tenantSize) (he : t.param 0 + t.param 1 ≤ tenantSize)
    (hc : s.extentClash t.target (t.param 0) (t.param 1) = false) (hb : s.extentBusy t.target = false) :
    exec (.setExtent fn slot w) s =
      .next ((s.modFn t.target fun f => { f with extBase := t.param 0, extLen := t.param 1 }).adminEnd fn t 0 0 [] w) :=
  admin_of_done w h (admWhen_of_checks _ (by simp [hl, he, hc, hb]))

theorem exec_writeFtt (h : s.adminReady fn slot t writeFttSpec) (bs : List Byte)
    (hp : t.param 0 / 0x200000 * 0x200000 % pageSize (decide (t.pf 0 0 1 = 1)) = 0) (hmin : 1 ≤ t.pf 1 0 17) (hmax : t.pf 1 0 17 ≤ 65536)
    (he : t.param 0 / 0x200000 * 0x200000 + t.pf 1 0 17 * pageSize (decide (t.pf 0 0 1 = 1)) ≤ 2 ^ 50) (hs : t.pf 2 0 2 ≤ 1)
    (hok : s.sourceOk fn (t.pf 2 0 2) (t.param 2 / 16 * 16) (16 * t.pf 1 0 17) = true)
    (hb : s.adminSource fn (t.pf 2 0 2) (t.param 2 / 16 * 16) (16 * t.pf 1 0 17) r = .ok bs)
    (hv : ∀ e ∈ entryWords bs (t.pf 1 0 17), fttReserved e.1 e.2 = true ∧ s.fttValue (decide (t.pf 0 0 1 = 1)) e.1 = true)
    (hl : (fttWritten s fn t bs).leaves ≤ 7680) :
    exec (.writeFtt fn slot r w) s = .next
      (if s.farOutstanding t.target then (fttSettled s fn t bs w).act fn t else (fttSettled s fn t bs w).adminEnd fn t 0 0 [] w) := by
  have named : admChecks [(decide (t.param 0 / 0x200000 * 0x200000 % pageSize (decide (t.pf 0 0 1 = 1)) = 0), acValue, 1),
      (decide (1 ≤ t.pf 1 0 17) && decide (t.pf 1 0 17 ≤ 65536), acValue, 2),
      (decide (t.param 0 / 0x200000 * 0x200000 + t.pf 1 0 17 * pageSize (decide (t.pf 0 0 1 = 1)) ≤ 2 ^ 50), acValue, 1),
      (decide (t.pf 2 0 2 ≤ 1), acValue, 3), (s.sourceOk fn (t.pf 2 0 2) (t.param 2 / 16 * 16) (16 * t.pf 1 0 17), acValue, 3)] = none := by
    simp only [admChecks_cons_eq_none, admChecks_nil, hp, hmin, hmax, he, hs, hok, decide_true, Bool.and_self, and_self]
  have reserved : ((entryWords bs (t.pf 1 0 17)).all fun e => fttReserved e.1 e.2) = true :=
    List.all_eq_true.mpr fun e he => (hv e he).1
  have allowed : ((entryWords bs (t.pf 1 0 17)).all fun e => s.fttValue (decide (t.pf 0 0 1 = 1)) e.1) = true :=
    List.all_eq_true.mpr fun e he => (hv e he).2
  have writes : writeFttAct fn r w s t =
      if s.farOutstanding t.target then .later (fttSettled s fn t bs w) else .done (fttSettled s fn t bs w) := by
    refine (admWhen_of_checks _ named).trans ?_
    rw [hb]
    exact admWhen_of_checks _ (admChecks_cons_eq_none.mpr ⟨reserved, admChecks_cons_eq_none.mpr ⟨allowed,
      admChecks_cons_eq_none.mpr ⟨decide_eq_true hl, rfl⟩⟩⟩)
  split at writes
  next waits => rw [if_pos waits]; exact admin_of_later w h writes
  next settled => rw [if_neg settled]; exact admin_of_done w h writes

theorem exec_setInterleave_removes (h : s.adminReady fn slot t setInterleaveSpec) (hb : setMapped s (t.pf 0 0 4) = false)
    (hv : t.pf 0 16 1 = 0) :
    exec (.setInterleave fn slot w) s =
      .next (({ s with isets := Table.set noneDef s.isets (t.pf 0 0 4) none } : State).adminEnd fn t 0 0 [] w) := by
  have free : (!setMapped s (t.pf 0 0 4)) = true := by rw [hb]; rfl
  exact admin_of_done w h ((if_pos hv).trans (admWhen_of_checks _ (admChecks_cons_eq_none.mpr ⟨free, rfl⟩)))

theorem exec_setInterleave_defines (h : s.adminReady fn slot t setInterleaveSpec) (hb : setMapped s (t.pf 0 0 4) = false)
    (hv : t.pf 0 16 1 = 1) (hw : t.pf 0 4 5 ∈ [1, 2, 4, 8, 12, 16]) (hgmin : 8 ≤ t.pf 0 9 4) (hgmax : t.pf 0 9 4 ≤ 14)
    (ha : t.param 1 % 0x10000000 = 0) (hz : t.param 2 ≠ 0) (hm : t.param 2 % (t.pf 0 4 5 * 0x10000000) = 0)
    (he : t.param 1 + t.param 2 ≤ 2 ^ 50) (hc : s.setClash (t.pf 0 0 4) (t.param 1) (t.param 2) = false)
    (hl : ∀ j, j < 16 → s.wayOk t (t.pf 0 4 5) j = true) :
    exec (.setInterleave fn slot w) s = .next (({ s with isets := Table.set noneDef s.isets (t.pf 0 0 4) (some
      { base := t.param 1, size := t.param 2, ways := t.pf 0 4 5, logGran := t.pf 0 9 4,
        links := (List.range (t.pf 0 4 5)).map t.wayLink }) } : State).adminEnd fn t 0 0 [] w) := by
  have free : (!setMapped s (t.pf 0 0 4)) = true := by rw [hb]; rfl
  have links : admChecks ((List.range 16).map fun j => (s.wayOk t (t.pf 0 4 5) j, acValue, 4 + j / 8)) = none :=
    admChecks_eq_none.mpr (List.forall_mem_map.mpr fun j hj => hl j (List.mem_range.mp hj))
  have range : admChecks [([1, 2, 4, 8, 12, 16].contains (t.pf 0 4 5), acValue, 1),
      (decide (8 ≤ t.pf 0 9 4) && decide (t.pf 0 9 4 ≤ 14), acValue, 1), (decide (t.param 1 % 0x10000000 = 0), acValue, 2),
      (decide (t.param 2 ≠ 0) && decide (t.param 2 % (t.pf 0 4 5 * 0x10000000) = 0), acValue, 3),
      (decide (t.param 1 + t.param 2 ≤ 2 ^ 50) && !s.setClash (t.pf 0 0 4) (t.param 1) (t.param 2), acValue, 2)] = none := by
    simp only [admChecks_cons_eq_none, admChecks_nil, List.contains_iff_mem.mpr hw, hgmin, hgmax, ha, hz, hm, he, hc, decide_true, ne_eq,
      not_false_eq_true, Bool.not_false, Bool.and_self, and_self]
  have defines : t.pf 0 16 1 ≠ 0 := by rw [hv]; exact Nat.one_ne_zero
  exact admin_of_done w h ((if_neg defines).trans (admWhen_of_checks _ (admChecks_append_eq_none.mpr
    ⟨admChecks_append_eq_none.mpr ⟨range, links⟩, admChecks_cons_eq_none.mpr ⟨free, rfl⟩⟩)))

theorem exec_setFarTimeout (h : s.adminReady fn slot t setFarTimeoutSpec) (hmin : 50 ≤ t.pf 0 0 17) (hmax : t.pf 0 0 17 ≤ 64000) :
    exec (.setFarTimeout fn slot w) s = .next (({ s with farTimeout := t.pf 0 0 17 } : State).adminEnd fn t 0 0 [] w) :=
  admin_of_done w h (admWhen_of_checks _ (by simp [hmin, hmax]))

end

/-- Settles O32: each command is the lemma about it; a WRITE-FTT that waits ends by `adminDue`. -/
theorem adminSievesAndFarMemory : Obligations.AdminSievesAndFarMemory :=
  fun _ _ r w _ _ => ⟨exec_loadSieve r w, exec_unloadSieve w, exec_unloadSieveComplete w, exec_setExtent w, exec_writeFtt r w,
    fun front stage code ended => adminDue_of_over front stage (.inr ⟨code, ended⟩),
    fun ready free => ⟨exec_setInterleave_removes w ready free, exec_setInterleave_defines w ready free⟩, exec_setFarTimeout w⟩

end Sys2Proof.Laws
end

section
/-! PROOFS. The admin commands for namespaces, the domain, identity, health and firmware (07 R233 to R237). -/

namespace Sys2Proof.Laws
open Sys2Proof Sys2Proof.Machine

/-- Microseconds that the device waits for a member: 0 stands for the default (07 R234). -/
def domainTimeout (us : Nat) : Nat := if us = 0 then 5000 else us

/-- The settings that a device adopts that joins under number `m` (07 R234). -/
def domainJoined (m : Nat) (members : W32) (us : Nat) (d : Domain) : Domain :=
  { d with joined := true, member := m, members := members, timeout := domainTimeout us, present := 0, silentAt := [] }

section
variable {s : State} {fn slot : Nat} {t : Taken} (w : Wr)

/-! ### Namespaces (07 R233) -/

theorem exec_attachNamespace (h : s.adminReady fn slot t attachNamespaceSpec) (k i blocks size : Nat) (hl : t.pf 0 16 5 ≤ 23)
    (hk : s.ctrlAt (t.pf 0 16 5) (t.pf 0 0 16) = some k) (hr : s.ctrlReady k = true) (hmin : 512 ≤ size) (hmax : size ≤ 65536)
    (hi : firstFrom (fun i => (s.nvm i).isNone) 0 65536 = some i) :
    exec (.attachNamespace fn slot (.ok blocks size 0 true) w) s = .next ((s.setNvm i (some
      { holder := t.target, ctrl := k, nsid := t.pf 1 0 32, blocks := blocks, blockSize := size })).adminEnd fn t 0 0 [i, blocks, size] w) := by
  refine admin_of_done w h ((admWhen_of_checks _ (by simp [hl, hk])).trans ?_)
  rw [hk, hi]
  simp only [hr, Bool.not_true, Bool.false_eq_true, if_false]
  exact admWhen_of_checks _ (by simp [hmin, hmax])

theorem exec_detachNamespace (h : s.adminReady fn slot t detachNamespaceSpec) (x : NvmHandle) (hx : s.nvm (t.pf 0 0 16) = some x)
    (hh : x.holder = t.target) (hd : x.detaching = false) :
    exec (.detachNamespace fn slot w) s = .next ((s.setNvm (t.pf 0 0 16) (some { x with detaching := true })).act fn t) := by
  refine admin_of_later (act := detachNamespaceAct s) w h ?_
  simp only [detachNamespaceAct, hx, hh, hd, Bool.not_false, and_self, if_true]

theorem exec_detachNamespaceComplete (h : s.adminActing fn slot t 0x0602)
    (hu : (s.ctxs.any fun p => p.2.nvHandles.contains (t.pf 0 0 16)) = false) :
    exec (.detachNamespaceComplete fn slot w) s = .next ((s.setNvm (t.pf 0 0 16) none).adminEnd fn t 0 0 [] w) :=
  adminLate_of_some w h (if_neg (ne_true_of_eq_false hu))

theorem exec_setNvmPolicy (h : s.adminReady fn slot t setNvmPolicySpec) :
    exec (.setNvmPolicy fn slot w) s = .next ((s.modFn t.target fun f =>
      { f with nvmPolicy := BitVec.ofNat 256 (field t.bytes 8 32) }).adminEnd fn t 0 0 [] w) :=
  admin_of_done (act := setNvmPolicyAct s) w h rfl

/-! ### The domain (07 R234) -/

theorem exec_setDomain_joins (h : s.adminReady fn slot t setDomainSpec) (hf : (s.ctxs.any fun p => decide (p.2.phase = .finishing)) = false)
    (hj : t.pf 0 8 1 = 1) (hm : (BitVec.ofNat 32 (t.param 1)).getLsbD (t.pf 0 0 5) = true)
    (hu : t.pf 2 0 20 = 0 ∨ (100 ≤ t.pf 2 0 20 ∧ t.pf 2 0 20 ≤ 1000000)) :
    exec (.setDomain fn slot w) s = .next ((if s.domain.joined = true ∧ s.domain.member = t.pf 0 0 5 ∧
        s.domain.members = BitVec.ofNat 32 (t.param 1)
      then s.modDomain fun d => { d with timeout := domainTimeout (t.pf 2 0 20) }
      else (s.sayLeave.modDomain (domainJoined (t.pf 0 0 5) (BitVec.ofNat 32 (t.param 1)) (t.pf 2 0 20))).sayHello).adminEnd
      fn t 0 0 [] w) := by
  refine admin_of_done (act := setDomainAct s) w h ((if_pos hj).trans ((admWhen_of_checks _ ?checks).trans ?joins))
  case checks =>
    have timeout : (decide (t.pf 2 0 20 = 0) || (decide (100 ≤ t.pf 2 0 20) && decide (t.pf 2 0 20 ≤ 1000000))) = true := by simpa using hu
    simp only [admChecks_cons_eq_none, admChecks_nil, hm, timeout, hf, Bool.not_false, and_self]
  case joins => split <;> rfl

theorem exec_setDomain_leaves (h : s.adminReady fn slot t setDomainSpec) (hf : (s.ctxs.any fun p => decide (p.2.phase = .finishing)) = false)
    (hj : t.pf 0 8 1 = 0) (hm : t.pf 0 0 5 = 0) (hp : t.param 1 = 0) (hu : t.pf 2 0 20 = 0) :
    exec (.setDomain fn slot w) s = .next ((s.sayLeave.modDomain fun d => { d with
      joined := false, member := 0, members := 0, timeout := 0, present := 0, silentAt := [] }).adminEnd fn t 0 0 [] w) := by
  have leaves : t.pf 0 8 1 ≠ 1 := by rw [hj]; exact Nat.zero_ne_one
  refine admin_of_done (act := setDomainAct s) w h ((if_neg leaves).trans (admWhen_of_checks _ ?_))
  simp only [admChecks_cons_eq_none, admChecks_nil, hm, hp, hu, hf, decide_true, Bool.not_false, and_self]

/-! ### Identity and health (07 R235, R236) -/

section
variable (h : s.adminReady fn slot t identifySpec) {r : AdminRead} (hr : r.fail = false)
  (hok : s.sourceOk fn (t.pf 0 0 2) (t.param 0 / 4096 * 4096) 4096 = true)
include h hr hok

theorem exec_identify_host (hs : t.pf 0 0 2 = 0) (hh : (s.fn fn).stopped = false) :
    exec (.identify fn slot r w) s = .next
      (({ s with hostMem := s.hostMem.writeN (s.hostKey fn (t.param 0 / 4096 * 4096)) (s.identity fn) } : State).adminEnd fn t 0 0 [] w) := by
  rw [hs] at hok
  refine admin_of_done (act := identifyAct fn r s) w h ((admWhen_of_checks _ (by simp [hs, hok])).trans ?_)
  simp only [hs, hh, hr, Bool.false_eq_true, and_false, if_false, if_true]

theorem exec_identify_local (hs : t.pf 0 0 2 = 1) :
    exec (.identify fn slot r w) s = .next ((s.localWrite ((s.fn fn).extBase + t.param 0 / 4096 * 4096) (s.identity fn)).adminEnd
      fn t 0 0 [] w) := by
  rw [hs] at hok
  refine admin_of_done (act := identifyAct fn r s) w h ((admWhen_of_checks _ (by simp [hs, hok])).trans ?_)
  simp only [hs, hr, Nat.one_ne_zero, Bool.false_eq_true, false_and, if_false]

end

theorem exec_getHealth (h : s.adminReady fn slot t getHealthSpec) :
    exec (.getHealth fn slot w) s = .next (s.adminEnd fn t 0 0
      [s.chip.health.toNat, min (((List.range 72).map s.cellsOut).foldl (· + ·) 0) 0xFFFF +
        min (s.chip.pch.foldl (fun a p => a + p.2.rows) 0) 0xFFFF * 2 ^ 16 + s.store.ledger.length * 2 ^ 32] w) :=
  admin_of_done (act := getHealthAct s) w h rfl

/-! ### Firmware (07 R237) -/

theorem exec_fwStage (h : s.adminReady fn slot t fwStageSpec) (r : AdminRead) (bs : List Byte) (hs : t.pf 0 0 2 ≤ 1) (hmin : 1 ≤ t.pf 2 0 21)
    (hmax : t.pf 2 0 21 ≤ 1048576) (hok : s.sourceOk fn (t.pf 0 0 2) (t.param 0 / 4096 * 4096) (t.pf 2 0 21) = true)
    (he : t.param 1 + t.pf 2 0 21 ≤ bankSize) (hf : s.sec.fwBusy = none) (hp : s.supplyOk = true)
    (hb : s.adminSource fn (t.pf 0 0 2) (t.param 0 / 4096 * 4096) (t.pf 2 0 21) r = .ok bs) :
    exec (.fwStage fn slot r w) s = .next (((({ s with store := { s.store.writeBank (1 - s.sec.bank) (t.param 1) bs with
      torn := restaged (1 - s.sec.bank) (t.param 1) (t.pf 2 0 21) s.store.torn } } : State).cic 963).sawHost fn (t.pf 0 0 2)
      (t.param 0 / 4096 * 4096) bs).adminEnd fn t 0 0 [] w) := by
  refine admin_of_done (act := fwStageAct fn r s) w h ((admWhen_of_checks _ (by simp [hs, hmin, hmax, hok, he, hf])).trans ?_)
  simp only [hp, hb, Bool.not_true, Bool.false_eq_true, if_false]

theorem exec_fwCommit (h : s.adminReady fn slot t fwCommitSpec) (version : W32) (hmin : 4096 ≤ t.pf 0 0 24) (hmax : t.pf 0 0 24 ≤ bankSize)
    (hw : ∀ p ∈ s.store.torn, p.1 = 1 - s.sec.bank → t.pf 0 0 24 ≤ p.2.1) (hp : s.supplyOk = true) :
    exec (.fwCommit fn slot true version w) s = .next
      ((({ s with store := s.store.commitBank (1 - s.sec.bank) version } : State).cic 963).adminEnd fn t 0 0 [version.toNat] w) := by
  have whole : (s.store.torn.all fun p => decide (p.1 ≠ 1 - s.sec.bank) || decide (t.pf 0 0 24 ≤ p.2.1)) = true := by
    simp only [List.all_eq_true, Bool.or_eq_true, decide_eq_true_eq]
    exact fun p hp => Decidable.imp_iff_not_or.mp (hw p hp)
  refine admin_of_done (act := fwCommitAct true version s) w h ((admWhen_of_checks _ (by simp [hmin, hmax])).trans ?_)
  simp only [hp, whole, Bool.not_true, Bool.false_eq_true, Bool.or_self, if_false]

end

/-- Settles O34: each command is the lemma about it. -/
theorem adminDevicesDomainFirmware : Obligations.AdminDevicesDomainFirmware :=
  fun _ _ w _ _ => ⟨exec_attachNamespace w, exec_detachNamespace w, exec_detachNamespaceComplete w, exec_setNvmPolicy w,
    fun ready noFinish => ⟨exec_setDomain_joins w ready noFinish, exec_setDomain_leaves w ready noFinish⟩,
    fun ready _ hr hok => ⟨exec_identify_host w ready hr hok, exec_identify_local w ready hr hok⟩, exec_getHealth w, exec_fwStage w,
    exec_fwCommit w⟩

end Sys2Proof.Laws
end

section
/-! PROOFS. A word outside image code: the row that names it does not matter, its checks, its effect as a whole, and the trap that it takes
(08 R248, R267 to R275). -/

namespace Sys2Proof.Laws
open Sys2Proof Sys2Proof.Machine

/-- Whichever row names a word outside image code, the core runs the whole word. -/
theorem exec_plain_word {s : State} {id : Nat} {i : IWord} (h : s.mayIssue id i) {p : Instr × Bool} (hp : p ∈ wordRows id i)
    (hrow : p.2 = true) {r : State × Core} (hw : (s.core id).run (coreBus id) (coreKind id) i s = r) :
    exec p.1 s = .next (r.1.putCore id (s.core id) r.2) := by
  obtain ⟨hruns, hfree, hplain, hfits, hmail⟩ := h
  have word : s.runWord id i = r.1.putCore id (s.core id) r.2 := by
    rw [State.runWord, hplain, if_neg Bool.false_ne_true, hw]
  rw [exec_of_mem_wordRows id i s p hp, State.wordRow, hruns, hfree, hrow, hfits, hmail, word]
  rfl

theorem run_of_gather_ok {b : Bus} {k : CoreKind} {i : IWord} {s : State} {c : Core} {r : Ready} (h : c.gather b k i s = .ok r) :
    c.run b k i s = r.act b k i := by
  rw [Core.run, issue_of_gather_ok h]

theorem run_of_gather_error {b : Bus} {k : CoreKind} {i : IWord} {s : State} {c c' : Core} {t : Trap}
    (h : c.gather b k i s = .error (t, c')) : c.run b k i s = c'.trap b k s t := by
  rw [Core.run, issue_of_gather_error h]

/-- The moves of a word that has passed its checks pass the destination checks (08 R268). -/
theorem gather_ok_destTrap {b : Bus} {k : CoreKind} {i : IWord} {s : State} {c : Core} {r : Ready} (h : c.gather b k i s = .ok r) :
    ∃ fails s2 c2, ∀ m ∈ r.ms, Core.destTrap b m fails s2 c2 = none := by
  simp only [Core.gather] at h
  repeat' split at h
  all_goals cases h
  next checks => exact ⟨_, _, _, List.findSome?_eq_none_iff.mp checks⟩

/-- A move that goes to TRAP.t_soft traps (08 R267). -/
theorem destTrap_soft {b : Bus} {m : Move} {row : PortRow} (hrow : m.row = some row) (hdst : m.y.dst = 0x010)
    (fails : List (Nat × Nat)) (s : State) (c : Core) : (c.destTrap b m fails s).isSome = true := by
  have soft : (Core.ownTrap b 0x010 m.k m.val fails s c).isSome = true := by
    unfold Core.ownTrap
    split <;> rfl
  simp only [Core.destTrap, hrow, hdst]
  split
  · rfl
  split
  · rfl
  split
  · rfl
  rw [Option.isSome_map]
  exact soft

/-- Settles O35: the word runs whichever row names it, and a move to TRAP.t_soft passes no check. -/
theorem wordsOfACoreComplete : Obligations.WordsOfACoreComplete := by
  refine ⟨fun id i s r may hg p hp hrow => exec_plain_word may hp hrow (run_of_gather_ok hg), fun id i s r hg m hm hdst => ?_⟩
  obtain ⟨fails, s2, c2, pass⟩ := gather_ok_destTrap hg
  cases row : m.row with
  | none => rfl
  | some x => exact absurd (pass m hm) (Option.isSome_iff_ne_none.mp (destTrap_soft row hdst fails s2 c2))

/-! ### The trap of a word that fails a check -/

/-- An entry of the vector table that fetches have shown names where the handler begins (08 R270). -/
theorem vector_of_known {c : Core} {e : Nat} {w : W64} (h : c.known (c.vbase.toNat + e) = some w) (s : State) :
    Core.vector s c e = (s, { c with pc := BitVec.ofNat 64 (w.toNat % 2 ^ 32) }) := by
  simp only [Core.vector, Core.codeWord, h]

/-- A trap outside a trap handler enters the handler (08 R271, R272). -/
theorem trap_of_known {c : Core} {t : Trap} {w : W64} (hout : c.inTrap = false) (hw : c.known (c.vbase.toNat + t.cause) = some w)
    (b : Bus) (k : CoreKind) (s : State) :
    c.trap b k s t = (s, { c with
      pc := BitVec.ofNat 64 (w.toNat % 2 ^ 32), frames := c.frame k true :: c.frames, epc := c.pc, pending := [], subst := [],
      landed := false, cause := t.cause, detail := t.detail, tvalue := t.value, inTrap := true }) := by
  rw [Core.trap, hout, if_neg Bool.false_ne_true]
  refine vector_of_known (w := w) ?_ s
  exact hw

/-- A double trap is reported once the core has stopped, so the bus leaves the state alone (08 R275). -/
theorem coreBus_doubleTrap (id : Nat) (s : State) : (coreBus id).doubleTrap s = s := by
  simp only [coreBus]
  split <;> rfl

theorem trap_of_inTrap {c : Core} (hin : c.inTrap = true) (id : Nat) (k : CoreKind) (s : State) (t : Trap) :
    c.trap (coreBus id) k s t = (s, { c with cause := cDouble, stopped := true }) := by
  rw [Core.trap, hin, if_pos rfl, coreBus_doubleTrap]

/-- Settles O40: the word runs whichever row names it; outside a trap handler the trap enters the handler, inside one it stops the core. -/
theorem trapsAreTaken : Obligations.TrapsAreTaken := by
  intro id i s t c' may hg
  refine ⟨fun w hout hw p hp hrow => ?handler, fun hin p hp hrow => ?double⟩
  case handler => exact exec_plain_word may hp hrow ((run_of_gather_error hg).trans (trap_of_known hout hw ..))
  case double => exact exec_plain_word may hp hrow ((run_of_gather_error hg).trans (trap_of_inTrap hin ..))

end Sys2Proof.Laws
end

section
/-! PROOFS. The sources of a slot: common ports, kind-specific ports, and those that pop (08 R248, R265, R266, 09 R288, 11 R350). -/

namespace Sys2Proof.Laws
open Sys2Proof Sys2Proof.Machine

/-! ### Where the value of a source port comes from -/

section
variable {b : Bus} {m : Move} {lit : W64} {s : State} {c : Core} (hsub : c.substFor m.k = none) (himm : m.y.imm = false)
include hsub himm

theorem source_of_readCommon_ok (hp : m.y.src < 0x180) {v : Val} {d : Core} (h : c.readCommon m.y.src = .ok (v, d)) :
    c.source b m lit s = .ok ({ m with val := v }, s, d) := by
  have short : m.y.src ≠ 0x1FF := by omega
  have common : ¬0x180 ≤ m.y.src := by omega
  simp only [Core.source, hsub, himm, short, common, h, Bool.false_eq_true, if_false]

theorem source_traps_of_readCommon (hp : m.y.src < 0x180) {cause sub : Nat} (h : c.readCommon m.y.src = .error (cause, sub)) :
    ∃ t, c.source b m lit s = .error t ∧ t.cause = cause := by
  have short : m.y.src ≠ 0x1FF := by omega
  have common : ¬0x180 ≤ m.y.src := by omega
  refine ⟨srcTrap cause sub m.k m.y, ?_, rfl⟩
  simp only [Core.source, hsub, himm, short, common, h, Bool.false_eq_true, if_false]

theorem source_of_read_ok (hp : 0x180 ≤ m.y.src) (hlit : m.y.src ≠ 0x1FF) {v : Val} {t : State} {d : Core}
    (h : b.read m.y.src s c = .ok (v, t, d)) : c.source b m lit s = .ok ({ m with val := v }, t, d) := by
  simp only [Core.source, hsub, himm, hlit, hp, h, Bool.false_eq_true, if_false, if_true]

theorem source_traps_of_read (hp : 0x180 ≤ m.y.src) (hlit : m.y.src ≠ 0x1FF) {sub : Nat} (h : b.read m.y.src s c = .error sub) :
    ∃ t, c.source b m lit s = .error t ∧ t.cause = cUnit ∧ t.sub = sub := by
  refine ⟨srcTrap cUnit sub m.k m.y, ?_, rfl, rfl⟩
  simp only [Core.source, hsub, himm, hlit, hp, h, Bool.false_eq_true, if_false, if_true]

end

/-! ### Ports that pop -/

theorem popRet_top {c : Core} {v : Val} {r : List Val} (h : c.rstack = v :: r) : c.popRet false = .ok (v, { c with rstack := r }) := by
  simp only [Core.popRet, h, Bool.false_eq_true, if_false]

/-- RET.bottom takes the oldest hardware entry (R266). -/
theorem popRet_bottom {c : Core} {v : Val} {r : List Val} (h : c.rstack = r ++ [v]) :
    c.popRet true = .ok (v, { c with rstack := r }) := by
  obtain ⟨u, rest, stack⟩ := List.exists_cons_of_ne_nil (l := c.rstack) (by simp [h])
  have oldest : (u :: rest).getLastD u = v := by rw [← stack, h, List.getLastD_concat]
  have others : (u :: rest).dropLast = r := by rw [← stack, h, List.dropLast_concat]
  simp only [Core.popRet, stack, if_true, oldest, others]

/-- With no hardware entry left, spilled entries are to be filled; without them the stack is empty (R266). -/
theorem popRet_empty {c : Core} (h : c.rstack = []) (bottom : Bool) :
    c.popRet bottom = .error (if 0 < c.retSpilled then 0x0C else 0x0E) := by
  simp only [Core.popRet, h]
  rfl

section
variable {c : Core}

theorem readCommon_dsPop {v : Val} {r : List Val} (h : c.dstack = v :: r) : c.readCommon 0x079 = .ok (v, { c with dstack := r }) := by
  simp [Core.readCommon, h]

theorem readCommon_dsPop_empty (h : c.dstack = []) : c.readCommon 0x079 = .error (0x0A, 0) := by
  simp [Core.readCommon, h, cDsUnder]

/-- RET.pop gives a code address (R266). -/
theorem readCommon_retPop {v : Val} {d : Core} (h : c.popRet false = .ok (v, d)) : c.readCommon 0x081 = .ok (⟨v.v, tgCode⟩, d) := by
  simp [Core.readCommon, h]

theorem readCommon_retPop_empty {cause : Nat} (h : c.popRet false = .error cause) : c.readCommon 0x081 = .error (cause, 0) := by
  simp [Core.readCommon, h]

theorem readCommon_retBottom {v : Val} {d : Core} (h : c.popRet true = .ok (v, d)) : c.readCommon 0x085 = .ok (v, d) := by
  simp [Core.readCommon, h]

theorem readCommon_retBottom_empty {cause : Nat} (h : c.popRet true = .error cause) : c.readCommon 0x085 = .error (cause, 0) := by
  simp [Core.readCommon, h]

end

theorem coreBus_read_sq {id : Nat} (h : coreKind id = .sq) : (coreBus id).read = sqRead id := by
  simp only [coreBus, h]

theorem coreBus_read_sup {id : Nat} (h : coreKind id = .sup) : (coreBus id).read = supRead id := by
  simp only [coreBus, h]

theorem takeItem_of_uncommitted {x : Fifo} (h : x.committed = 0) : x.takeItem.1 = none := by
  rw [Fifo.takeItem, if_pos h]

theorem sqRead_evqPop_empty {id : Nat} {s : State} (h : ((s.block (coreBlk id)).fifo toSeq).committed = 0) (c : Core) :
    sqRead id 0x1A0 s c = .error uEmpty := by
  simp [sqRead, takeItem_of_uncommitted h]

theorem sqRead_evqPop {id : Nat} {s : State} {w : List Byte} (h : (((s.block (coreBlk id)).fifo toSeq).takeItem).1 = some w) (c : Core) :
    sqRead id 0x1A0 s c =
      .ok (⟨BitVec.ofNat 64 (field w 0 8), tgRaw⟩, s.modFifo (coreBlk id) toSeq fun x => x.takeItem.2, c) := by
  simp [sqRead, h]

theorem supRead_mbxPop (id : Nat) (s : State) {c : Core} {v : Val} {r : List Val} (h : c.mbx = v :: r) :
    supRead id 0x18A s c = .ok (v, s, { c with mbx := r }) := by
  simp [supRead, h]

theorem supRead_mbxPop_empty (id : Nat) (s : State) {c : Core} (h : c.mbx = []) : supRead id 0x18A s c = .error uEmpty := by
  simp [supRead, h]

/-- Settles O38: a pop is what the port reads, an entry or the trap for none. -/
theorem portsThatPop : Obligations.PortsThatPop := by
  refine ⟨fun b lit s c m hsub himm => ⟨fun hp => ?ds, fun hp => ?ret, fun hp => ?bottom⟩,
    fun id lit s c m hsub himm => ⟨fun hk hp => ?evq, fun hk hp => ?mbx, fun hk hp => ?claim⟩⟩
  case ds =>
    have low : m.y.src < 0x180 := by omega
    refine ⟨fun v r h => source_of_readCommon_ok hsub himm low ?_, fun h => source_traps_of_readCommon (sub := 0) hsub himm low ?_⟩
    · rw [hp, readCommon_dsPop h]
    · rw [hp, readCommon_dsPop_empty h]
  case ret =>
    have low : m.y.src < 0x180 := by omega
    refine ⟨fun v r h => source_of_readCommon_ok hsub himm low ?_, fun h => source_traps_of_readCommon (sub := 0) hsub himm low ?_⟩
    · rw [hp, readCommon_retPop (popRet_top h)]
    · rw [hp, readCommon_retPop_empty (popRet_empty h false)]
  case bottom =>
    have low : m.y.src < 0x180 := by omega
    refine ⟨fun v r h => source_of_readCommon_ok hsub himm low ?_, fun h => source_traps_of_readCommon (sub := 0) hsub himm low ?_⟩
    · rw [hp, readCommon_retBottom (popRet_bottom h)]
    · rw [hp, readCommon_retBottom_empty (popRet_empty h true)]
  case evq =>
    have high : 0x180 ≤ m.y.src := by omega
    have port : m.y.src ≠ 0x1FF := by omega
    refine ⟨fun w h => source_of_read_ok hsub himm high port ?_, fun h => source_traps_of_read (sub := uEmpty) hsub himm high port ?_⟩
    · rw [coreBus_read_sq hk, hp, sqRead_evqPop h]
    · rw [coreBus_read_sq hk, hp, sqRead_evqPop_empty h]
  case mbx =>
    have high : 0x180 ≤ m.y.src := by omega
    have port : m.y.src ≠ 0x1FF := by omega
    refine ⟨fun v r h => source_of_read_ok hsub himm high port ?_, fun h => source_traps_of_read (sub := uEmpty) hsub himm high port ?_⟩
    · rw [coreBus_read_sup hk, hp, supRead_mbxPop id s h]
    · rw [coreBus_read_sup hk, hp, supRead_mbxPop_empty id s h]
  case claim =>
    refine source_of_read_ok hsub himm (by omega) (by omega) ?_
    rw [coreBus_read_sup hk, hp]
    rfl

end Sys2Proof.Laws
end

section
/-! PROOFS. Results that land, the entry of an interrupt, and how a sleeping core wakes (08 R249, R250, R271, R276 to R281). -/

namespace Sys2Proof.Laws
open Sys2Proof Sys2Proof.Machine

@[simp] theorem core_reg_setReg_same (c : Core) (p : Nat) (v : Val) : (c.setReg p v).reg p = v := table_get_set_same valDef c.regs p v

theorem core_reg_setReg_ne (c : Core) {p q : Nat} (v : Val) (h : q ≠ p) : (c.setReg p v).reg q = c.reg q :=
  table_get_set_ne valDef c.regs p q v h

/-! ### Results -/

/-- The pending results that are due at the next word (R249). -/
def dueResults (c : Core) : List Pend := c.pending.filter fun p => decide (p.left ≤ 1)

/-- The other pending results, one word nearer (R249). -/
def laterResults (c : Core) : List Pend := (c.pending.filter fun p => decide (1 < p.left)).map fun p => { p with left := p.left - 1 }

/-- The results due land in the order of their triggers. -/
theorem landDue_eq (c : Core) : c.landDue = (dueResults c).foldl Core.landOne { c with pending := laterResults c } := by
  have due : (c.pending.map fun p : Pend => { p with left := p.left - 1 }).filter (fun p => decide (p.left = 0)) =
      (dueResults c).map fun p => { p with left := p.left - 1 } := by
    simp only [dueResults, List.filter_map, Function.comp_def, Nat.sub_eq_zero_iff_le]
  have later : (c.pending.map fun p : Pend => { p with left := p.left - 1 }).filter (fun p => decide (p.left ≠ 0)) = laterResults c := by
    simp only [laterResults, List.filter_map, Function.comp_def, Nat.sub_ne_zero_iff_lt]
  simp only [Core.landDue, due, later, List.foldl_map]
  rfl

theorem landOne_landed (c : Core) (p : Pend) : ({ c with landed := true } : Core).landOne p = { c.landOne p with landed := true } := by
  unfold Core.landOne
  cases p.reg <;> cases p.flags <;> rfl

theorem foldl_landOne_landed (l : List Pend) (c : Core) :
    l.foldl Core.landOne { c with landed := true } = { l.foldl Core.landOne c with landed := true } := by
  induction l generalizing c with
  | nil => rfl
  | cons p l ih => rw [List.foldl_cons, landOne_landed, ih, List.foldl_cons]

theorem landed_of_not_landed {c : Core} (h : c.landed = false) :
    c.landed! = (dueResults c).foldl Core.landOne { c with landed := true, pending := laterResults c } := by
  rw [Core.landed!, h, if_neg Bool.false_ne_true, landDue_eq]
  exact (foldl_landOne_landed (dueResults c) { c with pending := laterResults c }).symm

/-- With no result pending, nothing lands at the next word. -/
theorem landed_of_no_pending {c : Core} (h : c.pending = []) : c.landed! = { c with landed := true } := by
  cases hl : c.landed with
  | true => rw [Core.landed!, hl, if_pos rfl, ← hl]
  | false =>
    have due : dueResults c = [] := by rw [dueResults, h]; rfl
    have later : laterResults c = c.pending := by rw [laterResults, h]; rfl
    rw [landed_of_not_landed hl, due, later]
    rfl

theorem exec_resultLand {id : Nat} {s : State} (hruns : s.coreRuns id = true) (hfree : (s.core id).mustTake (coreBus id) s = false)
    (hl : (s.core id).landed = false) (hdue : ∃ p ∈ (s.core id).pending, p.left ≤ 1) :
    exec (.resultLand id) s = .next (s.setCore id ((dueResults (s.core id)).foldl Core.landOne
      { s.core id with landed := true, pending := laterResults (s.core id) })) := by
  have due : (s.core id).pending.any (fun p => decide (p.left ≤ 1)) = true := by simpa using hdue
  change execResultLand id s = _
  rw [execResultLand, hruns, hfree, hl, due, landed_of_not_landed hl]
  rfl

/-! ### Interrupts -/

/-- An interrupt enters the handler of its level (Table 08.17). -/
theorem interrupt_of_known {c : Core} {l : Nat} {w : W64} (hw : c.known (c.vbase.toNat + (0x20 + l)) = some w) (k : CoreKind) (s : State) :
    c.interrupt k s l = (s, { c with
      pc := BitVec.ofNat 64 (w.toNat % 2 ^ 32), frames := c.frame k false :: c.frames, epc := c.pc, pending := [], subst := [],
      landed := false, level := l, hold := true }) := by
  refine vector_of_known (w := w) ?_ s
  exact hw

theorem exec_interruptEntry {id l : Nat} {late : Option Nat} {s : State} (hruns : s.coreRuns id = true)
    (hl : (s.core id).landed = false) (hreq : (coreBus id).request s (s.core id) = some l) (htakes : (s.core id).takes l = true)
    (hlate : late = none ∨ late = some l) :
    exec (.interruptEntry id late) s = .next (((s.core id).interrupt (coreKind id) s l).1.setCore id
      ((s.core id).interrupt (coreKind id) s l).2) := by
  change execInterruptEntry id late s = _
  simp only [execInterruptEntry, hreq, hruns, hl, htakes]
  rcases hlate with rfl | rfl
  · rfl
  · simp

/-! ### Sleep -/

/-- A presented request, a selected view bit and a deadline that has passed are bits 0, 1 and 2 of the wake conditions (R281). -/
theorem wakeBits_bits (x y z : Bool) :
    (b2n x + 2 * b2n y + 4 * b2n z).testBit 0 = x ∧ (b2n x + 2 * b2n y + 4 * b2n z).testBit 1 = y ∧
    ((b2n x + 2 * b2n y + 4 * b2n z) % 4 ≠ 0 ↔ x = true ∨ y = true) := by
  revert x y z
  decide

theorem wakeBits_request (b : Bus) (s : State) (c : Core) : (c.wakeBits b s).testBit 0 = (b.request s c).isSome := (wakeBits_bits ..).1

theorem wakeBits_event (b : Bus) (s : State) (c : Core) :
    (c.wakeBits b s).testBit 1 = decide (b.view s c &&& (c.reg 0x019).v ≠ 0) := (wakeBits_bits ..).2.1

theorem wakeBits_wakes {b : Bus} {s : State} {c : Core} (h : (∃ l, b.request s c = some l) ∨ b.view s c &&& (c.reg 0x019).v ≠ 0) :
    c.wakeBits b s % 4 ≠ 0 :=
  (wakeBits_bits ..).2.2.mpr (h.imp Option.isSome_iff_exists.mpr decide_eq_true)

/-- CTL.wake holds the reasons (R281). -/
theorem wakeWith_reason (c : Core) (w : Nat) {j : Nat} (h : j < 64) : ((c.wakeWith w).reg 0x01A).v.getLsbD j = w.testBit j := by
  have reason : (c.wakeWith w).reg 0x01A = intVal w := core_reg_setReg_same c 0x01A (intVal w)
  rw [reason, intVal, BitVec.getLsbD_ofNat, decide_eq_true h, Bool.true_and]

theorem exec_sleepDeadline {id t d : Nat} {s : State} (hon : s.coreOn id = true) (hsleep : (s.core id).asleep = true)
    (ht : s.notBefore t = true) (hd : (s.core id).deadline = some d) (hpast : d ≤ (s.at_ t).uptime) :
    exec (.sleepDeadline id t) s =
      .next ((s.at_ t).setCore id ((s.core id).wakeWith ((s.core id).wakeBits (coreBus id) (s.at_ t) ||| 4))) := by
  change execSleepDeadline id t s = _
  simp only [execSleepDeadline, hon, hsleep, ht, hd, hpast, decide_true, Bool.and_self, whenB_true]

theorem exec_coreWake {id : Nat} {s : State} (hon : s.coreOn id = true) (hsleep : (s.core id).asleep = true)
    (h : (∃ l, (coreBus id).request s (s.core id) = some l) ∨ (coreBus id).view s (s.core id) &&& ((s.core id).reg 0x019).v ≠ 0) :
    exec (.coreWake id) s = .next (s.setCore id ((s.core id).wakeWith ((s.core id).wakeBits (coreBus id) s))) := by
  change execCoreWake id s = _
  simp only [execCoreWake, hon, hsleep, decide_eq_true (wakeBits_wakes h), Bool.and_self, whenB_true]

/-- Settles O46: each clause is the lemma about its event. -/
theorem resultsInterruptsAndSleep : Obligations.ResultsInterruptsAndSleep := by
  refine ⟨fun id s => exec_resultLand, ?interrupt, ?deadline, ?wake⟩
  case interrupt =>
    intro id l late w s c hruns hl hreq hlevel hmask hout hhold hlate hw
    have takes : c.takes l = true := by
      simp only [Core.takes, hlevel, hmask, hout, hhold, decide_true, Bool.not_false, Bool.and_self]
    rw [exec_interruptEntry hruns hl hreq takes hlate, interrupt_of_known hw]
  case deadline =>
    intro id t d s c hon hsleep ht hd hpast
    refine ⟨_, exec_sleepDeadline hon hsleep ht hd hpast, rfl, ?_⟩
    rw [State.core_setCore_same]
    refine ⟨rfl, rfl, ?_, rfl, setCore_frame (s.at_ t) id _⟩
    rw [wakeWith_reason _ _ (by decide), Nat.testBit_or]
    exact Bool.or_true _
  case wake =>
    intro id s c hon hsleep h
    refine ⟨_, exec_coreWake hon hsleep h, ?_⟩
    dsimp only
    rw [State.core_setCore_same]
    refine ⟨rfl, rfl, rfl, ?_, ?_, rfl⟩
    · rw [wakeWith_reason _ _ (by decide), wakeBits_request]
    · rw [wakeWith_reason _ _ (by decide), wakeBits_event]

end Sys2Proof.Laws
end

section
/-! PROOFS. A word whose two slots move general registers: both are read before either is written (08 R241, R244, R248). -/

namespace Sys2Proof.Laws
open Sys2Proof Sys2Proof.Machine

/-! ### General registers (Table 08.5) -/

/-- The port is a general register. -/
def IsGeneral (p : Nat) : Prop := 0x040 ≤ p ∧ p ≤ 0x05F

/-- The row of the general registers. -/
def generalRow : PortRow := ⟨0x040, 0x05F, true, true, .no, 0x040, false, false, tAny⟩

/-- The slot that moves general register `src` to `dst`, whatever the flags are. -/
def regSlot (dst src imm18 : Nat) : YSlot := { guard := 0, imm := false, dst := dst, src := src, low := 0, imm18 := imm18 }

/-- The move of slot `n` that takes the value `v` of general register `src` to `dst`. -/
def regMove (n dst src imm18 : Nat) (v : Val) : Move := { k := n, y := regSlot dst src imm18, row := some generalRow, val := v }

section
variable {p : Nat} (hp : IsGeneral p)
include hp

/-- A port outside the range of the general registers is another port. -/
theorem general_ne {q : Nat} (hq : q < 0x040 ∨ 0x05F < q) : p ≠ q := by
  obtain ⟨low, high⟩ := hp
  omega

theorem portOf_general (k : CoreKind) : portOf k p = some generalRow := by
  have listed : ∀ q < 0x060, 0x040 ≤ q →
      controlPorts.find? (fun r => decide (r.lo ≤ q) && decide (q ≤ r.hi)) = some generalRow := by decide
  obtain ⟨low, high⟩ := hp
  simp only [portOf, portTable, List.append_assoc]
  rw [List.find?_append, listed p (by omega) low, Option.some_or]

theorem general_not_aluTrig : isAluTrig p = false := by
  obtain ⟨low, high⟩ := hp
  simp only [isAluTrig, decide_eq_false (show ¬0x100 ≤ p by omega), Bool.false_and]

theorem readCommon_general (c : Core) : c.readCommon p = .ok (c.reg p, c) := by
  have window : ¬(0x088 ≤ p ∧ p ≤ 0x097) := fun h => by have := hp.2; omega
  simp only [Core.readCommon, general_ne hp, window, Nat.reduceLT, true_or, or_true, if_false]

theorem writeEarly_general (b : Bus) (k : CoreKind) (v : Val) (s : State) (c : Core) :
    c.writeEarly b k p v s = (s, c.setReg p v) := by
  have unit : ¬0x180 ≤ p := fun h => by have := hp.2; omega
  simp only [Core.writeEarly, general_ne hp, unit, Nat.reduceLT, true_or, or_true, if_false]

theorem portFor_general (k : CoreKind) (image dst : Bool) : portFor k image dst p = some generalRow := by
  have emulated : isA7 p = false := by
    obtain ⟨low, high⟩ := hp
    simp only [isA7, decide_eq_false (show ¬0x1E0 ≤ p by omega), Bool.false_and]
  rw [portFor, emulated, Bool.and_false, if_neg Bool.false_ne_true, portOf_general hp]

/-- A general register takes any value (R253, R268). -/
theorem destTrap_general (b : Bus) {n src imm18 : Nat} {v : Val} (hv : v.tag < 8) (s : State) (c : Core) :
    c.destTrap b (regMove n p src imm18 v) [] s = none := by
  have poison : poisonOk p = true := by
    simp only [poisonOk, decide_eq_true hp.1, decide_eq_true hp.2, Bool.and_self, Bool.true_or]
  have tag : v.tag ∈ tAny := by
    have tags : ∀ t < 8, t ∈ tAny := by decide
    exact tags v.tag hv
  have tagOk : c.tagBad p tAny v = false := by
    simp [Core.tagBad, general_not_aluTrig hp, tag, general_ne hp]
  have operandOk : c.operandBad p v = false := by
    simp [Core.operandBad, general_ne hp]
  have own : Core.ownTrap b p n v [] s c = none := by
    have unit : ¬0x180 ≤ p := fun h => by have := hp.2; omega
    simp [Core.ownTrap, general_not_aluTrig hp, general_ne hp, unit]
  simp only [Core.destTrap, regMove, regSlot, generalRow, poison, tagOk, operandOk, own, Bool.not_true, Bool.false_eq_true, and_false,
    if_false, Option.map_none]

end

/-! ### One move of a register -/

section
variable {dst src : Nat}

theorem assign_general (hd : IsGeneral dst) (hs : IsGeneral src) {c : Core} (hsub : c.subst = []) (k : CoreKind) (n imm18 : Nat) :
    c.assign k n (regSlot dst src imm18) = .ok (regMove n dst src imm18 {}) := by
  have noSubst (key : Nat) : c.substFor key = none := by rw [Core.substFor, hsub]; rfl
  simp [Core.assign, regSlot, regMove, noSubst, portFor_general hd, portFor_general hs, generalRow]

theorem source_general (hs : IsGeneral src) {c : Core} (hsub : c.subst = []) (b : Bus) (n imm18 : Nat) (lit : W64) (s : State) :
    c.source b (regMove n dst src imm18 {}) lit s = .ok (regMove n dst src imm18 (c.reg src), s, c) := by
  have noSubst : c.substFor n = none := by rw [Core.substFor, hsub]; rfl
  have low : src < 0x180 := by have := hs.2; omega
  exact source_of_readCommon_ok noSubst rfl low (readCommon_general hs c)

theorem limm_general (hs : IsGeneral src) (imm18 : Nat) : (regSlot dst src imm18).limm = false := by
  simp [YSlot.limm, regSlot, general_ne hs]

end

/-- A word that triggers no ALU does not wait for a division (09 R286). -/
theorem stallFor_of_no_alu {ms : List (Nat × YSlot)} (h : ∀ m ∈ ms, isAluTrig m.2.dst = false) (c : Core) : c.stallFor ms = (0, c) := by
  unfold Core.stallFor
  induction ms with
  | nil => rfl
  | cons m ms ih =>
    rw [List.forall_mem_cons] at h
    simp only [List.foldl_cons, h.1, Bool.false_and, Bool.false_eq_true, if_false]
    exact ih h.2

/-- A word without stall and without literals that goes through its phases and passes its checks is ready to act (R248, R268). -/
theorem gather_ok_of_phases {b : Bus} {k : CoreKind} {i : IWord} {s s1 : State} {c d c1 : Core} {y0 y1 : YSlot} {ys : List (Nat × YSlot)}
    {ms0 ms : List Move} (hslots : yslots i.word = (y0, y1)) (hf : i.fetched = true)
    (hcode : ∀ j < 1 + ylits i.word, b.fetch s c.landed! (c.landed!.pc.toNat + j) = true) (hencoding : encodingTrap k i.word = none)
    (hd : c.landed!.learn c.landed!.pc.toNat (fetchWords i) = d)
    (hon : [(0, y0), (1, y1)].filter (fun m => guardHolds m.2.guard d.flags) = ys) (hstall : d.stallFor ys = (0, d))
    (hassign : ys.mapM (fun m => d.assign k m.1 m.2) = .ok ms0) (hread : ∀ lit, Core.readAll b lit ms0 s d = .ok (ms, s1, c1))
    (hchecks : ms.findSome? (fun m => (Core.early b k ms s1 c1).2.destTrap b m (c1.overflows k ms) (Core.early b k ms s1 c1).1) = none) :
    c.gather b k i s = .ok { ms := ms, c := d, s1 := s1, c1 := c1 } := by
  have fetched : (!i.fetched || !(List.range (1 + ylits i.word)).all fun j => b.fetch s c.landed! (c.landed!.pc.toNat + j)) = false := by
    simpa [hf] using hcode
  have noStall : ({ d with record := { d.record with cycles := d.record.cycles + 0 } } : Core) = d := rfl
  simp only [Core.gather, fetched, hslots, hencoding, hd, hon, hstall, noStall, hassign, hread, hchecks, Bool.false_eq_true, if_false]

/-! ### A word that exchanges two registers -/

/-- Outside image code a core may fetch every word that its code memory has (R239, 09 R297). -/
theorem coreBus_fetch {id : Nat} {c : Core} (h : c.inImage (coreKind id) = false) (s : State) (a : Nat) :
    (coreBus id).fetch s c a = codeHas (coreKind id) a := by
  cases hk : coreKind id with
  | sv =>
    rw [hk] at h
    rw [coreBus_of_sv hk]
    change svFetch s c a = _
    rw [svFetch, h, if_neg Bool.false_ne_true]
  | sq => simp only [coreBus, hk]
  | gt => simp only [coreBus, hk]
  | sup => simp only [coreBus, hk]

/-- A core that a word has not stopped takes its place in the state. -/
theorem putCore_of_not_stopped {before after : Core} (h : after.stopped = before.stopped) (s : State) (id : Nat) :
    s.putCore id before after = s.setCore id after := by
  rw [State.putCore, h, Bool.and_not_self, if_neg Bool.false_ne_true]

/-- The core that has fetched word `i`, when no result is pending. -/
def fetchedCore (c : Core) (i : IWord) : Core := ({ c with landed := true } : Core).learn c.pc.toNat (fetchWords i)

/-- The core after a word that has exchanged registers `g` and `h`: the next word comes next, and nothing of this word is in force. -/
def exchanged (g h : Nat) (i : IWord) (c : Core) : Core :=
  { ((fetchedCore c i).setReg g (c.reg h)).setReg h (c.reg g) with
    landed := false, hold := false, subst := [], pc := c.pc + 1, record := { c.record with cycles := c.record.cycles + 1 } }

theorem exchanged_reg_left {g h : Nat} (hne : g ≠ h) (i : IWord) (c : Core) : (exchanged g h i c).reg g = c.reg h :=
  (core_reg_setReg_ne _ _ hne).trans (core_reg_setReg_same ..)

theorem exchanged_reg_right (g h : Nat) (i : IWord) (c : Core) : (exchanged g h i c).reg h = c.reg g := core_reg_setReg_same ..

theorem exchanged_reg_other {g h p : Nat} (hg : p ≠ g) (hh : p ≠ h) (i : IWord) (c : Core) : (exchanged g h i c).reg p = c.reg p :=
  (core_reg_setReg_ne _ _ hh).trans (core_reg_setReg_ne _ _ hg)

/-- The word ready to act: both registers have been read, and neither is written yet. -/
def readyToExchange (g h m0 m1 : Nat) (i : IWord) (s : State) (c : Core) : Ready :=
  { ms := [regMove 0 g h m0 (c.reg h), regMove 1 h g m1 (c.reg g)], c := fetchedCore c i, s1 := s, c1 := fetchedCore c i }

section
variable {g h : Nat} (hg : IsGeneral g) (hh : IsGeneral h)
include hg hh

theorem overflows_exchange (k : CoreKind) (c : Core) (m0 m1 : Nat) (x y : Val) :
    c.overflows k [regMove 0 g h m0 x, regMove 1 h g m1 y] = [] := by
  simp [Core.overflows, Depths.early, Depths.late, regMove, regSlot, general_ne hg, general_ne hh]

/-- Both registers are written, with the values that were read. -/
theorem early_exchange (b : Bus) (k : CoreKind) (m0 m1 : Nat) (x y : Val) (s : State) (c : Core) :
    Core.early b k [regMove 0 g h m0 x, regMove 1 h g m1 y] s c = (s, (c.setReg g x).setReg h y) := by
  have early : generalRow.early = true := rfl
  simp only [Core.early, List.foldl_cons, List.foldl_nil, regMove, regSlot, early, if_true, writeEarly_general hg, writeEarly_general hh]

variable {b : Bus} {k : CoreKind} {i : IWord} {s : State} {c : Core} {m0 m1 : Nat}
  (hslots : yslots i.word = (regSlot g h m0, regSlot h g m1))
include hslots

theorem ylits_exchange : ylits i.word = 0 := by
  rw [ylits, hslots, limm_general hh, limm_general hg]
  rfl

theorem gather_exchange (hne : g ≠ h) (hsub : c.subst = []) (hpend : c.pending = []) (hf : i.fetched = true)
    (hcode : b.fetch s { c with landed := true } c.pc.toNat = true) (htg : (c.reg g).tag < 8) (hth : (c.reg h).tag < 8) :
    c.gather b k i s = .ok (readyToExchange g h m0 m1 i s c) := by
  have subst : (fetchedCore c i).subst = [] := hsub
  refine gather_ok_of_phases (ms0 := [regMove 0 g h m0 {}, regMove 1 h g m1 {}]) hslots hf ?code ?encoding ?fetch rfl
    (stallFor_of_no_alu ?alu _) ?assign (fun lit => ?read) ?checks
  case code =>
    rw [ylits_exchange hg hh hslots, landed_of_no_pending hpend]
    intro j hj
    obtain rfl : j = 0 := by omega
    exact hcode
  case encoding =>
    have conflict : dstConflict k g h = false := by
      simp [dstConflict, portOf_general hg, portOf_general hh, generalRow, hne, general_ne hg, general_ne hh]
    simp [encodingTrap, hslots, regSlot, general_ne hg, general_ne hh, conflict]
  case fetch => rw [landed_of_no_pending hpend]; rfl
  case alu =>
    change ∀ m ∈ [(0, regSlot g h m0), (1, regSlot h g m1)], isAluTrig m.2.dst = false
    simp [regSlot, general_not_aluTrig hg, general_not_aluTrig hh]
  case assign =>
    change [(0, regSlot g h m0), (1, regSlot h g m1)].mapM (fun m => (fetchedCore c i).assign k m.1 m.2) = _
    simp only [List.mapM_cons, List.mapM_nil, assign_general hg hh subst, assign_general hh hg subst]
    rfl
  case read =>
    simp only [Core.readAll, List.foldl_cons, List.foldl_nil, bind, Except.bind, pure, Except.pure, source_general hh subst,
      source_general hg subst]
    rfl
  case checks =>
    simp only [overflows_exchange hg hh, early_exchange hg hh, List.findSome?_cons, destTrap_general hg b hth, destTrap_general hh b htg,
      List.findSome?_nil]

/-- The word's effect is that of both moves. -/
theorem act_exchange : (readyToExchange g h m0 m1 i s c).act b k i = (s, exchanged g h i c) := by
  have noTrigger (len : Nat) (d : Core) :
      Core.late b k len [regMove 0 g h m0 (c.reg h), regMove 1 h g m1 (c.reg g)] s d = (s, d, {}) := rfl
  have noFlags : [regMove 0 g h m0 (c.reg h), regMove 1 h g m1 (c.reg g)].any
      (fun m => m.row.isSome && (decide (m.y.dst = 0x008) || decide (m.y.dst = 0x009))) = false := by
    simp [regMove, regSlot, general_ne hg, general_ne hh]
  simp only [Ready.act, readyToExchange, early_exchange hg hh, noTrigger, noFlags, ylits_exchange hg hh hslots, Bool.false_eq_true, if_false]
  rfl

end

/-- No row but that of the general registers names a word that moves to one. -/
theorem plainSlot_general {dst : Nat} (hd : IsGeneral dst) (k : CoreKind) (src imm18 : Nat) : plainSlot k (regSlot dst src imm18) = true := by
  have kind : dst ∉ rowPorts k := by
    have := hd.2
    cases k <;> simp [rowPorts] <;> omega
  simp [plainSlot, ownRow, regSlot, general_ne hd, general_not_aluTrig hd, kind]

/-- The row of a word that no other row names lists it. -/
theorem yqPortWrite_mem_wordRows (id : Nat) (i : IWord) :
    (Instr.yqPortWrite id i, plainSlot (coreKind id) (yslots i.word).1 || plainSlot (coreKind id) (yslots i.word).2) ∈ wordRows id i := by
  simp [wordRows]

theorem exec_exchange {id g h m0 m1 : Nat} {i : IWord} {s : State} (hg : IsGeneral g) (hh : IsGeneral h) (hne : g ≠ h)
    (may : s.mayIssue id i) (hf : i.fetched = true) (hcode : codeHas (coreKind id) (s.core id).pc.toNat = true)
    (hpend : (s.core id).pending = []) (hsub : (s.core id).subst = []) (htg : ((s.core id).reg g).tag < 8)
    (hth : ((s.core id).reg h).tag < 8) (hslots : yslots i.word = (regSlot g h m0, regSlot h g m1)) :
    exec (.yqPortWrite id i) s = .next (s.setCore id (exchanged g h i (s.core id))) := by
  have ⟨_, _, hplain, _, _⟩ := may
  have code : (coreBus id).fetch s { s.core id with landed := true } (s.core id).pc.toNat = true :=
    (coreBus_fetch (c := { s.core id with landed := true }) hplain s _).trans hcode
  have ready := gather_exchange (k := coreKind id) hg hh hslots hne hsub hpend hf code htg hth
  have plain : (plainSlot (coreKind id) (yslots i.word).1 || plainSlot (coreKind id) (yslots i.word).2) = true := by
    rw [hslots]
    exact Bool.or_eq_true_iff.mpr (.inl (plainSlot_general hg ..))
  have runs := exec_plain_word may (yqPortWrite_mem_wordRows id i) plain ((run_of_gather_ok ready).trans (act_exchange hg hh hslots))
  exact runs.trans (congrArg _ (putCore_of_not_stopped rfl s id))

/-- Settles O39: the word is ready to act with both registers read (`gather_exchange`), and its effect writes both (`act_exchange`). -/
theorem twoMovesExchangeRegisters : Obligations.TwoMovesExchangeRegisters := by
  intro id g h i s c may hf hcode hpend hsub htg hth hg hg' hh hh' hne hslots
  refine ⟨_, exec_exchange ⟨hg, hg'⟩ ⟨hh, hh'⟩ hne may hf hcode hpend hsub htg hth hslots, ?_⟩
  dsimp only
  rw [State.core_setCore_same]
  exact ⟨exchanged_reg_left hne i c, exchanged_reg_right g h i c, fun p hpg hph => exchanged_reg_other hpg hph i c, rfl, rfl, rfl, rfl, hpend,
    rfl, setCore_frame ..⟩

end Sys2Proof.Laws
end

section
/-! PROOFS. Shifts, rotates and the special cases of division (08 R256, R257). -/

namespace Sys2Proof.Laws
open Sys2Proof Sys2Proof.Machine

/-! ### Shifts and rotates (R256) -/

/-- The shift and rotate triggers. -/
def shiftOps : List Nat := [opShl, opShr, opSar, opRol, opRor]

/-- On integers a shift or rotate gives the result and C of `shiftOut`, with N and Z of the result and V 0. -/
theorem aluOp_of_shiftOut {op : Nat} (hop : op ∈ shiftOps) {x y o : W64} {c : Bool} (h : shiftOut op x y.toNat = (o, c)) :
    (aluOp op ⟨x, tgInt⟩ ⟨y, tgInt⟩).out = some ⟨o, tgInt⟩ ∧ (aluOp op ⟨x, tgInt⟩ ⟨y, tgInt⟩).hi = none ∧
    (aluOp op ⟨x, tgInt⟩ ⟨y, tgInt⟩).flags = nzcv o.msb (o == 0) c false := by
  have shift : aluOp op ⟨x, tgInt⟩ ⟨y, tgInt⟩ =
      { out := some ⟨(shiftOut op x y.toNat).1, tgInt⟩
        flags := flags64 (shiftOut op x y.toNat).1 (shiftOut op x y.toNat).2 false } := by
    simp only [shiftOps, List.mem_cons, List.not_mem_nil, or_false] at hop
    rcases hop with rfl | rfl | rfl | rfl | rfl <;> rfl
  rw [shift, h]
  exact ⟨rfl, rfl, rfl⟩

theorem shiftOut_zero {op : Nat} (hop : op ∈ shiftOps) (x : W64) : shiftOut op x 0 = (x, false) := by
  simp only [shiftOps, List.mem_cons, List.not_mem_nil, or_false] at hop
  rcases hop with rfl | rfl | rfl | rfl | rfl <;> rfl

section
variable (x : W64) {n : Nat}

theorem shiftOut_shl (hmin : 1 ≤ n) (hmax : n ≤ 63) : shiftOut opShl x n = (x <<< n, x.getLsbD (64 - n)) := by
  simp [shiftOut, opShl, opRol, opRor, Nat.ne_of_gt hmin, hmax]

theorem shiftOut_shr (hmin : 1 ≤ n) (hmax : n ≤ 63) : shiftOut opShr x n = (x >>> n, x.getLsbD (n - 1)) := by
  simp [shiftOut, opShl, opShr, opRol, opRor, Nat.ne_of_gt hmin, hmax]

theorem shiftOut_sar (hmin : 1 ≤ n) (hmax : n ≤ 63) : shiftOut opSar x n = (x.sshiftRight n, x.getLsbD (n - 1)) := by
  simp [shiftOut, opShl, opShr, opSar, opRol, opRor, Nat.ne_of_gt hmin, hmax]

theorem shiftOut_shl_beyond (h : 64 ≤ n) : shiftOut opShl x n = (0, decide (n = 64) && x.getLsbD 0) := by
  simp [shiftOut, opShl, opRol, opRor, show n ≠ 0 by omega, show ¬n ≤ 63 by omega]

theorem shiftOut_shr_beyond (h : 64 ≤ n) : shiftOut opShr x n = (0, decide (n = 64) && x.getLsbD 63) := by
  simp [shiftOut, opShl, opShr, opRol, opRor, show n ≠ 0 by omega, show ¬n ≤ 63 by omega, BitVec.msb_eq_getLsbD_last]

/-- An arithmetic shift by 63 places leaves copies of bit 63. -/
theorem sshiftRight_63 : x.sshiftRight 63 = if x.getLsbD 63 then BitVec.allOnes 64 else 0 := by
  refine BitVec.eq_of_getLsbD_eq fun i hi => ?_
  have copy : (x.sshiftRight 63).getLsbD i = x.getLsbD 63 := by
    rw [BitVec.getLsbD_sshiftRight, decide_eq_false (Nat.not_le_of_lt hi), BitVec.msb_eq_getLsbD_last]
    split
    · next inside =>
      rw [show i = 0 by omega]
      rfl
    · rfl
  rw [copy]
  cases x.getLsbD 63 with
  | false => exact BitVec.getLsbD_zero.symm
  | true => rw [if_pos rfl, BitVec.getLsbD_allOnes, decide_eq_true hi]

theorem shiftOut_sar_beyond (h : 64 ≤ n) :
    shiftOut opSar x n = (if x.getLsbD 63 then BitVec.allOnes 64 else 0, x.getLsbD 63) := by
  rw [← sshiftRight_63]
  simp [shiftOut, opShl, opShr, opSar, opRol, opRor, show n ≠ 0 by omega, show ¬n ≤ 63 by omega, BitVec.msb_eq_getLsbD_last]

theorem shiftOut_rol (h : n % 64 ≠ 0) : shiftOut opRol x n = (x.rotateLeft (n % 64), (x.rotateLeft (n % 64)).getLsbD 0) := by
  simp [shiftOut, h]

theorem shiftOut_ror (h : n % 64 ≠ 0) : shiftOut opRor x n = (x.rotateRight (n % 64), (x.rotateRight (n % 64)).getLsbD 63) := by
  simp [shiftOut, opRol, opRor, h, BitVec.msb_eq_getLsbD_last]

theorem shiftOut_rotate_full (h : n % 64 = 0) : shiftOut opRol x n = (x, false) ∧ shiftOut opRor x n = (x, false) := by
  simp [shiftOut, opRol, opRor, h]

end

/-- Settles O44: each clause is the lemma about its operation and its range of amounts. -/
theorem shiftsAndRotates : Obligations.ShiftsAndRotates := by
  intro x y n A B gives
  have shl {o c} (h : shiftOut opShl x n = (o, c)) : gives opShl o c := aluOp_of_shiftOut (by decide) h
  have shr {o c} (h : shiftOut opShr x n = (o, c)) : gives opShr o c := aluOp_of_shiftOut (by decide) h
  have sar {o c} (h : shiftOut opSar x n = (o, c)) : gives opSar o c := aluOp_of_shiftOut (by decide) h
  have rol {o c} (h : shiftOut opRol x n = (o, c)) : gives opRol o c := aluOp_of_shiftOut (by decide) h
  have ror {o c} (h : shiftOut opRor x n = (o, c)) : gives opRor o c := aluOp_of_shiftOut (by decide) h
  refine ⟨fun op hop zero => aluOp_of_shiftOut hop ?zero, fun ⟨hmin, hmax⟩ => ?within, fun h => ?at64, fun h => ?beyond,
    fun h => sar (shiftOut_sar_beyond x h), fun h => ?rotate, fun h => ?full⟩
  case zero => exact (congrArg (shiftOut op x) zero).trans (shiftOut_zero hop x)
  case within => exact ⟨shl (shiftOut_shl x hmin hmax), shr (shiftOut_shr x hmin hmax), sar (shiftOut_sar x hmin hmax)⟩
  case at64 =>
    have out := Nat.le_of_eq h.symm
    refine ⟨shl ((shiftOut_shl_beyond x out).trans ?_), shr ((shiftOut_shr_beyond x out).trans ?_)⟩ <;> rw [decide_eq_true h, Bool.true_and]
  case beyond =>
    have out := Nat.le_of_lt h
    refine ⟨shl ((shiftOut_shl_beyond x out).trans ?_), shr ((shiftOut_shr_beyond x out).trans ?_)⟩ <;>
      rw [decide_eq_false (Nat.ne_of_gt h), Bool.false_and]
  case rotate => exact ⟨rol (shiftOut_rol x h), ror (shiftOut_ror x h)⟩
  case full =>
    have ⟨left, right⟩ := shiftOut_rotate_full x h
    exact ⟨rol left, ror right⟩

/-! ### Division (R257) -/

theorem flagV_nzcv (n z c v : Bool) : flagV (nzcv n z c v) = v := by
  revert n z c v
  decide

theorem divOut_zero (signed : Bool) (x : W64) :
    divOut signed x 0 = { out := some ⟨0, tgInt⟩, hi := some ⟨x, tgInt⟩, flags := nzcv false true false true } := rfl

/-- A division by a divisor other than 0 overflows for the most negative number by -1 alone (R257). -/
theorem divOut_flagV {x y : W64} (hy : y ≠ 0) (signed : Bool) : flagV (divOut signed x y).flags =
    (signed && decide (x = 0x8000000000000000#64) && decide (y = BitVec.allOnes 64)) := by
  rw [divOut, if_neg hy]
  exact flagV_nzcv ..

theorem ownTrap_div {b : Bus} {unit slot op : Nat} {fails : List (Nat × Nat)} (hu : unit < 4) (hop : op = opDivu ∨ op = opDivs)
    (hf : (fails.find? fun f => decide (f.1 = slot)) = none) (tag : Nat) (s : State) (c : Core) :
    Core.ownTrap b (0x100 + 0x20 * unit + op) slot ⟨0, tag⟩ fails s c = if c.dzTrap then some (cDivZero, 0) else none := by
  have div : op = 0x10 ∨ op = 0x11 := hop
  have port : (0x100 + 0x20 * unit + op) % 32 = op := by omega
  have trigger : isAluTrig (0x100 + 0x20 * unit + op) = true := by
    simp only [isAluTrig, port, Bool.and_eq_true, decide_eq_true_eq]
    omega
  have other (p : Nat) (low : p < 0x100) : 0x100 + 0x20 * unit + op ≠ p := by omega
  simp [Core.ownTrap, hf, port, trigger, hop, other 0x071, other 0x063, other 0x064]

/-- Settles O45: a divisor of 0 by `ownTrap_div` and `divOut_zero`, every other by `divOut_flagV`. -/
theorem divisionSpecialCases : Obligations.DivisionSpecialCases := by
  refine ⟨by decide, fun b unit slot op fails tag s c hu hop hf => ownTrap_div hu hop hf tag s c, fun x op hop => ?zero,
    fun x y hy => ?other⟩
  case zero =>
    rcases hop with rfl | rfl
    · exact divOut_zero false x
    · exact divOut_zero true x
  case other =>
    refine ⟨divOut_flagV hy false, fun h => (divOut_flagV hy true).trans ?_⟩
    simpa using h

end Sys2Proof.Laws
end

section
/-! PROOFS. Sums, differences, logical operations, comparisons, products and quotients of the ALU, and the offset of a handle (08 R252,
R254, R255). -/

namespace Sys2Proof.Laws
open Sys2Proof Sys2Proof.Machine

/-- The number is one that a signed 64-bit word holds. -/
abbrev fitsSigned (z : Int) : Prop := -(2 ^ 63 : Int) ≤ z ∧ z < 2 ^ 63

/-! ### Overflow of sums and differences (R254) -/

section
variable (x y : W64)

theorem add_overflows : ((x.msb == y.msb) && ((x + y).msb != x.msb)) = decide (¬fitsSigned (x.toInt + y.toInt)) := by
  have overflow : ((x.msb == y.msb) && ((x + y).msb != x.msb)) = x.saddOverflow y := (BitVec.saddOverflow_eq x y).symm
  rw [overflow, BitVec.saddOverflow, ← Bool.decide_or, decide_eq_decide]
  omega

theorem sub_overflows : ((x.msb != y.msb) && (x.msb != (x - y).msb)) = decide (¬fitsSigned (x.toInt - y.toInt)) := by
  have overflow : ((x.msb != y.msb) && (x.msb != (x - y).msb)) = x.ssubOverflow y := by
    rw [BitVec.ssubOverflow_eq]
    cases x.msb <;> cases y.msb <;> cases (x - y).msb <;> rfl
  rw [overflow, BitVec.ssubOverflow, ← Bool.decide_or, decide_eq_decide]
  omega

theorem neg_overflows : (y == 0x8000000000000000#64) = decide (¬fitsSigned (-y.toInt)) := by
  have overflow : (y == 0x8000000000000000#64) = y.negOverflow := (BitVec.negOverflow_eq y).symm
  have low := y.le_toInt
  have high := y.toInt_lt
  rw [overflow, BitVec.negOverflow, Bool.eq_iff_iff, beq_iff_eq, decide_eq_true_eq]
  omega

/-- t_neg gives the flags of the difference from 0, C set when B is 0. -/
theorem aluOp_neg_flags : (aluOp opNeg ⟨x, tgInt⟩ ⟨y, tgInt⟩).flags =
    nzcv (-y).msb (-y == 0) (decide (y = 0)) (y == 0x8000000000000000#64) := by
  rw [← BitVec.zero_sub]
  rfl

end

/-! ### Products (R255) -/

/-- The word that out_hi takes of a product. -/
def upperHalf (p : BitVec 128) : W64 := (p >>> 64).truncate 64
/-- The word that out takes of a product. -/
def lowerHalf (p : BitVec 128) : W64 := p.truncate 64

theorem halves_append (p : BitVec 128) : upperHalf p ++ lowerHalf p = p := by
  refine BitVec.eq_of_getLsbD_eq fun i hi => ?_
  rw [BitVec.getLsbD_append]
  split
  · next low => simp [lowerHalf, low]
  · next high =>
    have place : 64 + (i - 64) = i := by omega
    simp [upperHalf, place, show i - 64 < 64 by omega]

theorem halves_toNat (p : BitVec 128) : (upperHalf p).toNat * 2 ^ 64 + (lowerHalf p).toNat = p.toNat := by
  conv => rhs; rw [← halves_append p]
  rw [BitVec.toNat_append, Nat.shiftLeft_eq, Nat.mul_comm, Nat.two_pow_add_eq_or_of_lt (lowerHalf p).isLt]

theorem halves_toInt (p : BitVec 128) : (upperHalf p).toInt * 2 ^ 64 + (lowerHalf p).toNat = p.toInt := by
  conv => rhs; rw [← halves_append p]
  rw [BitVec.toInt_append, Int.mul_comm]
  rfl

theorem upperHalf_msb (p : BitVec 128) : p.msb = (upperHalf p).msb := by
  conv => lhs; rw [← halves_append p]
  rw [BitVec.msb_append]
  rfl

theorem zeroExtend_mul_toNat (x y : W64) : (x.zeroExtend 128 * y.zeroExtend 128).toNat = x.toNat * y.toNat := by
  have hx : (x.zeroExtend 128).toNat = x.toNat := by simp; omega
  have hy : (y.zeroExtend 128).toNat = y.toNat := by simp; omega
  rw [BitVec.toNat_mul_of_lt, hx, hy]
  rw [hx, hy]
  calc x.toNat * y.toNat
    _ < 2 ^ 64 * 2 ^ 64 := Nat.mul_lt_mul'' x.isLt y.isLt
    _ = 2 ^ 128 := (Nat.pow_add 2 64 64).symm

theorem signExtend_mul_toInt (x y : W64) : (x.signExtend 128 * y.signExtend 128).toInt = x.toInt * y.toInt := by
  have low : -2 ^ 126 ≤ x.toInt * y.toInt := BitVec.le_toInt_mul_toInt
  have high : x.toInt * y.toInt ≤ 2 ^ 126 := BitVec.toInt_mul_toInt_le
  rw [BitVec.toInt_mul, BitVec.toInt_signExtend_of_le (by decide), BitVec.toInt_signExtend_of_le (by decide),
    Int.bmod_eq_of_le] <;> omega

/-- An unsigned product needs out_hi when it does not fit in 64 bits. -/
theorem upperHalf_eq_zero (p : BitVec 128) : upperHalf p = 0 ↔ ¬2 ^ 64 ≤ p.toNat := by
  have halves := halves_toNat p
  have low := (lowerHalf p).isLt
  rw [← BitVec.toNat_inj, show (0 : W64).toNat = 0 from rfl]
  omega

/-- A signed product fits in 64 bits when out_hi repeats the sign of out. -/
theorem upperHalf_eq_sign (p : BitVec 128) :
    upperHalf p = (if (lowerHalf p).msb then BitVec.allOnes 64 else 0) ↔ fitsSigned p.toInt := by
  have halves := halves_toInt p
  have low := (lowerHalf p).isLt
  have minus : (BitVec.allOnes 64).toInt = -1 := by decide
  rw [← BitVec.toInt_inj, BitVec.msb_eq_toNat]
  simp only [apply_ite BitVec.toInt, minus, decide_eq_true_eq, show (0 : W64).toInt = 0 from rfl]
  split <;> omega

/-- What the ALU gives for the product `p`, which fits in 64 bits or not. -/
def productOut (p : BitVec 128) (fits : Bool) : AluOut :=
  { out := some ⟨lowerHalf p, tgInt⟩, hi := some ⟨upperHalf p, tgInt⟩, flags := nzcv p.msb (p == 0) (!fits) (!fits) }

theorem aluOp_mulu_eq (x y : W64) : let p := x.zeroExtend 128 * y.zeroExtend 128
    aluOp opMulu ⟨x, tgInt⟩ ⟨y, tgInt⟩ = productOut p (decide (upperHalf p = 0)) := rfl

theorem aluOp_muls_eq (x y : W64) : let p := x.signExtend 128 * y.signExtend 128
    aluOp opMuls ⟨x, tgInt⟩ ⟨y, tgInt⟩ = productOut p (decide (upperHalf p = if (lowerHalf p).msb then BitVec.allOnes 64 else 0)) := rfl

theorem aluOp_mulu (x y : W64) : ∃ lo hi : W64, (aluOp opMulu ⟨x, tgInt⟩ ⟨y, tgInt⟩).out = some ⟨lo, tgInt⟩ ∧
    (aluOp opMulu ⟨x, tgInt⟩ ⟨y, tgInt⟩).hi = some ⟨hi, tgInt⟩ ∧ hi.toNat * 2 ^ 64 + lo.toNat = x.toNat * y.toNat ∧
    (aluOp opMulu ⟨x, tgInt⟩ ⟨y, tgInt⟩).flags = nzcv hi.msb (decide (x.toNat * y.toNat = 0)) (decide (2 ^ 64 ≤ x.toNat * y.toNat))
      (decide (2 ^ 64 ≤ x.toNat * y.toNat)) := by
  rw [aluOp_mulu_eq, ← zeroExtend_mul_toNat]
  generalize x.zeroExtend 128 * y.zeroExtend 128 = p
  have zero : (p == 0) = decide (p.toNat = 0) := by
    rw [Bool.eq_iff_iff, beq_iff_eq, decide_eq_true_eq, ← BitVec.toNat_inj]
    rfl
  refine ⟨lowerHalf p, upperHalf p, rfl, rfl, halves_toNat p, ?_⟩
  simp only [productOut, upperHalf_msb, zero, upperHalf_eq_zero, decide_not, Bool.not_not]

theorem aluOp_muls (x y : W64) : ∃ lo hi : W64, (aluOp opMuls ⟨x, tgInt⟩ ⟨y, tgInt⟩).out = some ⟨lo, tgInt⟩ ∧
    (aluOp opMuls ⟨x, tgInt⟩ ⟨y, tgInt⟩).hi = some ⟨hi, tgInt⟩ ∧ hi.toInt * 2 ^ 64 + lo.toNat = x.toInt * y.toInt ∧
    (aluOp opMuls ⟨x, tgInt⟩ ⟨y, tgInt⟩).flags = nzcv hi.msb (decide (x.toInt * y.toInt = 0))
      (decide (¬fitsSigned (x.toInt * y.toInt)))
      (decide (¬fitsSigned (x.toInt * y.toInt))) := by
  rw [aluOp_muls_eq, ← signExtend_mul_toInt]
  generalize x.signExtend 128 * y.signExtend 128 = p
  have zero : (p == 0) = decide (p.toInt = 0) := by
    rw [Bool.eq_iff_iff, beq_iff_eq, decide_eq_true_eq, ← BitVec.toInt_inj]
    rfl
  refine ⟨lowerHalf p, upperHalf p, rfl, rfl, halves_toInt p, ?_⟩
  simp only [productOut, upperHalf_msb, zero, upperHalf_eq_sign, decide_not]

/-! ### Quotients (R255) -/

theorem aluOp_divu (x : W64) {y : W64} (hy : y ≠ 0) : ∃ q m : W64, (aluOp opDivu ⟨x, tgInt⟩ ⟨y, tgInt⟩).out = some ⟨q, tgInt⟩ ∧
    (aluOp opDivu ⟨x, tgInt⟩ ⟨y, tgInt⟩).hi = some ⟨m, tgInt⟩ ∧ x.toNat = y.toNat * q.toNat + m.toNat ∧ m.toNat < y.toNat ∧
    (aluOp opDivu ⟨x, tgInt⟩ ⟨y, tgInt⟩).flags = nzcv q.msb (q == 0) false false := by
  have division : aluOp opDivu ⟨x, tgInt⟩ ⟨y, tgInt⟩ =
      { out := some ⟨x / y, tgInt⟩, hi := some ⟨x % y, tgInt⟩, flags := flags64 (x / y) false false } := if_neg hy
  have pos : 0 < y.toNat := Nat.pos_of_ne_zero fun zero => hy (BitVec.eq_of_toNat_eq zero)
  rw [division]
  refine ⟨x / y, x % y, rfl, rfl, ?_, ?_, rfl⟩
  · rw [BitVec.toNat_udiv, BitVec.toNat_umod, Nat.div_add_mod]
  · rw [BitVec.toNat_umod]
    exact Nat.mod_lt _ pos

theorem aluOp_divs {x y : W64} (hy : y ≠ 0) (hover : ¬(x = 0x8000000000000000#64 ∧ y = BitVec.allOnes 64)) :
    ∃ q m : W64, (aluOp opDivs ⟨x, tgInt⟩ ⟨y, tgInt⟩).out = some ⟨q, tgInt⟩ ∧ (aluOp opDivs ⟨x, tgInt⟩ ⟨y, tgInt⟩).hi = some ⟨m, tgInt⟩ ∧
      q.toInt = x.toInt.tdiv y.toInt ∧ m.toInt = x.toInt.tmod y.toInt ∧
      (aluOp opDivs ⟨x, tgInt⟩ ⟨y, tgInt⟩).flags = nzcv q.msb (q == 0) false false := by
  have within : x ≠ BitVec.intMin 64 ∨ y ≠ -1#64 := Classical.not_and_iff_not_or_not.mp hover
  have quotient : (x.sdiv y).toInt = x.toInt.tdiv y.toInt := BitVec.toInt_sdiv_of_ne_or_ne x y within
  have remainder : (x.srem y).toInt = x.toInt.tmod y.toInt := BitVec.toInt_srem x y
  have noflag : (true && decide (x = 0x8000000000000000#64) && decide (y = BitVec.allOnes 64)) = false := by simpa using hover
  have division : aluOp opDivs ⟨x, tgInt⟩ ⟨y, tgInt⟩ =
      { out := some ⟨x.sdiv y, tgInt⟩, hi := some ⟨x.srem y, tgInt⟩, flags := flags64 (x.sdiv y) false false } := by
    refine (if_neg hy).trans ?_
    simp only [if_true, noflag, ← quotient, ← remainder, BitVec.ofInt_toInt]
  rw [division]
  exact ⟨x.sdiv y, x.srem y, rfl, rfl, quotient, remainder, rfl⟩

/-! ### Logical operations (R254) -/

theorem aluOp_logic (x y : W64) {op : Nat} {f : Bool → Bool → Bool}
    (h : (op, f) ∈ [(opAnd, fun a b => a && b), (opOr, fun a b => a || b), (opXor, fun a b => a != b), (opNot, fun _ b => !b)]) :
    ∃ o : W64, (aluOp op ⟨x, tgInt⟩ ⟨y, tgInt⟩).out = some ⟨o, tgInt⟩ ∧
      (aluOp op ⟨x, tgInt⟩ ⟨y, tgInt⟩).flags = nzcv o.msb (o == 0) false false ∧
      ∀ j, j < 64 → o.getLsbD j = f (x.getLsbD j) (y.getLsbD j) := by
  simp only [List.mem_cons, List.not_mem_nil, or_false, Prod.mk.injEq] at h
  rcases h with ⟨rfl, rfl⟩ | ⟨rfl, rfl⟩ | ⟨rfl, rfl⟩ | ⟨rfl, rfl⟩
  · exact ⟨x &&& y, rfl, rfl, fun j _ => BitVec.getLsbD_and⟩
  · exact ⟨x ||| y, rfl, rfl, fun j _ => BitVec.getLsbD_or⟩
  · exact ⟨x ^^^ y, rfl, rfl, fun j _ => BitVec.getLsbD_xor⟩
  · exact ⟨~~~y, rfl, rfl, fun j hj => by rw [BitVec.getLsbD_not, decide_eq_true hj, Bool.true_and]⟩

/-! ### Comparisons (R254) -/

theorem aluOp_compare (x y : W64) {op : Nat} {r : Bool}
    (h : (op, r) ∈ [(opSeq, decide (x = y)), (opSltu, decide (x.toNat < y.toNat)), (opSlts, decide (x.toInt < y.toInt))]) :
    (aluOp op ⟨x, tgInt⟩ ⟨y, tgInt⟩).out = some ⟨if r then 1 else 0, tgBool⟩ ∧
    (aluOp op ⟨x, tgInt⟩ ⟨y, tgInt⟩).flags = (aluOp opCmp ⟨x, tgInt⟩ ⟨y, tgInt⟩).flags := by
  simp only [List.mem_cons, List.not_mem_nil, or_false, Prod.mk.injEq] at h
  rcases h with ⟨rfl, rfl⟩ | ⟨rfl, rfl⟩ | ⟨rfl, rfl⟩ <;> exact ⟨rfl, rfl⟩

/-! ### Handles (R252) -/

/-- The offset wraps modulo 2^48, and the bits above it keep the window. -/
theorem aluOp_add_handle (x y : W64) : ∃ o : W64, (aluOp opAdd ⟨x, tgHndl⟩ ⟨y, tgInt⟩).out = some ⟨o, tgHndl⟩ ∧
    o.toNat % 2 ^ 48 = (x.toNat % 2 ^ 48 + y.toNat % 2 ^ 48) % 2 ^ 48 ∧ o.toNat / 2 ^ 48 = x.toNat / 2 ^ 48 := by
  have top := x.isLt
  refine ⟨BitVec.ofNat 64 (x.toNat / 2 ^ 48 * 2 ^ 48 + (x.toNat % 2 ^ 48 + y.toNat % 2 ^ 48) % 2 ^ 48), rfl, ?_⟩
  rw [BitVec.toNat_ofNat]
  omega

/-- Settles O43: each clause is the lemma about its operation; V tells of the exact result by the overflow lemmas. -/
theorem arithmeticOfTheAlu : Obligations.ArithmeticOfTheAlu := by
  refine ⟨fun x y => ⟨rfl, ?sum, rfl, ?difference, rfl, rfl, ?negated, ?negation, fun op f => aluOp_logic x y, fun op r => aluOp_compare x y,
    aluOp_mulu x y, aluOp_muls x y, aluOp_divu x, aluOp_divs⟩, aluOp_add_handle⟩
  case sum => exact congrArg (nzcv _ _ _) (add_overflows x y)
  case difference => exact congrArg (nzcv _ _ _) (sub_overflows x y)
  case negated => exact congrArg (fun o : W64 => some (⟨o, tgInt⟩ : Val)) (BitVec.zero_sub y)
  case negation =>
    rw [aluOp_neg_flags]
    exact congrArg (nzcv _ _ _) (neg_overflows y)

end Sys2Proof.Laws
end

section
/-! PROOFS. A word whose one move goes to a trigger port of a core's kind-specific units (08 R248, 09 R288, R295, R298). -/

namespace Sys2Proof.Laws
open Sys2Proof Sys2Proof.Machine

/-! ### The word with one move to a unit's trigger port (R248, R298) -/

/-- The row names a port that acts once, in the second part of phase 4: a trigger of the hardware or an emulated port. -/
def actsLate (row : PortRow) : Bool := decide (row.lo ≠ 0x009) && (row.trig != isA7 row.lo)

theorem early_eq_false_of_actsLate {row : PortRow} (h : actsLate row = true) : row.early = false := by
  simp only [actsLate, Bool.and_eq_true, decide_eq_true_eq] at h
  obtain ⟨other, once⟩ := h
  rw [PortRow.early, decide_eq_false other, Bool.or_false]
  cases emulated : isA7 row.lo
  · rw [emulated, Bool.bne_false] at once
    rw [once]
    rfl
  · exact Bool.and_false _

/-- What a trigger of a kind-specific unit does is what the bus does (R288). -/
theorem trigger_unit {p : Nat} (hp : 0x180 ≤ p) (b : Bus) (k : CoreKind) (len : Nat) (v : Val) (c0 : Core) (s : State) (c : Core) :
    Core.trigger b k len p v c0 s c = ((b.write p v s c).1, (b.write p v s c).2, {}) := by
  have common {q : Nat} (hq : q < 0x180) : p ≠ q := by omega
  have notAlu : isAluTrig p = false := by
    simp only [isAluTrig, decide_eq_false (show ¬p < 0x180 by omega), Bool.and_false, Bool.false_and]
  simp [Core.trigger, common, notAlu]

section
variable {b : Bus} {k : CoreKind} {m : Move} {row : PortRow} (hrow : m.row = some row) (hlate : actsLate row = true)
include hrow hlate

theorem early_of_actsLate (s : State) (c : Core) : Core.early b k [m] s c = (s, c) := by
  simp only [Core.early, List.foldl_cons, List.foldl_nil, hrow, early_eq_false_of_actsLate hlate, Bool.false_eq_true, if_false]

theorem late_of_actsLate (hp : 0x180 ≤ m.y.dst) (len : Nat) (s : State) (c : Core) :
    Core.late b k len [m] s c = ((b.write m.y.dst m.val s c).1, (b.write m.y.dst m.val s c).2, {}) := by
  have once : row.trig = !isA7 row.lo := by
    simp only [actsLate, Bool.and_eq_true, bne_iff_ne] at hlate
    exact Bool.eq_not.mpr hlate.2
  cases emulated : isA7 row.lo <;>
    simp [Core.late, hrow, early_eq_false_of_actsLate hlate, once, emulated, trigger_unit hp]

/-- A word with one move, to a unit's trigger port, does what the bus does there, and ends. -/
theorem act_of_actsLate {r : Ready} (hms : r.ms = [m]) {p : Nat} (hdst : m.y.dst = p) (hp : 0x180 ≤ p) (i : IWord) :
    r.act b k i = ((b.write p m.val r.s1 r.c1).1, r.ends i (b.write p m.val r.s1 r.c1).2) := by
  subst hdst
  have noFlags : [m].any (fun m => m.row.isSome && (decide (m.y.dst = 0x008) || decide (m.y.dst = 0x009))) = false := by
    simp [show m.y.dst ≠ 8 by omega, show m.y.dst ≠ 9 by omega]
  simp only [Ready.act, hms, early_of_actsLate hrow hlate, late_of_actsLate hrow hlate hp, noFlags, Bool.false_eq_true, if_false]
  rfl

end

/-- The same for a port that a table lists among those that act late. -/
theorem act_of_listed {b : Bus} {k : CoreKind} {r : Ready} {m : Move} {ports : List Nat} {table : Nat → Option PortRow}
    (listed : ∀ p ∈ ports, (table p).any actsLate = true ∧ 0x180 ≤ p) (hms : r.ms = [m]) (hrow : m.row = table m.y.dst) (i : IWord)
    {p : Nat} (hp : p ∈ ports) (hdst : m.y.dst = p) :
    r.act b k i = ((b.write p m.val r.s1 r.c1).1, r.ends i (b.write p m.val r.s1 r.c1).2) := by
  obtain ⟨late, unit⟩ := listed p hp
  rw [Option.any_eq_true] at late
  obtain ⟨row, found, hlate⟩ := late
  exact act_of_actsLate (hrow.trans (hdst ▸ found)) hlate hms hdst unit i

/-! ### The units of sequencers, gates and supervisors (Tables 09.4 to 09.6) -/

/-- The trigger ports of Table 09.4. -/
def sqTriggers : List Nat := [0x182, 0x183, 0x188, 0x190, 0x19D, 0x1B8]
/-- The trigger ports of Table 09.5. -/
def gtTriggers : List Nat := [0x182, 0x183, 0x184, 0x192, 0x193, 0x1A2]
/-- The trigger ports of Table 09.6. -/
def supTriggers : List Nat := [0x181, 0x189, 0x190, 0x191]

theorem sqTriggers_late : ∀ p ∈ sqTriggers, (portOf .sq p).any actsLate = true ∧ 0x180 ≤ p := by decide
theorem gtTriggers_late : ∀ p ∈ gtTriggers, (portOf .gt p).any actsLate = true ∧ 0x180 ≤ p := by decide
theorem supTriggers_late : ∀ p ∈ supTriggers, (portOf .sup p).any actsLate = true ∧ 0x180 ≤ p := by decide

section
variable {id : Nat}

theorem coreBus_write_sq (h : coreKind id = .sq) : (coreBus id).write = sqWrite id := by
  simp only [coreBus, h]

theorem coreBus_write_gt (h : coreKind id = .gt) : (coreBus id).write = gtWrite id := by
  simp only [coreBus, h]

theorem coreBus_write_sup (h : coreKind id = .sup) : (coreBus id).write = supWrite id := by
  simp only [coreBus, h]

variable {r : Ready} {m : Move} (hms : r.ms = [m]) (hrow : m.row = portOf (coreKind id) m.y.dst) (i : IWord) {p : Nat}
include hms hrow

theorem act_sq (h : coreKind id = .sq) (hp : p ∈ sqTriggers) (hdst : m.y.dst = p) : r.act (coreBus id) (coreKind id) i =
    ((sqWrite id p m.val r.s1 r.c1).1, r.ends i (sqWrite id p m.val r.s1 r.c1).2) := by
  rw [h] at hrow
  rw [act_of_listed sqTriggers_late hms hrow i hp hdst, coreBus_write_sq h]

theorem act_gt (h : coreKind id = .gt) (hp : p ∈ gtTriggers) (hdst : m.y.dst = p) : r.act (coreBus id) (coreKind id) i =
    ((gtWrite id p m.val r.s1 r.c1).1, r.ends i (gtWrite id p m.val r.s1 r.c1).2) := by
  rw [h] at hrow
  rw [act_of_listed gtTriggers_late hms hrow i hp hdst, coreBus_write_gt h]

theorem act_sup (h : coreKind id = .sup) (hp : p ∈ supTriggers) (hdst : m.y.dst = p) : r.act (coreBus id) (coreKind id) i =
    ((supWrite id p m.val r.s1 r.c1).1, r.ends i (supWrite id p m.val r.s1 r.c1).2) := by
  rw [h] at hrow
  rw [act_of_listed supTriggers_late hms hrow i hp hdst, coreBus_write_sup h]

end

/-- A lodge slot that holds context `x` is decoded into the words of its command and the qualifier (Table 09.4, CMD.t_dec). -/
theorem sqDecode_of_inLodge {id n x : Nat} {s : State} (h : s.inLodge (coreBlk id) n = some x) (c : Core) :
    sqDecode id n s c = (s, ((List.range 4).foldl (fun (e : Core) j => e.later 0x188 3 (some (0x189 + j,
        ⟨BitVec.ofNat 64 (field (s.ctx x).cmd.encode (8 * j) 8), tgRaw⟩)) none) c).later
      0x188 3 (some (0x18D, intVal (s.lastQual x).toNat)) none) := by
  simp only [sqDecode, h]
  rfl

/-- TMR.t_cancel leaves the timer disarmed, and the core as it is (11 R335). -/
theorem gtWrite_cancel (id : Nat) (v : Val) (s : State) (c : Core) :
    (Table.get timerDef ((gtWrite id 0x193 v s c).1.block (coreBlk id)).timers (c.reg 0x190).v.toNat).armed = false ∧
    (gtWrite id 0x193 v s c).2 = c := by
  refine ⟨?_, rfl⟩
  change (Table.get timerDef ((s.modBlock (coreBlk id) _).block (coreBlk id)).timers _).armed = false
  rw [State.block_modBlock_same]
  dsimp only
  rw [table_get_set_same]

theorem fhSel_of_lt {c : Core} (h : (c.reg 0x1A0).v.toNat < 64) (s : State) : c.fhSel s = ((c.reg 0x1A0).v.toNat, s) := if_pos h

theorem gtWrite_flush {c : Core} (h : (c.reg 0x1A0).v.toNat < 64) (id : Nat) (v : Val) (s : State) :
    gtWrite id 0x1A2 v s c = (s.modFifo (coreBlk id) (c.reg 0x1A0).v.toNat Fifo.flush, c) := by
  change ((c.fhSel s).2.modFifo _ (c.fhSel s).1 _, c) = _
  rw [fhSel_of_lt h]

theorem supWrite_mbxSend (id : Nat) (v : Val) (s : State) (c : Core) :
    supWrite id 0x189 v s c = s.sendMail c id (432 + (c.reg 0x188).v.toNat) v := rfl

/-- LCK.t_acq takes a free lock. -/
theorem supWrite_acquire_free {id : Nat} {v : Val} {s : State} (h : s.lockHolder v.v.toNat = none) (c : Core) :
    supWrite id 0x190 v s c = ({ s with locks := Table.set noneDef s.locks v.v.toNat (some id) },
      c.later 0x190 2 (some (0x192, ⟨1, tgBool⟩)) none) := by
  simp [supWrite, h, boolVal]

/-- LCK.t_acq leaves a lock that has a holder with it. -/
theorem supWrite_acquire_held {id : Nat} {v : Val} {s : State} (h : s.lockHolder v.v.toNat ≠ none) (c : Core) :
    supWrite id 0x190 v s c = (s, c.later 0x190 2 (some (0x192, ⟨0, tgBool⟩)) none) := by
  simp [supWrite, h, boolVal]

/-- Settles O37: the word does what the unit's write does (`act_sq`, `act_gt`, `act_sup`), and each clause is that write. -/
theorem effectOfAKindSpecificMove : Obligations.EffectOfAKindSpecificMove := by
  intro id i r m hms hrow s c v n p g a
  refine ⟨fun hk => ?sequencer, fun hk => ?gate, fun hk => ?supervisor⟩
  case sequencer =>
    have unit {q : Nat} (hq : q ∈ sqTriggers) (hp : p = q) := act_sq hms hrow i hk hq hp
    refine ⟨unit (by decide), unit (by decide), fun hp x hx => ?decode, unit (by decide), unit (by decide), unit (by decide)⟩
    case decode =>
      refine (unit (by decide) hp).trans ?_
      change ((sqDecode id n s c).1, r.ends i (sqDecode id n s c).2) = _
      rw [sqDecode_of_inLodge hx]
  case gate =>
    have unit {q : Nat} (hq : q ∈ gtTriggers) (hp : p = q) := act_gt hms hrow i hk hq hp
    refine ⟨unit (by decide), unit (by decide), unit (by decide), unit (by decide), fun hp => ?cancel, fun hp hsel => ?flush⟩
    case cancel =>
      obtain ⟨disarmed, kept⟩ := gtWrite_cancel id v s c
      rw [show a = _ from unit (by decide) hp]
      exact ⟨disarmed, congrArg (r.ends i) kept⟩
    case flush => rw [show a = _ from unit (by decide) hp, gtWrite_flush hsel]
  case supervisor =>
    have unit {q : Nat} (hq : q ∈ supTriggers) (hp : p = q) := act_sup hms hrow i hk hq hp
    refine ⟨fun hp => ?done, fun hp => ⟨fun own => ?own, fun other => ?other⟩, fun hp => ⟨fun free => ?free, fun held => ?held⟩,
      unit (by decide)⟩
    case done =>
      rw [show n % 65536 = bits n 0 16 by simp [bits]]
      exact unit (by decide) hp
    case own => rw [show a = _ from unit (by decide) hp, supWrite_mbxSend, State.sendMail, if_pos own]
    case other => rw [show a = _ from unit (by decide) hp, supWrite_mbxSend, State.sendMail, if_neg other]
    case free => rw [show a = _ from unit (by decide) hp, supWrite_acquire_free free]
    case held => rw [show a = _ from unit (by decide) hp, supWrite_acquire_held held]

end Sys2Proof.Laws
end

section
/-! PROOFS. The units of a sieve core: the record, comparisons, the hash, the emitted bytes, the verdict and the emulated AD7100 ports
(04 R127, 09 R288, R292, R295, R298). -/

namespace Sys2Proof.Laws
open Sys2Proof Sys2Proof.Machine

/-- The trigger ports of Table 09.7 and the emulated ports of Table 09.13 whose write does more than keep the value. -/
def svTriggers : List Nat :=
  [0x180, 0x195, 0x1A4, 0x1A5, 0x1B1, 0x1B2, 0x1C0, 0x1C1, 0x1C2, 0x1C3, 0x1C5, 0x1D0, 0x1D1, 0x1E0, 0x1E3, 0x1E4, 0x1E6]

theorem svTriggers_late : ∀ p ∈ svTriggers, (portFor .sv true true p).any actsLate = true ∧ 0x180 ≤ p := by decide

theorem act_sv {b : Bus} {r : Ready} {m : Move} {p : Nat} (hb : b.write = svWrite) (hms : r.ms = [m])
    (hrow : m.row = portFor .sv true true m.y.dst) (i : IWord) (hp : p ∈ svTriggers) (hdst : m.y.dst = p) :
    r.act b .sv i = ((svWrite p m.val r.s1 r.c1).1, r.ends i (svWrite p m.val r.s1 r.c1).2) := by
  rw [act_of_listed svTriggers_late hms hrow i hp hdst, hb]

/-- EMT.t_8 to EMT.t_64 (Table 09.7). -/
def IsEmtPut (p : Nat) : Prop := 0x1C0 ≤ p ∧ p ≤ 0x1C3

theorem IsEmtPut.mem_svTriggers {p : Nat} (h : IsEmtPut p) : p ∈ svTriggers := by
  obtain ⟨low, high⟩ := h
  simp only [svTriggers, List.mem_cons]
  omega

/-- Such a port appends the low bytes of the value (R295). -/
theorem svWrite_emtPut {p : Nat} (h : IsEmtPut p) (v : Val) (s : State) (c : Core) :
    svWrite p v s c = (s, c.append (leBytes (2 ^ (p - 0x1C0)) v.v.toNat)) := by
  have other {q : Nat} (hq : q < 0x1C0 ∨ 0x1C3 < q) : p ≠ q := by
    obtain ⟨low, high⟩ := h
    omega
  simp [svWrite, emtBytes, other, show 0x1C0 ≤ p ∧ p ≤ 0x1C3 from h]

/-- The number of emitted bytes is on its way to EMT.count. -/
theorem append_pending (c : Core) (bs : List Byte) : (c.append bs).pending =
    (c.later 0x1C0 1 (some (0x1C6, intVal (c.record.emitted.length + bs.length))) none).pending := by
  rw [← List.length_append]
  rfl

/-- EMT.t_copy appends bytes of the record and takes a cycle more for each 32 of them after the first (R295). -/
theorem svWrite_emtCopy (v : Val) (s : State) (c : Core) : let n := v.v.toNat
    let a := svWrite 0x1C5 v s c
    a.1 = s ∧ a.2.record.emitted = c.record.emitted ++ c.record.bytes (c.reg 0x1C4).v.toNat n ∧
    a.2.record.cycles = c.record.cycles + ((n + 31) / 32 - 1) := by
  intro n a
  have emitted : (if n = 0 then c else c.touch ((c.reg 0x1C4).v.toNat + n)).record.emitted = c.record.emitted := by split <;> rfl
  have cycles : (if n = 0 then c else c.touch ((c.reg 0x1C4).v.toNat + n)).record.cycles = c.record.cycles := by split <;> rfl
  exact ⟨rfl, congrArg (· ++ _) emitted, congrArg (· + _) cycles⟩

/-- Settles O42: the word does what the unit's write does (`act_sv`), and each clause is that write. -/
theorem effectOfASieveMove : Obligations.EffectOfASieveMove := by
  intro b i r m hb hms hrow s c n d p a word
  have unit {q : Nat} (hq : q ∈ svTriggers) (hp : p = q) := act_sv hb hms hrow i hq hp
  refine ⟨unit (by decide), unit (by decide), ?range, unit (by decide), unit (by decide), fun hp => ?put, fun hp => ?copy,
    unit (by decide), unit (by decide), unit (by decide), unit (by decide), unit (by decide), unit (by decide)⟩
  case range =>
    rintro (hp | hp)
    all_goals
      rw [hp]
      exact unit (by decide) hp
  case put =>
    rw [show a = _ from unit (IsEmtPut.mem_svTriggers hp) rfl, svWrite_emtPut hp]
    have pending := append_pending c (leBytes (2 ^ (p - 0x1C0)) n)
    rw [leBytes_length] at pending
    exact ⟨rfl, pending, rfl⟩
  case copy =>
    obtain ⟨kept, emitted, cycles⟩ := svWrite_emtCopy m.val s c
    rw [show a = _ from unit (by decide) hp]
    exact ⟨emitted, congrArg (· + 1) cycles, kept⟩

end Sys2Proof.Laws
end

section
/-! PROOFS. Movers, their channels and FIFOs: what reading gives after a change, and what a change leaves alone (10 R301, R307, R328). -/

namespace Sys2Proof.Laws
open Sys2Proof Sys2Proof.Machine

@[simp] theorem mover_setMover_same (b : Block) (m : Nat) (v : Mover) : (b.setMover m v).mover m = v :=
  table_get_set_same moverDef b.movers m v

@[simp] theorem ring_setRing_same (v : Mover) (c : Nat) (x : RingChan) : (v.setRing c x).ring c = x :=
  table_get_set_same ringDef v.rings c x

@[simp] theorem reg_setReg_same (v : Mover) (j : Nat) (x : RegChan) : (v.setReg j x).reg j = x :=
  table_get_set_same regDef v.regs j x

@[simp] theorem fifo_setFifo_same (b : Block) (f : Nat) (x : Fifo) : (b.setFifo f x).fifo f = x :=
  table_get_set_same fifoDef b.fifos f x

theorem fifo_setFifo_ne (b : Block) {f g : Nat} (x : Fifo) (h : g ≠ f) : (b.setFifo f x).fifo g = b.fifo g :=
  table_get_set_ne fifoDef b.fifos f g x h

@[simp] theorem mover_modMover_same (s : State) (blk m : Nat) (g : Mover → Mover) :
    ((s.modMover blk m g).block blk).mover m = g ((s.block blk).mover m) := by
  rw [State.modMover, State.block_modBlock_same, mover_setMover_same]

@[simp] theorem mover_modRingCh_same (s : State) (blk m c : Nat) (g : RingChan → RingChan) :
    ((s.modRingCh blk m c g).block blk).mover m = ((s.block blk).mover m).setRing c (g (s.ringCh blk m c)) :=
  mover_modMover_same s blk m _

@[simp] theorem ringCh_modMover_same (s : State) (blk m c : Nat) (g : Mover → Mover) :
    (s.modMover blk m g).ringCh blk m c = (g ((s.block blk).mover m)).ring c :=
  congrArg (Mover.ring · c) (mover_modMover_same s blk m g)

@[simp] theorem ringCh_modRingCh_same (s : State) (blk m c : Nat) (g : RingChan → RingChan) :
    (s.modRingCh blk m c g).ringCh blk m c = g (s.ringCh blk m c) :=
  (ringCh_modMover_same s blk m c _).trans (ring_setRing_same _ c _)

@[simp] theorem regCh_modMover_same (s : State) (blk m j : Nat) (g : Mover → Mover) :
    (s.modMover blk m g).regCh blk m j = (g ((s.block blk).mover m)).reg j :=
  congrArg (Mover.reg · j) (mover_modMover_same s blk m g)

@[simp] theorem regCh_modRegCh_same (s : State) (blk m j : Nat) (g : RegChan → RegChan) :
    (s.modRegCh blk m j g).regCh blk m j = g (s.regCh blk m j) :=
  (regCh_modMover_same s blk m j _).trans (reg_setReg_same _ j _)

/-- A mover's channels and what it runs are no part of block SRAM: the slots of the rings keep what they hold (R301). -/
@[simp] theorem desc_modMover (s : State) (blk m : Nat) (g : Mover → Mover) (c k : Nat) :
    (s.modMover blk m g).desc blk m c k = s.desc blk m c k := by
  simp only [State.desc, State.modMover, State.block_modBlock_same, Block.setMover]

@[simp] theorem blockBad_modMover (s : State) (blk m : Nat) (g : Mover → Mover) (a n : Nat) :
    (s.modMover blk m g).blockBad blk a n = s.blockBad blk a n := by
  simp only [State.blockBad, State.modMover, State.block_modBlock_same, Block.setMover]

/-- Items that go into the sequencer's control FIFO change no mover (R329). -/
@[simp] theorem drainEv_mover (n : Nat) (b : Block) (m : Nat) : (b.drainEv n).mover m = b.mover m := by
  induction n generalizing b with
  | zero => rfl
  | succ n ih =>
    unfold Block.drainEv
    split
    · rfl
    · dsimp only
      split
      · rfl
      · exact ih _

@[simp] theorem tellSeq_mover (s : State) (blk who : Nat) (names : List Nat) (ctx : Option Nat) (m : Nat) :
    ((s.tellSeq blk who names ctx).block blk).mover m = (s.block blk).mover m := by
  simp only [State.tellSeq, State.block_modBlock_same, drainEv_mover]
  rfl

/-- Nothing but the blocks, and the free values drawn, differs from `s` to `t`. -/
def OnlyBlocks (s t : State) : Prop := t = { s with blocks := t.blocks, free := t.free }

theorem OnlyBlocks.trans {s t u : State} (h : OnlyBlocks s t) (k : OnlyBlocks t u) : OnlyBlocks s u :=
  Eq.trans k (by rw [h])

theorem onlyBlocks_modBlock (s : State) (blk : Nat) (g : Block → Block) : OnlyBlocks s (s.modBlock blk g) := rfl

/-- A notice to the sequencer changes its block, and draws a free value (R306, log 64). -/
theorem onlyBlocks_tellSeq (s : State) (blk who : Nat) (names : List Nat) (ctx : Option Nat) :
    OnlyBlocks s (s.tellSeq blk who names ctx) := rfl

/-- A change of a FIFO for whose sequencer nothing waits is that change alone (R329). -/
theorem block_modFifo_of_none_waits {s : State} {blk f : Nat} (h : f ≠ toSeq ∨ (s.block blk).evWait = []) (g : Fifo → Fifo) :
    (s.modFifo blk f g).block blk = (s.block blk).setFifo f (g ((s.block blk).fifo f)) := by
  rw [State.modFifo, State.block_modBlock_same]
  rcases h with other | none
  · exact if_neg other
  · simp only [Block.setFifo, none, List.length_nil, Block.drainEv, ite_self]

theorem modFifo_of_none_waits {s : State} {blk f : Nat} (h : f ≠ toSeq ∨ (s.block blk).evWait = []) (g : Fifo → Fifo) :
    let t := s.modFifo blk f g
    (t.block blk).fifo f = g ((s.block blk).fifo f) ∧ (∀ k, k ≠ f → (t.block blk).fifo k = (s.block blk).fifo k) ∧
    t = { s with blocks := t.blocks } := by
  dsimp only
  rw [block_modFifo_of_none_waits h]
  exact ⟨fifo_setFifo_same _ f _, fun k other => fifo_setFifo_ne _ _ other, rfl⟩

end Sys2Proof.Laws
end

section
/-! PROOFS. The running descriptor of a ring channel: a failed check, data between memories, data of a stream, and BIND (10 R303, R304,
R313, R314, R316, R318, R320). -/

namespace Sys2Proof.Laws
open Sys2Proof Sys2Proof.Machine

/-! ### The row of a data kind -/

/-- A descriptor that has failed a check waits for no read-back (R322). -/
theorem descEnds_unchecked (s : State) (blk m c reason residual : Nat) (bar : Bool) (place : Nat × W64) (w : Wr) :
    s.descEnds blk m c reason residual bar false place w = s.unitOver blk m c reason residual place w := rfl

section
variable {blk m c : Nat} {d : Desc} {s : State} (hrun : s.runningDesc blk m c = some d)
include hrun

theorem runRing_of_check {q : Nat} (hq : d.check (s.ringCh blk m c) = some q) (lim : Nat) :
    s.runRing blk m c lim none {} = s.unitOver blk m c q d.count (0, 0) {} := by
  simp only [State.runRing, hrun, hq, Option.getD_none, descEnds_unchecked]

/-- Between memories all data move, up to the first failure, and the descriptor ends (R311, R312). -/
theorem runRing_of_memory (hq : d.check (s.ringCh blk m c) = none) (hss : d.ss ≠ 3) (hds : d.ds ≠ 3) (lim : Nat) :
    let x := s.ringCh blk m c
    let r := s.runDesc d (.mem x.who d.ss) (.mem x.who d.ds) lim
    let t := r.2.modRingCh blk m c fun x => x.wrote d (max r.1.units 1)
    s.runRing blk m c lim none {} = t.descEnds blk m c r.1.reason (d.residual r.1) d.bar true (t.failPlace x d r.1) {} := by
  simp only [State.runRing, hrun, hq, hss, hds, decide_false, Bool.or_self, Bool.false_eq_true, if_false, Option.getD_none]

/-- With a STREAM side what the stream gives or takes moves, and the descriptor goes on until all has moved (R303, R329). -/
theorem runRing_of_stream (hq : d.check (s.ringCh blk m c) = none) (hst : d.ss = 3 ∨ d.ds = 3) {k : Nat}
    {f : Option (AccFail × Bool × Nat × Nat)} {t : State} (hstep : s.streamStep blk (s.ringCh blk m c) d = some (k, f, t)) (lim : Nat) :
    let x := s.ringCh blk m c
    let u := t.modRingCh blk m c fun x => ({ x with off := x.off + k } : RingChan).wrote d k
    let r : Run := { units := x.off + k, fail := f }
    s.runRing blk m c lim none {} = if f.isSome ∨ x.off + k = d.count then
      u.descEnds blk m c r.reason (d.residual r) d.bar true (u.failPlace x d r) {} else u := by
  have stream : (decide (d.ss = 3) || decide (d.ds = 3)) = true := by simpa using hst
  simp only [State.runRing, hrun, hq, stream, if_true, Option.isSome_none, Bool.false_eq_true, if_false, hstep, Option.getD_none,
    Bool.or_false, Bool.or_eq_true, decide_eq_true_eq]

variable (hgo : s.moverGoes blk m = true)
include hgo

/-- A descriptor that has failed a check waits for nothing. -/
theorem ringRow_of_check {q : Nat} (hq : d.check (s.ringCh blk m c) = some q) :
    s.ringRow blk m c d.kind = .next (s.unitOver blk m c q d.count (0, 0) {}) := by
  simp only [State.ringRow, hrun, hgo, hq, Option.isNone_some, Bool.false_and, Bool.not_false, decide_true, Bool.and_self, whenB_true,
    runRing_of_check hrun hq]

theorem ringRow_of_memory (hq : d.check (s.ringCh blk m c) = none) (hfn : (s.fn (s.ringCh blk m c).fn).stopped = false) (hss : d.ss ≠ 3)
    (hds : d.ds ≠ 3) : s.ringRow blk m c d.kind = .next (s.runRing blk m c (d.count / d.unit) none {}) := by
  simp [State.ringRow, State.hostWaits, hrun, hgo, hq, hfn, hss, hds]

theorem ringRow_of_stream (hq : d.check (s.ringCh blk m c) = none) (hfn : (s.fn (s.ringCh blk m c).fn).stopped = false)
    (hstep : (s.streamStep blk (s.ringCh blk m c) d).isSome = true) :
    s.ringRow blk m c d.kind = .next (s.runRing blk m c (d.count / d.unit) none {}) := by
  have gives : (s.streamStep blk (s.ringCh blk m c) d).isNone = false := by simpa using hstep
  simp [State.ringRow, State.hostWaits, hrun, hgo, hq, hfn, gives]

end

/-- The rows of the data kinds, each with its kind (R303, R316, R318). -/
def dataRows (blk m c : Nat) : List (Instr × Nat) :=
  [(.copy blk m c, 0), (.deal blk m c, 1), (.merge blk m c, 2), (.planes blk m c, 3), (.unplanes blk m c, 4), (.descFill blk m c, 5),
   (.descRead blk m c, 6)]

theorem exec_of_mem_dataRows (blk m c : Nat) (s : State) : ∀ i ∈ dataRows blk m c, exec i.1 s = s.ringRow blk m c i.2 := by
  simp only [dataRows, List.forall_mem_cons]
  exact ⟨rfl, rfl, rfl, rfl, rfl, rfl, rfl, List.forall_mem_nil _⟩

/-! ### A COPY inside block SRAM -/

/-- Bytes of block SRAM without an uncorrectable error read as they stand (13 R381). -/
theorem endRead_sram {s : State} {blk a n : Nat} (good : s.blockBad blk a n = none) (fits : a + n ≤ 0x200000) :
    s.endRead (.block blk) a n = ((List.range n).map fun i => (s.block blk).sram.read (a + i), none) := by
  simp only [State.endRead, good, Option.map_none, Prod.mk.injEq, and_true]
  refine List.map_congr_left fun i hi => ?_
  exact if_pos (by rw [List.mem_range] at hi; omega)

/-- The source is read before the destination is written, so that the destination ends with the source's original contents (R320). -/
theorem copyBytes_sram {s : State} {blk sa da n : Nat} (good : s.blockBad blk sa n = none) (hs : sa + n ≤ 0x200000)
    (hd : da + n ≤ 0x200000) (hn : n ≠ 0) (down : Bool) :
    (s.copyBytes (.block blk) (.block blk) sa da n n down).2 =
      s.modBlock blk fun x => x.sramPut da ((List.range n).map fun i => (s.block blk).sram.read (sa + i)) := by
  have all : ((List.range n).map fun i => (s.block blk).sram.read (sa + i)).length = n := by simp
  simp only [State.copyBytes, endRead_sram good hs, State.endFail, all, Nat.min_self, Option.isSome_none, Bool.and_false, Bool.false_eq_true,
    if_false, hn, Nat.lt_irrefl, State.endPut, List.take_of_length_le (Nat.le_of_eq all), State.blockPuts, hd, if_true]

theorem copy_inside_sram {s : State} {blk sa da n i : Nat} (good : s.blockBad blk sa n = none) (hs : sa + n ≤ 0x200000)
    (hd : da + n ≤ 0x200000) (hi : i < n) (down : Bool) :
    ((s.copyBytes (.block blk) (.block blk) sa da n n down).2.block blk).sram.read (da + i) = (s.block blk).sram.read (sa + i) := by
  rw [copyBytes_sram good hs hd (by omega) down, State.block_modBlock_same]
  exact mem_read_writeN_inside _ da _ i _ (by simp [hi])

/-! ### BIND -/

/-- A ring bound as the bytes of a BIND descriptor say (R304, Table 10.3). -/
def boundBy (b : List Byte) (x : RingChan) : RingChan :=
  { x with bound := true, ctx := field b 4 4 % 0x100000, fn := byteAt b 8, bib := b.getD 9 0, key := byteAt b 10 % 16,
           sup := bit (byteAt b 11) 0, epoch := BitVec.ofNat 32 (field b 12 4), lslot := field b 16 2 % 1024 }

theorem noticeSq_ringCh (s : State) (blk m c k reason : Nat) : (s.noticeSq blk m c k reason).ringCh blk m c = s.ringCh blk m c :=
  congrArg (Mover.ring · c) (tellSeq_mover ..)

/-- The ending byte of a slot lies in block SRAM, and changes no channel (R306). -/
theorem ringCh_writeSram (s : State) (blk a : Nat) (v : Byte) (m c : Nat) :
    (s.modBlock blk fun b => { b with sram := b.sram.write a v }).ringCh blk m c = s.ringCh blk m c := by
  rw [State.ringCh, State.block_modBlock_same]
  rfl

/-- A descriptor that ends without an error writes its slot and tells the sequencer: of its channel only FETCH, the slots passed and what a
chain asks for change, and nothing beyond its block but the free values drawn (R306, log 64). -/
theorem endSlot_good (s : State) (blk m c k res : Nat) (place : Nat × W64) :
    (∃ next done prev, (s.endSlot blk m c k 0 res true place).ringCh blk m c =
      { s.ringCh blk m c with next := next, done := done, prevBad := prev }) ∧
    OnlyBlocks s (s.endSlot blk m c k 0 res true place) := by
  simp only [State.endSlot, ne_eq, not_true, decide_false, Bool.false_eq_true, if_false, Bool.or_true, if_true]
  constructor
  · rw [noticeSq_ringCh, ringCh_modRingCh_same, ringCh_writeSram]
    exact ⟨_, _, _, rfl⟩
  · exact (onlyBlocks_modBlock s blk _).trans ((onlyBlocks_modBlock _ blk _).trans (onlyBlocks_tellSeq ..))

section
variable {blk m c : Nat} {d : Desc} {s : State} (hrun : s.runningDesc blk m c = some d) (hgo : s.moverGoes blk m = true)
  (hkind : d.kind = 0xF)
include hrun hgo hkind

theorem exec_bindChan_good {k : Nat} (hk : (s.ringCh blk m c).running = some k) (hok : d.bindOk = true) :
    exec (.bindChan blk m c) s = .next
      ((((s.modRingCh blk m c (boundBy d.bytes)).endSlot blk m c k 0 0 true (0, 0)).modRingCh blk m c
        fun x => { x with running := none }).modMover blk m fun v => { v with unit := none }) := by
  change execBindChan blk m c s = _
  have running : execBindChan.x_running (s.modRingCh blk m c (boundBy d.bytes)) blk m c = some k := by
    rw [execBindChan.x_running, ringCh_modRingCh_same]
    exact hk
  unfold boundBy at running ⊢
  simp only [execBindChan, hrun, hgo, hkind, hok, decide_true, Bool.and_self, whenB_true, if_true, running]

theorem exec_bindChan_bad (hok : d.bindOk = false) :
    exec (.bindChan blk m c) s = .next (s.unitOver blk m c 0x20 d.count (0, 0) {}) := by
  change execBindChan blk m c s = _
  simp only [execBindChan, hrun, hgo, hkind, hok, decide_true, Bool.and_self, whenB_true, Bool.false_eq_true, if_false, descEnds_unchecked]

end

theorem bit_byteAt_zero (b : List Byte) (i : Nat) : bit (byteAt b i) 0 = (b.getD i 0).getLsbD 0 := by
  rw [bit, bits, byteAt, Nat.pow_zero, Nat.div_one, Nat.pow_one, BitVec.getLsbD, Nat.testBit_zero]

/-- A BIND that is good binds the ring, and ends; the mover is free (R304). -/
theorem bindChan_binds {blk m c k : Nat} {d : Desc} {s : State} (hrun : s.runningDesc blk m c = some d) (hgo : s.moverGoes blk m = true)
    (hkind : d.kind = 0xF) (hk : (s.ringCh blk m c).running = some k) (hok : d.bindOk = true) :
    Completes (.bindChan blk m c) s fun t =>
      (∃ next done prev, t.ringCh blk m c =
        { boundBy d.bytes (s.ringCh blk m c) with next := next, done := done, prevBad := prev, running := none }) ∧
      ((t.block blk).mover m).unit = none ∧ OnlyBlocks s t := by
  obtain ⟨⟨next, done, prev, channel⟩, frame⟩ := endSlot_good (s.modRingCh blk m c (boundBy d.bytes)) blk m c k 0 (0, 0)
  refine ⟨_, exec_bindChan_good hrun hgo hkind hk hok, ⟨next, done, prev, ?_⟩, ?_,
    (onlyBlocks_modBlock s blk _).trans (frame.trans ((onlyBlocks_modBlock _ blk _).trans (onlyBlocks_modBlock _ blk _)))⟩
  · rw [ringCh_modMover_same, mover_modRingCh_same]
    change (Mover.setRing _ c _).ring c = _
    rw [ring_setRing_same, channel, ringCh_modRingCh_same]
  · rw [mover_modMover_same]

end Sys2Proof.Laws
end

section
/-! PROOFS. Notices, the start of a unit, and STOP, CUT and ABORT of a ring channel (10 R305, R307, R309, R310). -/

namespace Sys2Proof.Laws
open Sys2Proof Sys2Proof.Machine

/-- The oldest notice is used up: it names a slot that is not posted, a control descriptor that is now read, or a data descriptor
(R305, log 73). -/
theorem exec_descriptorNotice {blk m c slot : Nat} {n : List Byte} {s : State} (hgo : s.moverGoes blk m = true)
    (hn : (((s.block blk).fifo (toMover m)).takeItem).1 = some n) (hc : byteAt n 10 % 8 = c) (hslot : byteAt n 11 % 64 = slot) :
    let d := s.desc blk m c slot
    let s1 := s.modFifo blk (toMover m) fun x => x.takeItem.2
    exec (.descriptorNotice blk m c slot) s = .next (
      if d.own = false then s1.cellError blk (1 + m) { code := .access, source := c }
      else if d.isControl then s1.modRingCh blk m c fun x => { x with control := x.control ++ [slot] } else s1) := by
  change execDescriptorNotice blk m c slot s = _
  simp only [execDescriptorNotice, hn, hgo, hc, hslot, decide_true, Bool.and_self, whenB_true, Bool.not_eq_true']

/-! ### The start of a unit -/

/-- The mover serves register channel `k`, whose unit runs (R307). -/
def serveReg (s : State) (blk m k : Nat) : State :=
  (s.modMover blk m fun v => { v with unit := some (.reg blk m k), lastReg := k, lastWasReg := true }).modRegCh blk m k
    fun x => { x with running := true, ready := false, ended := none }

/-- The mover serves ring channel `k`, which runs the descriptor at FETCH (R307). -/
def serveRing (s : State) (blk m k : Nat) : State :=
  (s.modMover blk m fun v => { v with unit := some (.ring blk m k), lastRing := k, lastWasReg := false }).modRingCh blk m k
    fun x => { x with running := some x.next, off := 0, ended := none }

theorem exec_moverUnitStart {blk m k : Nat} {reg : Bool} {s : State} (hnext : s.nextUnit blk m = some (reg, k))
    (hgo : s.moverGoes blk m = true) (hfree : ((s.block blk).mover m).unit = none) (hisl : s.islandGated blk (1 + m) = false) :
    exec (.moverUnitStart blk m) s =
      .next (if reg then serveReg s blk m k else (serveRing s blk m k).refuseKind blk m k) := by
  change execMoverUnitStart blk m s = _
  simp only [execMoverUnitStart, hnext, hgo, hfree, hisl, Option.isNone_none, Bool.not_false, Bool.and_self, whenB_true]
  rfl

theorem serveReg_channel (s : State) (blk m k : Nat) :
    let t := serveReg s blk m k
    ((t.block blk).mover m).unit = some (.reg blk m k) ∧ (t.regCh blk m k).running = true ∧ (t.regCh blk m k).ready = false ∧
    t = { s with blocks := t.blocks } := by
  simp only [serveReg, regCh_modRegCh_same]
  refine ⟨?_, trivial, trivial, rfl⟩
  rw [State.modRegCh, mover_modMover_same, mover_modMover_same]
  rfl

theorem serveRing_ringCh (s : State) (blk m k : Nat) : (serveRing s blk m k).ringCh blk m k =
    { s.ringCh blk m k with running := some (s.ringCh blk m k).next, off := 0, ended := none } := by
  rw [serveRing, ringCh_modRingCh_same, ringCh_modMover_same]
  rfl

theorem serveRing_unit (s : State) (blk m k : Nat) :
    (((serveRing s blk m k).block blk).mover m).unit = some (.ring blk m k) := by
  rw [serveRing, mover_modRingCh_same, mover_modMover_same]
  rfl

@[simp] theorem serveRing_desc (s : State) (blk m k c j : Nat) : (serveRing s blk m k).desc blk m c j = s.desc blk m c j :=
  (desc_modMover _ blk m _ c j).trans (desc_modMover s blk m _ c j)

@[simp] theorem serveRing_blockBad (s : State) (blk m k a n : Nat) : (serveRing s blk m k).blockBad blk a n = s.blockBad blk a n :=
  (blockBad_modMover _ blk m _ a n).trans (blockBad_modMover s blk m _ a n)

/-- The descriptor at FETCH runs. -/
theorem serveRing_runningDesc (s : State) (blk m k : Nat) :
    (serveRing s blk m k).runningDesc blk m k = some (s.desc blk m k (s.ringCh blk m k).next) := by
  simp [State.runningDesc, serveRing_ringCh, serveRing_unit]

/-- No check asks what a channel runs. -/
theorem serveRing_check (s : State) (blk m k : Nat) (d : Desc) :
    d.check ((serveRing s blk m k).ringCh blk m k) = d.check (s.ringCh blk m k) := by
  rw [serveRing_ringCh]
  rfl

/-- A reserved XFORM breaks check 2 of R314, when no check before it fails. -/
theorem check_isSome_of_reserved {d : Desc} (h : 7 ≤ d.kind) (x : RingChan) : ∃ q, d.check x = some q := by
  have broken : d.formatOk = false := by simp [Desc.formatOk, show ¬d.kind ≤ 6 by omega]
  rw [← Option.isSome_iff_exists, Desc.check, broken]
  split
  · rfl
  · split <;> rfl

section
variable (s : State) (blk m k : Nat)

/-- A descriptor whose slot cannot be read ends with REASON 5 (13 R381). -/
theorem refuseKind_of_bad (h : s.blockBad blk (slotAddr m k (s.ringCh blk m k).next) 32 ≠ none) :
    (serveRing s blk m k).refuseKind blk m k =
      (serveRing s blk m k).unitOver blk m k 5 (s.desc blk m k (s.ringCh blk m k).next).count (0, 0) {} := by
  have bad : (s.blockBad blk (slotAddr m k (s.ringCh blk m k).next) 32).isSome = true := Option.isSome_iff_ne_none.mpr h
  simp only [State.refuseKind, serveRing_runningDesc, serveRing_blockBad]
  rw [serveRing_ringCh]
  simp only [Option.getD_some, bad, if_true, descEnds_unchecked]

variable (hgood : s.blockBad blk (slotAddr m k (s.ringCh blk m k).next) 32 = none)
include hgood

theorem refuseKind_of_kind (h : (s.desc blk m k (s.ringCh blk m k).next).kind < 7 ∨ 0xB < (s.desc blk m k (s.ringCh blk m k).next).kind) :
    (serveRing s blk m k).refuseKind blk m k = serveRing s blk m k := by
  simp only [State.refuseKind, serveRing_runningDesc, serveRing_blockBad]
  rw [serveRing_ringCh]
  simp only [Option.getD_some, hgood, Option.isSome_none, Bool.false_eq_true, if_false]
  exact if_neg (by omega)

theorem refuseKind_of_reserved {q : Nat} (low : 7 ≤ (s.desc blk m k (s.ringCh blk m k).next).kind)
    (high : (s.desc blk m k (s.ringCh blk m k).next).kind ≤ 0xB)
    (hq : (s.desc blk m k (s.ringCh blk m k).next).check (s.ringCh blk m k) = some q) :
    (serveRing s blk m k).refuseKind blk m k =
      (serveRing s blk m k).unitOver blk m k q (s.desc blk m k (s.ringCh blk m k).next).count (0, 0) {} := by
  simp only [State.refuseKind, serveRing_runningDesc, serveRing_blockBad, serveRing_check, hq]
  rw [serveRing_ringCh]
  simp only [Option.getD_some, hgood, Option.isSome_none, Bool.false_eq_true, if_false, low, high, and_self, if_true, descEnds_unchecked]

end

/-! ### STOP, CUT and ABORT -/

section
variable {blk m c slot : Nat} {s : State}

theorem exec_stopChan (hread : s.controlRead blk m c slot 0xE = true) (hrun : (s.ringCh blk m c).running = none) :
    exec (.stopChan blk m c slot) s = .next (s.stopBefore blk m c slot) := by
  change execStopChan blk m c slot s = _
  simp only [execStopChan, hread, hrun, Option.isNone_none, Bool.and_self, whenB_true]

theorem exec_cutChan (hread : s.controlRead blk m c slot 0xC = true) (hcut : (s.ringCh blk m c).cutBy = none) :
    exec (.cutChan blk m c slot) s =
      .next (if (s.ringCh blk m c).running = none then s.stopBefore blk m c slot else s.cutRunning blk m c slot 0x24) := by
  change execCutChan blk m c slot s = _
  simp only [execCutChan, hread, hcut, Option.isNone_none, Bool.and_self, whenB_true, Option.isNone_iff_eq_none]

/-- The reads that an ABORT abandons are counted by a free value (R310, log 7). -/
theorem exec_abortChan (hread : s.controlRead blk m c slot 0xD = true) (hcut : (s.ringCh blk m c).cutBy = none) :
    exec (.abortChan blk m c slot) s = .next (
      if (s.ringCh blk m c).running = none then s.stopBefore blk m c slot
      else if (s.ringCh blk m c).ended ≠ none then s.cutRunning blk m c slot 0x25
      else (s.drawWord.2.modRingCh blk m c fun x =>
        { x with lost := x.lost ++ List.replicate (s.drawWord.1.toNat % 65) x.bib }).cutRunning blk m c slot 0x25) := by
  change execAbortChan blk m c slot s = _
  simp only [execAbortChan, hread, hcut, Option.isNone_none, Bool.and_self, whenB_true, Option.isNone_iff_eq_none,
    Option.isSome_iff_ne_none]

end

/-! ### The statement -/

/-- Settles O48: each clause is the lemma about its row, and a good BIND is `bindChan_binds`. -/
theorem ringChannels : Obligations.RingChannels := by
  refine ⟨?data, fun s blk sa da n i down _ good hs hd hi => copy_inside_sram good hs hd hi down, ?bind,
    fun blk m c slot n s => exec_descriptorNotice, ?start, ?control⟩
  case data =>
    intro blk m c d s x i hi hrun hgo hkind
    rw [exec_of_mem_dataRows blk m c s i hi, ← hkind]
    refine ⟨fun q hq => ringRow_of_check hrun hgo hq, fun hq hfn hss hds => ?memory, fun k f t hq hfn hst hstep => ?stream⟩
    case memory => rw [ringRow_of_memory hrun hgo hq hfn hss hds, runRing_of_memory hrun hq hss hds]
    case stream =>
      rw [ringRow_of_stream hrun hgo hq hfn (by rw [hstep]; rfl), runRing_of_stream hrun hq hst hstep]
  case bind =>
    intro blk m c k d s hrun hk hgo hkind
    refine ⟨fun hok => ?good, exec_bindChan_bad hrun hgo hkind⟩
    case good =>
      obtain ⟨t, step, ⟨next, done, prev, channel⟩, free, frame⟩ := bindChan_binds hrun hgo hkind hk hok
      refine ⟨t, step, ?_⟩
      dsimp only
      rw [channel, ← bit_byteAt_zero]
      exact ⟨rfl, rfl, rfl, rfl, rfl, rfl, rfl, rfl, rfl, free, frame⟩
  case start =>
    intro blk m k reg s x d bad hnext hgo hfree hisl
    have step := exec_moverUnitStart hnext hgo hfree hisl
    refine ⟨fun hreg => ?register, fun hreg => ?ring⟩
    case register =>
      rw [hreg, if_pos rfl] at step
      exact ⟨_, step, serveReg_channel s blk m k⟩
    case ring =>
      rw [hreg, if_neg Bool.false_ne_true] at step
      refine ⟨serveRing s blk m k, ⟨serveRing_unit s blk m k, ?_, ?_, rfl⟩, fun good kinds => ?runs, fun slotBad => ?unreadable,
        fun good low high => ?reserved⟩
      · rw [serveRing_ringCh]
      · rw [serveRing_ringCh]
      case runs => rw [step, refuseKind_of_kind s blk m k good kinds]
      case unreadable => rw [step, refuseKind_of_bad s blk m k slotBad]
      case reserved =>
        obtain ⟨q, hq⟩ := check_isSome_of_reserved low x
        exact ⟨q, hq, by rw [step, refuseKind_of_reserved s blk m k good low high hq]⟩
  case control =>
    intro blk m c slot s x
    refine ⟨exec_stopChan, exec_cutChan, fun hread hcut => ?abort⟩
    case abort =>
      have step := exec_abortChan hread hcut
      refine ⟨fun idle => ?_, fun busy hended => ?_, fun busy runs => ?_⟩
      · rw [step, if_pos idle]
      · rw [step, if_neg busy, if_pos hended]
      · rw [if_neg busy, if_neg (not_not_intro runs)] at step
        exact ⟨_, step, _, _, Nat.le_of_lt_succ (Nat.mod_lt _ (by decide)), rfl, rfl⟩

end Sys2Proof.Laws
end

section
/-! PROOFS. Register channels: START, STOP, the end of a transfer, and reads of RCH_STAT (10 R323 to R327). -/

namespace Sys2Proof.Laws
open Sys2Proof Sys2Proof.Machine

section
variable {blk m j : Nat} {s : State} (hup : s.moverUp blk m = true)
include hup

/-- START on a free channel with a good RC_CTRL: a transfer that breaks a check ends with FORMAT, any other runs at once or when its trigger
comes (R323, R324). -/
theorem exec_rcStart {v : W64} (hj : j < 2) (hstart : v.getLsbD 63 = true) (hbusy : (s.regCh blk m j).busy = false)
    (hlodge : (s.regCh blk m j).lodge = false) (hctrl : rcCtrlBad v = false) :
    let x := s.regCh blk m j
    let y := { x with ctrl := v &&& rcCtrlMask, busy := true, done := false, bad := false, reason := 0, residual := 0, moved := 0,
                      fails := [] }
    let s1 := s.stir.modRegCh blk m j fun _ => y
    exec (.rcStart blk m j v) s = .next (
      if y.formatOk = false then s1.rcEnd blk m j 0x20 x.count true
      else s1.modRegCh blk m j fun y => if y.trig = 0 then { y with ready := true } else { y with armed := decide (y.trig = 1) }) := by
  change execRcStart blk m j v s = _
  simp only [execRcStart, hup, hj, hstart, hbusy, hlodge, hctrl, decide_true, Bool.and_self, whenB_true, Bool.or_self, Bool.false_eq_true,
    if_false, Bool.not_eq_true']

theorem exec_rcStart_refused {v : W64} (hj : j < 2) (hstart : v.getLsbD 63 = true)
    (hbad : (s.regCh blk m j).busy = true ∨ (s.regCh blk m j).lodge = true ∨ rcCtrlBad v = true) :
    exec (.rcStart blk m j v) s = .next (s.rcRefuse blk m j) := by
  have refused : ((s.regCh blk m j).busy || (s.regCh blk m j).lodge || rcCtrlBad v) = true := by simpa [or_assoc] using hbad
  change execRcStart blk m j v s = _
  simp only [execRcStart, hup, hj, hstart, refused, decide_true, Bool.and_self, whenB_true, if_true]

theorem exec_rcStop (hj : j < 2) : let x := s.regCh blk m j
    exec (.rcStop blk m j) s = .next (
      if x.busy = false then s
      else if x.running = false ∧ x.ready = false then s.rcEnd blk m j 0x23 (x.resid (x.count - x.moved)) false
      else s.modRegCh blk m j fun x => { x with stop := true }) := by
  change execRcStop blk m j s = _
  simp only [execRcStop, hup, hj, decide_true, Bool.and_self, whenB_true, Bool.not_eq_true', Bool.and_eq_true]

variable (hrun : (s.regCh blk m j).running = true) (hwait : s.rcWaits (s.regCh blk m j) = false)
include hrun hwait

/-- The data of the unit have moved, and its read-back, if any, is over. -/
theorem exec_rcTransferEnd_ended {reason res : Nat} (hend : (s.regCh blk m j).ended = some (reason, res))
    (hdirty : (s.regCh blk m j).dirty = []) :
    exec (.rcTransferEnd blk m j none) s = .next (s.rcUnitOver blk m j none) := by
  change execRcTransferEnd blk m j none s = _
  simp only [execRcTransferEnd, hup, hrun, hwait, hend, hdirty, Option.isSome_some, List.isEmpty_nil, Bool.and_self, Bool.or_true,
    Option.isNone_none, Bool.true_or, Bool.not_false, whenB_true, if_true]

/-- Without BAR a unit needs no read-back: its data move, and it is over (R324). -/
theorem exec_rcTransferEnd_moves (hend : (s.regCh blk m j).ended = none) (hbar : (s.regCh blk m j).bar = false) :
    exec (.rcTransferEnd blk m j none) s = .next ((s.rcMoved blk m j).rcUnitOver blk m j none) := by
  change execRcTransferEnd blk m j none s = _
  simp only [execRcTransferEnd, hup, hrun, hwait, hend, hbar, Option.isSome_none, Bool.not_false, Bool.true_or, Bool.and_self,
    Option.isNone_none, whenB_true, Bool.false_eq_true, if_false]

end

/-- The end of a unit that no failed write reports: the transfer ends, or waits for the next firing of a PACE (R324, R325). -/
theorem rcUnitOver_of_ended {blk m j reason res : Nat} {s : State} (hend : (s.regCh blk m j).ended = some (reason, res)) :
    let x := s.regCh blk m j
    s.rcUnitOver blk m j none =
      if reason ≠ 0 then s.rcEnd blk m j reason res true
      else if res = 0 then s.rcEnd blk m j 0 0 true
      else if x.stop then s.rcEnd blk m j 0x23 (x.resid res) false
      else (s.modRegCh blk m j fun y => { y with moved := x.count - res, running := false, ended := none }).modMover blk m
        fun v => { v with unit := none } := by
  simp only [State.rcUnitOver, hend, Option.isSome_none, Bool.false_eq_true, if_false]

theorem exec_rchStatRead {blk m c : Nat} {s : State} (hup : s.up = true) (hblk : blk < 72) (hm : m < 8) (hc : c < 8) :
    exec (.rchStatRead blk m c) s =
      .next ((s.emit (.value (s.ringCh blk m c).stat)).modRingCh blk m c fun x => { x with abandoned := 0 }) := by
  change execRchStatRead blk m c s = _
  simp only [execRchStatRead, hup, hblk, hm, hc, decide_true, Bool.and_self, whenB_true]

end Sys2Proof.Laws
end

section
/-! PROOFS. Read responses, read-backs, and acknowledged LOCAL writes (10 R310, R311, R321, 05 R175). -/

namespace Sys2Proof.Laws
open Sys2Proof Sys2Proof.Machine

/-! ### Responses -/

/-- A context that asks for nothing awaits no response. -/
theorem replyTo_unasked {s : State} {n : Nat} {bib : Byte} (stale live : State) (h : (s.ctx n).abandoned bib = false)
    (ha : (s.ctx n).asks = false) : s.replyTo n bib stale live = s := by
  rw [State.replyTo, h, ha]
  rfl

theorem exec_response_ctx {n : Nat} {s : State} (hup : s.up = true) (bib : Byte) (a : Nat) (r : Answer) :
    exec (.moverReadResponse (.ctx n) bib a r) s = .next (s.ctxResponse n bib a r) := by
  change execMoverReadResponse (.ctx n) bib a r s = _
  simp only [execMoverReadResponse, hup, whenB_true]

theorem exec_response_ring {b m c : Nat} {s : State} (hup : s.up = true)
    (hread : (s.ringCh b m c).running ≠ none ∨ (s.ringCh b m c).lost ≠ []) (bib : Byte) (a : Nat) (r : Answer) :
    exec (.moverReadResponse (.ring b m c) bib a r) s = .next (s.ringResponse b m c bib a r) := by
  have outstanding : ((s.ringCh b m c).running.isSome || !(s.ringCh b m c).lost.isEmpty) = true := by
    simpa [Option.isSome_iff_ne_none] using hread
  change execMoverReadResponse (.ring b m c) bib a r s = _
  simp only [execMoverReadResponse, hup, outstanding, Bool.and_self, whenB_true]

theorem exec_response_reg {b m j : Nat} {s : State} (hup : s.up = true) (hrun : (s.regCh b m j).running = true) (bib : Byte) (a : Nat)
    (r : Answer) : exec (.moverReadResponse (.reg b m j) bib a r) s = .next (s.regResponse b m j a r) := by
  change execMoverReadResponse (.reg b m j) bib a r s = _
  simp only [execMoverReadResponse, hup, hrun, Bool.and_self, whenB_true]

section
variable {b m c : Nat} {bib : Byte} {s : State}

/-- A response with the bib of abandoned reads that no read of the running descriptor carries answers one of them (R310). -/
theorem ringResponse_of_lost (hlost : (s.ringCh b m c).lost.contains bib = true)
    (hother : (s.ringCh b m c).running = none ∨ bib ≠ (s.ringCh b m c).bib) (a : Nat) (r : Answer) :
    s.ringResponse b m c bib a r = s.modRingCh b m c fun x =>
      { x with lost := x.lost.erase bib, abandoned := satInc x.abandoned 0xFFFF } := by
  have dead (q : Bool) : ((s.ringCh b m c).running.isSome && (s.ringCh b m c).ended.isNone && decide (bib = (s.ringCh b m c).bib) && q) =
      false := by
    rcases hother with idle | changed
    · rw [idle]
      rfl
    · rw [decide_eq_false changed, Bool.and_false, Bool.false_and]
  simp only [State.ringResponse, dead, hlost, Bool.false_and, Bool.false_eq_true, if_false, Bool.not_false, Bool.true_or, Bool.and_self,
    if_true]

/-- Any other with a bib that is not the binding's is stale (05 R175). -/
theorem ringResponse_of_stale (hlost : (s.ringCh b m c).lost.contains bib = false) (hbound : (s.ringCh b m c).bound = true)
    (hbib : bib ≠ (s.ringCh b m c).bib) (a : Nat) (r : Answer) :
    s.ringResponse b m c bib a r = s.staleResponse (s.ringCh b m c).ctx bib := by
  simp only [State.ringResponse, hlost, hbound, hbib, Bool.and_false, Bool.false_and, Bool.false_eq_true, if_false, ne_eq,
    not_false_eq_true, decide_true, Bool.and_self, if_true]

end

/-! ### Read-backs -/

theorem exec_readBack_ctx {n : Nat} {s : State} (w : Wr) (hup : s.up = true) (hread : readable (s.ctx n).dirty = true)
    (hgo : (s.ctx n).r.supervisor = true ∨ s.hostWaits (s.ctx n).r.ownerFn.toNat ((s.ctx n).dirty.contains 0) = false) :
    exec (.readBackComplete (.ctx n) none w) s = .next (s.ctxArrived n w) ∧
    ∀ f, exec (.readBackComplete (.ctx n) (some f) w) s = .next (s.ctxReadBackFails n f w) := by
  have goes : ((s.ctx n).r.supervisor || !s.hostWaits (s.ctx n).r.ownerFn.toNat ((s.ctx n).dirty.contains 0)) = true := by simpa using hgo
  refine ⟨?arrived, fun f => ?failed⟩
  case arrived =>
    change execReadBackComplete (.ctx n) none w s = _
    simp only [execReadBackComplete, hup, hread, goes, Bool.and_self, whenB_true]
  case failed =>
    change execReadBackComplete (.ctx n) (some f) w s = _
    simp only [execReadBackComplete, hup, hread, goes, Bool.and_self, whenB_true]

theorem exec_readBack_ring {b m c reason res k : Nat} {s : State} (w : Wr) (hup : s.up = true)
    (hread : readable (s.ringCh b m c).dirty = true)
    (hwait : s.hostWaits (s.ringCh b m c).fn ((s.ringCh b m c).dirty.contains 0) = false)
    (hend : (s.ringCh b m c).ended = some (reason, res)) (hrun : (s.ringCh b m c).running = some k) :
    exec (.readBackComplete (.ring b m c) none w) s =
      .next (((s.modRingCh b m c fun x => { x with dirty := [], farTags := [] }).farArrived (snapRing b m c)).unitOver b m c
        reason res (0, 0) w) := by
  change execReadBackComplete (.ring b m c) none w s = _
  simp only [execReadBackComplete, hup, hread, hwait, Bool.not_false, Bool.and_self, whenB_true, State.ringReadBack, hend, hrun]

theorem exec_readBack_reg {b m j : Nat} {s : State} (w : Wr) (hup : s.moverUp b m = true) (hrun : (s.regCh b m j).running = true)
    (hbar : (s.regCh b m j).bar = true) (hwrites : (s.regCh b m j).xform ≠ 6) (hwait : s.rcWaits (s.regCh b m j) = false)
    (hend : (s.regCh b m j).ended ≠ none) (hread : readable (s.regCh b m j).dirty = true) :
    exec (.readBackComplete (.reg b m j) none w) s = .next (s.modRegCh b m j fun y => { y with dirty := [] }) := by
  have ended : (s.regCh b m j).ended.isSome = true := Option.isSome_iff_ne_none.mpr hend
  change execReadBackComplete (.reg b m j) none w s = _
  simp only [execReadBackComplete, hup, hrun, hbar, hwrites, hwait, ended, hread, ne_eq, not_false_eq_true, decide_true, Bool.not_false,
    Bool.and_self, whenB_true, if_true]

/-! ### Acknowledged LOCAL writes -/

theorem exec_acknowledged_ctx {n : Nat} {s : State} (hup : s.up = true) (hout : (s.ctx n).dirty.contains unacked = true) :
    exec (.localWriteAcknowledged (.ctx n)) s =
      .next (s.modCtx n fun c => { c with dirty := c.dirty.filter fun k => decide (k ≠ unacked) }) := by
  change execLocalWriteAcknowledged (.ctx n) s = _
  simp only [execLocalWriteAcknowledged, hup, hout, Bool.and_self, whenB_true]

theorem exec_acknowledged_ring {b m c : Nat} {s : State} (hup : s.up = true) (hout : (s.ringCh b m c).dirty.contains unacked = true) :
    exec (.localWriteAcknowledged (.ring b m c)) s =
      .next (s.modRingCh b m c fun x => { x with dirty := x.dirty.filter fun k => decide (k ≠ unacked) }) := by
  change execLocalWriteAcknowledged (.ring b m c) s = _
  simp only [execLocalWriteAcknowledged, hup, hout, Bool.and_self, whenB_true]

/-- The writes of a unit under BAR are made as they are acknowledged (R321). -/
theorem exec_acknowledged_reg {b m j : Nat} {s : State} (hup : s.moverUp b m = true) (hrun : (s.regCh b m j).running = true)
    (hbar : (s.regCh b m j).bar = true) (hwrites : (s.regCh b m j).xform ≠ 6) (hds : (s.regCh b m j).ds = 1)
    (hend : (s.regCh b m j).ended = none) (hwait : s.rcWaits (s.regCh b m j) = false)
    (hnone : (s.regCh b m j).dirty.contains unacked = false) :
    exec (.localWriteAcknowledged (.reg b m j)) s =
      .next ((s.rcMoved b m j).modRegCh b m j fun y => { y with dirty := y.dirty.filter fun k => decide (k ≠ unacked) }) := by
  change execLocalWriteAcknowledged (.reg b m j) s = _
  simp only [execLocalWriteAcknowledged, hup, hrun, hbar, hwrites, hds, hend, hwait, hnone, ne_eq, not_false_eq_true, decide_true,
    Option.isNone_none, Bool.not_false, Bool.and_self, Bool.or_true, whenB_true, Bool.false_eq_true, if_false]

end Sys2Proof.Laws
end

section
/-! PROOFS. The FIFO hub: words that enter and leave, misuse, and the status word (10 R328 to R332). -/

namespace Sys2Proof.Laws
open Sys2Proof Sys2Proof.Machine

theorem crossed_words (x y : Fifo) : (x.crossed y).words = y.words := by
  unfold Fifo.crossed
  split <;> rfl

/-- Words written stand behind those that the FIFO holds (R329). -/
theorem write_words (x : Fifo) (ws : List (List Byte × Bool)) (ctx : Option Nat) : (x.write ws ctx).words = x.words ++ ws :=
  crossed_words x _

/-- The FIFO without its `k` oldest words, of which it has at least one (R329). -/
def dropWords (k : Nat) (x : Fifo) : Fifo :=
  { x with words := x.words.drop k, last := ((x.words[k - 1]?).map Prod.fst).getD x.last,
           ctxs := if k = x.words.length then [] else x.ctxs }

section
variable {blk f : Nat} {s : State} (hup : s.up = true) (hblk : blk < 72) (hf : f < 64)
include hup hblk hf

theorem exec_fifoItemWrite {data : List Byte} (hlen : data.length = wordLen f) (last : Bool) :
    exec (.fifoItemWrite blk f data last) s = .next (
      if ((s.block blk).fifo f).midItem then s.modFifo blk f fun x => { x with midItem := !last }
      else if ((s.block blk).fifo f).level = fifoCap f then (s.modFifo blk f fun x => { x with overrun := true }).fifoMisuse blk f
      else s.modFifo blk f fun x => x.write [(data, last)] none) := by
  change execFifoItemWrite blk f data last s = _
  simp only [execFifoItemWrite, hup, hblk, hf, hlen, decide_true, Bool.and_self, whenB_true]

theorem exec_fifoItemRead {n : Nat} (hn : 1 ≤ n) (hle : n ≤ ((s.block blk).fifo f).committed) :
    exec (.fifoItemRead blk f n) s = .next (s.modFifo blk f (dropWords n)) := by
  have some : n ≠ 0 := by omega
  change execFifoItemRead blk f n s = _
  simp only [execFifoItemRead, hup, hblk, hf, hn, Nat.min_eq_left hle, some, decide_true, Bool.and_self, whenB_true, if_false, Nat.le_refl,
    if_true]
  rfl

/-- Nothing to read: misuse (R329). -/
theorem exec_fifoItemRead_empty {n : Nat} (hn : 1 ≤ n) (hnone : ((s.block blk).fifo f).committed = 0) :
    exec (.fifoItemRead blk f n) s = .next ((s.modFifo blk f fun x => { x with underrun := true }).fifoMisuse blk f) := by
  have more : ¬n ≤ 0 := by omega
  change execFifoItemRead blk f n s = _
  simp only [execFifoItemRead, hup, hblk, hf, hn, hnone, Nat.min_zero, more, decide_true, Bool.and_self, whenB_true, if_false, if_true]

/-- A read beyond the committed words takes them, and is misuse (R329). -/
theorem exec_fifoItemRead_beyond {n : Nat} (hsome : 0 < ((s.block blk).fifo f).committed) (hmore : ((s.block blk).fifo f).committed < n) :
    exec (.fifoItemRead blk f n) s = .next (((s.modFifo blk f (dropWords ((s.block blk).fifo f).committed)).modFifo blk f
      fun x => { x with underrun := true }).fifoMisuse blk f) := by
  have hn : 1 ≤ n := by omega
  have beyond : ¬n ≤ ((s.block blk).fifo f).committed := by omega
  have some : ((s.block blk).fifo f).committed ≠ 0 := by omega
  change execFifoItemRead blk f n s = _
  simp only [execFifoItemRead, hup, hblk, hf, hn, Nat.min_eq_right (Nat.le_of_lt hmore), some, beyond, decide_true, Bool.and_self,
    whenB_true, if_false]
  rfl

theorem exec_fifoPointerMismatch (w : Wr) : exec (.fifoPointerMismatch blk f w) s = .next (s.fifoReset blk f w) := by
  change execFifoPointerMismatch blk f w s = _
  simp only [execFifoPointerMismatch, hup, hblk, hf, decide_true, Bool.and_self, whenB_true]

theorem exec_fhStatRead : exec (.fhStatRead blk f) s =
    .next ((s.emit (.value (((s.block blk).fifo f).stat f))).modFifo blk f fun x => { x with crossings := 0 }) := by
  change execFhStatRead blk f s = _
  simp only [execFhStatRead, hup, hblk, hf, decide_true, Bool.and_self, whenB_true]

end

/-! ### The statement -/

/-- Settles O49: each clause is the lemma about its event; what a FIFO holds after it is `modFifo_of_none_waits`. -/
theorem transfersResponsesAndFifos : Obligations.TransfersResponsesAndFifos := by
  refine ⟨?rcStart, fun blk m j s => exec_rcStop, ?rcEnded, fun blk m j s hup hrun hend hbar hwait =>
    exec_rcTransferEnd_moves hup hrun hwait hend hbar, fun blk m c s => exec_rchStatRead, ?ctxResponse, ?ringResponse, ?regResponse,
    fun n w s => exec_readBack_ctx w, fun b m c reason res k w s => exec_readBack_ring w, fun b m j w s => exec_readBack_reg w,
    fun n s => exec_acknowledged_ctx, fun b m c s => exec_acknowledged_ring, fun b m j s => exec_acknowledged_reg, ?write, ?read,
    fun blk f w s hup hblk hf => ⟨exec_fifoPointerMismatch hup hblk hf w, exec_fhStatRead hup hblk hf⟩⟩
  case rcStart =>
    exact fun blk m j v s hup hj hstart => ⟨exec_rcStart hup hj hstart, exec_rcStart_refused hup hj hstart⟩
  case rcEnded =>
    intro blk m j reason res s x hup hrun hend hdirty hwait
    rw [exec_rcTransferEnd_ended hup hrun hwait hend hdirty, rcUnitOver_of_ended hend]
  case ctxResponse =>
    intro n bib a why wr s c hup
    refine ⟨fun old r => ?_, fun new idle r => ?_, fun new asks => ⟨fun bs => ?_, ?_⟩⟩
    all_goals rw [exec_response_ctx hup]
    · exact congrArg Host.Outcome.next (replyTo_abandoned _ _ old)
    · exact congrArg Host.Outcome.next (replyTo_unasked _ _ new idle)
    · exact congrArg Host.Outcome.next (replyTo_awaited _ _ new asks)
    · exact congrArg Host.Outcome.next (replyTo_awaited _ _ new asks)
  case ringResponse =>
    exact fun b m c bib a r s hup hread => ⟨exec_response_ring hup hread bib a r, fun lost other => ringResponse_of_lost lost other a r,
      fun lost bound other => ringResponse_of_stale lost bound other a r⟩
  case regResponse => exact fun b m j bib a r s hup hrun => exec_response_reg hup hrun bib a r
  case write =>
    intro blk f data last s x hup hblk hf hlen hev
    have step := exec_fifoItemWrite hup hblk hf hlen last
    refine ⟨fun fresh (room : x.level ≠ fifoCap f) => ?enters, fun mid => ?discarded, fun fresh (full : x.level = fifoCap f) => ?overrun⟩
    case enters =>
      rw [if_neg (ne_true_of_eq_false fresh), if_neg room] at step
      obtain ⟨own, others, frame⟩ := modFifo_of_none_waits hev fun x => x.write [(data, last)] none
      exact ⟨_, step, (congrArg Fifo.words own).trans (write_words ..), others, frame⟩
    case discarded => rw [step, if_pos mid]
    case overrun => rw [step, if_neg (ne_true_of_eq_false fresh), if_pos full]
  case read =>
    intro blk f n s x hup hblk hf hn hev
    refine ⟨fun hle => ?leaves, exec_fifoItemRead_empty hup hblk hf hn, fun hsome hmore => ?underrun⟩
    case leaves =>
      obtain ⟨own, others, frame⟩ := modFifo_of_none_waits hev (dropWords n)
      exact ⟨_, exec_fifoItemRead hup hblk hf hn hle, congrArg Fifo.words own, others, frame⟩
    case underrun =>
      exact ⟨_, exec_fifoItemRead hup hblk hf hsome (Nat.le_refl _), exec_fifoItemRead_beyond hup hblk hf hsome hmore⟩

end Sys2Proof.Laws
end

section
/-! PROOFS. The step of a queue that is not empty, and a command whose event takes place (00, log 1). -/

namespace Sys2Proof.Laws
open Sys2Proof Sys2Proof.Machine

/-- A command whose condition holds answers the next state that its row gives: `whenB`, without the reason that it does not use. -/
theorem next_of_condition {c : Bool} (h : c = true) (s s' : State) : (.next (if c then s' else s) : Res) = .next s' :=
  congrArg Host.Outcome.next (if_pos h)

/-- Settles O1: a step looks at the front of the queue only. -/
theorem stepRunsFrontCommand : Obligations.StepRunsFrontCommand := by
  intro c rest s front
  simp only [step, front]

end Sys2Proof.Laws
end

section
/-! PROOFS. The interrupt controllers' tables of sources and targets, and what an assignment leaves alone (11 R348). -/

namespace Sys2Proof.Laws
open Sys2Proof Sys2Proof.Machine

@[simp] theorem src_setSrc_same (c : Ictl) (i : Nat) (x : Src) : (c.setSrc i x).src i = x := table_get_set_same srcDef c.srcs i x

theorem src_setSrc_ne (c : Ictl) {i j : Nat} (x : Src) (h : j ≠ i) : (c.setSrc i x).src j = c.src j :=
  table_get_set_ne srcDef c.srcs i j x h

@[simp] theorem tgt_setTgt_same (c : Ictl) (t : Nat) (g : Tgt) : (c.setTgt t g).tgt t = g := table_get_set_same tgtDef c.tgts t g

theorem tgt_setTgt_ne (c : Ictl) {t j : Nat} (g : Tgt) (h : j ≠ t) : (c.setTgt t g).tgt j = c.tgt j :=
  table_get_set_ne tgtDef c.tgts t j g h

@[simp] theorem tgt_setSrc (c : Ictl) (i : Nat) (x : Src) (t : Nat) : (c.setSrc i x).tgt t = c.tgt t := rfl

@[simp] theorem src_setTgt (c : Ictl) (t : Nat) (g : Tgt) (i : Nat) : (c.setTgt t g).src i = c.src i := rfl

@[simp] theorem tgt_finish (c : Ictl) (i t : Nat) : (c.finish i).tgt t = c.tgt t := rfl

@[simp] theorem finish_active (c : Ictl) (i : Nat) : ((c.finish i).src i).active = false := by
  simp [Ictl.finish]

@[simp] theorem tgt_withdraw (c : Ictl) (j t : Nat) : (c.withdraw j).tgt t = c.tgt t := rfl

@[simp] theorem tgt_holdGroup (c : Ictl) (now g t : Nat) : (c.holdGroup now g).tgt t = c.tgt t := by
  unfold Ictl.holdGroup
  dsimp only
  split <;> rfl

@[simp] theorem src_holdGroup (c : Ictl) (now g i : Nat) : (c.holdGroup now g).src i = c.src i := by
  unfold Ictl.holdGroup
  dsimp only
  split <;> rfl

/-- An assignment of one source: nothing changes, or the source was eligible and takes a target. -/
theorem assign1_cases (n now : Nat) (c : Ictl) (i : Nat) : Ictl.assign1 n now c i = c ∨ c.eligible now i = true ∧
    ∃ t, Ictl.assign1 n now c i = { c.setSrc i { c.src i with target := some t } with last := some t } := by
  unfold Ictl.assign1
  split
  · next free =>
    cases c.pick n i with
    | none => exact .inl rfl
    | some t => exact .inr ⟨free, t, rfl⟩
  · exact .inl rfl

@[simp] theorem assign_tgt (n now : Nat) (c : Ictl) (t : Nat) : (Ictl.assign n now c).tgt t = c.tgt t := by
  refine foldl_frame (fun c : Ictl => c.tgt t) _ (fun c i => ?_) _ c
  obtain same | ⟨-, u, assigned⟩ := assign1_cases n now c i
  · rw [same]
  · rw [assigned]
    rfl

@[simp] theorem assign_src_active (n now : Nat) (c : Ictl) (i : Nat) : ((Ictl.assign n now c).src i).active = (c.src i).active := by
  refine foldl_frame (fun c : Ictl => (c.src i).active) _ (fun c j => ?_) _ c
  obtain same | ⟨-, u, assigned⟩ := assign1_cases n now c j
  · rw [same]
  · rw [assigned]
    change ((c.setSrc j { c.src j with target := some u }).src i).active = (c.src i).active
    by_cases own : i = j
    · rw [own, src_setSrc_same]
    · rw [src_setSrc_ne c _ own]

/-- A source that is not pending is not assigned. -/
theorem assign_src_of_not_pending {c : Ictl} {i : Nat} (h : (c.src i).pending = false) (n now : Nat) :
    (Ictl.assign n now c).src i = c.src i := by
  refine List.foldlRecOn _ _ (motive := fun d : Ictl => d.src i = c.src i) rfl fun d kept j _ => ?_
  obtain same | ⟨free, u, assigned⟩ := assign1_cases n now d j
  · rw [same, kept]
  · have other : i ≠ j := by
      rintro rfl
      simp [Ictl.eligible, kept, h] at free
    rw [assigned, ← kept]
    exact src_setSrc_ne d _ other

/-! ### A controller that changes -/

theorem ctl_modCtl_same (s : State) (k : Nat) (g : Ictl → Ictl) :
    (s.modCtl k g).ctl k = Ictl.assign (ctlTargets k) s.time (g (s.ctl k)) := State.ctl_setCtl_same ..

theorem ctl_modCtl_ne (s : State) {k j : Nat} (g : Ictl → Ictl) (h : j ≠ k) : (s.modCtl k g).ctl j = s.ctl j :=
  State.ctl_setCtl_ne _ _ _ _ h

@[simp] theorem modCtl_out (s : State) (k : Nat) (g : Ictl → Ictl) : (s.modCtl k g).out = s.out := rfl

/-- Only what becomes of the controller that stands counts. -/
theorem modCtl_congr {s : State} {k : Nat} {g h : Ictl → Ictl} (e : g (s.ctl k) = h (s.ctl k)) : s.modCtl k g = s.modCtl k h := by
  unfold State.modCtl
  rw [e]

end Sys2Proof.Laws
end

section
/-! PROOFS. Claims, completion and the events of the interrupt controllers (11 R345 to R352). -/

namespace Sys2Proof.Laws
open Sys2Proof Sys2Proof.Machine

/-- The controller after target `t` has claimed source `i` (R350). -/
def claimed (c : Ictl) (now t i : Nat) : Ictl :=
  ((c.setSrc i { c.src i with pending := false, target := none, active := true }).setTgt t
    { c.tgt t with stack := (i, (c.src i).prio) :: (c.tgt t).stack }).holdGroup now (i / 32)

theorem claim_of_fault {c : Ictl} {t : Nat} (h : (c.tgt t).fault = true) (now : Nat) : c.claim now t = (0xFFFFE, c) := by
  simp only [Ictl.claim, h, if_true]

theorem claim_of_none {c : Ictl} {t : Nat} (hf : (c.tgt t).fault = false) (hb : c.best t = none) (now : Nat) :
    c.claim now t = (0xFFFF, c) := by
  simp only [Ictl.claim, hf, hb, Bool.false_eq_true, if_false]

theorem claim_of_best {c : Ictl} {t i : Nat} (hf : (c.tgt t).fault = false) (hb : c.best t = some i) (now : Nat) :
    c.claim now t = ((c.src i).prio * 65536 + i, claimed c now t i) := by
  simp only [Ictl.claim, claimed, hf, hb, Bool.false_eq_true, if_false]

@[simp] theorem claimed_src (c : Ictl) (now t i : Nat) :
    (claimed c now t i).src i = { c.src i with pending := false, target := none, active := true } := by
  simp [claimed]

@[simp] theorem claimed_tgt_same (c : Ictl) (now t i : Nat) :
    (claimed c now t i).tgt t = { c.tgt t with stack := (i, (c.src i).prio) :: (c.tgt t).stack } := by
  simp [claimed]

theorem claimed_tgt_ne (c : Ictl) (now : Nat) {t j : Nat} (i : Nat) (h : j ≠ t) : (claimed c now t i).tgt j = c.tgt j := by
  simp [claimed, tgt_setTgt_ne _ _ h]

theorem complete_top {c : Ictl} {t i p : Nat} {rest : List (Nat × Nat)} (hf : (c.tgt t).fault = false)
    (hs : (c.tgt t).stack = (i, p) :: rest) :
    c.complete t i = (false, (c.setTgt t { c.tgt t with stack := rest }).finish i) := by
  simp [Ictl.complete, hf, hs]

/-- DONE of a source that is not on top faults the stack (R351). -/
theorem complete_other {c : Ictl} {t i j p : Nat} {rest : List (Nat × Nat)} (hf : (c.tgt t).fault = false)
    (hs : (c.tgt t).stack = (i, p) :: rest) (h : j ≠ i) :
    c.complete t j = (true, (c.setTgt t { c.tgt t with fault := true, faultSrc := j }).withdraw t) := by
  simp [Ictl.complete, hf, hs, Ne.symm h]

theorem clearFault_tgt {c : Ictl} {t : Nat} (h : (c.tgt t).fault = true) :
    (c.clearFault t).tgt t = { c.tgt t with fault := false, stack := [] } := by
  simp [Ictl.clearFault, h]

/-- A stack fault of a RIC asserts a source of the CIC, which is another controller. -/
theorem doneWrite_ctl (s : State) (k t i : Nat) :
    (s.doneWrite k t i).ctl k = Ictl.assign (ctlTargets k) s.time ((s.ctl k).complete t i).2 := by
  unfold State.doneWrite
  dsimp only
  split
  · next raised =>
    have ric : k < 8 := of_decide_eq_true (Bool.and_eq_true_iff.mp raised).2
    rw [State.cic, State.raise, ctl_modCtl_ne _ _ (Nat.ne_of_lt ric), ctl_modCtl_same]
  · exact ctl_modCtl_same ..

section
variable {k tgt : Nat} {s : State} (hup : s.up = true) (hk : k ≤ 8) (ht : tgt < ctlTargets k)
include hup hk ht

theorem exec_claimRead : exec (.claimRead k tgt) s =
    .next ((s.emit (.value (BitVec.ofNat 64 ((s.ctl k).claim s.time tgt).1))).modCtl k fun c => (c.claim s.time tgt).2) :=
  next_of_condition (by simp [hup, hk, ht]) ..

/-- A claim that takes no source changes no controller but for the assignment of what is eligible. -/
theorem exec_claimRead_code {code : Nat} (h : (s.ctl k).claim s.time tgt = (code, s.ctl k)) :
    exec (.claimRead k tgt) s = .next ((s.emit (.value (BitVec.ofNat 64 code))).modCtl k id) := by
  rw [exec_claimRead hup hk ht, h]
  exact congrArg Host.Outcome.next (modCtl_congr (congrArg Prod.snd h))

theorem exec_doneWrite (v : W32) : exec (.doneWrite k tgt v) s = .next (s.doneWrite k tgt (v.toNat % 65536)) := by
  have low : bits v.toNat 0 16 = v.toNat % 65536 := by simp [bits]
  rw [← low]
  exact next_of_condition (by simp [hup, hk, ht]) ..

theorem exec_stackFaultClear : exec (.stackFaultClear k tgt) s = .next (s.modCtl k fun c => c.clearFault tgt) :=
  next_of_condition (by simp [hup, hk, ht]) ..

end

section
variable {k i t : Nat} {s : State} (hup : s.up = true) (hi : ctlHas k i = true)
include hup hi

theorem exec_sourceEdge (level : Bool) (n : Nat) (ht : s.notBefore t = true) :
    exec (.sourceEdge k i level n t) s = .next ((s.at_ t).modCtl k fun c => c.setSrc i ((c.src i).sample level n t)) :=
  next_of_condition (by simp [hup, hi, ht]) ..

/-- A source that stays high beyond its limit is disabled and marked, and its level's capture records the error (R347). -/
theorem exec_stuckSource (hhold : Table.get natDef (s.ctl k).holdoff (i / 32) ≠ 0) (hhigh : ((s.ctl k).src i).input = true)
    (hnew : ((s.ctl k).src i).enabled = true ∨ ((s.ctl k).src i).stuck = false) (ht : s.notBefore t = true)
    (hlong : reached (((s.ctl k).src i).since + 1600 * Table.get natDef (s.ctl k).holdoff (i / 32)) t = false) :
    exec (.stuckSource k i t) s = .next (((s.at_ t).modCtl k fun c =>
      c.setSrc i { c.src i with enabled := false, stuck := true, target := none }).error
        (if k < 8 then .region k else .chip) { code := .stuckSource, source := i }) :=
  next_of_condition (by simp [hup, hi, ht, hhold, hhigh, hnew, hlong, Src.high]) ..

theorem exec_srcCfgRead : exec (.srcCfgRead k i) s =
    .next ((s.emit (.value ((s.ctl k).src i).word)).modCtl k fun c => c.setSrc i { c.src i with extra := 0 }) :=
  next_of_condition (by simp [hup, hi]) ..

end

theorem exec_groupHoldoffExpiry {k g t : Nat} {s : State} (hup : s.up = true) (hu : Table.get natDef (s.ctl k).until_ g ≠ 0)
    (ht : s.notBefore t = true) (hr : reached t (Table.get natDef (s.ctl k).until_ g) = true) :
    exec (.groupHoldoffExpiry k g t) s = .next ((s.at_ t).modCtl k fun c => { c with until_ := Table.set natDef c.until_ g 0 }) :=
  next_of_condition (by simp [hup, ht, hr, hu]) ..

section
variable {k word : Nat} {s : State} (hup : s.up = true) (hw : ctlWord k word = true) (v : W32)
include hup hw

/-- PEND_SET stands in the CIC only (Table 11.14). -/
theorem exec_pendSet (hk : k = 8) :
    exec (.pendSet k word v) s = .next (s.modCtl k fun c => c.onWord word v fun x => { x with pending := true }) :=
  next_of_condition (by simp [hup, hw, ← hk]) ..

theorem exec_pendClr :
    exec (.pendClr k word v) s = .next (s.modCtl k fun c => c.onWord word v fun x => { x with pending := false, target := none }) :=
  next_of_condition (by simp [hup, hw]) ..

theorem exec_enableSet :
    exec (.enableSet k word v) s = .next (s.modCtl k fun c => c.onWord word v fun x => { x with enabled := true }) :=
  next_of_condition (by simp [hup, hw]) ..

theorem exec_enableClr :
    exec (.enableClr k word v) s = .next (s.modCtl k fun c => c.onWord word v fun x => { x with enabled := false, target := none }) :=
  next_of_condition (by simp [hup, hw]) ..

end

/-- Settles O56: each clause is the lemma about its event; what a claim and a completion leave behind stands through the assignment that
follows, which only gives pending sources a target. -/
theorem interruptControllers : Obligations.InterruptControllers := by
  refine ⟨fun k i n t level s hup hi ht => exec_sourceEdge hup hi level n ht, fun k g t s => exec_groupHoldoffExpiry,
    fun k i t s hup hi hhold hhigh hnew ht => exec_stuckSource hup hi hhold hhigh hnew ht, ?claim, ?code, ?done,
    fun k word v s hup hw => ⟨exec_pendSet hup hw v, exec_pendClr hup hw v, exec_enableSet hup hw v, exec_enableClr hup hw v⟩, ?clear,
    fun k i s => exec_srcCfgRead⟩
  case claim =>
    intro k tgt i s c hup hk ht hf hb
    have taken : c.claim s.time tgt = _ := claim_of_best hf hb s.time
    refine ⟨_, exec_claimRead hup hk ht, ?_⟩
    have ctl : ((s.emit (.value (BitVec.ofNat 64 ((s.ctl k).claim s.time tgt).1))).modCtl k fun c => (c.claim s.time tgt).2).ctl k =
        Ictl.assign (ctlTargets k) s.time (claimed c s.time tgt i) :=
      (ctl_modCtl_same ..).trans (congrArg (Ictl.assign _ _) (congrArg Prod.snd taken))
    have src : (Ictl.assign (ctlTargets k) s.time (claimed c s.time tgt i)).src i = _ :=
      (assign_src_of_not_pending (by rw [claimed_src]) ..).trans (claimed_src ..)
    simp only [ctl, src, assign_tgt, claimed_tgt_same]
    refine ⟨?_, trivial, trivial, trivial, trivial, fun j other => claimed_tgt_ne c _ i other, fun j other => ctl_modCtl_ne _ _ other⟩
    exact congrArg (fun v => s.out ++ [Out.value (BitVec.ofNat 64 v)]) (congrArg Prod.fst taken)
  case code =>
    intro k tgt s c hup hk ht
    exact ⟨fun fault => exec_claimRead_code hup hk ht (claim_of_fault fault _),
      fun sound none => exec_claimRead_code hup hk ht (claim_of_none sound none _)⟩
  case done =>
    intro k tgt i p rest v s c hup hk ht hf hs
    refine ⟨_, exec_doneWrite hup hk ht v, ?_⟩
    simp only [doneWrite_ctl]
    refine ⟨fun top => ?_, fun other => ?_⟩
    · rw [top, complete_top hf hs]
      simp [c, hf]
    · rw [complete_other hf hs other]
      simp [c, hs]
  case clear =>
    intro k tgt s hup hk ht hf
    refine ⟨_, exec_stackFaultClear hup hk ht, ?_⟩
    simp only [ctl_modCtl_same, assign_tgt, clearFault_tgt hf, and_self]

end Sys2Proof.Laws
end

section
/-! PROOFS. The sensors' tables, and an assertion at the CIC that is made or not (11 R354, 15 R425, R438). -/

namespace Sys2Proof.Laws
open Sys2Proof Sys2Proof.Machine

@[simp] theorem rail_setRail_same (s : State) (j : Nat) (x : Rail) : (s.setRail j x).rail j = x :=
  table_get_set_same railDef s.board.rails j x

theorem rail_setRail_ne (s : State) {j k : Nat} (x : Rail) (h : k ≠ j) : (s.setRail j x).rail k = s.rail k :=
  table_get_set_ne railDef s.board.rails j k x h

@[simp] theorem temp_setTemp_same (s : State) (i : Nat) (x : Temp) : (s.setTemp i x).temp i = x :=
  table_get_set_same tempDef s.board.temps i x

theorem temp_setTemp_ne (s : State) {i k : Nat} (x : Temp) (h : k ≠ i) : (s.setTemp i x).temp k = s.temp k :=
  table_get_set_ne tempDef s.board.temps i k x h

/-- An assertion at the CIC, made or not, changes nothing but controllers. -/
theorem cic_if_frame (c : Bool) (s : State) (k : Nat) :
    (if c then s.cic k else s) = { s with ctls := (if c then s.cic k else s).ctls } := by
  cases c <;> rfl

end Sys2Proof.Laws
end

section
/-! PROOFS. Rails, the AVSBus and clocks (15 R425, R426, R430, R440): one lemma for each event that says what the command does. -/

namespace Sys2Proof.Laws
open Sys2Proof Sys2Proof.Machine

/-- A rail after a sample of `mv` while its nominal voltage is `n`: UNDER counts where the samples leave the range (R425). -/
def sampledRail (x : Rail) (mv n : Nat) : Rail :=
  { x with margin := marginOf mv n, mv := mv, sampled := true,
           under := if 20 * mv < 19 * n ∧ ¬(x.sampled = true ∧ 20 * x.mv < 19 * n) then satInc x.under 255 else x.under }

section
variable {j : Nat} {s : State} (hc : s.board.cold = false) (hj : j < 8)
include hc hj

/-- A sample sets the rail; the first one of a low margin asserts a source of the CIC. -/
theorem exec_railSample {mv : Nat} (hmv : mv < 65536) : ∃ low : Bool, exec (.railSample j mv) s =
    .next (if low then (s.setRail j (sampledRail (s.rail j) mv (s.vnom j))).cic 993
      else s.setRail j (sampledRail (s.rail j) mv (s.vnom j))) := by
  refine ⟨decide (marginOf mv (s.vnom j) < 12) && !((s.rail j).sampled && decide ((s.rail j).margin < 12)), ?_⟩
  have fresh : (belowRange mv (s.vnom j) && !((s.rail j).sampled && belowRange (s.rail j).mv (s.vnom j))) =
      decide (20 * mv < 19 * s.vnom j ∧ ¬((s.rail j).sampled = true ∧ 20 * (s.rail j).mv < 19 * s.vnom j)) := by
    simp only [belowRange, Bool.decide_and, decide_not, Bool.decide_eq_true]
  change execRailSample j mv s = _
  simp only [execRailSample, sampledRail, hc, hj, hmv, fresh, Bool.not_false, decide_true, Bool.and_self, whenB_true, decide_eq_true_eq]

theorem exec_railUndervoltage (hs : (s.rail j).sampled = true) (hlow : 20 * (s.rail j).mv < 19 * s.vnom j) :
    exec (.railUndervoltage j) s = .next (s.error .chip { code := .deviceFault, source := 993 }) :=
  next_of_condition (by simp [hc, hj, hs, hlow, belowRange]) ..

theorem exec_railMonRead :
    exec (.railMonRead j) s = .next ((s.emit (.value (s.railMon j))).setRail j { s.rail j with under := 0 }) :=
  next_of_condition (by simp [hc, hj]) ..

end

section
variable {s : State} {t t0 : Nat} (hc : s.board.cold = false) (ht : s.notBefore t = true) (hp : s.board.avsPendingAt = some t0)
include hc ht hp

/-- Silence for 1 ms is a fault (R426). -/
theorem exec_avsReadback_silent (hr : reached t (t0 + 1000000) = true) :
    exec (.avsReadback .silent t) s = .next ((s.at_ t).avsFails s.board.vddSeen t) := by
  change execAvsReadback .silent t s = _
  simp only [execAvsReadback, hp]
  exact next_of_condition (by simp [hc, ht, hr]) ..

variable (hr : reached t (t0 + 200000) = true)
include hr

theorem exec_avsReadback_fault : exec (.avsReadback .fault t) s = .next ((s.at_ t).avsFails s.board.vddSeen t) := by
  change execAvsReadback .fault t s = _
  simp only [execAvsReadback, hp]
  exact next_of_condition (by simp [hc, ht, hr]) ..

/-- A voltage within 10 mV of the request is accepted, another one is a fault (R426). -/
theorem exec_avsReadback_ok (mv : Nat) : exec (.avsReadback (.ok mv) t) s =
    .next (if mv ≤ s.board.vddRequest + 10 ∧ s.board.vddRequest ≤ mv + 10
      then { s.at_ t with board := { s.board with avsFault := false, avsPendingAt := none, vddSeen := mv } }
      else (s.at_ t).avsFails mv t) := by
  change execAvsReadback (.ok mv) t s = _
  simp only [execAvsReadback, hp]
  exact next_of_condition (by simp [hc, ht, hr]) ..

end

theorem exec_avsRetry {s : State} {t : Nat} (hc : s.board.cold = false) (ht : s.notBefore t = true) (hf : s.board.avsFault = true)
    (hdue : ∀ t0, s.board.avsPendingAt = some t0 → reached t (t0 + 100000000) = true) :
    exec (.avsRetry t) s = .next ((s.at_ t).avsRequest 800 t) := by
  change execAvsRetry t s = _
  cases hp : s.board.avsPendingAt with
  | none => simp only [execAvsRetry, hp, hc, ht, hf, Bool.not_false, Bool.and_self, whenB_true]
  | some t0 => simp only [execAvsRetry, hp, hdue t0 hp, hc, ht, hf, Bool.not_false, Bool.and_self, whenB_true]

theorem exec_refclkLoss {s : State} (hc : s.board.cold = false) :
    exec .refclkLoss s = .next (s.drawWord.2.error .chip { code := .deviceFault, source := 1024 + s.drawWord.1.toNat % 64512 }) :=
  next_of_condition (by simp [hc]) ..

theorem exec_mclkLoss {s : State} (h : s.board.mclkLost = false) :
    exec .mclkLoss s = .next { s with board := { s.board with mclkLost := true } } :=
  next_of_condition (by simp [h]) ..

theorem exec_mclkRestore {s : State} (h : s.board.mclkLost = true) :
    exec .mclkRestore s = .next { s with board := { s.board with mclkLost := false } } :=
  next_of_condition h ..

end Sys2Proof.Laws
end

section
/-! PROOFS. Temperatures, and what PLDM reads (15 R437, R438, R440): one lemma for each event that says what the command does. -/

namespace Sys2Proof.Laws
open Sys2Proof Sys2Proof.Machine

/-- A sensor after a sample at or above its warning threshold: ALARMS counts where the warning begins (R438). -/
def warnedTemp (x : Temp) (e : Int) : Temp :=
  { x.sample e with warn := true, alarms := if x.warn then x.alarms else satInc x.alarms 255 }

/-- A sensor after a sample that clears its hard or its warning threshold (R438). -/
def clearedTemp (x : Temp) (hard : Bool) (e : Int) : Temp :=
  if hard then { x.sample e with hard := false } else { x.sample e with warn := false }

section
variable {i : Nat} {s : State} (hc : s.board.cold = false) (hi : i < 16)
include hc hi

theorem exec_tempRead : exec (.tempRead i) s = .next ((s.emit (.value (s.temp i).word)).setTemp i { s.temp i with alarms := 0 }) :=
  next_of_condition (by simp [hc, hi]) ..

variable {e : Int} (he : tempFits e = true)
include he

theorem exec_tempWarning (h : tempWarn i ≤ e) : exec (.tempWarning i e) s =
    .next (if !(s.temp i).warn then ((s.setTemp i (warnedTemp (s.temp i) e)).capCommands).cic 992
      else (s.setTemp i (warnedTemp (s.temp i) e)).capCommands) := by
  refine (next_of_condition (by simp [hc, hi, he, h]) ..).trans ?_
  simp only [warnedTemp, Bool.not_eq_true', ← Bool.not_eq_true, ite_not]

theorem exec_tempHard (h : tempHard i ≤ e) :
    exec (.tempHard i e) s = .next (s.setTemp i { (s.temp i).sample e with hard := true }) :=
  next_of_condition (by simp [hc, hi, he, h]) ..

theorem exec_thermtrip (h : tempTrip i ≤ e) : let t := s.setTemp i ((s.temp i).sample e)
    exec (.thermtrip i e) s = .next ((({ t with board := { t.board with thermtrip := true } } : State).emit (.lastGasp i)).error .chip
      { code := .deviceFault, source := 992 }) :=
  next_of_condition (by simp [hc, hi, he, h]) ..

/-- The cap on commands ends with the last warning (R438). -/
theorem exec_tempThresholdClear {hard : Bool} (hwas : (if hard then (s.temp i).hard else (s.temp i).warn) = true)
    (h : e ≤ (if hard then tempHard i else tempWarn i) - 24) : let t := s.setTemp i (clearedTemp (s.temp i) hard e)
    exec (.tempThresholdClear i hard e) s =
      .next (if (List.range 16).any fun k => (t.temp k).warn then t else { t with board := { t.board with cap := 64 } }) := by
  change execTempThresholdClear i hard e s = _
  simp only [execTempThresholdClear, clearedTemp, hwas, hc, hi, he, h, Bool.not_false, decide_true, Bool.and_self, whenB_true]

end

/-- The end of the cap, or not, leaves every sensor alone. -/
theorem endCap_temp (hot : Bool) (s : State) (k : Nat) :
    (if hot then s else { s with board := { s.board with cap := 64 } }).temp k = s.temp k := by
  cases hot <;> rfl

/-- Settles O60: each clause is the lemma about its event; an assertion at the CIC leaves what was sampled alone. -/
theorem railsClocksAndTemperatures : Obligations.RailsClocksAndTemperatures := by
  refine ⟨?rails, ?avs, ?clocks, ?temperatures, ?pldm⟩
  case rails =>
    intro j mv s x n hc hj
    refine ⟨fun hmv => ?_, exec_railUndervoltage hc hj, exec_railMonRead hc hj⟩
    obtain ⟨low, sampled⟩ := exec_railSample hc hj hmv
    refine ⟨_, sampled, ?_⟩
    rw [cic_if_frame]
    have own : (s.setRail j (sampledRail x mv n)).rail j = _ := rail_setRail_same ..
    exact ⟨congrArg Rail.mv own, congrArg Rail.sampled own, congrArg Rail.margin own, congrArg Rail.under own,
      fun k other => rail_setRail_ne s _ other, rfl, rfl⟩
  case avs =>
    intro t t0 s u fails hc ht
    refine ⟨exec_avsReadback_silent hc ht, fun hp hr => ⟨fun mv low high => ?_, fun mv off => ?_, exec_avsReadback_fault hc ht hp hr⟩,
      exec_avsRetry hc ht⟩
    · rw [exec_avsReadback_ok hc ht hp hr, if_pos ⟨low, high⟩]
      rfl
    · rw [exec_avsReadback_ok hc ht hp hr, if_neg (by omega)]
      rfl
  case clocks =>
    intro s
    refine ⟨fun hc => ⟨_, exec_refclkLoss hc, _, s.drawWord.2, Nat.le_add_right .., ?_, rfl, rfl⟩, exec_mclkLoss, exec_mclkRestore⟩
    omega
  case temperatures =>
    intro i e s x hc hi he
    refine ⟨fun h => ?warning, exec_tempHard hc hi he, exec_thermtrip hc hi he, fun hard was h => ?clear, exec_tempRead hc hi⟩
    case warning =>
      refine ⟨_, exec_tempWarning hc hi he h, ?_⟩
      rw [cic_if_frame]
      have own : (s.setTemp i (warnedTemp x e)).temp i = _ := temp_setTemp_same ..
      refine ⟨(congrArg Temp.now own :), congrArg Temp.warn own, congrArg Temp.alarms own, Nat.le_add_right .., ?_,
        fun k other => temp_setTemp_ne s _ other, rfl⟩
      exact Nat.add_le_add_left (Nat.le_of_lt_succ (Nat.mod_lt _ (by decide))) 4
    case clear =>
      refine ⟨_, exec_tempThresholdClear hc hi he was h, ?_⟩
      simp only [endCap_temp, temp_setTemp_same]
      refine ⟨?_, ?_, fun cool => ?_, fun k other => temp_setTemp_ne s _ other⟩
      · rintro rfl
        exact ⟨rfl, rfl⟩
      · rintro rfl
        exact ⟨rfl, rfl⟩
      · rw [if_neg]
        simpa using cool
  case pldm =>
    exact fun s => ⟨fun i hi => next_of_condition (decide_eq_true hi) .., fun j hj => next_of_condition (decide_eq_true hj) ..,
      fun l hl => next_of_condition (decide_eq_true hl) .., next_of_condition rfl .., next_of_condition rfl ..,
      next_of_condition rfl .., next_of_condition rfl ..⟩

end Sys2Proof.Laws
end

section
/-! PROOFS. The order of the errors of one cycle, and tables that are filled from 0 up (13 R378, R392). -/

namespace Sys2Proof.Laws
open Sys2Proof Sys2Proof.Machine

/-- Error `a` may be taken before error `b`: it is more severe, or as severe and of a source that is no higher (R378). -/
def TakenBefore (a b : ErrIn) : Prop := errSev b.code ≤ errSev a.code ∧ (errSev a.code = errSev b.code → a.source ≤ b.source)

theorem TakenBefore.trans {a b c : ErrIn} (h : TakenBefore a b) (k : TakenBefore b c) : TakenBefore a c := by
  unfold TakenBefore at *
  omega

theorem insertErr_cons (e f : ErrIn) (l : List ErrIn) :
    TakenBefore e f ∧ insertErr e (f :: l) = e :: f :: l ∨ TakenBefore f e ∧ insertErr e (f :: l) = f :: insertErr e l := by
  rw [insertErr]
  simp only [TakenBefore, Bool.or_eq_true, Bool.and_eq_true, decide_eq_true_eq]
  split
  · exact .inl ⟨by omega, rfl⟩
  · exact .inr ⟨by omega, rfl⟩

theorem insertErr_perm (e : ErrIn) (l : List ErrIn) : (insertErr e l).Perm (e :: l) := by
  induction l with
  | nil => exact .refl _
  | cons f l ih =>
    obtain ⟨-, here⟩ | ⟨-, later⟩ := insertErr_cons e f l
    · rw [here]
    · rw [later]
      exact (ih.cons f).trans (.swap e f l)

theorem insertErr_pairwise (e : ErrIn) {l : List ErrIn} (h : l.Pairwise TakenBefore) : (insertErr e l).Pairwise TakenBefore := by
  induction l with
  | nil => exact List.pairwise_singleton TakenBefore e
  | cons f l ih =>
    obtain ⟨after, rest⟩ := List.pairwise_cons.mp h
    obtain ⟨first, here⟩ | ⟨first, later⟩ := insertErr_cons e f l
    · rw [here]
      refine List.pairwise_cons.mpr ⟨fun g hg => ?_, h⟩
      obtain rfl | hg := List.mem_cons.mp hg
      · exact first
      · exact first.trans (after g hg)
    · rw [later]
      refine List.pairwise_cons.mpr ⟨fun g hg => ?_, ih rest⟩
      obtain rfl | hg := List.mem_cons.mp ((insertErr_perm e l).subset hg)
      · exact first
      · exact after g hg

/-- The errors of one cycle in the order in which they are taken: each once, and none before one that goes first (R378). -/
theorem sortErrs (errs : List ErrIn) : (errs.foldr insertErr []).Perm errs ∧ (errs.foldr insertErr []).Pairwise TakenBefore := by
  induction errs with
  | nil => exact ⟨.refl _, .nil⟩
  | cons e errs ih =>
    obtain ⟨perm, sorted⟩ := ih
    exact ⟨(insertErr_perm e _).trans (perm.cons e), insertErr_pairwise e sorted⟩

/-- A table filled from 0 up reads at each place what was put there. -/
theorem get_fill {α : Type} [DecidableEq α] (d : Nat → α) (v : Nat → α) (t : Table α) {i n : Nat} (h : i < n) :
    Table.get d ((List.range n).foldl (fun tb j => Table.set d tb j (v j)) t) i = v i := by
  induction n with
  | zero => cases h
  | succ n ih =>
    rw [List.range_succ, List.foldl_append]
    by_cases last : i = n
    · rw [last]
      exact table_get_set_same ..
    · exact (table_get_set_ne d _ n i (v n) last).trans (ih (by omega))

end Sys2Proof.Laws
end

section
/-! PROOFS. Errors that arrive, captures, HBM repair and scrubbing (13 R375, R378, R383, R384): one lemma for each event. -/

namespace Sys2Proof.Laws
open Sys2Proof Sys2Proof.Machine

section
variable {l : CapId} {s : State} (hc : s.board.cold = false) (hl : s.capLive l = true)
include hc hl

theorem exec_errorArrival {errs : List ErrIn} (hne : errs ≠ []) (hf : ∀ e ∈ errs, e.code ≠ .freeze) :
    exec (.errorArrival l errs) s = .next ((errs.foldr insertErr []).foldl (fun s e => s.errorIn l e) s) :=
  next_of_condition (by simpa [hc, hl, hne] using hf) ..

/-- Of a cell, the acknowledgement lowers the input of its source too (11 R353). -/
theorem exec_errAck_cell {r t k : Nat} (h : l = .cell r t k) : exec (.errAck l) s =
    .next ((s.setCap { s.cap l with valid := false } l).modCtl r fun c =>
      c.setSrc (16 * t + k) { c.src (16 * t + k) with raw := false }) := by
  subst h
  exact next_of_condition (by simp [hc, hl]) ..

theorem exec_errAck (h : ∀ r t k, l ≠ .cell r t k) : exec (.errAck l) s = .next (s.setCap { s.cap l with valid := false } l) := by
  refine (next_of_condition (by simp [hc, hl]) ..).trans ?_
  cases l with
  | cell r t k => exact absurd rfl (h r t k)
  | _ => rfl

theorem exec_errCntRead : exec (.errCntRead l) s =
    .next ((s.emit (.value (s.cap l).cnt)).setCap { s.cap l with escOut := 0, count := 0 } l) :=
  next_of_condition (by simp [hc, hl]) ..

end

section
variable {p : Nat} {s : State} (hup : s.up = true) (hp : p < 128) (hr : (s.pch p).retired = false)
include hup hp hr

theorem exec_rowRepair (row : Nat) (spare : Bool) : exec (.rowRepair p row spare) s =
    .next (if spare then (((s.setPch p { s.pch p with rows := satInc (s.pch p).rows 0xFFFF }).cic (896 + p / 2)).ledgerNote 3 0xFF 0xFF
        (leBytes 2 p ++ leBytes 4 row)).keepMap
      else ((s.setPch p { s.pch p with unrep := satInc (s.pch p).unrep 255 }).cic (896 + p / 2)).keepMap) := by
  change execRowRepair p row spare s = _
  cases spare <;>
    simp only [execRowRepair, hup, hp, hr, decide_true, Bool.not_false, Bool.and_self, whenB_true, Bool.false_eq_true, if_true, if_false]

/-- At most four pseudo-channels retire (R384). -/
theorem exec_pchRetirement (hfew : countP (fun n => (s.pch n).retired) (List.range 128) < 4) : exec (.pchRetirement p) s =
    .next (((((s.setPch p { s.pch p with retired := true }).error (.region (p / 16))
      { code := .pchRetired, source := 16 + p % 16 }).ledgerNote 1 (p / 16) 0xFF (leBytes 2 p)).keepMap).publishHealth {}) :=
  next_of_condition (by simp [hup, hp, hr, hfew]) ..

end

theorem exec_pchStatRead {p : Nat} {s : State} (hc : s.board.cold = false) (hp : p < 128) : exec (.pchStatRead p) s =
    .next ((s.emit (.value (s.pch p).stat)).setPch p { s.pch p with uncorr := 0, corr := 0 }) :=
  next_of_condition (by simp [hc, hp]) ..

theorem exec_regStaleRead {r : Nat} {s : State} (hc : s.board.cold = false) (hr : r < 8) : exec (.regStaleRead r) s =
    .next ((s.emit (.value (BitVec.ofNat 64 (s.region r).stale))).setRegion r { s.region r with stale := 0 }) :=
  next_of_condition (by simp [hc, hr]) ..

/-- The error that scrubbing reports of word `k` of HBM (R383). -/
def scrubbed (code : ErrCode) (s : State) (k : Nat) : State :=
  s.errorIn (.region (pchOf (k * 32) / 16))
    { code := code, source := 16 + pchOf (k * 32) % 16, space := 2, addr := BitVec.ofNat 64 (k * 32) }

theorem exec_patrolScrub {good bad : List Nat} {s : State} (hup : s.up = true)
    (hin : ∀ k, k ∈ good ∨ k ∈ bad → k * 32 < unpopBase) :
    exec (.patrolScrub good bad) s = .next (bad.foldl (scrubbed .hbmUncorrectable) (good.foldl (scrubbed .eccCorrected) s)) :=
  next_of_condition (by simpa [hup, or_imp, forall_and] using hin) ..

theorem exec_lodgeScrub {b : Nat} {s : State} (hup : s.up = true) (hb : s.blockActive b = true) : exec (.lodgeScrub b) s = .next s :=
  next_of_condition (by simp [hup, hb]) ..

end Sys2Proof.Laws
end

section
/-! PROOFS. Aging, and what waits for the store (13 R392, R395, 14 R418): one lemma for each event. -/

namespace Sys2Proof.Laws
open Sys2Proof Sys2Proof.Machine

section
variable {t : Nat} {s : State} (hc : s.board.cold = false) (ht : s.notBefore t = true)
include hc ht

theorem exec_ledgerRetry {r : LedgerRec} {rest : List LedgerRec} (hq : s.store.ledgerQueue = r :: rest) : exec (.ledgerRetry t) s =
    .next (if s.supplyOk then { s.at_ t with store := ({ s.store with ledgerQueue := rest } : Store).putLedger r }
      else (s.at_ t).refuseStore) := by
  change execLedgerRetry t s = _
  simp only [execLedgerRetry, hq]
  exact next_of_condition (by simp [hc, ht]) ..

theorem exec_storeRetry {j : StoreJob} {rest : List StoreJob} (hq : s.store.jobs = j :: rest) : exec (.storeRetry t) s =
    .next (if s.supplyOk then ({ s.at_ t with store := { s.store with jobs := rest } } : State).runJob j
      else (s.at_ t).refuseStore) := by
  change execStoreRetry t s = _
  simp only [execStoreRetry, hq]
  exact next_of_condition (by simp [hc, ht]) ..

end

theorem exec_storeComplete {s : State} (hc : s.board.cold = false) : exec .storeComplete s = .next (s.cic 963) :=
  next_of_condition (by simp [hc]) ..

/-! ### Aging -/

/-- State `t` is `s` but for what the interrupt controllers and the store hold. -/
def OnlyCtlsStore (s t : State) : Prop := t = { s with ctls := t.ctls, store := t.store }

theorem OnlyCtlsStore.trans {s t u : State} (h : OnlyCtlsStore s t) (k : OnlyCtlsStore t u) : OnlyCtlsStore s u := by
  unfold OnlyCtlsStore at h k
  rw [k, h]
  rfl

theorem onlyCtlsStore_cic_if (c : Bool) (s : State) (k : Nat) : OnlyCtlsStore s (if c then s.cic k else s) := by
  cases c <;> rfl

/-- The counters of electromigration go to the store, or wait for it (14 R418). -/
theorem onlyCtlsStore_keep (s : State) (used : Table W32) : OnlyCtlsStore s (
    if s.supplyOk then { s with store := { s.store with emUsed := used } }
    else ({ s with store := { s.store with jobs := s.store.jobs ++ [({ area := 2, data := [] } : StoreJob)] } } : State).refuseStore) := by
  split <;> rfl

/-- The chip once the monitors and counters are measured at device time `t` (R392). -/
def agedChip (freqs : List (Nat × Nat)) (used : List W32) (t : Nat) (c : Chip) : Chip :=
  { c with
    ageFreq := (List.range 64).foldl (fun tb i => Table.set natDef tb i (freqs.getD i (0, 0)).1) []
    ageMargin := (List.range 64).foldl (fun tb i => Table.set natDef tb i (min (freqs.getD i (0, 0)).2 100)) []
    emUsed := (List.range 32).foldl (fun tb j => Table.set w32Def tb j (used.getD j 0)) []
    emMargin := (List.range 32).foldl (fun tb j => Table.set natDef tb j ((used.map emMargin).getD j 0)) []
    agingDue := t + 60000000000 }

/-- The state once the measurement is recorded and the next supply voltage requested (R392). -/
def aged (freqs : List (Nat × Nat)) (used : List W32) (mv t : Nat) (s : State) : State :=
  ({ s.at_ t with chip := agedChip freqs used t s.chip } : State).avsRequest mv t

/-- Low margins assert sources of the CIC, and the counters are stored; nothing else follows from the measurement but HEALTH. -/
theorem exec_agingMeasurement {freqs : List (Nat × Nat)} {used : List W32} {mv t : Nat} {s : State} (w : Wr) (hup : s.up = true)
    (hfreqs : freqs.length = 64) (hused : used.length = 32) (hmin : 700 ≤ mv) (hmax : mv ≤ 800) (hstep : mv % 5 = 0)
    (ht : s.notBefore t = true) (hdue : reached t s.chip.agingDue = true) :
    ∃ u, OnlyCtlsStore (aged freqs used mv t s) u ∧ exec (.agingMeasurement freqs used mv t w) s = .next (u.publishHealth w) := by
  refine ⟨_, ?_, next_of_condition (by simp [hup, hfreqs, hused, hmin, hmax, hstep, ht, hdue]) ..⟩
  exact ((onlyCtlsStore_cic_if _ _ 994).trans (onlyCtlsStore_cic_if _ _ 995)).trans (onlyCtlsStore_keep ..)

/-- Settles O59: each clause is the lemma about its event; the order of the errors of one cycle is `sortErrs`. -/
theorem errorsRepairAndStores : Obligations.ErrorsRepairAndStores := by
  refine ⟨?arrival, ?captures, ?repair, ?counters, fun good bad s => exec_patrolScrub, fun b s => exec_lodgeScrub, ?aging, ?store⟩
  case arrival =>
    intro l errs s hc hl hne hf
    obtain ⟨perm, sorted⟩ := sortErrs errs
    exact ⟨_, perm, sorted, exec_errorArrival hc hl hne hf⟩
  case captures =>
    refine fun l s hc hl => ⟨?_, exec_errCntRead hc hl⟩
    cases l with
    | cell r t k => exact exec_errAck_cell hc hl rfl
    | block r t => exact exec_errAck hc hl nofun
    | region r => exact exec_errAck hc hl nofun
    | chip => exact exec_errAck hc hl nofun
  case repair =>
    intro p row s x hup hp hr
    exact ⟨exec_rowRepair hup hp hr row true, exec_rowRepair hup hp hr row false, exec_pchRetirement hup hp hr⟩
  case counters => exact fun p r s hc => ⟨exec_pchStatRead hc, exec_regStaleRead hc⟩
  case aging =>
    intro freqs used mv t w s hup hfreqs hused hmin hmax hstep ht hdue
    obtain ⟨u, only, measured⟩ := exec_agingMeasurement w hup hfreqs hused hmin hmax hstep ht hdue
    refine ⟨_, measured, u, rfl, ?_⟩
    rw [only]
    exact ⟨rfl, rfl, rfl, rfl, rfl, fun i hi => ⟨get_fill natDef _ [] hi, get_fill natDef _ [] hi⟩,
      fun j hj => get_fill w32Def _ [] hj, rfl, rfl, rfl⟩
  case store =>
    intro t s u hc ht
    exact ⟨fun r rest => exec_ledgerRetry hc ht, fun j rest => exec_storeRetry hc ht, exec_storeComplete hc⟩

end Sys2Proof.Laws
end

section
/-! PROOFS. The debug access port and the test access port (14 R405, R409, 15 R434 to R436): one lemma for each command. -/

namespace Sys2Proof.Laws
open Sys2Proof Sys2Proof.Machine

section
variable {f : DapFrame} {s : State} (hup : s.mgUp = true)
include hup

/-- A frame that is not well formed is answered FAULT, whatever it asks for (R436). -/
theorem exec_dap_faulty (h : dapFaulty f = true) :
    ∀ i ∈ [Instr.dapRead f, .dapWrite f, .dapStatus f], exec i s = .next (s.emit (.reply dapFault [])) := by
  have read : exec (.dapRead f) s = .next (s.emit (.reply dapFault [])) := (next_of_condition hup ..).trans (by rw [if_pos h])
  have write : exec (.dapWrite f) s = .next (s.emit (.reply dapFault [])) := (next_of_condition hup ..).trans (by rw [if_pos h])
  have status : exec (.dapStatus f) s = .next (s.emit (.reply dapFault [])) := (next_of_condition hup ..).trans (by simp [h])
  simp [read, write, status]

variable (hf : dapFaulty f = false)
include hf

theorem exec_dapStatus (ha : f.addr = 0) : exec (.dapStatus f) s = .next (s.emit (.reply dapOk [s.secState.toNat])) := by
  refine (next_of_condition hup ..).trans ?_
  simp [hf, ha, State.dapData]

theorem exec_dapRead : exec (.dapRead f) s =
    .next (if dapAllowed s.sec.debug f.addr false then s.dapGet f.addr else s.emit (.reply dapDenied [])) := by
  refine (next_of_condition hup ..).trans ?_
  cases dapAllowed s.sec.debug f.addr false <;> simp [hf]

theorem exec_dapWrite : exec (.dapWrite f) s =
    .next (if dapAllowed s.sec.debug f.addr true then s.dapPut f.addr f.data else s.emit (.reply dapDenied [])) := by
  refine (next_of_condition hup ..).trans ?_
  cases dapAllowed s.sec.debug f.addr true <;> simp [hf]

end

/-- At level NONE only SEC_STATE is read (Table 14.6). -/
theorem dapAllowed_none (a : Nat) (w : Bool) : dapAllowed 0 a w = (!w && decide (a = secStateAddr)) := by
  simp [dapAllowed]

theorem dapGet_local {s : State} {a : Nat} (hp : dapPlace a = .local_) (hg : s.poisonIn a 8 = none) :
    s.dapGet a = s.emit (.reply dapOk [leVal (s.localRead a 8)]) := by
  simp [State.dapGet, State.dapData, hp, hg]

theorem dapPut_local {a : Nat} (hp : dapPlace a = .local_) (s : State) (v : W64) :
    s.dapPut a v = (s.localWrite a (leBytes 8 v.toNat)).emit (.reply dapOk []) := by
  simp [State.dapPut, hp]

/-- The state with the instruction register of the test access port at `k` (R409). -/
def withIr (s : State) (k : Nat) : State := { s with sec := { s.sec with ir := k } }

/-- Pin tests act under SYS_RST_N only; elsewhere they are blocked, and that is noted (R409). -/
theorem exec_pinTests (s : State) : ∀ i ∈ [(Instr.extest, 3), (.clamp, 4), (.highz, 5)], exec i.1 s =
    .next (if s.sysRst then withIr s i.2 else { s with sec := { s.sec with ir := 0, extestBlocked := true } }) := by
  simp only [List.forall_mem_cons]
  exact ⟨rfl, rfl, rfl, List.forall_mem_nil _⟩

/-- Tests of the inside act at level FULL only (R405). -/
theorem exec_internalTests (s : State) : ∀ i ∈ [(Instr.internalScan, 6), (.memoryBist, 7)], exec i.1 s =
    .next (withIr s (if s.sec.debug = 2 then i.2 else 0)) := by
  simp only [List.forall_mem_cons]
  exact ⟨rfl, rfl, List.forall_mem_nil _⟩

end Sys2Proof.Laws
end

section
/-! PROOFS. Power states: islands, and the entry to and the exit from Coast and Park (14 R410 to R414). -/

namespace Sys2Proof.Laws
open Sys2Proof Sys2Proof.Machine

theorem exec_glideEntry {k t : Nat} {s : State} (hup : s.up = true) (ht : s.notBefore t = true) (hp : s.power.state = 0)
    (hk : k ∈ s.islands) (hg : k ∉ s.power.gated) (hi : s.idleCell (k / 16) (k % 16) = true) :
    exec (.glideEntry k t) s = .next { s.at_ t with power := { s.power with gated := insertNat k s.power.gated } } :=
  next_of_condition (by simp [hup, ht, hp, hk, hg, hi]) ..

theorem exec_glideExit {k : Nat} {s : State} (hc : s.board.cold = false) (hk : k ∈ s.power.gated) :
    exec (.glideExit k) s = .next { s with power := { s.power with gated := s.power.gated.filter fun j => decide (j ≠ k) } } :=
  next_of_condition (by simp [hc, hk]) ..

theorem exec_pwrStatRead {s : State} (hc : s.board.cold = false) :
    exec .pwrStatRead s = .next { s.emit (.value (s.pwrStat.zeroExtend 64)) with power := { s.power with refusals := 0 } } :=
  next_of_condition (by simp [hc]) ..

/-! ### Every lodged context is evicted (Table 14.9 step 2) -/

theorem evictsOnly_evict_any (s : State) (n : Nat) : EvictsOnly s (s.evict n) := by
  cases lodged : (s.ctx n).lodged with
  | false =>
    have same : s.evict n = s := by simp [State.evict, lodged]
    rw [same]
    exact evictsOnly_refl s
  | true => exact evictsOnly_evict lodged

/-- A context that is lodged after evictions was lodged before them, and stands as it did. -/
theorem EvictsOnly.lodged {s t : State} (h : EvictsOnly s t) {m : Nat} (hm : (t.ctx m).lodged = true) :
    (s.ctx m).lodged = true ∧ t.ctx m = s.ctx m := by
  obtain ⟨ctxs, -, -⟩ := h
  obtain same | ⟨-, stored⟩ := ctxs m
  · exact ⟨same ▸ hm, same⟩
  · rw [stored] at hm
    cases hm

theorem EvictsOnly.trans {s t u : State} (h : EvictsOnly s t) (k : EvictsOnly t u) : EvictsOnly s u := by
  have ⟨ctxs, bytes, frame⟩ := h
  have ⟨ctxs', bytes', frame'⟩ := k
  refine ⟨fun m => ?_, fun a outside => ?_,
    frame'.trans (congrArg (fun t : State => { t with ctxs := u.ctxs, hbm := u.hbm, free := u.free }) frame)⟩
  · obtain same | ⟨lodged, stored⟩ := ctxs' m
    · rw [same]
      exact ctxs m
    · obtain ⟨lodged, same⟩ := h.lodged lodged
      exact .inr ⟨lodged, same ▸ stored⟩
  · exact (bytes' a fun m lodged => outside m (h.lodged lodged).1).trans (bytes a outside)

theorem evict_not_lodged (s : State) (n : Nat) : ((s.evict n).ctx n).lodged = false := by
  cases lodged : (s.ctx n).lodged with
  | false =>
    refine Bool.eq_false_iff.mpr fun after => ?_
    rw [((evictsOnly_evict_any s n).lodged after).1] at lodged
    cases lodged
  | true =>
    obtain ⟨transfer, free, ext, -, evicted⟩ := evict_of_lodged lodged
    have stored : (s.evict n).ctx n = (s.modCtx n (storedBack transfer)).ctx n := by rw [evicted]; rfl
    rw [stored, State.ctx_modCtx_same]
    rfl

theorem evict_all_of (l : List Nat) (s : State) :
    EvictsOnly s (l.foldl State.evict s) ∧ ∀ n ∈ l, ((l.foldl State.evict s).ctx n).lodged = false := by
  induction l generalizing s with
  | nil => exact ⟨evictsOnly_refl s, nofun⟩
  | cons k l ih =>
    obtain ⟨later, out⟩ := ih (s.evict k)
    refine ⟨(evictsOnly_evict_any s k).trans later, fun n hn => ?_⟩
    obtain rfl | hn := List.mem_cons.mp hn
    · refine Bool.eq_false_iff.mpr fun after => ?_
      have before := (later.lodged after).1
      rw [evict_not_lodged] at before
      cases before
    · exact out n hn

theorem table_get_of_not_listed {α : Type} (d : Nat → α) {t : Table α} {n : Nat} (h : n ∉ t.map Prod.fst) :
    Table.get d t n = d n := by
  induction t with
  | nil => rfl
  | cons p t ih =>
    simp only [List.map_cons, List.mem_cons, not_or] at h
    exact (if_neg (Ne.symm h.1)).trans (ih h.2)

/-- What a change of every listed value leaves alone reads as before. -/
theorem table_get_mapV {α β : Type} (p : α → β) {f : α → α} (h : ∀ x, p (f x) = p x) (d : Nat → α) (t : Table α) (n : Nat) :
    p (Table.get d (Table.mapV f t) n) = p (Table.get d t n) := by
  induction t with
  | nil => rfl
  | cons q t ih =>
    obtain ⟨j, v⟩ := q
    by_cases here : j = n
    · simpa [Table.mapV, Table.get, here] using h v
    · simpa [Table.mapV, Table.get, here] using ih

theorem lodged_of_not_listed {s : State} {n : Nat} (h : n ∉ s.ctxs.map Prod.fst) : (s.ctx n).lodged = false := by
  rw [State.ctx, table_get_of_not_listed _ h, ctxHomed_frame]
  rfl

/-- Afterwards no context is lodged, and evictions and read-aheads that are dropped are all that has happened. -/
theorem evictAll_effect (s : State) : (∀ n, (s.evictAll.ctx n).lodged = false) ∧
    (∀ a, a < tenantSize → s.evictAll.hbm.read a = s.hbm.read a) ∧
    s.evictAll = { s with ctxs := s.evictAll.ctxs, hbm := s.evictAll.hbm, free := s.evictAll.free } := by
  obtain ⟨only, out⟩ := evict_all_of (s.ctxs.map Prod.fst) s
  have ⟨_, bytes, frame⟩ := only
  refine ⟨fun n => ?_, fun a low => bytes a fun m _ => .inl ?_, ?_⟩
  · refine (table_get_mapV Ctx.lodged (f := fun c => { c with readAhead := [] }) (fun _ => rfl) _ _ n).trans ?_
    refine Bool.eq_false_iff.mpr fun after => ?_
    have before := (only.lodged after).1
    by_cases listed : n ∈ s.ctxs.map Prod.fst
    · exact absurd after (Bool.eq_false_iff.mp (out n listed))
    · exact absurd before (Bool.eq_false_iff.mp (lodged_of_not_listed listed))
  · unfold tenantSize at low
    unfold extensionBase
    omega
  · exact congrArg (fun t : State => { t with ctxs := s.evictAll.ctxs }) frame

/-! ### The cores that an entry puts to sleep and an exit starts (Table 14.9) -/

/-- State `t` is `s` but for the cores. -/
def OnlyCores (s t : State) : Prop := t = { s with cores := t.cores }

theorem OnlyCores.trans {s t u : State} (h : OnlyCores s t) (k : OnlyCores t u) : OnlyCores s u :=
  Eq.trans k (by rw [h])

theorem OnlyCores.foldl {α : Type} {f : State → α → State} (h : ∀ s a, OnlyCores s (f s a)) (l : List α) (s : State) :
    OnlyCores s (l.foldl f s) := by
  induction l generalizing s with
  | nil => rfl
  | cons a l ih => exact (h s a).trans (ih (f s a))

theorem onlyCores_restartCell (s : State) (b k : Nat) : OnlyCores s (s.restartCell b k) := by
  unfold State.restartCell
  cases coreOfCell b k with
  | none => rfl
  | some id => dsimp only; split <;> rfl

/-- Park puts cores of supervisors to sleep, Coast none. -/
theorem enterPower_frame (s : State) (st : Nat) : ∃ w, OnlyCores s.evictAll w ∧ (st ≠ 2 → w = s.evictAll) ∧
    s.enterPower st = { w with power := { w.power with state := st, refused := false, reason := 0, gated := [] } } := by
  refine ⟨_, ?_, fun coast => if_neg coast, rfl⟩
  split
  · refine OnlyCores.foldl (fun s i => ?_) _ _
    dsimp only
    split <;> rfl
  · rfl

/-- The entry to a power state evicts every lodged context, and no tenant byte changes (R411, R412). -/
theorem enterPower_effect (s : State) (st : Nat) : let u := s.enterPower st
    u.power.state = st ∧ u.power.gated = [] ∧ (∀ n, (u.ctx n).lodged = false) ∧
    (∀ a, a < tenantSize → u.hbm.read a = s.hbm.read a) ∧ u.fns = s.fns ∧ u.time = s.time := by
  obtain ⟨out, bytes, frame⟩ := evictAll_effect s
  obtain ⟨w, cores, -, entered⟩ := enterPower_frame s st
  dsimp only
  rw [entered, cores]
  exact ⟨rfl, rfl, out, bytes, (congrArg State.fns frame :), (congrArg State.time frame :)⟩

theorem enterPower_coast_cores (s : State) : (s.enterPower 1).cores = s.cores := by
  obtain ⟨-, -, frame⟩ := evictAll_effect s
  obtain ⟨w, -, coast, entered⟩ := enterPower_frame s 1
  rw [entered, coast (by decide)]
  exact (congrArg State.cores frame :)

/-- The exit starts cores again, and nothing else beside the power state changes (R412). -/
theorem leaveLowPower_frame {s : State} (h : s.power.state ≠ 0) :
    OnlyCores { s with power := { s.power with state := 0 } } s.leaveLowPower := by
  unfold State.leaveLowPower
  rw [if_neg h]
  have cells : ∀ (l : List Nat) (s : State),
      OnlyCores s (l.foldl (fun s b => [0, 9, 10, 11, 12].foldl (fun s k => s.restartCell b k) s) s) :=
    OnlyCores.foldl fun s b => OnlyCores.foldl (fun s k => onlyCores_restartCell s b k) _ s
  dsimp only
  split
  · refine (cells _ _).trans (OnlyCores.foldl (fun s i => ?_) _ _)
    split <;> rfl
  · exact cells _ _

section
variable {t : Nat} {s : State} (hup : s.up = true) (ht : s.notBefore t = true) (hi : s.coastIdle ≠ 0) (hcond : s.coastCond = true)
include hup ht hi hcond

/-- At level FULL the entry is refused, and counted once (R414). -/
theorem exec_coastEntry (hp : s.power.state = 0) (hnew : s.sec.debug ≠ 2 ∨ s.power.coastTold = false) : exec (.coastEntry t) s =
    .next (if s.sec.debug = 2 then
      { (s.at_ t).refuseEntry with power := { (s.at_ t).refuseEntry.power with coastTold := true } }
      else (s.at_ t).enterPower 1) :=
  next_of_condition (by simp [hup, ht, hi, hcond, hp, hnew]) ..

theorem exec_parkEntry (hp : s.power.state ≠ 2) (hen : s.parkEn = true) (hd : s.allD3 = true)
    (hnew : s.sec.debug ≠ 2 ∨ s.power.parkTold = false) : exec (.parkEntry t) s =
    .next (if s.sec.debug = 2 then
      { (s.at_ t).refuseEntry with power := { (s.at_ t).refuseEntry.power with parkTold := true } }
      else (s.at_ t).enterPower 2) :=
  next_of_condition (by simp [hup, ht, hi, hcond, hp, hen, hd, hnew]) ..

end

theorem exec_coastParkExit {why : WakeTrigger} {s : State} (hup : s.up = true) (hp : s.power.state ≠ 0) (hw : s.triggered why = true) :
    exec (.coastParkExit why) s = .next s.leaveLowPower :=
  next_of_condition (by simp [hup, hp, hw]) ..

end Sys2Proof.Laws
end

section
/-! PROOFS. Warm and cold reset (15 R423, R427, R429, R433): one lemma for each event. -/

namespace Sys2Proof.Laws
open Sys2Proof Sys2Proof.Machine

theorem exec_warmReset (s : State) : exec .warmReset s = .next (if s.chip.fatal ∨ s.board.cold then s else s.warmState) := by
  simp only [← Bool.or_eq_true]
  rfl

theorem exec_warmResetRelease {s : State} (st : StartUp) (hw : s.board.warm = true) (hc : s.board.cold = false)
    (hf : s.chip.fatal = false) : exec (.warmResetRelease st) s =
      .next ((({ s with board := { s.board with warm := false } } : State).boot st).publishHealth {}) :=
  next_of_condition (by simp [hw, hc, hf]) ..

theorem exec_coldReset {why : ColdWhy} {s : State} (hc : s.board.cold = false) (hw : why ≠ .recoveryUpdate) :
    exec (.coldReset why) s = .next (s.tearStage.coldState why) :=
  next_of_condition (by simp [hc, hw]) ..

/-- The state whose start-up begins: out of cold reset, with the straps sampled and the debug level of the life cycle (R433, Table 14.1). -/
def released (s : State) (st : StartUp) : State :=
  { s with
    board := { s.board with cold := false, fpbif := BitVec.ofNat 12 (strapBits st.fpbif), smbAddr := BitVec.ofNat 2 (strapBits st.smbAddr) }
    sec := { s.sec with debug := coldDebug s.store.lifecycle, ir := if 3 ≤ s.sec.ir ∧ s.sec.ir ≤ 5 then 0 else s.sec.ir } }

theorem exec_coldResetRelease {st : StartUp} {s : State} (hc : s.board.cold = true) (hb : s.board.breach = false)
    (ht : s.board.thermtrip = false) (hf : st.fpbif.length = 12) (ha : st.smbAddr.length = 2) :
    exec (.coldResetRelease st) s = .next (((((released s st).checkLedger st).applyMap st).boot st).publishHealth {}) :=
  next_of_condition (by simp [hc, hb, ht, hf, ha]) ..

theorem exec_powerOrderBreach {rail : Nat} {s : State} (hc : s.board.cold = true) (hr : rail < 8) :
    exec (.powerOrderBreach rail) s = .next { s with board := { s.board with breach := true } } :=
  next_of_condition (by simp [hc, hr]) ..

/-- A breach of the power order holds the device in cold reset (R423). -/
theorem exec_coldResetRelease_of_breach {s : State} (h : s.board.breach = true) (st : StartUp) :
    exec (.coldResetRelease st) s = .next s :=
  congrArg Host.Outcome.next (if_neg (by simp [h]))

/-- Settles O54: each clause is the lemma about its command; what the entry to Coast and Park leaves is `enterPower_effect`, and what their
exit leaves is `leaveLowPower_frame`. -/
theorem debugPortsPowerAndReset : Obligations.DebugPortsPowerAndReset := by
  refine ⟨?dap, ?timeouts, ?tap, fun k t s => exec_glideEntry, fun k s => exec_glideExit, ?entry, ?exit, fun s => exec_pwrStatRead,
    exec_warmReset, fun st s => exec_warmResetRelease st, fun why s => exec_coldReset, fun st s => exec_coldResetRelease, ?breach⟩
  case dap =>
    intro f s hup
    refine ⟨fun bad => ?_, fun good => ⟨exec_dapStatus hup good, fun no => ?_, fun no => ?_, fun yes => ?_, fun yes => ?_,
      fun _ w => dapAllowed_none f.addr w, fun place sound => ⟨dapGet_local place sound, dapPut_local place s f.data⟩⟩⟩
    · have faulty := exec_dap_faulty hup bad
      simp only [List.forall_mem_cons] at faulty
      obtain ⟨read, write, status, -⟩ := faulty
      exact ⟨read, write, status⟩
    · rw [exec_dapRead hup good, if_neg (ne_true_of_eq_false no)]
      rfl
    · rw [exec_dapWrite hup good, if_neg (ne_true_of_eq_false no)]
      rfl
    · rw [exec_dapRead hup good, if_pos yes]
    · rw [exec_dapWrite hup good, if_pos yes]
  case timeouts =>
    exact fun s t ht => ⟨next_of_condition ht .., fun hup =>
      ⟨next_of_condition (by simp [hup, ht]) .., next_of_condition (by simp [hup, ht]) ..⟩⟩
  case tap => exact fun s => ⟨rfl, rfl, fun v => rfl, fun b => rfl, exec_pinTests s, exec_internalTests s⟩
  case entry =>
    intro t s hup ht hi hcond
    refine ⟨fun hp => ⟨fun lower => ?coast, fun full new => ?coastRefused⟩,
      fun hp hen hd => ⟨fun lower => ?park, fun full new => ?parkRefused⟩⟩
    case coast =>
      obtain ⟨state, gated, out, bytes, fns, time⟩ := enterPower_effect (s.at_ t) 1
      refine ⟨_, (exec_coastEntry hup ht hi hcond hp (.inl lower)).trans (by rw [if_neg lower]), ?_⟩
      exact ⟨state, gated, enterPower_coast_cores _, out, fun _ => bytes, fns, time⟩
    case coastRefused =>
      refine ⟨_, (exec_coastEntry hup ht hi hcond hp (.inr new)).trans (by rw [if_pos full]), ?_⟩
      exact ⟨hp, rfl, rfl, rfl⟩
    case park =>
      obtain ⟨state, gated, out, bytes, fns, time⟩ := enterPower_effect (s.at_ t) 2
      refine ⟨_, (exec_parkEntry hup ht hi hcond hp hen hd (.inl lower)).trans (by rw [if_neg lower]), ?_⟩
      exact ⟨state, gated, out, fun _ => bytes, fns, time⟩
    case parkRefused =>
      refine ⟨_, (exec_parkEntry hup ht hi hcond hp hen hd (.inr new)).trans (by rw [if_pos full]), ?_⟩
      exact ⟨rfl, rfl, rfl, rfl⟩
  case exit =>
    intro why s hup hp hw
    have frame : s.leaveLowPower = _ := leaveLowPower_frame hp
    exact ⟨_, exec_coastParkExit hup hp hw, rfl, (congrArg (fun t : State => t.power.state) frame :), (congrArg State.hbm frame :)⟩
  case breach =>
    intro rail s hc hr
    refine ⟨exec_powerOrderBreach hc hr, fun st t breached => exec_coldResetRelease_of_breach ?_ st⟩
    rw [exec_powerOrderBreach hc hr] at breached
    cases breached
    rfl

end Sys2Proof.Laws
end

section
/-! PROOFS. The 32 bytes of a channel command: each field of Table 03.1 from its bytes and back (03 R76). -/

namespace Sys2Proof.Laws
open Sys2Proof Sys2Proof.Machine

/-- Bytes are those of the number that they spell (00 R9). -/
theorem leBytes_leVal (bs : List Byte) : leBytes bs.length (leVal bs) = bs := by
  induction bs with
  | nil => rfl
  | cons b bs ih =>
    have low : BitVec.ofNat 8 (b.toNat + 256 * leVal bs) = b := by
      apply BitVec.eq_of_toNat_eq; simp; omega
    have high : (b.toNat + 256 * leVal bs) / 256 = leVal bs := by omega
    rw [List.length_cons, leVal, leBytes, low, high, ih]

theorem leVal_lt (bs : List Byte) : leVal bs < 256 ^ bs.length := by
  have h := leVal_leBytes bs.length (leVal bs)
  rw [leBytes_leVal] at h
  exact h ▸ Nat.mod_lt _ (Nat.pow_pos (by decide))

/-- A field of `w` bits survives its bytes, when they hold it. -/
theorem ofNat_leVal_leBytes {w n : Nat} (hw : 2 ^ w ≤ 256 ^ n) (x : BitVec w) :
    BitVec.ofNat w (leVal (leBytes n x.toNat)) = x := by
  rw [leVal_leBytes, Nat.mod_eq_of_lt (x.isLt.trans_le hw), BitVec.ofNat_toNat, BitVec.setWidth_eq]

/-- A field of `n` bytes of a longer text is spelled by the bytes that stand there. -/
theorem leBytes_field {w o n : Nat} {bs : List Byte} (hw : 256 ^ n = 2 ^ w) (h : o + n ≤ bs.length) :
    leBytes n (BitVec.ofNat w (field bs o n)).toNat = (bs.drop o).take n := by
  have len : ((bs.drop o).take n).length = n := by simp; omega
  have small : field bs o n < 2 ^ w := by
    have := leVal_lt ((bs.drop o).take n)
    rwa [len, hw] at this
  rw [BitVec.toNat_ofNat, Nat.mod_eq_of_lt small]
  exact (congrArg (leBytes · (field bs o n)) len.symm).trans (leBytes_leVal _)

theorem encode_length (c : Cmd) : c.encode.length = 32 := by simp [Cmd.encode]

theorem decode_encode (c : Cmd) : Cmd.decode c.encode = c := by
  have count : field c.encode 4 4 = leVal (leBytes 4 c.count.toNat) := by simp [Cmd.encode, field]
  have a : field c.encode 8 8 = leVal (leBytes 8 c.a.toNat) := by simp [Cmd.encode, field]
  have b : field c.encode 16 8 = leVal (leBytes 8 c.b.toNat) := by simp [Cmd.encode, field, List.drop_append, List.drop_eq_nil_of_le]
  have cc : field c.encode 24 8 = leVal (leBytes 8 c.c.toNat) := by simp [Cmd.encode, field, List.drop_append, List.drop_eq_nil_of_le, List.take_of_length_le]
  rw [Cmd.decode, count, a, b, cc, ofNat_leVal_leBytes (by decide), ofNat_leVal_leBytes (by decide), ofNat_leVal_leBytes (by decide),
    ofNat_leVal_leBytes (by decide)]
  rfl

theorem encode_decode {bs : List Byte} (h : bs.length = 32) : (Cmd.decode bs).encode = bs := by
  have head : [bs.getD 0 0, bs.getD 1 0, bs.getD 2 0, bs.getD 3 0] = bs.take 4 := by
    match bs, h with
    | _ :: _ :: _ :: _ :: _, _ => rfl
  have parts : bs.take 4 ++ (bs.drop 4).take 4 ++ (bs.drop 8).take 8 ++ (bs.drop 16).take 8 ++ (bs.drop 24).take 8 = bs := by
    rw [← List.take_add, ← List.take_add, ← List.take_add, ← List.take_add, List.take_of_length_le h.le]
  unfold Cmd.decode Cmd.encode
  rw [leBytes_field (by decide) (by omega), leBytes_field (by decide) (by omega), leBytes_field (by decide) (by omega),
    leBytes_field (by decide) (by omega), head, parts]

/-- Settles O7: each field is the number that its bytes spell, and bytes are those of the number that they spell. -/
theorem commandBytesRoundTrip : Obligations.CommandBytesRoundTrip :=
  ⟨fun c => ⟨encode_length c, decode_encode c⟩, fun _ => encode_decode⟩

/-- Settles O4: no byte map lists a byte. -/
theorem resetKeepsByteMapsCanonical : Obligations.ResetKeepsByteMapsCanonical := rfl

end Sys2Proof.Laws
end

section
/-! PROOFS. FILL, MOVE, COMPARE, DIGEST and ATOMIC: members whose accesses pass their checks (02 R48 to R54, 03 R89 to R93, R104). -/

namespace Sys2Proof.Laws
open Sys2Proof Sys2Proof.Machine

/-- A write that passes its checks stores all of its bytes; a write of none changes nothing (03 R86). -/
theorem writeRange_of_pass {s : State} {n : Nat} {w : Who} {space a : Nat} {bs : List Byte}
    (h : s.writeFail w space a bs.length = none) :
    s.writeRange n w space a bs = (if bs.length = 0 then s else s.ctxOut n w space a bs, none) := by
  rw [State.writeRange, h]
  dsimp only
  rw [List.take_length]
  split <;> rfl

theorem fillBytes_length (c : Cmd) (o k : Nat) : (c.fillBytes o k).length = k := by simp [Cmd.fillBytes]

/-- Byte `i` of a number, when it is one of those asked for (00 R9). -/
theorem leBytes_getElem? (n x i : Nat) (h : i < n) : (leBytes n x)[i]? = some (BitVec.ofNat 8 (x / 256 ^ i)) := by
  induction n generalizing x i with
  | zero => exact absurd h (Nat.not_lt_zero i)
  | succ n ih =>
    cases i with
    | zero => simp [leBytes]
    | succ i =>
      rw [leBytes, List.getElem?_cons_succ, ih _ i (by omega), Nat.div_div_eq_div_mul, Nat.pow_succ']

/-- FILL repeats the low bytes of C (Table 03.7). -/
theorem fillBytes_getElem? (c : Cmd) {o k j : Nat} (h : j < k) :
    (c.fillBytes o k)[j]? = some (BitVec.ofNat 8 (c.cc / 256 ^ ((o + j) % c.width))) := by
  have inside : (o + j) % c.width < c.width := Nat.mod_lt _ (Nat.two_pow_pos _)
  rw [Cmd.fillBytes, List.getElem?_map, List.getElem?_range h, Option.map_some, List.getD_eq_getElem?_getD,
    leBytes_getElem? _ _ _ inside, Option.getD_some]

theorem exec_fill {n : Nat} {s : State} (w : Wr) (may : s.mayRun n (isOp 2) = true) : let c := s.ctx n
    let b := c.cmd.cb + c.xfer.off
    let bs := c.cmd.fillBytes c.xfer.off c.left
    s.writeFail c.me c.cmd.spaceB b bs.length = none →
    exec (.fill n w) s = .next ((if bs.length = 0 then s else s.ctxOut n c.me c.cmd.spaceB b bs).endMember n 0 none
      (decide (bs.length ≠ 0)) w) := by
  dsimp only
  intro pass
  change execFill n w s = _
  simp only [execFill, may, writeRange_of_pass pass, whenB_true]

/-- Settles O17: the write stores the whole pattern. -/
theorem fillStoresItsPattern : Obligations.FillStoresItsPattern :=
  ⟨fun _ w _ may => exec_fill w may, fun c o k _ h => ⟨fillBytes_length c o k, fillBytes_getElem? c h⟩⟩

section
variable {n : Nat} {s : State} (w : Wr) {bs : List Byte} (read : s.input n = (bs, none))
include read

theorem skipMember_of_read : let c := s.ctx n
    let s1 := if c.cmd.consumer then s.accept n bs.length else s
    s.skipMember n w = s1.endMember n (c.shortBy bs.length) ((s1.ctx n).mismatch (c.shortBy bs.length))
      (decide (bs.length ≠ 0)) w := by
  rw [State.skipMember, read]

variable (may : s.mayRun n (isOp 1) = true)
include may

/-- With SKIP a MOVE reads its source and delivers nothing (02 R51). -/
theorem exec_move_skip (skip : (s.ctx n).cmd.skip = true) : exec (.move n w) s = .next (s.skipMember n w) := by
  change execMove n w s = _
  simp only [execMove, may, read, skip, whenB_true, if_true]

/-- A producer's MOVE sends its bytes into the stream (02 R48). -/
theorem exec_move_stream (skip : (s.ctx n).cmd.skip = false) (produces : (s.ctx n).cmd.producer = true) : let c := s.ctx n
    let s1 := if c.cmd.consumer then (s.produce n bs false).accept n bs.length else s.produce n bs false
    exec (.move n w) s = .next (s1.endMember n (c.shortBy bs.length) ((s1.ctx n).mismatch (c.shortBy bs.length))
      (decide (bs.length ≠ 0)) w) := by
  change execMove n w s = _
  simp only [execMove, may, read, skip, produces, whenB_true, Bool.false_eq_true, if_false, if_true]
  rfl

/-- Any other MOVE stores its bytes at B (03 R89). -/
theorem exec_move_memory (skip : (s.ctx n).cmd.skip = false) (produces : (s.ctx n).cmd.producer = false) : let c := s.ctx n
    let b := c.cmd.cb + c.xfer.off
    s.writeFail c.me c.cmd.spaceB b bs.length = none →
    let s0 := if bs.length = 0 then s else s.ctxOut n c.me c.cmd.spaceB b bs
    let s1 := if c.cmd.consumer then s0.accept n bs.length else s0
    exec (.move n w) s = .next (s1.endMember n (c.shortBy bs.length) ((s1.ctx n).mismatch (c.shortBy bs.length))
      (decide (bs.length ≠ 0)) w) := by
  intro c b pass
  change execMove n w s = _
  simp only [execMove, may, read, skip, produces, whenB_true, Bool.false_eq_true, if_false]
  rw [State.moveOut, pass, writeRange_of_pass pass]
  rfl

end

/-- Settles O18: the three forms of MOVE, each by its lemma. -/
theorem moveCopiesBytes : Obligations.MoveCopiesBytes := by
  intro n w s bs c b may read deliverable s1 s2
  cases skip : c.cmd.skip with
  | true =>
    have same : s1 = s := if_pos skip
    rw [exec_move_skip w read may skip, skipMember_of_read w read]
    simp only [s2, same, c]
  | false =>
    cases produces : c.cmd.producer with
    | true =>
      have sent : s1 = s.produce n bs false := by simp only [s1, skip, produces, Bool.false_eq_true, if_false, if_true]
      rw [exec_move_stream w read may skip produces, ← sent]
    | false =>
      have pass : s.writeFail c.me c.cmd.spaceB b bs.length = none := by simpa [skip, produces] using deliverable
      have stored : s1 = if bs.length = 0 then s else s.ctxOut n c.me c.cmd.spaceB b bs := by
        simp only [s1, skip, produces, Bool.false_eq_true, if_false]
      rw [exec_move_memory w read may skip produces pass, ← stored]

theorem firstDiff_self (xs : List Byte) (i : Nat) : firstDiff xs xs i = none := by
  induction xs generalizing i with
  | nil => rfl
  | cons x xs ih => simp [firstDiff, ih]

/-- COMPARE's first difference stands after the bytes that agree (03 R91). -/
theorem firstDiff_of_prefix {xs ys : List Byte} {d : Nat} (inside : d < xs.length) (len : xs.length = ys.length)
    (agree : xs.take d = ys.take d) (differ : xs[d]? ≠ ys[d]?) (i : Nat) : firstDiff xs ys i = some (i + d) := by
  induction d generalizing xs ys i with
  | zero =>
    match xs, ys with
    | x :: xs, y :: ys =>
      have ne : x ≠ y := by simpa using differ
      simp [firstDiff, ne]
  | succ d ih =>
    match xs, ys with
    | x :: xs, y :: ys =>
      obtain ⟨rfl, rest⟩ : x = y ∧ xs.take d = ys.take d := by simpa using agree
      have later := ih (by simpa using inside) (by simpa using len) rest (by simpa using differ) (i + 1)
      rw [firstDiff, if_pos rfl, later, Nat.add_right_comm, Nat.add_assoc]

section
variable {n : Nat} {s : State} {x y : List Byte} (read : s.input n = (x, none))
  (other : let c := s.ctx n
    if c.cmd.mod = 0 then s.readRange c.me c.cmd.spaceB (c.cmd.cb + c.xfer.off) c.left = (y, none)
    else (leBytes c.cmd.cnt c.cmd.cc).drop c.xfer.off = y)
include read other

/-- COMPARE compares the bytes at A with those at B, or with those of C (03 R91). -/
theorem exec_compare (w : Wr) (may : s.mayRun n (isOp 3) = true) :
    exec (.compare n w) s = .next (s.compared n x y none none w) := by
  change execCompare n w s = _
  rw [execCompare, may, whenB_true, read]
  dsimp only at other ⊢
  split at other
  · next bytes => rw [if_pos bytes, other]
  · next word => rw [if_neg word, other]

end

/-- Settles O19: equal operands have no first difference, and others have the one that the statement names. -/
theorem compareSetsEquality : Obligations.CompareSetsEquality := by
  intro n w s x y c may read len other
  refine ⟨fun equal => ?equal, fun d inside agree differ => ?differ⟩
  case equal =>
    subst equal
    rw [exec_compare read other w may, State.compared, firstDiff_self]
  case differ =>
    rw [exec_compare read other w may, State.compared, firstDiff_of_prefix inside len agree differ, Nat.zero_add]

/-- Settles O20: the arm of DIGEST for a source that was read, its two conditions in the statement's words. -/
theorem digestFeedsAndCloses : Obligations.DigestFeedsAndCloses := by
  intro n w s bs c may read s1 s2 short mis
  change execDigest n w s = _
  simp only [execDigest, may, read, whenB_true]
  have closes : ((!c.cmd.cont || (mis.isSome && c.cmd.lenok)) && (mis.isNone || c.cmd.lenok)) = true ↔
      (c.cmd.cont = false ∧ (mis = none ∨ c.cmd.lenok = true)) ∨ (mis ≠ none ∧ c.cmd.lenok = true) := by
    cases mis <;> cases c.cmd.cont <;> cases c.cmd.lenok <;> simp
  have cut : (if mis.isSome then s2.digestCut n else s2) = if mis = none then s2 else s2.digestCut n := by cases mis <;> rfl
  refine congrArg Host.Outcome.next ?_
  rw [← cut]
  exact if_congr closes rfl rfl

theorem bytesIn_length (s : State) (w : Who) (space a n : Nat) : (s.bytesIn w space a n).length = n := by
  induction n generalizing a with
  | zero => rfl
  | succ n ih => exact congrArg Nat.succ (ih (a + 1))

/-- An ATOMIC whose accesses pass their checks: A takes the new value, then B the old bytes (03 R104). -/
theorem atomic_of_pass {n : Nat} {w : Wr} {s : State} {blk : List Byte} (new : Nat → Nat → Nat → Nat) : let c := s.ctx n
    let k := c.cmd.cnt
    let old := s.bytesIn c.me c.cmd.spaceA c.cmd.ca k
    let act := s.ctxOut n c.me c.cmd.spaceA c.cmd.ca (leBytes k (new (leVal old) (field blk 0 k) (field blk 16 k)))
    s.readRange c.me c.cmd.spaceB c.cmd.cb 32 = (blk, none) → s.atomicFail c.me c.cmd.spaceA c.cmd.ca k = none →
    act.writeFail c.me c.cmd.spaceB c.cmd.cb k = none →
    s.atomic n new w = (if k = 0 then act else act.ctxOut n c.me c.cmd.spaceB c.cmd.cb old).endMember n 0 none true w := by
  intro c k old act block free pass
  have len : old.length = k := bytesIn_length ..
  rw [State.atomic, block]
  dsimp only
  rw [free]
  dsimp only
  rw [writeRange_of_pass (len ▸ pass), len]

/-- Settles O21: the three modifiers differ in the new value alone (Table 03.15). -/
theorem atomicsActOnce : Obligations.AtomicsActOnce := by
  intro n w s blk c k old act ends x p q block free pass
  have acts : ∀ new, s.atomic n new w = ends (act (new x p q)) := fun new => atomic_of_pass new block free (pass _)
  refine ⟨fun may => ?_, fun may => ?_, fun may => ?_⟩
  · change execAtomicCas n w s = _
    rw [execAtomicCas, may, whenB_true, acts]
  · change execAtomicFetchAdd n w s = _
    rw [execAtomicFetchAdd, may, whenB_true, acts]
  · change execAtomicSwap n w s = _
    rw [execAtomicSwap, may, whenB_true, acts]

end Sys2Proof.Laws
end

section
/-! PROOFS. WAIT, SIGNAL, FENCE, POST, NOP and EPOCH (03 R113 to R118, R121). -/

namespace Sys2Proof.Laws
open Sys2Proof Sys2Proof.Machine

section
variable {n : Nat} {s : State} (w : Wr)

theorem exec_wait (may : s.mayRun n (isOp 0x24) = true) : let c := s.ctx n
    exec (.wait n w) s = .next
      (if bit c.cmd.mod 0 && (s.ech (c.cmd.cf 0 12)).flag then
        (if bit c.cmd.mod 2 then s.modEch (c.cmd.cf 0 12) fun e => { e with flag := false } else s).memberDone n false w
      else if bit c.cmd.mod 1 && decide (c.cmd.cnt = 0) then s.memberDone n false w
      else s.beginWait n w) := by
  change execWait n w s = _
  rw [execWait, may, whenB_true]

/-- The time of a WAIT ends it, or the flag that becomes set in the same moment does (03 R114). -/
theorem exec_waitTimeout {x : Waiting} {d t : Nat} (up : s.up = true) (waits : (s.ctx n).phase = .waiting)
    (wait : (s.ctx n).wait = some x) (timed : x.deadline = some d) (now : s.notBefore t = true) (passed : s.waitOver d t = true) :
    exec (.waitTimeout n t w) s = .next
      (if (match x.chan with | none => false | some ch => s.firesNext ch) then s.at_ t else (s.at_ t).wakeWait n w) := by
  change execWaitTimeout n t w s = _
  simp only [execWaitTimeout, wait, Option.bind_some, timed, up, waits, now, passed, decide_true, Bool.and_self, whenB_true]
    <;> rfl

/-- A command that waits for the context's writes acts at once when none is on its way (02 R69). -/
theorem whenArrived_eq (goal : Goal) (now : State) : s.whenArrived n goal now =
    if (s.ctx n).dirty = [] then now else s.modCtx n fun c => { c with phase := .arrive, goal := goal } := by
  rw [State.whenArrived]
  exact if_congr List.isEmpty_iff rfl rfl

theorem exec_signal (may : s.mayRun n (isOp 0x25) = true) :
    exec (.signal n w) s = .next (s.whenArrived n .complete (s.signalNow n)) := by
  change execSignal n w s = _
  rw [execSignal, may, whenB_true]

theorem exec_fence (may : s.mayRun n (isOp 0x28) = true) :
    exec (.fence n w) s = .next (s.whenArrived n .complete (s.fenceNow n w)) := by
  change execFence n w s = _
  rw [execFence, may, whenB_true]

theorem exec_post (may : s.mayRun n (isOp 0x26) = true) :
    exec (.post n w) s = .next (s.whenArrived n .post (s.postNow n w)) := by
  change execPost n w s = _
  rw [execPost, may, whenB_true]

theorem exec_nop (may : s.mayRun n (isOp 0x30) = true) : exec (.nop n w) s = .next (s.memberDone n false w) := by
  change execNop n w s = _
  rw [execNop, may, whenB_true]

theorem exec_epoch (may : s.mayRun n (isOp 0x2A) = true) :
    exec (.epoch n w) s = .next ((s.modCtx n fun c =>
      { c with r := { c.r with epochTag := BitVec.ofNat 32 (c.cmd.cf 0 32) } }).memberDone n false w) := by
  change execEpoch n w s = _
  rw [execEpoch, may, whenB_true]

end

/-- What a WAIT that begins to wait keeps of itself (03 R113). -/
def waitOf (s : State) (n : Nat) : Waiting :=
  let c := s.ctx n
  { chan := if bit c.cmd.mod 0 then some (c.cmd.cf 0 12) else none, clear := bit c.cmd.mod 2, began := s.time,
    deadline := if bit c.cmd.mod 1 then some (s.time + c.cmd.cnt * 1000) else none }

/-- A WAIT of context `n` that stands in the line already comes before one that begins now: it began earlier, or its context's number is
lower (03 R114). -/
def waitsBefore (s : State) (n : Nat) (p : Nat × Nat) : Bool :=
  decide (((s.ctx p.2).wait.map Waiting.began).getD 0 ≠ s.time) || decide (p.2 < n)

/-- The line of the WAITs on events, when one of context `n` on channel `ch` begins. -/
def lineWith (s : State) (n ch : Nat) : List (Nat × Nat) :=
  s.waitOrder.filter (waitsBefore s n) ++ (ch, n) :: s.waitOrder.filter fun p => !waitsBefore s n p

theorem mem_lineWith_of_mem {s : State} {p : Nat × Nat} (n ch : Nat) (h : p ∈ s.waitOrder) : p ∈ lineWith s n ch := by
  cases b : waitsBefore s n p <;> simp [lineWith, h, b]

theorem mem_lineWith_self (s : State) (n ch : Nat) : (ch, n) ∈ lineWith s n ch := by simp [lineWith]

theorem lineWith_length (s : State) (n ch : Nat) : (lineWith s n ch).length = s.waitOrder.length + 1 := by
  have parts := List.length_eq_length_filter_add (l := s.waitOrder) (waitsBefore s n)
  rw [lineWith, List.length_append, List.length_cons, parts, Nat.add_assoc]

/-- Where no HALT and no freeze waits for it, a WAIT leaves its context waiting and stands in the line of its channel (03 R113). -/
theorem beginWait_eq {s : State} {n : Nat} (w : Wr) (running : (s.ctx n).halt = .none) (thawed : (s.ctx n).frozenFn = false) :
    s.beginWait n w = ({ s with waitOrder := match (waitOf s n).chan with | none => s.waitOrder | some ch => lineWith s n ch }).modCtx n
      fun c => { c with wait := some (waitOf s n), phase := .waiting } := by
  have stays : ∀ (t : State), (t.ctx n).halt = .none → (t.ctx n).frozenFn = false → t.waitsHere n w = t := by
    intro t h f
    simp [State.waitsHere, h, f]
  have order : ∀ l, ({ s with waitOrder := l } : State).ctx n = s.ctx n := fun _ => rfl
  unfold State.beginWait
  cases chan : bit (s.ctx n).cmd.mod 0 <;>
  · simp only [waitOf, chan, Bool.false_eq_true, if_false, if_true]
    rw [stays _ (by simp [order, running]) (by simp [order, thawed])] <;> rfl

/-- Settles O27: each command by its lemma; a WAIT that begins to wait by `beginWait_eq`. -/
theorem waitsAndSignals : Obligations.WaitsAndSignals := by
  refine ⟨fun n w s => ⟨fun may => ⟨fun onEvent flag => ?set, fun clear atOnce zero => ?zero, fun clear timed => ?begins⟩,
    fun x d t up waits wait deadline now passed => ⟨fun quiet => ?timeout, fun ch chan fires => ?flagged⟩,
    fun may => ?signal, fun may => ?fence, fun may => ?post, exec_nop w, exec_epoch w⟩, fun n w s running thawed => ?waits⟩
  case set => rw [exec_wait w may, onEvent, flag]; rfl
  case zero =>
    have noEvent : (bit (s.ctx n).cmd.mod 0 && (s.ech ((s.ctx n).cmd.cf 0 12)).flag) = false := Bool.and_eq_false_iff.mpr clear
    rw [exec_wait w may, noEvent, atOnce, zero]
    rfl
  case begins =>
    have noEvent : (bit (s.ctx n).cmd.mod 0 && (s.ech ((s.ctx n).cmd.cf 0 12)).flag) = false := Bool.and_eq_false_iff.mpr clear
    have notZero : (bit (s.ctx n).cmd.mod 1 && decide ((s.ctx n).cmd.cnt = 0)) = false :=
      Bool.and_eq_false_iff.mpr (timed.imp_right decide_eq_false)
    rw [exec_wait w may, noEvent, notZero]
    rfl
  case timeout =>
    rw [exec_waitTimeout w up waits wait deadline now passed]
    cases chan : x.chan with
    | none => rw [if_neg Bool.false_ne_true, State.wakeWait, State.at_waitOrder]
    | some ch => simp only [quiet ch chan, Bool.false_eq_true, if_false, State.wakeWait, State.at_waitOrder]
  case flagged =>
    rw [exec_waitTimeout w up waits wait deadline now passed, chan]
    simp only [fires, if_true]
  case signal => rw [exec_signal w may, whenArrived_eq, State.signalNow]
  case fence => rw [exec_fence w may, whenArrived_eq, State.fenceNow]
  case post => rw [exec_post w may, whenArrived_eq]
  case waits =>
    have began := beginWait_eq w running thawed
    cases onEvent : bit (s.ctx n).cmd.mod 0 with
    | true =>
      have chan : (waitOf s n).chan = some ((s.ctx n).cmd.cf 0 12) := if_pos onEvent
      rw [chan] at began
      rw [began]
      exact ⟨by simp, by simp [waitOf, onEvent], fun m other => State.ctx_modCtx_ne _ _ _ _ other,
        fun p => mem_lineWith_of_mem n _, fun _ => ⟨mem_lineWith_self .., lineWith_length ..⟩, fun h => (by cases h), rfl⟩
    | false =>
      have chan : (waitOf s n).chan = none := if_neg (by simp [onEvent])
      rw [chan] at began
      rw [began]
      exact ⟨by simp, by simp [waitOf, onEvent], fun m other => State.ctx_modCtx_ne _ _ _ _ other,
        fun p h => h, fun h => (by cases h), fun _ => rfl, rfl⟩

end Sys2Proof.Laws
end

section
/-! PROOFS. FINISH: the ask that it makes, its end, and the comparison of epochs (03 R119, 12 R372, R373). -/

namespace Sys2Proof.Laws
open Sys2Proof Sys2Proof.Machine

/-- The ask of a FINISH of context `n`: its epoch, and the members that have to answer (Table 12.12 steps 1 and 2). -/
def askOf (s : State) (n : Nat) : Ask :=
  { epoch := BitVec.ofNat 32 ((s.ctx n).cmd.cf 0 32)
    waiting := if s.domain.joined then (s.domain.others.filter fun m => s.domain.present.getLsbD m).map fun m => (m, s.domainLimit) else [] }

/-- The state in which context `n`'s FINISH has made ask `a`, before a message is sent. -/
def asked (s : State) (n a : Nat) : State :=
  ({ s with domain := { s.domain with
      asks := Table.set noneDef s.domain.asks a (some (askOf s n)), nextAsk := (a + 1) % 65536 } }).modCtx n fun c =>
    { c with phase := .finishing, ask := some a, snapshot := s.snapshot (askOf s n).epoch }

theorem asked_asks (s : State) (n a : Nat) :
    (asked s n a).domain.asks = Table.set noneDef s.domain.asks a (some (askOf s n)) := by
  rw [asked, State.modCtx_domain]

theorem exec_finish {n k : Nat} {s : State} (w : Wr) (may : s.mayRun n (isOp 0x29) = true) (room : s.domain.asks.length < 1024)
    (free : firstFrom (fun k => (Table.get noneDef s.domain.asks (k % 65536)).isNone) s.domain.nextAsk 1025 = some k) :
    let a := k % 65536
    exec (.finish n w) s = .next (if s.domain.joined then (asked s n a).emit
      (.domain { type := 2, sender := s.domain.member, dest := 0xFF, epoch := (askOf s n).epoch, askId := a } s.domainLinks)
      else asked s n a) := by
  change execFinish n w s = _
  simp only [execFinish, free, may, room, decide_true, Bool.and_self, whenB_true]
  rfl

section
variable {n a : Nat} {s : State} {x : Ask} (w : Wr) (up : s.up = true) (waits : (s.ctx n).phase = .finishing)
  (ask : (s.ctx n).ask = some a) (out : Table.get noneDef s.domain.asks a = some x) (arrived : (s.ctx n).snapshot = [])
  (answered : x.waiting = [])
include up waits ask out arrived answered

theorem exec_finishComplete : let d := { s.domain with asks := Table.erase s.domain.asks a }
    let done := ({ s with domain := d }).modCtx n fun c => { c with ask := none, snapshot := [] }
    exec (.finishComplete n w) s = .next (match d.lost with
      | some m => done.checkFail n deMemberLost (BitVec.ofNat 8 m) 0 none w
      | none => ({ done with domain := { d with ec := if epochBefore x.epoch d.ec then x.epoch + 1 else d.ec } }).memberDone n false w) := by
  change execFinishComplete n w s = _
  simp only [execFinishComplete, ask, out, up, waits, arrived, answered, List.isEmpty_nil, decide_true, Bool.and_self, whenB_true,
    epochBefore, decide_eq_true_eq]
    <;> rfl

end

/-- Settles O28: the ask is set in the table of asks, and the end takes it out. -/
theorem finishAsksAndCompletes : Obligations.FinishAsksAndCompletes := by
  refine ⟨fun n w s k may room free => ?asks, fun n w s a x up waits ask out arrived answered => ⟨fun kept => ?ends, fun m lost => ?lost⟩⟩
  case asks =>
    refine ⟨_, exec_finish w may room free, ?_⟩
    have outstanding : Table.get noneDef (asked s n (k % 65536)).domain.asks (k % 65536) = some (askOf s n) := by
      rw [asked_asks, table_get_set_same]
    have others : ∀ b, b ≠ k % 65536 →
        Table.get noneDef (asked s n (k % 65536)).domain.asks b = Table.get noneDef s.domain.asks b :=
      fun b h => by rw [asked_asks, table_get_set_ne _ _ _ _ _ h]
    have ctxs : ∀ m, m ≠ n → (asked s n (k % 65536)).ctx m = s.ctx m := fun m h => State.ctx_modCtx_ne _ _ _ _ h
    cases joined : s.domain.joined with
    | true =>
      refine ⟨by simp [asked], by simp [asked], by simp [asked, askOf], ?_, others, rfl, rfl, ctxs, rfl, rfl⟩
      simpa [joined, askOf] using outstanding
    | false =>
      refine ⟨by simp [asked], by simp [asked], by simp [asked, askOf], ?_, others, rfl, rfl, ctxs, rfl, rfl⟩
      simpa [joined, askOf] using outstanding
  case ends =>
    rw [exec_finishComplete w up waits ask out arrived answered]
    simp only [kept]
  case lost =>
    rw [exec_finishComplete w up waits ask out arrived answered]
    simp only [lost]

/-- The distance of two epochs on their circle, as a number between them (03 R119). -/
theorem epochBefore_iff (e t : W32) : epochBefore e t = true ↔ ((e.toNat : Int) - t.toNat) % 2 ^ 32 < 2 ^ 31 := by
  have distance : ((e - t).toNat : Int) = ((e.toNat : Int) - t.toNat) % 2 ^ 32 := by
    rw [BitVec.toNat_sub]
    omega
  rw [epochBefore, decide_eq_true_eq, ← distance]
  omega

theorem finish_epoch_fits {c : Cmd} (op : c.opn = 0x29) (ok : c.reservedOk = true) : c.cc < 2 ^ 32 := by
  have high : bits c.cc 32 32 = 0 := by
    simp only [Cmd.reservedOk, op, Bool.and_eq_true, decide_eq_true_eq] at ok
    exact ok.2
  have word : c.cc < 2 ^ 64 := c.c.isLt
  rw [bits, Nat.mod_eq_of_lt (by omega)] at high
  omega

/-- Settles O29: the epoch of a FINISH is the low half of C, and `epochBefore` the comparison of R119. -/
theorem epochComparison : Obligations.EpochComparison := by
  refine ⟨epochBefore_iff, fun _ => finish_epoch_fits, fun n w s may room free => ?_⟩
  obtain ⟨k, free⟩ := Option.isSome_iff_exists.mp free
  obtain ⟨t, runs, -, ask, -, outstanding, -⟩ := finishAsksAndCompletes.1 n w s k may room free
  refine ⟨t, runs, _, _, ask, outstanding, ?_⟩
  apply BitVec.eq_of_toNat_eq
  simp [Cmd.cf, Cmd.cc, bits]

end Sys2Proof.Laws
end

section
/-! PROOFS. The reads of step 6 of R85: layout descriptors, range descriptors and map headers, bucket tables and NVM-PASS blocks. -/

namespace Sys2Proof.Laws
open Sys2Proof Sys2Proof.Machine

theorem descCheck_of_pass (s : State) (n : Nat) (qual : Byte) (handle : Option Nat) (w : Wr) :
    s.descCheck n true qual handle w = (s.modCtx n fun c => { c with fails := [] }).letIn n (s.ctx n).cmd handle w := rfl

section
variable {n : Nat} (w : Wr) {s : State} (up : s.up = true) (reads : (s.ctx n).phase = .desc) (open_ : s.hostStopped n = false)
include up reads open_

theorem exec_descriptorRead : exec (.descriptorReadComplete n w) s = .next
    (if (s.ctx n).cmd.opn = 0xE then s.descTable n w else if (s.ctx n).cmd.opn = 0x1A then s.descPass n w else s.descRef n w) := by
  change execDescriptorReadComplete n w s = _
  simp only [execDescriptorReadComplete, up, reads, open_, decide_true, Bool.false_and, Bool.not_false, Bool.and_self, whenB_true]

/-- SHRED and WEAVE keep the layout that they read (04 R146). -/
theorem exec_descriptorRead_layout {hdr bs : List Byte} {len : Nat} : let c := s.ctx n
    let sp := c.cmd.cc % 4
    let a := c.cmd.cc / 32 * 32
    (c.cmd.opn = 0xA ∨ c.cmd.opn = 0xB) → s.readRange c.me sp a 32 = (hdr, none) → layoutLen hdr = some len →
    s.readRange c.me sp (a + 32) (len - 32) = (bs, none) →
    layoutOk (hdr ++ bs) (if c.cmd.opn = 0xA then c.cmd.spaceB else c.cmd.spaceA) (if c.cmd.opn = 0xA then c.cmd.cb else c.cmd.ca) = true →
    exec (.descriptorReadComplete n w) s =
      .next (((s.modCtx n fun c => { c with xfer := { desc := hdr ++ bs } }).modCtx n fun c => { c with fails := [] }).letIn n c.cmd none w) := by
  dsimp only
  intro op head length rest good
  have fold : (s.ctx n).cmd.opn ≠ 0xE := by omega
  have pass : (s.ctx n).cmd.opn ≠ 0x1A := by omega
  have map : (s.ctx n).cmd.opn ≠ 9 := by omega
  have layout : (if (s.ctx n).cmd.opn = 0xA then layoutOk (hdr ++ bs) (s.ctx n).cmd.spaceB (s.ctx n).cmd.cb
      else layoutOk (hdr ++ bs) (s.ctx n).cmd.spaceA (s.ctx n).cmd.ca) = true := by
    split at good <;> simp_all only [if_true, if_false]
  rw [exec_descriptorRead w up reads open_, if_neg fold, if_neg pass, State.descRef, head]
  simp only [map, if_false, length]
  rw [State.descRest, rest]
  simp only [map, if_false]
  rw [State.layoutRead, layout, descCheck_of_pass, State.ctx_modCtx_same]

/-- SIEVE-MAP keeps its range descriptor and the header of its map (04 R132). -/
theorem exec_descriptorRead_range {hdr bs mh : List Byte} {len : Nat} : let c := s.ctx n
    let sp := c.cmd.cc % 4
    let a := c.cmd.cc / 32 * 32
    let v := field (hdr ++ bs) 0 8
    c.cmd.opn = 9 → s.readRange c.me sp a 32 = (hdr, none) → rangeLen hdr = some len →
    s.readRange c.me sp (a + 32) (len - 32) = (bs, none) → mapRefOk (hdr ++ bs) = true →
    s.readRange c.me (v % 4) (v / 32 * 32) 32 = (mh, none) → rangeOk (hdr ++ bs) mh c.cmd = true →
    exec (.descriptorReadComplete n w) s =
      .next (((s.modCtx n fun c => { c with xfer := { desc := hdr ++ bs, maph := mh } }).modCtx n fun c => { c with fails := [] }).letIn n c.cmd
        (some (rangeHandle (hdr ++ bs))) w) := by
  dsimp only
  intro op head length rest ref header good
  rw [exec_descriptorRead w up reads open_, if_neg (by omega), if_neg (by omega), State.descRef, head]
  simp only [op, if_true, length]
  rw [State.descRest, rest]
  simp only [op, if_true]
  simp only [State.mapHeader, ref, open_, Bool.not_true, Bool.false_and, Bool.false_eq_true, if_false]
  rw [header]
  simp only [good, descCheck_of_pass, State.ctx_modCtx_same]

/-- FOLD at a head that does not go on after an overflow keeps its bucket table (04 R140). -/
theorem exec_descriptorRead_table {bs : List Byte} : let c := s.ctx n
    c.cmd.opn = 0xE → c.chain = false → c.xfer.expect = none →
    s.readRange c.me c.cmd.spaceB c.cmd.cb c.cmd.tableLen = (bs, none) → tableOk bs c.cmd = true →
    exec (.descriptorReadComplete n w) s =
      .next (((s.modCtx n fun c => { c with xfer := { buckets := bucketsOf bs (2 ^ c.cmd.cf 16 4), desc := bs.take 32 } }).modCtx n
        fun c => { c with fails := [] }).letIn n c.cmd none w) := by
  dsimp only
  intro op single fresh table good
  rw [exec_descriptorRead w up reads open_, if_pos op, State.descTable, table]
  simp only [single, fresh, Option.isSome_none, Bool.or_self,
    Bool.false_eq_true, if_false, good, descCheck_of_pass, State.ctx_modCtx_same]
  rfl

/-- NVM-PASS keeps its block, when the policy mask has its opcode (03 R110). -/
theorem exec_descriptorRead_pass {bs : List Byte} : let c := s.ctx n
    c.cmd.opn = 0x1A → s.readRange c.me c.cmd.spaceA c.cmd.ca 64 = (bs, none) → imageOk bs c.cmd.cnt = true →
    s.resourceCheck n c.cmd none false = none → (s.fn c.r.ownerFn.toNat).nvmPolicy.getLsbD (byteAt bs 0) = true →
    exec (.descriptorReadComplete n w) s =
      .next (((s.modCtx n fun c => { c with xfer := { desc := bs } }).modCtx n fun c => { c with fails := [] }).letIn n c.cmd none w) := by
  dsimp only
  intro op block image named allowed
  rw [exec_descriptorRead w up reads open_, if_neg (by omega), if_pos op, State.descPass, block]
  simp only [image, named, allowed, Bool.not_true, Bool.false_eq_true, if_false, descCheck_of_pass, State.ctx_modCtx_same]

end

/-- Settles O15: one lemma for each kind of structure. -/
theorem descriptorsAreReadFirst : Obligations.DescriptorsAreReadFirst :=
  ⟨fun _ w _ _ _ _ up reads running => exec_descriptorRead_layout w up reads running,
    fun _ w _ _ _ _ _ up reads running => exec_descriptorRead_range w up reads running,
    fun _ w _ _ up reads running => exec_descriptorRead_table w up reads running,
    fun _ w _ _ up reads running => exec_descriptorRead_pass w up reads running⟩

end Sys2Proof.Laws
end

section
/-! PROOFS. Bytes stored at operand addresses: where each lands in HOST, LOCAL and FAR memory (01 R28, R29, 12 R360). -/

namespace Sys2Proof.Laws
open Sys2Proof Sys2Proof.Machine

/-- Bytes written one by one, byte `i` at the address `key i`. -/
def scatter (m : Mem) (key : Nat → Nat) (bs : List Byte) : Mem :=
  (List.range bs.length).foldl (fun m i => m.write (key i) (bs.getD i 0)) m

theorem scatter_append (m : Mem) (key : Nat → Nat) (bs : List Byte) (b : Byte) :
    scatter m key (bs ++ [b]) = (scatter m key bs).write (key bs.length) b := by
  have same : ∀ (l : List Nat), (∀ i ∈ l, i < bs.length) → ∀ m : Mem,
      l.foldl (fun m i => m.write (key i) ((bs ++ [b]).getD i 0)) m = l.foldl (fun m i => m.write (key i) (bs.getD i 0)) m := by
    intro l
    induction l with
    | nil => exact fun _ _ => rfl
    | cons i l ih =>
      intro inside m
      have here : (bs ++ [b]).getD i 0 = bs.getD i 0 := List.getD_append _ _ _ _ (inside i List.mem_cons_self)
      rw [List.foldl_cons, List.foldl_cons, here]
      exact ih (fun j h => inside j (List.mem_cons_of_mem _ h)) _
  rw [scatter, List.length_append, List.length_singleton, List.range_succ, List.foldl_append, same _ fun _ => List.mem_range.mp]
  simp [scatter]

theorem scatter_read_outside (m : Mem) (key : Nat → Nat) (bs : List Byte) {k : Nat} (h : ∀ i, i < bs.length → k ≠ key i) :
    (scatter m key bs).read k = m.read k := by
  induction bs using List.reverseRecOn with
  | nil => rfl
  | append_singleton bs b ih =>
    rw [scatter_append, mem_read_write_ne _ _ _ _ (h _ (by simp))]
    exact ih fun i inside => h i (by simp; omega)

theorem scatter_read_inside (m : Mem) {key : Nat → Nat} {bs : List Byte}
    (apart : ∀ i j, i < j → j < bs.length → key i ≠ key j) {i : Nat} {b : Byte} (h : bs[i]? = some b) :
    (scatter m key bs).read (key i) = b := by
  induction bs using List.reverseRecOn with
  | nil => simp at h
  | append_singleton bs x ih =>
    rw [scatter_append]
    obtain ⟨inside, -⟩ := List.getElem?_eq_some_iff.mp h
    rw [List.length_append, List.length_singleton] at inside
    rcases Nat.lt_succ_iff_lt_or_eq.mp inside with low | last
    · rw [mem_read_write_ne _ _ _ _ (apart i bs.length low (by simp))]
      exact ih (fun i j before within => apart i j before (by simp; omega)) (List.getElem?_append_left low ▸ h)
    · subst last
      have top : x = b := by simpa using h
      rw [top, mem_read_write_same]

theorem bytesOut_host (s : State) (w : Who) (a : Nat) (bs : List Byte) :
    s.bytesOut w 0 a bs =
      { s with hostMem := scatter s.hostMem (fun i => s.hostKey w.fn ((a + i) % 0x10000000000000000)) bs } := rfl

theorem bytesOut_far (s : State) (w : Who) (a : Nat) (bs : List Byte) {space : Nat} (host : space ≠ 0) (hbm : space ≠ 1) :
    s.bytesOut w space a bs = { s with farMem := scatter s.farMem (fun i => s.farPa w (a + i)) bs } := by
  rw [State.bytesOut, if_neg host, if_neg hbm, scatter]

/-- The words that lose their poison are those written whole (13 R380). -/
theorem bytesOut_local (s : State) (w : Who) {a : Nat} {bs : List Byte} (below : s.absLocal w a + bs.length ≤ ctxStoreBase) :
    s.bytesOut w 1 a bs = { s with
      hbm := s.hbm.writeN (s.absLocal w a) bs
      poison := s.poison.filter fun k => !(wholeWords (s.absLocal w a) bs.length).contains k } := by
  change s.localWrite (s.absLocal w a) bs = _
  rw [State.localWrite, if_pos below]
  split
  · next clean => rw [List.isEmpty_iff.mp clean]; rfl
  · rfl

theorem localByte_below (s : State) {x : Nat} (h : x < ctxStoreBase) : s.localByte x = s.hbm.read x := by
  have store : ¬(ctxStoreBase ≤ x ∧ x < ctxStoreBase + 0x10000000) := by omega
  have shadow : ¬(shadowBase ≤ x ∧ x < shadowBase + 0x1000000) := by simp only [shadowBase]; simp only [ctxStoreBase] at h; omega
  have sieves : inSieves x = false := by
    simp only [ctxStoreBase] at h
    have table : decide (sieveTableBase ≤ x) = false := decide_eq_false (by simp only [sieveTableBase]; omega)
    have image : decide (sieveImageBase ≤ x) = false := decide_eq_false (by simp only [sieveImageBase]; omega)
    rw [inSieves, table, image]
    rfl
  rw [State.localByte, if_neg store, if_neg shadow, sieves]
  rfl

/-- A byte of LOCAL space depends on HBM at its own address alone. -/
theorem localByte_of_same_hbm (s : State) (m : Mem) (poison : List Nat) {x : Nat} (h : m.read x = s.hbm.read x) :
    ({ s with hbm := m, poison := poison } : State).localByte x = s.localByte x := by
  have sieve : ({ s with hbm := m, poison := poison } : State).sieveByte x = s.sieveByte x := by
    unfold State.sieveByte
    rw [h]
    rfl
  unfold State.localByte
  rw [sieve, h]
  rfl

/-- Storing bytes below the context store changes the byte map of their space, and in LOCAL the poison list. -/
theorem bytesOut_frame (s : State) (w : Who) (space : Nat) {a : Nat} {bs : List Byte} (below : s.absLocal w a + bs.length ≤ ctxStoreBase) :
    let t := s.bytesOut w space a bs
    t = { s with hbm := t.hbm, poison := t.poison, hostMem := t.hostMem, farMem := t.farMem } := by
  by_cases host : space = 0
  · subst host; rfl
  by_cases hbm : space = 1
  · subst hbm; rw [bytesOut_local s w below]
  rw [bytesOut_far s w a bs host hbm]

/-- Beside the bytes, a context's command changes its own context alone, when no earlier HOST write may still be on its way. -/
theorem ctxOut_frame (s : State) (n : Nat) (w : Who) {space a : Nat} {bs : List Byte} (old : space ≠ 0 ∨ (s.ctx n).hostOld = []) :
    let t := s.ctxOut n w space a bs
    (∀ m, m ≠ n → t.ctx m = (s.bytesOut w space a bs).ctx m) ∧ t = { s.bytesOut w space a bs with ctxs := t.ctxs } := by
  have kept : (if space = 0 ∧ !(s.ctx n).hostOld.isEmpty then s.hostLeft (s.ctx n) w a bs else bs) = bs := by
    refine if_neg ?_
    rintro ⟨host, some⟩
    rcases old with other | none
    · exact other host
    · simp [none] at some
  unfold State.ctxOut
  simp only [kept, State.staleAhead]
  split
  · exact ⟨fun m other => State.ctx_modCtx_ne _ _ _ _ other, rfl⟩
  · exact ⟨fun m other => (State.ctx_modCtx_ne _ _ _ _ other).trans (State.ctx_modCtx_ne _ _ _ _ other), rfl⟩

/-- Settles O16: the three spaces by `scatter` and `writeN`, the command's own frame by `ctxOut_frame`. -/
theorem bytesStoredInEachSpace : Obligations.BytesStoredInEachSpace := by
  intro s who a bs len
  refine ⟨⟨fun new i b h => ?hostBack, fun k out => ?hostElse, rfl⟩, fun below => ⟨fun i b h => ?localBack, fun x out => ?localElse,
    fun k h => ?poison, ?localFrame⟩, ⟨fun k out => ?farElse, ?farFrame⟩, fun n space old below => ?command⟩
  case hostBack =>
    have apart : ∀ i j, i < j → j < bs.length → s.hostKey who.fn ((a + i) % 0x10000000000000000) ≠
        s.hostKey who.fn ((a + j) % 0x10000000000000000) := by
      intro i j before inside
      simp only [State.hostKey]
      omega
    rw [bytesOut_host]
    simp only [State.byteIn, if_true, State.hostByte, new, List.filter_nil, List.map_nil, List.isEmpty_nil]
    exact scatter_read_inside _ apart h
  case hostElse => exact scatter_read_outside _ _ _ out
  case localBack =>
    obtain ⟨inside, -⟩ := List.getElem?_eq_some_iff.mp h
    rw [bytesOut_local s who below]
    change State.localByte _ (s.absLocal who (a + i)) = b
    have place : s.absLocal who (a + i) = s.absLocal who a + i := by simp only [State.absLocal]; split <;> omega
    rw [place, localByte_below _ (by omega)]
    exact mem_read_writeN_inside _ _ _ _ _ h
  case localElse =>
    rw [bytesOut_local s who below]
    exact localByte_of_same_hbm _ _ _ (mem_read_writeN_outside _ _ _ _ out)
  case poison =>
    rw [bytesOut_local s who below] at h
    exact (List.mem_filter.mp h).1
  case localFrame => rw [bytesOut_local s who below]
  case farElse => exact scatter_read_outside _ _ _ out
  case farFrame => rfl
  case command =>
    obtain ⟨others, frame⟩ := ctxOut_frame s n who old (a := a) (bs := bs)
    have ctxs : ∀ m, (s.bytesOut who space a bs).ctx m = s.ctx m := by
      intro m
      rw [bytesOut_frame s who space below]
      rfl
    exact ⟨fun m other => (others m other).trans (ctxs m), frame⟩

end Sys2Proof.Laws
end

section
/-! PROOFS. SIEVE, SHRED, SLICE and FOLD: members whose units all succeed, members with SKIP, and the wait for a fold cell (03 R94 to
R103, 02 R51, 05 R170). -/

namespace Sys2Proof.Laws
open Sys2Proof Sys2Proof.Machine

section
variable {n : Nat} {s : State} (w : Wr)

theorem exec_sieve (may : s.mayRun n (isOp 8) = true) : exec (.sieve n w) s = .next
    (if (s.ctx n).cmd.skip then s.skipGathered n w fun s k mis prog => s.sieveEnd n k mis prog w else s.sieveMember n w) := by
  change execSieve n w s = _
  rw [execSieve, may, whenB_true]

theorem exec_shred (may : s.mayRun n (isOp 0xA) = true) : exec (.shred n w) s = .next
    (if (s.ctx n).cmd.skip then s.skipGathered n w fun s k mis prog => s.endMember n k mis prog w else s.shred n w) := by
  change execShred n w s = _
  rw [execShred, may, whenB_true]

theorem exec_slice (may : s.mayRun n (isOp 0xC) = true) : exec (.slice n w) s = .next
    (if (s.ctx n).cmd.skip then s.skipGathered n w fun s k mis prog => s.endMember n k mis prog w else s.slice n w) := by
  change execSlice n w s = _
  rw [execSlice, may, whenB_true]

theorem exec_fold (may : s.mayRun n (isOp 0xE) = true) : exec (.fold n w) s = .next
    (if !s.cellFree n then s.modCtx n fun c => { c with placed := true }
     else if (s.ctx n).cmd.skip then (s.takeCell n).skipGathered n w fun s k mis prog => s.foldEnd n k mis prog w
     else (s.takeCell n).foldMember n w) := by
  change execFold n w s = _
  rw [execFold, may, whenB_true]

variable {s3 s4 : State} {bs : List Byte} {res : Nat} {mis : Option Byte}

theorem sieveMember_of_units {p : Nat} : let s1 := s.sieveBegins n
    let c := s1.ctx n
    s1.input n = (bs, none) →
    State.sieveLoop n c.cmd.format (c.cmd.cf 16 13) (s1.judgeOf c) (c.xfer.part ++ bs).length (c.xfer.part ++ bs) 0 s1 = (p, none, s3) →
    s3.unitsTaken n (c.xfer.part ++ bs) p bs.length = (s4, res, mis) →
    s.sieveMember n w = s4.sieveEnd n res mis (decide (bs.length ≠ 0)) w := by
  dsimp only
  intro read judged taken
  unfold State.sieveMember
  simp only [read, judged, taken]

theorem shred_of_units {i : Nat} : let c := s.ctx n
    let l := layoutOf c.xfer.desc
    let all := c.xfer.part ++ bs
    s.input n = (bs, none) → State.shredRows n false l c.xfer.ordinal 0 (chunks all.length l.rowLen all) s = (i, none, s3) →
    (s3.setOrdinal n i).unitsTaken n all ((i - c.xfer.ordinal) * l.rowLen) bs.length = (s4, res, mis) →
    s.shred n w = s4.endMember n res mis (decide (bs.length ≠ 0)) w := by
  dsimp only
  intro read rows taken
  unfold State.shred
  simp only [read, rows, taken]

/-- The byte of each plane that is being filled is written at the end of a member that has taken an integer (04 R148). -/
theorem slice_of_units {s5 : State} {i : Nat} : let c := s.ctx n
    let all := c.xfer.part ++ bs
    s.input n = (bs, none) → State.sliceInts n false c.xfer.ordinal 0 (chunks all.length c.cmd.width all) s = (i, none, s3) →
    i < 8 * c.cmd.stride →
    (if i % 8 = 0 ∨ i = c.xfer.ordinal then (s3.setOrdinal n i, none)
     else State.putPlanes n false (i / 8) 0 ((s3.setOrdinal n i).ctx n).xfer.planes (s3.setOrdinal n i)) = (s4, (none : Option AccFail)) →
    s4.unitsTaken n all ((i - c.xfer.ordinal) * c.cmd.width) bs.length = (s5, res, mis) →
    s.slice n w = s5.endMember n res mis (decide (bs.length ≠ 0)) w := by
  dsimp only
  intro read ints room tail taken
  have begun : ((s3.setOrdinal n i).ctx n).xfer.begun = true := by rw [State.setOrdinal, State.ctx_modCtx_same]
  have fits : decide (8 * (s.ctx n).cmd.stride ≤ i) = false := decide_eq_false (Nat.not_le_of_lt room)
  unfold State.slice
  simp only [read, ints, fits, begun, Option.isSome_none, Bool.false_or, Bool.not_true, Bool.or_false, Bool.or_eq_true,
    decide_eq_true_eq, tail, Bool.false_and, Bool.false_eq_true, if_false, taken]

theorem foldMember_of_units {p : Nat} : let s1 := s.sieveBegins n
    let all := (s1.ctx n).xfer.part ++ bs
    s1.input n = (bs, none) → State.foldLoop n (all.length + 1) all 0 s1 = (p, none, s3) →
    s3.unitsTaken n all p bs.length = (s4, res, mis) →
    s.foldMember n w = s4.foldEnd n res mis (decide (bs.length ≠ 0)) w := by
  dsimp only
  intro read placed taken
  unfold State.foldMember
  simp only [read, placed, Option.isSome_none, Bool.or_self, Bool.false_eq_true, if_false, taken]

end

/-- Settles O23: each command by its two lemmas, one for its arm and one for its member. -/
theorem gatheringTransformsCompleteMembers : Obligations.GatheringTransformsCompleteMembers := by
  refine ⟨fun n w s s3 s4 bs p res mis => ?sieve, fun n w s s3 s4 bs i res mis => ?shred, fun n w s s3 s4 s5 bs i res mis => ?slice,
    fun n w s s3 s4 bs p res mis => ?fold, fun n w s skip => ⟨fun may => ?_, fun may => ?_, fun may => ?_, fun may free => ?_⟩,
    fun n w s may full => ?waits⟩
  case sieve =>
    intro s1 c may units read judged taken
    rw [exec_sieve w may, units, if_neg Bool.false_ne_true, sieveMember_of_units w read judged taken]
  case shred =>
    intro c l all may units read rows taken
    rw [exec_shred w may, units, if_neg Bool.false_ne_true, shred_of_units w read rows taken]
  case slice =>
    intro c z all p may units read ints room tail taken
    rw [exec_slice w may, units, if_neg Bool.false_ne_true, slice_of_units w read ints room tail taken]
  case fold =>
    intro s1 all may free units read placed taken
    rw [exec_fold w may, free, units, Bool.not_true, if_neg Bool.false_ne_true, if_neg Bool.false_ne_true,
      foldMember_of_units w read placed taken]
  · rw [exec_sieve w may, if_pos skip]
  · rw [exec_shred w may, if_pos skip]
  · rw [exec_slice w may, if_pos skip]
  · rw [exec_fold w may, free, Bool.not_true, if_neg Bool.false_ne_true, if_pos skip]
  case waits => rw [exec_fold w may, full, Bool.not_false, if_pos rfl]

end Sys2Proof.Laws
end

section
/-! PROOFS. WEAVE, UNSLICE and SIEVE-MAP (03 R98 to R100, 04 R135, R138). -/

namespace Sys2Proof.Laws
open Sys2Proof Sys2Proof.Machine

section
variable {n : Nat} {s t : State} (w : Wr)

theorem exec_weave {i : Nat} (may : s.mayRun n (isOp 0xB) = true)
    (rows : State.weaveRows n false (layoutOf (s.ctx n).xfer.desc) (s.ctx n).xfer.off (s.ctx n).left s = (i, none, t)) :
    exec (.weave n w) s = .next (t.endMember n 0 none (decide ((t.ctx n).cmd.cnt ≠ 0)) w) := by
  change execWeave n w s = _
  simp only [execWeave, rows, may, Option.isSome_none, Bool.false_and, Bool.false_eq_true, if_false, whenB_true, State.countedEnd]

theorem exec_unslice {i : Nat} (may : s.mayRun n (isOp 0xD) = true)
    (ints : State.unsliceInts n false (s.ctx n).xfer.off (s.ctx n).left s = (i, none, t)) :
    exec (.unslice n w) s = .next (t.endMember n 0 none (decide ((t.ctx n).cmd.cnt ≠ 0)) w) := by
  change execUnslice n w s = _
  simp only [execUnslice, ints, may, Option.isSome_none, Bool.false_and, Bool.false_eq_true, if_false, whenB_true, State.countedEnd]

theorem exec_mapEntryRead {e : List Byte} : let c := s.ctx n
    let x := c.xfer
    s.mayRun n (isOp 9) = true → x.runs.length < c.runCount → x.mapFail = none →
    s.readRange c.me (field x.desc 0 8 % 4) (x.entryAddr x.runs.length) x.entrySize = (e, none) →
    exec (.mapEntryReadComplete n) s = .next (s.modCtx n fun c => { c with
      xfer := { c.xfer with runs := c.xfer.runs ++ [{ entry := e, read := decideRun (termsOf x.desc) e }] }, fails := [] }) := by
  dsimp only
  intro may left sound read
  change execMapEntryReadComplete n s = _
  simp only [execMapEntryReadComplete, read, may, left, sound, Option.isNone_none, decide_true, Bool.and_self, whenB_true]

/-- Decided runs that all pass, the states between them those of `st`, lead to the end of the map (04 R138). -/
theorem mapRuns_of_done {j : Judge} {runs : List RunDec} {st : Nat → State} {i0 : Nat} (start : i0 ≤ runs.length)
    (passes : ∀ i d, i0 ≤ i → runs[i]? = some d → (st i).mapRun n i d j = .done (st (i + 1)))
    (sound : ((st runs.length).ctx n).xfer.mapFail = none) :
    State.mapRuns n j w i0 (runs.drop i0) (st i0) = (st runs.length).mapEnd n 0 none w := by
  induction rest : runs.drop i0 generalizing i0 with
  | nil =>
    have last : i0 = runs.length := Nat.le_antisymm start (List.drop_eq_nil_iff.mp rest)
    rw [last, State.mapRuns, sound]
  | cons d ds ih =>
    have inside : i0 < runs.length := by
      by_contra past
      rw [List.drop_eq_nil_of_le (Nat.le_of_not_lt past)] at rest
      cases rest
    rw [List.drop_eq_getElem_cons inside] at rest
    obtain ⟨here, later⟩ := List.cons.inj rest
    have run := passes i0 d (Nat.le_refl _) (by rw [List.getElem?_eq_getElem inside, here])
    rw [State.mapRuns, run]
    exact ih inside (fun i d above => passes i d (Nat.le_of_succ_le above)) later

theorem exec_sieveMap (may : s.mayRun n (isOp 9) = true) (decided : (s.ctx n).runCount ≤ (s.ctx n).xfer.runs.length) : let c := s.ctx n
    let i := c.xfer.off / c.xfer.runSize
    exec (.sieveMap n w) s = .next (State.mapRuns n (s.judgeOf c) w i (c.xfer.runs.drop i) (if c.cmd.skip then s else s.sieveBegins n)) := by
  change execSieveMap n w s = _
  simp only [execSieveMap, may, decided, decide_true, Bool.true_or, Bool.and_self, whenB_true]

end

/-- Settles O24: WEAVE and UNSLICE by their rows and integers, SIEVE-MAP by induction on the runs that are left. -/
theorem countedTransformsComplete : Obligations.CountedTransformsComplete := by
  refine ⟨fun n w s t i => exec_weave w, fun n w s t i => exec_unslice w, fun n s e => ?entry, fun n w s st => ?map⟩
  case entry =>
    intro c x may left sound read
    exact ⟨_, exec_mapEntryRead may left sound read, State.ctx_modCtx_same .., fun m other => State.ctx_modCtx_ne _ _ _ _ other, rfl⟩
  case map =>
    intro c i0 may decided start first passes sound
    rw [exec_sieveMap w may decided, ← first, mapRuns_of_done w start passes sound]

end Sys2Proof.Laws
end

section
/-! PROOFS. The submission of NVMe commands, and the cutting of their blocks into pieces (03 R107 to R110, 12 R367). -/

namespace Sys2Proof.Laws
open Sys2Proof Sys2Proof.Machine

section
variable {n : Nat} {s : State} {h : NvmHandle} (named : s.nvm ((s.ctx n).cmd.cf 0 16) = some h) (ready : s.ctrlReady h.ctrl = true)
include named ready

/-- The row of an NVMe command acts when its namespace's controller serves (Table 03.4). -/
theorem nvmRow_of_ready {is : Cmd → Bool} (act : NvmHandle → State) (w : Wr) (may : s.mayRun n is = true) :
    s.nvmRow n is act w = .next (act h) := by
  unfold State.nvmRow
  simp only [named, may, ready, if_true, whenB_true]

variable (w : Wr)

theorem exec_nvmRead (may : s.mayRun n (isNvm 0x18 0) = true) : exec (.nvmRead n w) s = .next
    (((s.nvmPieces h (s.ctx n).cmd.cnt).foldl (fun t p => t.issuePiece n h p.1 p.2 (p.2 * h.blockSize)
      (ioSqe 2 h.nsid ((s.ctx n).cmd.ca + p.1) p.2 false) []) s).nvmWaits n w) := nvmRow_of_ready named ready _ w may

theorem exec_nvmWrite (may : s.mayRun n (isNvm 0x19 0) = true) : exec (.nvmWrite n w) s = .next (s.nvmWriteAct n h false w) :=
  nvmRow_of_ready named ready _ w may

theorem exec_nvmWriteFua (may : s.mayRun n (isNvm 0x19 1) = true) : exec (.nvmWriteFua n w) s = .next (s.nvmWriteAct n h true w) :=
  nvmRow_of_ready named ready _ w may

theorem exec_nvmFlush (may : s.mayRun n (isNvm 0x19 2) = true) : exec (.nvmFlush n w) s = .next
    ((s.issuePiece n h 0 0 0 (fun cid _ => sqeBytes 0 cid h.nsid (0, 0) 0 0 0) []).nvmWaits n w) := nvmRow_of_ready named ready _ w may

theorem exec_nvmDeallocate (may : s.mayRun n (isNvm 0x19 3) = true) : exec (.nvmDeallocate n w) s = .next
    (((s.nvmPieces h (s.ctx n).cmd.cnt).foldl (fun t p => t.issuePiece n h p.1 p.2 0 (fun cid prp => sqeBytes 9 cid h.nsid prp 0 4 0)
      (zeros 4 ++ leBytes 4 p.2 ++ leBytes 8 ((s.ctx n).cmd.cb + p.1))) s).nvmWaits n w) := nvmRow_of_ready named ready _ w may

/-- NVM-PASS takes its data from B when its command transfers to the controller (03 R110). -/
theorem exec_nvmPass {bs : List Byte} (may : s.mayRun n (isOp 0x1A) = true) : let c := s.ctx n
    (if byteAt c.xfer.desc 0 % 4 = 1 then s.readRange c.me c.cmd.spaceB c.cmd.cb c.cmd.cnt else ([], none)) = (bs, none) →
    exec (.nvmPass n w) s = .next ((s.issuePiece n h 0 0 c.cmd.cnt (passSqe c.xfer.desc h.nsid) bs).nvmWaits n w) := by
  dsimp only
  intro read
  refine (nvmRow_of_ready named ready _ w may).trans ?_
  simp only [read]

end

/-- The piece that a command submits (12 R368). -/
def newPiece (s : State) (h : NvmHandle) (cid first blocks bytes : Nat) : Piece :=
  { ctrl := h.ctrl, cid := cid, first := first, blocks := blocks, bytes := bytes, issued := s.time, limit := s.farTimeout }

/-- What the submission of a piece does: the entry goes out, the controller's next identifier follows, and the context has the piece. -/
theorem issuePiece_effect {s : State} {n : Nat} {h : NvmHandle} {x : NvmeCtrl} (ctrl : s.ctrl h.ctrl = some x) (first blocks bytes : Nat)
    (mk : Nat → W64 × W64 → List Byte) (data : List Byte) : let cid := s.freeCid h.ctrl x
    let t := s.issuePiece n h first blocks bytes mk data
    (∃ prp, t.out = s.out ++ [.nvmeSubmit h.ctrl cid (mk cid prp) data]) ∧
    t.ctx n = { s.ctx n with pieces := (s.ctx n).pieces ++ [newPiece s h cid first blocks bytes] } ∧
    t.ctrl h.ctrl = some { x with nextCid := (cid + 1) % 65536 } ∧
    (∀ m, m ≠ n → t.ctx m = s.ctx m) ∧ (∀ k, k ≠ h.ctrl → t.ctrl k = s.ctrl k) ∧
    t = { s with ctxs := t.ctxs, ctrls := t.ctrls, out := t.out, free := t.free } := by
  simp only [State.issuePiece, ctrl]
  refine ⟨⟨_, rfl⟩, State.ctx_modCtx_same .., ?_, fun m other => State.ctx_modCtx_ne _ _ _ _ other, fun k other => ?_, rfl⟩
  · rw [State.modCtx_ctrl, State.emit_ctrl, State.ctrl_setCtrl_same]
  · rw [State.modCtx_ctrl, State.emit_ctrl, State.ctrl_setCtrl_ne _ _ _ _ other]
    rfl

/-- A command with a piece outstanding waits for it. -/
theorem nvmWaits_of_outstanding {s : State} {n : Nat} {p : Piece} (w : Wr) (mem : p ∈ (s.ctx n).pieces) (out : p.done = false) :
    s.nvmWaits n w = s.modCtx n fun c => { c with phase := .nvm } := by
  have open_ : (s.ctx n).pieces.all Piece.done = false := List.all_eq_false.mpr ⟨p, mem, by simp [out]⟩
  simp [State.nvmWaits, State.nvmCheck, open_]

/-- Pieces of at most `per` blocks make up the blocks they are cut from (03 R108). -/
theorem cutPieces_sum {per : Nat} (pos : 1 ≤ per) {fuel blocks : Nat} (enough : blocks < fuel) (first : Nat) :
    ((cutPieces per fuel first blocks).map Prod.snd).sum = blocks := by
  induction fuel generalizing blocks first with
  | zero => exact absurd enough (Nat.not_lt_zero _)
  | succ fuel ih =>
    rw [cutPieces]
    split
    · next none => rw [none]; rfl
    · next some =>
      have less : blocks - min per blocks < fuel := by omega
      rw [List.map_cons, List.sum_cons, ih less]
      omega

theorem cutPieces_le (per fuel first blocks : Nat) : ∀ p ∈ cutPieces per fuel first blocks, p.2 ≤ per := by
  induction fuel generalizing first blocks with
  | zero => exact fun _ h => absurd h List.not_mem_nil
  | succ fuel ih =>
    rw [cutPieces]
    split
    · exact fun _ h => absurd h List.not_mem_nil
    · intro p h
      rcases List.mem_cons.mp h with rfl | later
      · exact Nat.min_le_left ..
      · exact ih _ _ p later

/-- Settles O25: the rows by `nvmRow_of_ready`, FLUSH by its one piece, the pieces by how they are cut. -/
theorem nvmCommandsSubmit : Obligations.NvmCommandsSubmit := by
  refine ⟨fun n w s h x => ?flush, fun n w s h => ?rows, fun h s x blocks ctrl => ?pieces⟩
  case flush =>
    intro c named ready ctrl may
    obtain ⟨⟨_, out⟩, own, next, ctxs, ctrls, frame⟩ :=
      issuePiece_effect (n := n) ctrl 0 0 0 (fun cid _ => sqeBytes 0 cid h.nsid (0, 0) 0 0 0) []
    have mem : newPiece s h (s.freeCid h.ctrl x) 0 0 0 ∈
        ((s.issuePiece n h 0 0 0 (fun cid _ => sqeBytes 0 cid h.nsid (0, 0) 0 0 0) []).ctx n).pieces := by rw [own]; simp
    refine ⟨_, (exec_nvmFlush named ready w may).trans (congrArg _ (nvmWaits_of_outstanding w mem rfl)), out, ?_, next,
      fun m other => (State.ctx_modCtx_ne _ _ _ _ other).trans (ctxs m other), ctrls, ?_⟩
    · rw [State.ctx_modCtx_same, own]
      rfl
    · rw [frame]
      rfl
  case rows =>
    intro c named ready
    exact ⟨exec_nvmRead named ready w, exec_nvmWrite named ready w, exec_nvmWriteFua named ready w, exec_nvmDeallocate named ready w,
      fun bs may => exec_nvmPass named ready w may⟩
  case pieces =>
    have limit : ((s.ctrl h.ctrl).map NvmeCtrl.mdts).getD 0 = x.mdts := by rw [ctrl]; rfl
    unfold State.nvmPieces
    rw [limit]
    exact ⟨cutPieces_sum (Nat.le_max_left ..) (Nat.lt_succ_self _) 0, fun p => cutPieces_le _ _ _ _ p⟩

end Sys2Proof.Laws
end

section
/-! PROOFS. Firings, their arrival at channels and vectors, and their deliveries (11 R334 to R341). -/

namespace Sys2Proof.Laws
open Sys2Proof Sys2Proof.Machine

/-! ### Firings that arrive together (R341) -/

/-- Of several firings the one of the lowest origin arrives. -/
theorem lowestOrigin_spec : ∀ {fs : List Firing} {f : Firing}, lowestOrigin fs = some f → f ∈ fs ∧ ∀ g ∈ fs, f.origin ≤ g.origin
  | [], _, h => nomatch h
  | x :: l, f, h => by
    rw [lowestOrigin] at h
    split at h
    next none =>
      obtain rfl := Option.some.inj h
      cases l with
      | nil => simp
      | cons y l' => rw [lowestOrigin] at none; split at none <;> (try split at none) <;> cases none
    next g low =>
      obtain ⟨mem, least⟩ := lowestOrigin_spec low
      split at h <;> obtain rfl := Option.some.inj h
      · next below => exact ⟨.tail _ mem, by simp only [List.mem_cons, forall_eq_or_imp]; exact ⟨by omega, least⟩⟩
      · next above =>
        refine ⟨.head _, ?_⟩
        simp only [List.mem_cons, forall_eq_or_imp]
        exact ⟨Nat.le_refl _, fun y hy => Nat.le_trans (by omega) (least y hy)⟩

/-! ### A channel -/

section
variable (s : State) (c : Nat) (g : Ech → Ech)

theorem ech_modEch_same : (s.modEch c g).ech c = g (s.ech c) := table_get_set_same ..

theorem ech_modEch_ne {d : Nat} (h : d ≠ c) : (s.modEch c g).ech d = s.ech d := table_get_set_ne _ _ _ _ _ h

/-- The consumers of a channel stand in the blocks, the regions and the chip, which no channel's state is part of. -/
theorem consumers_modEch : (s.modEch c g).consumers = s.consumers := rfl

end

/-- A forward of a channel is a new firing, or is counted as a loop of the channel: what neither changes, the forwards leave. -/
theorem forwards_frame {β : Type} (p : State → β) (c : Nat) (f : Firing)
    (fires : ∀ s fs, p { s with firings := fs } = p s)
    (loops : ∀ s : State, p (s.modEch c fun e => { e with loop := satInc e.loop 255 }) = p s)
    (counts : ∀ s n, p { s with evtLoop := n } = p s) (s : State) :
    p (s.forwards c f) = p s := by
  unfold State.forwards
  refine foldl_frame p _ (fun s i => ?_) _ _
  dsimp only
  split
  · rfl
  · split
    · exact (counts ..).trans (loops _)
    · exact fires ..

/-- No WAIT ends at a channel in whose line none stands. -/
theorem endedWaits_nil {s : State} {c : Nat} (h : ∀ p ∈ s.waitOrder, p.1 ≠ c) : s.endedWaits c = ([], false) := by
  have line : s.waitOrder.filter (fun p => decide (p.1 = c)) = [] :=
    List.filter_eq_nil_iff.mpr fun p hp => by simpa using h p hp
  rw [State.endedWaits, line]
  rfl

/-- A channel at which a firing arrives: FLAG, FROM, HOP and MERGED (R336 steps 1 and 2). -/
def hitBy (f : Firing) (e : Ech) : Ech :=
  { e with flag := true, from_ := f.origin, hop := f.hop, merged := if e.flag then satInc e.merged 255 else e.merged }

/-- A firing arrives at a channel without WAITs (R336). -/
theorem arriveAt_spec (c : Nat) (f : Firing) (w : Wr) {s : State} (quiet : ∀ p ∈ s.waitOrder, p.1 ≠ c) : let t := s.arriveAt c f w
    (t.ech c).flag = true ∧ (t.ech c).from_ = f.origin ∧ (t.ech c).hop = f.hop ∧
    t.deliveries = s.deliveries ++ (s.consumers c).map (fun x => ({ chan := c, who := x } : Delivery)) ∧ t.ctxs = s.ctxs ∧
    ∀ d, d ≠ c → t.ech d = s.ech d := by
  let told : State := { s.modEch c (hitBy f) with
    deliveries := s.deliveries ++ (s.consumers c).map fun x => ({ chan := c, who := x } : Delivery) }
  have act : s.arriveAt c f w = told.forwards c f := by
    have ends (g : Ech → Ech) : (s.modEch c g).endedWaits c = ([], false) := endedWaits_nil quiet
    simp only [State.arriveAt, ends, Bool.false_eq_true, if_false, List.foldl_nil]
    rfl
  have here : told.ech c = hitBy f (s.ech c) := ech_modEch_same s c _
  have there {d : Nat} (other : d ≠ c) : told.ech d = s.ech d := ech_modEch_ne s c _ other
  rw [act]
  refine ⟨?_, ?_, ?_, ?_, ?_, fun d other => ?_⟩
  · rw [forwards_frame (fun t => (t.ech c).flag) c f (fun _ _ => rfl) (fun t => by rw [ech_modEch_same]) (fun _ _ => rfl), here, hitBy]
  · rw [forwards_frame (fun t => (t.ech c).from_) c f (fun _ _ => rfl) (fun t => by rw [ech_modEch_same]) (fun _ _ => rfl), here, hitBy]
  · rw [forwards_frame (fun t => (t.ech c).hop) c f (fun _ _ => rfl) (fun t => by rw [ech_modEch_same]) (fun _ _ => rfl), here, hitBy]
  · exact forwards_frame State.deliveries c f (fun _ _ => rfl) (fun _ => rfl) (fun _ _ => rfl) told
  · exact forwards_frame State.ctxs c f (fun _ _ => rfl) (fun _ => rfl) (fun _ _ => rfl) told
  · rw [forwards_frame (fun t => t.ech d) c f (fun _ _ => rfl) (fun t => ech_modEch_ne t c _ other) (fun _ _ => rfl), there other]

/-! ### Arrivals and deliveries -/

section
variable {s : State} (up : s.up = true)
include up

section
variable {c k : Nat} {w : Wr} {all rest : List Firing}
  (taken : takeFirings (fun f => !f.toVector && decide (f.dest = c)) k s.firings = (all, rest)) (every : all.length = k)
include taken every

/-- The firings of a cycle become one, and the SIGNALs whose firings they were complete. -/
theorem exec_eventFiringArrival {f : Firing} (low : lowestOrigin (all.filter fun f => f.attrS || !(s.ech c).attrS) = some f) :
    let more := (all.filter fun f => f.attrS || !(s.ech c).attrS).length - 1
    exec (.eventFiringArrival c k w) s = .next ((all.filterMap Firing.ctx).foldl (fun s n => s.signalled n w)
      (({ ({ s with firings := rest }).modEch c (fun e => { e with coal := satAdd e.coal more 255 }) with
        evtCoal := satAdd s.evtCoal more 0xFFFF }).arriveAt c f w)) := by
  change execEventFiringArrival c k w s = _
  simp only [execEventFiringArrival, taken, low, up, every, decide_true, Bool.and_self, whenB_true]

/-- Firings of which none may reach the channel are only taken (R335). -/
theorem exec_eventFiringArrival_none (some' : 1 ≤ k) (none' : all.filter (fun f => f.attrS || !(s.ech c).attrS) = []) :
    exec (.eventFiringArrival c k w) s =
      .next ((all.filterMap Firing.ctx).foldl (fun s n => s.signalled n w) { s with firings := rest }) := by
  change execEventFiringArrival c k w s = _
  simp only [execEventFiringArrival, taken, none', lowestOrigin, up, every, some', decide_true, Bool.and_self, whenB_true]

end

theorem exec_vectorFiringArrival {fn v k : Nat} {fs rest : List Firing} {f : Firing}
    (taken : takeFirings (fun f => f.toVector && decide (f.fn = fn) && decide (f.dest = v)) k s.firings = (fs, rest))
    (every : fs.length = k) (low : lowestOrigin fs = some f) :
    let t : State := { s with firings := rest, evtCoal := satAdd s.evtCoal (k - 1) 0xFFFF }
    exec (.vectorFiringArrival fn v k) s = .next (
      if s.vectorBusy fn v then (match f.via with | none => t | some c => t.busyEch c) else t.countEvent fn (some v)) := by
  change execVectorFiringArrival fn v k s = _
  simp only [execVectorFiringArrival, taken, low, up, every, decide_true, Bool.and_self, whenB_true] <;> rfl

theorem exec_consumerDelivery {c : Nat} {who : Consumer} (due : ({ chan := c, who := who } : Delivery) ∈ s.deliveries) :
    let t := ({ s with deliveries := s.deliveries.erase { chan := c, who := who } }).deliverTo who
    exec (.consumerDelivery c who) s = .next (if t.1 then t.2.busyEch c else t.2) := by
  change execConsumerDelivery c who s = _
  simp only [execConsumerDelivery, List.contains_iff_mem.mpr due, up, Bool.and_self, whenB_true]

end

/-- A delivery to a view sets its bit, and is busy when it was set (R340). -/
theorem deliverTo_blkView (k i b : Nat) (s : State) (inWord : b < 64) :
    (Table.get w64Def ((s.deliverTo (.blkView k i b)).2.block k).views i).getLsbD b = true ∧
    (s.deliverTo (.blkView k i b)).1 = (Table.get w64Def (s.block k).views i).getLsbD b := by
  refine ⟨?_, rfl⟩
  have stored : ((s.deliverTo (.blkView k i b)).2.block k).views = (setViewBit (s.block k).views i b).2 :=
    congrArg Block.views (table_get_set_same ..)
  rw [stored, setViewBit, table_get_set_same, BitVec.getLsbD_or, BitVec.getLsbD_ofNat, Nat.testBit_two_pow_self]
  simp [inWord]

/-! ### Registers and bindings -/

section
variable {s : State} (up : s.up = true)
include up

theorem exec_blkEvtFire {blk : Nat} (v : W32) (on : s.blockOn blk = true) :
    exec (.blkEvtFire blk v) s = .next (s.fire (v.toNat % 4096) true) := by
  change execBlkEvtFire blk v s = _
  have chan : bits v.toNat 0 12 = v.toNat % 4096 := by simp [bits]
  rw [execBlkEvtFire, up, on, chan, Bool.and_self, whenB_true]

theorem exec_gtTimerExpiry {blk k t : Nat} (on : s.blockOn blk = true)
    (armed : (Table.get timerDef (s.block blk).timers k).armed = true) (now : s.notBefore t = true)
    (passed : (Table.get timerDef (s.block blk).timers k).deadline ≤ (s.at_ t).uptime) :
    let x := Table.get timerDef (s.block blk).timers k
    exec (.gtTimerExpiry blk k t) s = .next (((s.at_ t).modBlock blk fun b =>
      { b with timers := Table.set timerDef b.timers k { x with armed := false } }).fire x.chan true) := by
  change execGtTimerExpiry blk k t s = _
  simp only [execGtTimerExpiry, up, on, armed, now, passed, decide_true, Bool.and_self, whenB_true]

section
variable {c : Nat} (chan : c < 4096)
include chan

theorem exec_flagClear : exec (.flagClear c) s = .next (s.setEch c { s.ech c with flag := false }) := by
  change execFlagClear c s = _
  simp only [execFlagClear, up, chan, decide_true, Bool.and_self, whenB_true]
  rfl

theorem exec_evtChRead : exec (.evtChRead c) s = .next ((s.emit (.value (s.ech c).word)).setEch c (s.ech c).counted) := by
  change execEvtChRead c s = _
  simp only [execEvtChRead, up, chan, decide_true, Bool.and_self, whenB_true]
  rfl

end

theorem exec_evtCtlRead : exec .evtCtlRead s = .next { s.emit (.value s.evtCtl) with evtLoop := 0, evtCoal := 0 } := by
  change execEvtCtlRead s = _
  rw [execEvtCtlRead, up, whenB_true]

section
variable {c i : Nat} (chan : c < 4096) (slot : i < 4)
include chan slot

theorem exec_evtBindWrite (v : W64) : exec (.evtBindWrite c i v) s = .next (s.writeBind c i v) := by
  change execEvtBindWrite c i v s = _
  simp only [execEvtBindWrite, up, chan, slot, decide_true, Bool.and_self, whenB_true]

end
end

/-- A word of a binding is refused for a reserved DST, for the rules of R338, or for a channel with a function (R10, R338). -/
theorem writeBind_eq (s : State) (c i : Nat) (v : W64) : s.writeBind c i v =
    if 2 ≤ v.toNat / 0x10000 % 4 ∨ ((bindOfWord v).valid = true ∧ s.bindRefused c i (bindOfWord v) = true) ∨
      ((bindOfWord v).toVector = false ∧ (bindOfWord v).fn ≠ 0) then s.accessErrUnlisted else s.setBind c i (bindOfWord v) := by
  have dst : bits v.toNat 16 2 = v.toNat / 0x10000 % 4 := rfl
  simp [State.writeBind, dst, or_assoc]

/-- Settles O55. -/
theorem firingsDeliveriesAndBindings : Obligations.FiringsDeliveriesAndBindings := by
  unfold Obligations.FiringsDeliveriesAndBindings
  refine ⟨?_, fun c f w s quiet => arriveAt_spec c f w quiet, fun fs f => lowestOrigin_spec, ?_, ?_, deliverTo_blkView, ?_, ?_, ?_, ?_⟩
  · dsimp only
    intro c k w all rest s up some' taken every
    exact ⟨fun f low => exec_eventFiringArrival up taken every low,
      fun none' => exec_eventFiringArrival_none up taken every some' none'⟩
  · dsimp only
    intro fn v k fs rest f s up taken every low
    exact exec_vectorFiringArrival up taken every low
  · dsimp only
    intro c who s up due
    exact exec_consumerDelivery up due
  · intro blk v s up on
    exact exec_blkEvtFire up v on
  · dsimp only
    intro blk k t s up on armed now passed
    exact exec_gtTimerExpiry up on armed now passed
  · intro c s up chan
    exact ⟨exec_flagClear up chan, exec_evtChRead up chan, exec_evtCtlRead up⟩
  · dsimp only
    intro c i v s up chan slot
    rw [exec_evtBindWrite up chan slot, writeBind_eq]
    constructor
    · intro dst allowed fn
      rw [if_neg (by grind)]
    · intro refused
      rw [if_pos refused]

end Sys2Proof.Laws
end

section
/-! PROOFS. Fabric links, dynamic capacity, NVMe controllers and downstream timeouts (12 R358 to R369). -/

namespace Sys2Proof.Laws
open Sys2Proof Sys2Proof.Machine

/-! ### What leaves the links of the fabric as they are -/

section
variable (s : State) (n : Nat)

@[simp] theorem links_modFn (g : Fn → Fn) : (s.modFn n g).links = s.links := rfl

@[simp] theorem links_setCtrl (x : Option NvmeCtrl) : (s.setCtrl n x).links = s.links := rfl

@[simp] theorem links_linkCic (k : Nat) : (s.linkCic n k).links = s.links := rfl

theorem links_askPme : (s.askPme n).links = s.links := by
  unfold State.askPme
  dsimp only
  split <;> rfl

theorem links_deliverMsg (v : Nat) : (s.deliverMsg n v).links = s.links := by
  unfold State.deliverMsg
  dsimp only
  split
  · rfl
  · split
    · rfl
    · split
      · exact links_askPme ..
      · rfl

theorem links_countEvent (v : Option Nat) : (s.countEvent n v).links = s.links := by
  cases v with
  | none => rfl
  | some v =>
    dsimp only [State.countEvent]
    rw [apply_ite State.links, State.dueMsg, links_deliverMsg]
    exact ite_self _

theorem links_ringWrite (loc : Bool) (a : Nat) (bs : List Byte) : (s.ringWrite n loc a bs).links = s.links := by
  cases loc <;> rfl

theorem links_writeStatus (i : Nat) (rec : List Byte) (fail : Bool) : (s.writeStatus n i rec fail).links = s.links := by
  unfold State.writeStatus
  split
  · rfl
  · dsimp only
    split
    · rfl
    · exact (links_countEvent ..).trans (links_ringWrite ..)

theorem links_postStatus (i : Nat) (rec : List Byte) (w : Wr) : (s.postStatus n i rec w).links = s.links := by
  unfold State.postStatus
  dsimp only
  split
  · rfl
  · split
    · rfl
    · split
      · rfl
      · split
        · exact links_askPme ..
        · exact links_writeStatus ..

end

theorem links_ledgerNote (s : State) (kind region slot : Nat) (data : List Byte) :
    (s.ledgerNote kind region slot data).links = s.links := by
  unfold State.ledgerNote State.ledgerAppend
  dsimp only
  split <;> rfl

theorem links_publishHealth (s : State) (w : Wr) : (s.publishHealth w).links = s.links := by
  unfold State.publishHealth
  dsimp only
  split
  · exact (links_ledgerNote ..).trans (links_postStatus ..)
  · rfl

theorem links_takeCtrls (l : Nat) (found : List (Nat × Nat × Nat)) (s : State) : (s.takeCtrls l found).links = s.links := by
  induction found generalizing s with
  | nil => rfl
  | cons x rest ih =>
    obtain ⟨rid, mdts, pairs⟩ := x
    rw [State.takeCtrls, ih]
    split
    · rfl
    · split <;> rfl

/-! ### Links -/

theorem link_setLink_same (s : State) (l : Nat) (x : Link) : (s.setLink l x).link l = x := table_get_set_same ..

theorem link_setLink_ne (s : State) {l j : Nat} (x : Link) (h : j ≠ l) : (s.setLink l x).link j = s.link j :=
  table_get_set_ne _ _ _ _ _ h

theorem link_eq_of_links {s t : State} (h : t.links = s.links) (l : Nat) : t.link l = s.link l := congrArg (Table.get linkDef · l) h

/-- A link comes up in PCIe mode or in CXL mode. -/
theorem trains_mode {x : Link} {cxl : Bool} {m : Nat} (h : x.trains cxl = some m) : m = 1 ∨ m = 2 := by
  unfold Link.trains at h
  split at h
  · cases h
  · split at h
    · exact .inr (Option.some.inj h).symm
    · split at h
      · exact .inl (Option.some.inj h).symm
      · cases h

section
variable {s : State} {l : Nat} (up : s.up = true) (isLink : l < 24)
include up isLink

/-- A link that trains shows what its partner offered, and no other link changes (R358). -/
theorem exec_linkUp {m : Nat} {tr : Training} (here : s.absent l = false) (off : (s.link l).mode = 0)
    (trains : (s.link l).trains (tr.partnerCxl && decide (3 ≤ min (s.link l).maxRate tr.pMaxRate)) = some m)
    (rate : tr.rate = if m = 2 then min (min (s.link l).maxRate tr.pMaxRate) 6 else min (s.link l).maxRate tr.pMaxRate)
    (wide : 1 ≤ tr.width) (fits : tr.width ≤ s.lanes l) (retimers : tr.retimers ≤ 2) (kind : tr.kind ≤ 6) :
    Completes (.linkUp l tr) s fun t => let y := t.link l
      y.mode = m ∧ y.rate = tr.rate ∧ y.width = tr.width ∧ y.kind = tr.kind ∧ y.downs = (s.link l).downs ∧
      y.memOn = (decide (m = 2) && (decide (tr.kind = 4) || decide (tr.kind = 5))) ∧ (∀ j, j ≠ l → t.link j = s.link j) := by
  have act : ∃ y : Link, (y.mode = m ∧ y.rate = tr.rate ∧ y.width = tr.width ∧ y.kind = tr.kind ∧ y.downs = (s.link l).downs ∧
      y.memOn = (decide (m = 2) && (decide (tr.kind = 4) || decide (tr.kind = 5)))) ∧
      exec (.linkUp l tr) s = .next ((((s.setLink l y).linkCic l 0).takeCtrls l tr.ctrls).publishHealth {}) := by
    change ∃ y : Link, _ ∧ execLinkUp l tr s = _
    simp only [execLinkUp, trains, ← rate, up, isLink, here, off, wide, fits, retimers, kind, decide_true, Bool.not_false,
      Bool.and_self, whenB_true]
    refine ⟨_, ?_, rfl⟩
    exact ⟨rfl, rfl, rfl, rfl, rfl, rfl⟩
  obtain ⟨y, ⟨mode, rate', width, kind', downs, mem⟩, run⟩ := act
  have links : ((((s.setLink l y).linkCic l 0).takeCtrls l tr.ctrls).publishHealth {}).links = (s.setLink l y).links :=
    (links_publishHealth ..).trans (links_takeCtrls ..)
  refine ⟨_, run, ?_⟩
  dsimp only
  rw [link_eq_of_links links, link_setLink_same]
  exact ⟨mode, rate', width, kind', downs, mem, fun j other => (link_eq_of_links links j).trans (link_setLink_ne s y other)⟩

theorem exec_linkDown (on : (s.link l).mode = 1 ∨ (s.link l).mode = 2) :
    exec (.linkDown l) s = .next ((s.ctrlsOf l).foldl (fun s k => s.piecesLost k {}) ((s.setLink l { s.link l with
      mode := 0, rate := 0, width := 0, downs := satInc (s.link l).downs 255, memOn := false, downAt := s.time }).linkCic l 0)) := by
  change execLinkDown l s = _
  have on : (decide ((s.link l).mode = 1) || decide ((s.link l).mode = 2)) = true := by simpa using on
  simp only [execLinkDown, up, isLink, on, decide_true, Bool.and_self, whenB_true]

theorem exec_linkRetrainTimer {t : Nat} (here : s.absent l = false) (off : (s.link l).mode = 0) (en : (s.link l).en = true)
    (now : s.notBefore t = true) (due : reached t ((s.link l).downAt + 100000000) = true) :
    exec (.linkRetrainTimer l t) s = .next (((s.at_ t).setLink l { s.link l with downAt := t % timeMod }).linkCic l 0) := by
  change execLinkRetrainTimer l t s = _
  simp only [execLinkRetrainTimer, up, isLink, here, off, en, now, due, decide_true, Bool.not_false, Bool.and_self, whenB_true]

theorem exec_presenceChange {p : Bool} (changed : (s.link l).present ≠ p) :
    exec (.presenceChange l p) s = .next ((s.setLink l { s.link l with present := p }).linkCic l 4) := by
  change execPresenceChange l p s = _
  rw [execPresenceChange, up, decide_eq_true isLink, decide_eq_true changed, Bool.and_self, Bool.and_self, whenB_true]

theorem exec_flStatRead : exec (.flStatRead l) s =
    .next ((s.emit (.value (s.flStat l))).setLink l { s.link l with late := 0, downs := 0, retrains := 0 }) := by
  change execFlStatRead l s = _
  rw [execFlStatRead, up, decide_eq_true isLink, Bool.and_self, whenB_true]

theorem exec_flLaneRead {i : Nat} (lane : i < 8) : exec (.flLaneRead l i) s =
    .next ((s.emit (.value ((s.link l).lane i))).setLink l { s.link l with corr := Table.set natDef (s.link l).corr i 0 }) := by
  change execFlLaneRead l i s = _
  simp only [execFlLaneRead, up, isLink, lane, decide_true, Bool.and_self, whenB_true]

theorem exec_fabricError (k : AerKind) : exec (.fabricError l k) s = .next ((s.linkCic l 1).error .chip
    { code := if k = .cor then .fabricCor else .fabricUncor, source := 769 + 5 * l }) := by
  change execFabricError l k s = _
  have source : 768 + 5 * l + 1 = 769 + 5 * l := by omega
  simp only [execFabricError, source, up, isLink, decide_true, Bool.and_self, whenB_true]

theorem exec_lateResponse : exec (.lateResponse l) s = .next (s.lateOn l) := by
  change execLateResponse l s = _
  rw [execLateResponse, up, decide_eq_true isLink, Bool.and_self, whenB_true]

section
variable (mem : (s.link l).hasMem = true)
include mem

theorem exec_cxlEventLog (rid : BitVec 16) {log : Nat} (d : W32) (a : W64) (w : Wr) (isLog : log < 4) :
    exec (.cxlEventLog l rid log d a w) s =
      .next (((s.attention l 2 rid.toNat log d.toNat a w).emit (.eventCleared l)).linkCic l 2) := by
  change execCxlEventLog l rid log d a w s = _
  simp only [execCxlEventLog, up, isLink, mem, isLog, decide_true, Bool.and_self, whenB_true]

/-! ### Dynamic capacity (R366) -/

variable {rid : BitVec 16} {base len : Nat} (w : Wr)

theorem exec_dcAdd (some' : len ≠ 0) : let e : Extent := { link := l, rid := rid, base := base, len2m := len }
    exec (.dcAdd l rid base len w) s = .next ((({ s with extents := (s.extents.filter fun (x : Extent) =>
      !(decide (x.link = l) && decide (x.base < base + len * 0x200000) && decide (base < x.base + x.len2m * 0x200000))) ++ [e] }).emit
        (.dcAnswer l 0 base len)).dcNote e 0 w) := by
  change execDcAdd l rid base len w s = _
  simp only [execDcAdd, up, isLink, mem, decide_eq_true some', decide_true, Bool.and_self, whenB_true]

variable {y : Extent} (named : s.extents.find? (fun e => e.named l rid base len && !e.withdrawn) = some y)
include named

omit isLink in
theorem exec_dcReleaseRequest (fresh : y.releasing = false) : exec (.dcReleaseRequest l rid base len w) s =
    .next (if s.rangeMapped base (len * 0x200000) then
        ({ s with extents := s.extents.map fun x => if x = y then { x with releasing := true } else x }).dcNote y 1 w
      else s.dcRelease y w) := by
  change execDcReleaseRequest l rid base len w s = _
  simp only [execDcReleaseRequest, named, up, mem, fresh, Bool.not_false, Bool.and_self, whenB_true]

omit mem in
theorem exec_dcForcedRelease : exec (.dcForcedRelease l rid base len w) s = .next (({ s with extents := s.extents.map fun x =>
    if x = y then { x with withdrawn := true, releasing := false } else x }).dcNote y 2 w) := by
  change execDcForcedRelease l rid base len w s = _
  simp only [execDcForcedRelease, named, up, isLink, decide_true, Bool.and_self, whenB_true]

end
end

/-! ### NVMe controllers (R108, R367, R368) -/

section
variable {s : State} {k : Nat} {x : NvmeCtrl} (up : s.up = true) (ctrl : s.ctrl k = some x)
include up ctrl

section
variable {cid : Nat} (st : NvmeStatus) (data : List Byte) (w : Wr)

/-- The completion of an outstanding piece ends it. -/
theorem exec_nvmeCompletion {n : Nat} {p : Piece} (owner : s.pieceOwner k cid = some n)
    (piece : (s.ctx n).pieces.find? (fun p => decide (p.ctrl = k) && decide (p.cid = cid) && !p.done) = some p)
    (sound : if st = .success then data.length = (s.ctx n).pieceData p else ((s.ctx n).cmd.opn ≠ 0x1A ∨ data.length = 16))
    (lives : (s.ctx n).r.supervisor = true ∨ (s.fn (s.ctx n).r.ownerFn.toNat).stopped = false ∨ (s.ctx n).cmd.touchesHost = false) :
    exec (.nvmeCompletion k cid st data w) s = .next (s.pieceDone n p st data w) := by
  have sound : (if st = .success then decide (data.length = (s.ctx n).pieceData p)
      else decide ((s.ctx n).cmd.opn ≠ 0x1A) || decide (data.length = 16)) = true := by
    split at sound <;> simp [*]
  have lives : (!(decide ((s.ctx n).r.supervisor = false) && (s.fn (s.ctx n).r.ownerFn.toNat).stopped &&
      (s.ctx n).cmd.touchesHost)) = true := by
    obtain h | h | h := lives <;> simp [h]
  change execNvmeCompletion k cid st data w s = _
  simp only [execNvmeCompletion, ctrl, owner, piece, up]
  rw [sound, lives, Bool.and_self, Bool.and_self, whenB_true]

section
variable (alone : s.pieceOwner k cid = none)
include alone

/-- A late completion frees its identifier and is counted (R369). -/
theorem exec_nvmeCompletion_late (reserved : cid ∈ x.reserved) : exec (.nvmeCompletion k cid st data w) s =
    .next ((s.setCtrl k (some { x with reserved := x.reserved.filter (· ≠ cid) })).lateOn x.link) := by
  change execNvmeCompletion k cid st data w s = _
  simp only [execNvmeCompletion, ctrl, alone, up, List.contains_iff_mem.mpr reserved, if_true, whenB_true]

theorem exec_nvmeCompletion_dropped (free : cid ∉ x.reserved) (dropped : cid ∈ x.dropped) :
    exec (.nvmeCompletion k cid st data w) s =
      .next (s.setCtrl k (some { x with dropped := x.dropped.filter (· ≠ cid) })) := by
  change execNvmeCompletion k cid st data w s = _
  have free : ¬x.reserved.contains cid = true := fun h => free (List.contains_iff_mem.mp h)
  simp only [execNvmeCompletion, ctrl, alone, up, if_neg free, List.contains_iff_mem.mpr dropped, if_true, whenB_true]

end
end

theorem exec_nvmeControllerReady (inReset : x.ready = false) (present : x.removed = false) :
    exec (.nvmeControllerReady k) s = .next (s.setCtrl k (some { x with ready := true })) := by
  change execNvmeControllerReady k s = _
  simp only [execNvmeControllerReady, ctrl, up, inReset, present, Bool.not_false, Bool.and_self, whenB_true]

theorem exec_nvmeControllerFail (serves : x.ready = true) (why : CtrlFail) (w : Wr) :
    let t := s.setCtrl k (some { x with ready := false, removed := x.removed || decide (why = .removed), reserved := [], dropped := [] })
    exec (.nvmeControllerFail k why w) s =
      .next ((if why = .removed then t else t.emit (.ctrlReset k)).piecesLost k w) := by
  change execNvmeControllerFail k why w s = _
  simp only [execNvmeControllerFail, ctrl, up, serves, Bool.and_self, whenB_true, decide_eq_true_eq]

theorem exec_nvmeAsyncEvent (ready : s.ctrlReady k = true) (d : W32) (w : Wr) : exec (.nvmeAsyncEvent k d w) s =
    .next ((s.attention x.link 1 x.rid 0 d.toNat 0 w).linkCic x.link 2) := by
  change execNvmeAsyncEvent k d w s = _
  simp only [execNvmeAsyncEvent, ctrl, up, ready, Bool.and_self, whenB_true]

end

/-! ### Timeouts (R369) -/

section
variable {s : State} {n t : Nat} (up : s.up = true) (now : s.notBefore t = true)
include up now

/-- The timeout of a far access is late, fails the access, or concerns no access, as any reply. -/
theorem exec_downstreamTimeout_far (bib : Byte) (a len : Nat) (w : Wr) :
    let u := (s.at_ t).modCtx n fun c => { c with fails := c.fails ++ [{ space := 2, addr := a, len := len, why := .farTimeout }] }
    exec (.downstreamTimeout (.far n bib a len) t w) s = .next ((s.at_ t).replyTo n bib ((s.at_ t).lateOver n bib)
      (match s.linkAt n a with | none => u | some l => u.linkCic l 3)) := by
  change execDownstreamTimeout (.far n bib a len) t w s = _
  simp only [execDownstreamTimeout, up, now, Bool.and_self, whenB_true] <;> rfl

/-- A piece that times out fails, and its abort is sent. -/
theorem exec_downstreamTimeout_piece {k cid : Nat} {x : NvmeCtrl} (w : Wr) (owner : s.pieceOwner k cid = some n)
    (ctrl : s.ctrl k = some x)
    (passed : ∀ p ∈ (s.ctx n).pieces, p.ctrl = k → p.cid = cid → reached t (p.issued + p.limit * 1000) = true) :
    exec (.downstreamTimeout (.piece k cid) t w) s = .next ((((((s.at_ t).setCtrl k (some { x with
      reserved := insertNat cid x.reserved })).emit (.nvmeAbort k cid)).modCtx n fun c =>
        (c.modPiece k cid fun p => { p with done := true, failed := true }).nvFails deTimeout 3 (s.ctx n).cmd.nvOperand).linkCic
          x.link 3).nvmCheck n w) := by
  have late : (((s.ctx n).pieces.filter fun p => decide (p.ctrl = k) && decide (p.cid = cid)).all fun p =>
      reached t (p.issued + p.limit * 1000)) = true := by
    rw [List.all_filter, List.all_eq_true]
    intro p mem
    grind
  change execDownstreamTimeout (.piece k cid) t w s = _
  simp only [execDownstreamTimeout, owner, ctrl, up, now, late, Bool.and_self, whenB_true]
  rfl

end

/-! ### The ways of an interleave set (R364) -/

theorem way_lt (x : ISet) (ways : 0 < x.ways) (pa : Nat) : x.way pa < x.ways := by
  unfold ISet.way
  dsimp only
  split
  · omega
  · exact Nat.mod_lt _ ways

/-- Every byte of a granule is served by one way. -/
theorem way_granule (x : ISet) {pa i : Nat} (inside : i < 2 ^ x.logGran) (aligned : pa % 2 ^ x.logGran = 0) :
    x.way (pa + i) = x.way pa := by
  have granule : (pa + i) / 2 ^ x.logGran = pa / 2 ^ x.logGran := by
    obtain ⟨q, rfl⟩ := Nat.dvd_of_mod_eq_zero aligned
    rw [Nat.mul_add_div (Nat.two_pow_pos _), Nat.div_eq_of_lt inside, Nat.mul_div_cancel_left _ (Nat.two_pow_pos _), Nat.add_zero]
  simp only [ISet.way, Nat.mul_comm 4, ← Nat.div_div_eq_div_mul, granule]

/-- Granule `k` of a stripe of 12 is served by way `k`. -/
theorem way_stripe (x : ISet) (ways : x.ways = 12) {base k : Nat} (aligned : base % (12 * 2 ^ x.logGran) = 0) (inside : k < 12) :
    x.way (base + k * 2 ^ x.logGran) = k := by
  obtain ⟨q, rfl⟩ := Nat.dvd_of_mod_eq_zero aligned
  have granule : (12 * 2 ^ x.logGran * q + k * 2 ^ x.logGran) / 2 ^ x.logGran = 12 * q + k := by
    rw [show 12 * 2 ^ x.logGran * q + k * 2 ^ x.logGran = (12 * q + k) * 2 ^ x.logGran by ring, Nat.mul_div_cancel _ (Nat.two_pow_pos _)]
  simp only [ISet.way, if_pos ways, Nat.mul_comm 4 (2 ^ _), ← Nat.div_div_eq_div_mul, granule]
  omega

/-- Settles O57. -/
theorem linksControllersAndCapacity : Obligations.LinksControllersAndCapacity := by
  unfold Obligations.LinksControllersAndCapacity
  refine ⟨?_, ?_, ?_, ?_, ?_, ?_, ?_, ?_, ?_⟩
  · dsimp only
    intro l m tr s up isLink here off trains rate wide fits retimers kind
    exact ⟨trains_mode trains, exec_linkUp up isLink here off trains rate wide fits retimers kind⟩
  · intro l s x up isLink on
    exact exec_linkDown up isLink on
  · intro l t s x up isLink here off en now due
    exact exec_linkRetrainTimer up isLink here off en now due
  · intro l s x up isLink
    exact ⟨fun p => exec_presenceChange up isLink, exec_flStatRead up isLink, fun i => exec_flLaneRead up isLink,
      exec_fabricError up isLink, exec_lateResponse up isLink,
      fun mem rid log d a w => exec_cxlEventLog up isLink mem rid d a w⟩
  · intro l rid base len w s up isLink mem e
    exact ⟨exec_dcAdd up isLink mem w, fun y named =>
      ⟨exec_dcReleaseRequest up mem w named, exec_dcForcedRelease up isLink w named⟩⟩
  · dsimp only
    intro k cid st data w x s up ctrl
    exact ⟨fun n p owner piece sound lives => exec_nvmeCompletion up ctrl st data w owner piece sound lives,
      exec_nvmeCompletion_late up ctrl st data w, exec_nvmeCompletion_dropped up ctrl st data w,
      exec_nvmeControllerReady up ctrl, fun serves why => exec_nvmeControllerFail up ctrl serves why w,
      fun ready d => exec_nvmeAsyncEvent up ctrl ready d w⟩
  · dsimp only
    intro n a len t bib w s up now
    rw [exec_downstreamTimeout_far up now]
    exact ⟨fun gone => congrArg _ (replyTo_abandoned (s := s.at_ t) _ _ gone),
      fun kept asks => congrArg _ (replyTo_awaited (s := s.at_ t) _ _ kept asks)⟩
  · intro k cid n t w x s up now owner ctrl passed
    exact exec_downstreamTimeout_piece up now w owner ctrl passed
  · rintro x g rfl
    exact ⟨way_lt x, fun pa i => way_granule x, fun ways base w aligned inside =>
      ⟨w, inside, way_stripe x ways aligned inside, fun j hj served => (way_stripe x ways aligned hj).symm.trans served⟩⟩

end Sys2Proof.Laws
end

section
/-! PROOFS. Every step keeps the canonical form of the byte maps of memory (01 R28, 02 R69). One lemma for each operation of the
state, in the order of the model: an operation leaves the maps as they are (`keep`), writes a map through an operation of `Mem`,
  or is
a choice or a run of earlier operations (`ite`, `foldl`). `exec` collects the commands. -/

namespace Sys2Proof.Laws
open Sys2Proof Sys2Proof.Machine

/-- The byte maps of LOCAL, HOST and FAR memory hold their canonical form. -/
structure MemWf (s : State) : Prop where
  hbm : s.hbm.wf = true
  host : s.hostMem.wf = true
  far : s.farMem.wf = true

theorem memWf_iff {s : State} : s.memWf = true ↔ MemWf s := by
  simp only [State.memWf, Bool.and_eq_true]
  exact ⟨fun ⟨⟨a, b⟩, c⟩ => ⟨a, b, c⟩, fun ⟨a, b, c⟩ => ⟨⟨a, b⟩, c⟩⟩

/-- A result whose next state, if it has one, keeps the canonical form. -/
def ResWf : Res → Prop
  | .next t => MemWf t
  | _ => True

section
variable {s t : State}

/-- A state with the byte maps of another holds their form with it. -/
theorem MemWf.keep (h : MemWf s) (same : (t.hbm, t.hostMem, t.farMem) = (s.hbm, s.hostMem, s.farMem)) : MemWf t := by
  simp only [Prod.mk.injEq] at same
  obtain ⟨hbm, host, far⟩ := same
  exact ⟨hbm ▸ h.hbm, host ▸ h.host, far ▸ h.far⟩

theorem MemWf.cast (h : MemWf s) (e : s = t) : MemWf t := e ▸ h

theorem MemWf.ite {c : Prop} [Decidable c] (hs : MemWf s) (ht : MemWf t) : MemWf (if c then s else t) := by
  split
  · exact hs
  · exact ht

theorem MemWf.iteFst {α : Type} {c : Prop} [Decidable c] {p q : State × α} (hp : MemWf p.1) (hq : MemWf q.1) :
    MemWf (if c then p else q).1 := by
  split
  · exact hp
  · exact hq

theorem MemWf.iteSnd {α : Type} {c : Prop} [Decidable c] {p q : α × State} (hp : MemWf p.2) (hq : MemWf q.2) :
    MemWf (if c then p else q).2 := by
  split
  · exact hp
  · exact hq

theorem MemWf.ofFst {α : Type} {a : α} (h : MemWf s) : MemWf (s, a).1 := h

theorem MemWf.ofSnd {α : Type} {a : α} (h : MemWf s) : MemWf (a, s).2 := h

theorem MemWf.foldl {α : Type} {f : State → α → State} (step : ∀ s a, MemWf s → MemWf (f s a)) (h : MemWf s) {l : List α} :
    MemWf (l.foldl f s) := by
  induction l generalizing s with
  | nil => exact h
  | cons a l ih => exact ih (step s a h)

theorem MemWf.foldlFst {α β : Type} {f : State × β → α → State × β} (step : ∀ p a, MemWf p.1 → MemWf (f p a).1) {p : State × β}
    (h : MemWf p.1) {l : List α} : MemWf (l.foldl f p).1 := by
  induction l generalizing p with
  | nil => exact h
  | cons a l ih => exact ih (step p a h)

theorem MemWf.foldlSnd {α β : Type} {f : β × State → α → β × State} (step : ∀ p a, MemWf p.2 → MemWf (f p a).2) {p : β × State}
    (h : MemWf p.2) {l : List α} : MemWf (l.foldl f p).2 := by
  induction l generalizing p with
  | nil => exact h
  | cons a l ih => exact ih (step p a h)

theorem ResWf.next (h : MemWf s) : ResWf (.next s) := h

theorem ResWf.ite {c : Prop} [Decidable c] {r q : Res} (hr : ResWf r) (hq : ResWf q) : ResWf (if c then r else q) := by
  split
  · exact hr
  · exact hq

/-- A row answers the state as it is when its event cannot occur. -/
theorem MemWf.whenB (h : MemWf s) (ht : MemWf t) {c : Bool} {why : String} : ResWf (whenB s c why t) := MemWf.ite ht h

theorem MemWf.idleB (h : MemWf s) {why : String} : ResWf (idleB s why) := h

theorem MemWf.orElse (h : MemWf s) {r : Res} (hr : ResWf r) : MemWf (r.orElse s) := by
  cases r with
  | next t => exact hr
  | fault _ => exact h
  | refused _ => exact h

end

/-- The state that a run of a SIEVE-MAP leaves. -/
def endState : RunEnd → State
  | .done s | .failed s _ _ | .source s _ _ | .overrun s _ | .report s _ => s

/-- The end of a run leaves a state that keeps the canonical form. -/
def EndWf (r : RunEnd) : Prop := MemWf (endState r)

/-- An admin command leaves a state that keeps the canonical form. -/
inductive AdmWf : AdmRes → Prop
  | done {s : State} {q : List Nat} (h : MemWf s) : AdmWf (.done s q)
  | reject {code arg : Nat} {q : List Nat} : AdmWf (.reject code arg q)
  | failed {s : State} {code : Nat} (h : MemWf s) : AdmWf (.failed s code)
  | later {s : State} (h : MemWf s) : AdmWf (.later s)
  | wait : AdmWf .wait

section
variable {s : State}

theorem EndWf.cast {r q : RunEnd} (h : EndWf r) (e : r = q) : MemWf (endState q) := e ▸ h

theorem EndWf.done (h : MemWf s) : EndWf (.done s) := h

theorem EndWf.failed (h : MemWf s) {off : Nat} {f : RecFail} : EndWf (.failed s off f) := h

theorem EndWf.source (h : MemWf s) {off : Nat} {why : AccFail} : EndWf (.source s off why) := h

theorem EndWf.overrun (h : MemWf s) {off : Nat} : EndWf (.overrun s off) := h

theorem EndWf.report (h : MemWf s) {why : AccFail} : EndWf (.report s why) := h

theorem EndWf.ite {c : Prop} [Decidable c] {r q : RunEnd} (hr : EndWf r) (hq : EndWf q) : EndWf (if c then r else q) := by
  split
  · exact hr
  · exact hq

theorem AdmWf.ite {c : Prop} [Decidable c] {r q : AdmRes} (hr : AdmWf r) (hq : AdmWf q) : AdmWf (if c then r else q) := by
  split
  · exact hr
  · exact hq

theorem AdmWf.admWhen {l : List (Bool × Nat × Nat)} {go : AdmRes} (h : AdmWf go) : AdmWf (admWhen l go) := by
  unfold Machine.admWhen
  split
  · exact .reject
  · exact h

end

section
variable {s t : State}

/-! ### The setters of the state -/

theorem MemWf.setFn (h : MemWf s) {n f} : MemWf (s.setFn n f) := h.keep (by rfl)

theorem MemWf.modFn (h : MemWf s) {n g} : MemWf (s.modFn n g) := h.setFn

theorem MemWf.setCtx (h : MemWf s) {n c} : MemWf (s.setCtx n c) := h.keep (by rfl)

theorem MemWf.modCtx (h : MemWf s) {n g} : MemWf (s.modCtx n g) := h.setCtx

theorem MemWf.setEch (h : MemWf s) {c e} : MemWf (s.setEch c e) := h.keep (by rfl)

theorem MemWf.setCtl (h : MemWf s) {k c} : MemWf (s.setCtl k c) := h.keep (by rfl)

theorem MemWf.modCtl (h : MemWf s) {k g} : MemWf (s.modCtl k g) := h.setCtl

theorem MemWf.setBlock (h : MemWf s) {k b} : MemWf (s.setBlock k b) := h.keep (by rfl)

theorem MemWf.modBlock (h : MemWf s) {k g} : MemWf (s.modBlock k g) := h.setBlock

theorem MemWf.setLink (h : MemWf s) {l x} : MemWf (s.setLink l x) := h.keep (by rfl)

theorem MemWf.setCore (h : MemWf s) {id c} : MemWf (s.setCore id c) := h.keep (by rfl)

theorem MemWf.setPch (h : MemWf s) {n x} : MemWf (s.setPch n x) := h.keep (by rfl)

theorem MemWf.modFifo (h : MemWf s) {blk f g} : MemWf (s.modFifo blk f g) := h.modBlock

/-! ### Core words -/

/-- A read that may trap keeps the canonical form when it does not (08 R248 phase 3). -/
def ReadWf {ε α β : Type} : Except ε (α × State × β) → Prop
  | .ok r => MemWf r.2.1
  | .error _ => True

section
variable {ε α β : Type} {r q : Except ε (α × State × β)}

theorem ReadWf.of_ok {x : α} {y : β} (h : ReadWf r) (e : r = .ok (x, s, y)) : MemWf s := by
  subst e
  exact h

theorem ReadWf.ite {c : Prop} [Decidable c] (hr : ReadWf r) (hq : ReadWf q) : ReadWf (if c then r else q) := by
  split
  · exact hr
  · exact hq

theorem ReadWf.bind {γ δ : Type} {f : α × State × β → Except ε (γ × State × δ)} (h : ReadWf r)
    (step : ∀ a s b, MemWf s → ReadWf (f (a, s, b))) : ReadWf (r >>= f) := by
  cases r with
  | error _ => trivial
  | ok p => exact step p.1 p.2.1 p.2.2 h

theorem ReadWf.foldl {γ : Type} {f : Except ε (α × State × β) → γ → Except ε (α × State × β)}
    (step : ∀ r a, ReadWf r → ReadWf (f r a)) (h : ReadWf r) {l : List γ} : ReadWf (l.foldl f r) := by
  induction l generalizing r with
  | nil => exact h
  | cons a l ih => exact ih (step r a h)

end

/-- What a core can do beyond itself keeps the canonical form (08 R248, R275). -/
structure BusWf (b : Bus) : Prop where
  load {s : State} (h : MemWf s) {a n : Nat} {c : Core} : MemWf (b.load a n s c).2.2.1
  store {s : State} (h : MemWf s) {a : Nat} {bs : List Byte} {c : Core} : MemWf (b.store a bs s c).1
  read {s : State} (h : MemWf s) {p : Nat} {c : Core} : ReadWf (b.read p s c)
  write {s : State} (h : MemWf s) {p : Nat} {v : Val} {c : Core} : MemWf (b.write p v s c).1
  accessErr {s : State} (h : MemWf s) : MemWf (b.accessErr s)
  doubleTrap {s : State} (h : MemWf s) : MemWf (b.doubleTrap s)

theorem MemWf.codeWord (h : MemWf s) {c a} : MemWf (Core.codeWord s c a).2.1 := by
  unfold Core.codeWord
  split
  · exact h
  · exact h.keep (by rfl)

theorem MemWf.vector (h : MemWf s) {c e} : MemWf (Core.vector s c e).1 := h.codeWord

theorem MemWf.coreResume (h : MemWf s) {c f mode} : MemWf (Core.resume s c f mode).2.1 := by
  unfold Core.resume
  split
  · exact h.codeWord
  · split
    · exact h
    · exact h

theorem MemWf.interrupt (h : MemWf s) {k c l} : MemWf (Core.interrupt k s c l).1 := h.vector

section
variable {b : Bus} (hb : BusWf b)
include hb

theorem MemWf.trap (h : MemWf s) {k c t} : MemWf (Core.trap b k s c t).1 := .iteFst (hb.doubleTrap h) h.vector

omit hb in
theorem MemWf.leave (h : MemWf s) {k c mode} : MemWf (Core.leave b k s c mode).1 := by
  unfold Core.leave
  split
  · exact h
  · dsimp only
    split
    · exact h.coreResume
    · exact .iteFst h.coreResume.vector h.coreResume

theorem MemWf.source (h : MemWf s) {m lit c} : ReadWf (Core.source b m lit s c) := by
  unfold Core.source
  split
  · exact h
  · refine .ite h (.ite h (.ite ?_ ?_))
    · split
      · next read => exact (hb.read h).of_ok read
      · trivial
    · split
      · exact h
      · trivial

theorem MemWf.coreRefuse (h : MemWf s) {c} : MemWf (Machine.refuse b s c).1 := hb.accessErr h

/-- A write of a port keeps the form: most ports are the core's own, configuration may be refused, the kind's
ports are the bus's. -/
theorem MemWf.writeEarly (h : MemWf s) {k p v c} : MemWf (Core.writeEarly b k p v s c).1 :=
  .iteFst h (.iteFst h (.iteFst h (.iteFst h (.iteFst h (.iteFst (.iteFst h (h.coreRefuse hb)) (.iteFst h
    (.iteFst (.iteFst h (h.coreRefuse hb)) (.iteFst h (.iteFst h (.iteFst h (.iteFst (.iteFst h (h.coreRefuse hb))
      (.iteFst (hb.write h) h))))))))))))

theorem MemWf.early (h : MemWf s) {k ms c} : MemWf (Core.early b k ms s c).1 := by
  refine .foldlFst (fun p m k => ?_) h
  split
  · exact k
  · exact .iteFst (k.writeEarly hb) k

omit hb in
theorem MemWf.selWin (h : MemWf s) {c} : MemWf (Core.selWin s c).2 := .iteSnd h (h.keep (by rfl))

theorem MemWf.trigger (h : MemWf s) {k len p v c0 c} : MemWf (Core.trigger b k len p v c0 s c).1 := by
  unfold Core.trigger
  refine .iteFst h (.iteFst h (.iteFst h (.iteFst h
    (.iteFst h (.iteFst h (.iteFst ?_ (.iteFst ?_ (.iteFst h (.iteFst (.iteFst h (h.keep (by rfl)))
    (.iteFst h.selWin (.iteFst h.selWin (.iteFst h (hb.write h)))))))))))))
  · split
    · exact h
    · exact hb.load h
  · split
    · exact h
    · exact hb.store h

theorem MemWf.late (h : MemWf s) {k len ms c} : MemWf (Core.late b k len ms s c).1 := by
  unfold Core.late
  extract_lets act
  have step : ∀ r m, MemWf r.1 → MemWf (act r m).1 := fun _ _ k => k.trigger hb
  exact .foldlFst step (.foldlFst step h)

theorem MemWf.readAll (h : MemWf s) {lit ms c} : ReadWf (Core.readAll b lit ms s c) := by
  unfold Core.readAll
  have start : ReadWf (.ok (([] : List Move), s, c) : Except Trap (List Move × State × Core)) := h
  refine .foldl (fun r m k => ?_) start
  refine .bind k fun _ _ _ k => .bind (k.source hb) fun _ _ _ k => ?_
  exact k

/-- A word that is ready to act has read its sources. -/
theorem MemWf.gather (h : MemWf s) {k : CoreKind} {i : IWord} {c : Core} {r : Ready} (e : c.gather b k i s = .ok r) :
    MemWf r.s1 := by
  unfold Core.gather at e
  dsimp only at e
  split at e
  · cases e
  · split at e
    · cases e
    · split at e
      · cases e
      · split at e
        · cases e
        · next read =>
          split at e
          · cases e
          · cases e
            exact (h.readAll hb).of_ok read

theorem MemWf.readyAct {r : Ready} (h : MemWf r.s1) {k i} : MemWf (r.act b k i).1 := by
  unfold Ready.act
  dsimp only
  split
  · exact (h.early hb).late hb
  · exact ((h.early hb).late hb).leave

theorem MemWf.issue (h : MemWf s) {k : CoreKind} {i : IWord} {c d : Core} (e : c.issue b k i s = .done t d) : MemWf t := by
  unfold Core.issue at e
  split at e
  · cases e
  · next ready => cases e; exact (h.gather hb ready).readyAct hb

theorem MemWf.coreRun (h : MemWf s) {k i c} : MemWf (Core.run b k i s c).1 := by
  unfold Core.run
  split
  · next done => exact h.issue hb done
  · exact h.trap hb

theorem MemWf.coreLost (h : MemWf s) {c t} : MemWf (Core.lost b s c t).1 := h.trap hb

theorem MemWf.coreAnswer (h : MemWf s) {c t} : MemWf (Core.answer b s c t).1 := by
  unfold Core.answer
  split
  · split
    · exact h
    · exact h
  · split
    · split
      · exact h.coreLost hb
      · exact h
    · exact h.coreLost hb

theorem MemWf.svWord (h : MemWf s) {i c} : MemWf (Core.svWord b i s c).1 := by
  unfold Core.svWord
  refine .iteFst (h.coreLost hb) ?_
  split
  · next done => exact .iteFst (h.coreLost hb) (h.issue hb done)
  · exact .iteFst (h.coreLost hb) (h.coreAnswer hb)

end

/-! ### The sieve core's bus -/

theorem MemWf.svRead (h : MemWf s) {p c} : ReadWf (svRead p s c) :=
  .ite (.ite h trivial) (.ite (.ite h trivial) (.ite h (.ite h (.ite h (.ite h h)))))

theorem MemWf.svWrite (h : MemWf s) {p v c} : MemWf (svWrite p v s c).1 :=
  .iteFst h (.iteFst h (.iteFst h (.iteFst h
    (.iteFst h (.iteFst h (.iteFst h (.iteFst h (.iteFst h (.iteFst h (.iteFst h (.iteFst h (.iteFst h (.iteFst h h)))))))))))))

theorem MemWf.svLoad (h : MemWf s) {a n c} : MemWf (svLoad a n s c).2.2.1 := by
  unfold Machine.svLoad
  split
  · exact h
  · split
    · exact h
    · split
      · exact h
      · exact h

theorem MemWf.svStore (h : MemWf s) {a bs c} : MemWf (svStore a bs s c).1 := .iteFst h (.iteFst h (.iteFst h h))

/-! ### Interrupt controllers and errors -/

theorem MemWf.raise (h : MemWf s) {k i} : MemWf (s.raise k i) := h.modCtl

theorem MemWf.cic (h : MemWf s) {i} : MemWf (s.cic i) := h.raise

theorem MemWf.doneWrite (h : MemWf s) {k tk i} : MemWf (s.doneWrite k tk i) := .ite h.modCtl.cic h.modCtl

theorem MemWf.refuseStore (h : MemWf s) : MemWf s.refuseStore := h.cic

theorem MemWf.ledgerAppend (h : MemWf s) {body} : MemWf (s.ledgerAppend body) :=
  .ite (h.keep (by rfl)) (MemWf.refuseStore (h.keep (by rfl)))

theorem MemWf.ledgerNote (h : MemWf s) {kind region slot data} : MemWf (s.ledgerNote kind region slot data) := h.ledgerAppend

theorem MemWf.ledgerError (h : MemWf s) {body} : MemWf (s.ledgerError body) :=
  .ite (MemWf.ledgerAppend (h.keep (by rfl))) (h.keep (by rfl))

theorem MemWf.setCap (h : MemWf s) {c l} : MemWf (s.setCap c l) := by
  unfold State.setCap
  split
  · split
    · exact h
    · exact h.modBlock
  · split
    · exact h
    · exact h.modBlock
  · exact h.keep (by rfl)
  · exact h.keep (by rfl)

theorem MemWf.capIrq (h : MemWf s) {code source l} : MemWf (s.capIrq code source l) := by
  unfold State.capIrq
  split
  · exact h.raise
  · exact h.cic
  · exact h.cic
  · exact .ite h h.cic

theorem MemWf.enterFatal (h : MemWf s) : MemWf s.enterFatal := .ite h (h.keep (by rfl))

theorem MemWf.aerCorrected (h : MemWf s) : MemWf s.aerCorrected := .ite h (h.keep (by rfl))

theorem MemWf.ledgerCap (h : MemWf s) {l c} : MemWf (s.ledgerCap l c) := h.ledgerError

theorem MemWf.fatalError (h : MemWf s) {e source esc} : MemWf (s.fatalError e source esc) :=
  MemWf.ledgerCap (MemWf.enterFatal (h.keep (by rfl)))

theorem MemWf.arrive (h : MemWf s) {n x y m b} : MemWf (s.arrive n x y m b) := by
  induction n generalizing s x y m b with
  | zero => exact h
  | succ _ ih =>
    rw [State.arrive]
    refine .ite (h.keep (by rfl)) ?_
    refine .ite h.fatalError ?_
    extract_lets +onlyGivenNames _ s1
    have h1 : MemWf s1 := .ite h.aerCorrected h
    refine .ite ?_ ?_
    · extract_lets +onlyGivenNames _ s11 _
      have h11 : MemWf s11 := h1.setCap.capIrq
      exact .ite h11.ledgerCap h11
    · split
      · exact .ite h1.setCap.fatalError h1.setCap
      · exact .ite (ih h1.setCap) (.ite h1.setCap.ledgerCap h1.setCap)

theorem MemWf.error (h : MemWf s) {l e} : MemWf (s.error l e) := h.arrive

theorem MemWf.accessErrChip (h : MemWf s) {source} : MemWf (s.accessErrChip source) := h.error

theorem MemWf.accessErrUnlisted (h : MemWf s) : MemWf s.accessErrUnlisted := MemWf.accessErrChip (h.keep (by rfl))

theorem MemWf.cellError (h : MemWf s) {b k e} : MemWf (s.cellError b k e) := by
  unfold State.cellError
  split
  · exact h
  · exact h.error

theorem MemWf.blockError (h : MemWf s) {b e} : MemWf (s.blockError b e) := by
  unfold State.blockError
  split
  · exact h
  · exact h.error

theorem MemWf.keepMap (h : MemWf s) : MemWf s.keepMap := .ite (h.keep (by rfl)) (MemWf.refuseStore (h.keep (by rfl)))

theorem MemWf.rehome (h : MemWf s) {r tk} : MemWf (s.rehome r tk) := by
  unfold State.rehome
  split
  · exact h
  · exact h.keep (by rfl)

theorem MemWf.markServed (h : MemWf s) {b} : MemWf (s.markServed b) :=
  .foldl (fun _ _ k => .ite (.ite (MemWf.modCtx (k.keep (by rfl))) (k.keep (by rfl))) k) h

theorem MemWf.replaceBlock (h : MemWf s) {b} : MemWf (s.replaceBlock b) := by
  unfold State.replaceBlock
  split
  · exact h
  · exact .ite (MemWf.ledgerNote (h.keep (by rfl)))
      (.ite (.ite (MemWf.fatalError (h.keep (by rfl))) (MemWf.rehome (h.keep (by rfl)))) h)

theorem MemWf.retireCell (h : MemWf s) {b k} : MemWf (s.retireCell b k) := by
  unfold State.retireCell
  refine .ite h ?_
  extract_lets +onlyGivenNames _ _ s1
  have h1 : MemWf s1 := h.setBlock.ledgerNote
  exact h1.markServed.replaceBlock.keepMap

theorem MemWf.retireBlock (h : MemWf s) {b} : MemWf (s.retireBlock b) := by
  unfold State.retireBlock
  extract_lets +onlyGivenNames _ s1
  have h1 : MemWf s1 := h.modBlock.ledgerNote
  exact h1.replaceBlock.keepMap

theorem MemWf.cellUnitError (h : MemWf s) {b k e} : MemWf (s.cellUnitError b k e) := h.cellError.retireCell

theorem MemWf.sramError (h : MemWf s) {b k e} : MemWf (s.sramError b k e) := by
  unfold State.sramError
  extract_lets +onlyGivenNames s1 _ _ _
  have h1 : MemWf s1 := .ite h.blockError h.cellError
  exact .ite h1.setBlock (.ite h1.setBlock.blockError.retireBlock h1.setBlock.cellUnitError)

/-! ### Rings and records -/

theorem MemWf.ringWrite (h : MemWf s) {n loc a bs} : MemWf (s.ringWrite n loc a bs) :=
  .ite ⟨mem_writeN_wf _ _ _ h.hbm, h.host, h.far⟩ ⟨h.hbm, mem_writeN_wf _ _ _ h.host, h.far⟩

theorem MemWf.askPme (h : MemWf s) {n} : MemWf (s.askPme n) := .ite (h.keep (by rfl)) h

theorem MemWf.deliverMsg (h : MemWf s) {n v} : MemWf (s.deliverMsg n v) :=
  .ite h (.ite h.setFn (.ite h.setFn.askPme (h.keep (by rfl))))

theorem MemWf.dueMsg (h : MemWf s) {n v} : MemWf (s.dueMsg n v) := h.modFn.deliverMsg

theorem MemWf.countEvent (h : MemWf s) {n v} : MemWf (s.countEvent n v) := by
  unfold State.countEvent
  split
  · exact h
  · exact .ite h.setFn.dueMsg h.setFn

theorem MemWf.writeCompletion (h : MemWf s) {n tk body ctx w} : MemWf (s.writeCompletion n tk body ctx w).2 := by
  unfold State.writeCompletion
  extract_lets +onlyGivenNames _
  split
  · exact h.setFn
  · refine .iteSnd h.setFn ?_
    refine .iteSnd h.setFn.askPme ?_
    refine .iteSnd h.setFn ?_
    extract_lets +onlyGivenNames _ s1 _
    have h1 : MemWf s1 := h.ringWrite.ringWrite
    exact .ite h1.modFn h1.modFn.countEvent

theorem MemWf.writeStatus (h : MemWf s) {n i recx fail} : MemWf (s.writeStatus n i recx fail) := by
  unfold State.writeStatus
  split
  · exact h
  · exact .ite h.modFn h.ringWrite.modFn.countEvent

theorem MemWf.postStatus (h : MemWf s) {n i recx w} : MemWf (s.postStatus n i recx w) := by
  unfold State.postStatus
  dsimp only
  split
  · exact h
  · exact .ite h (.ite h.setFn (.ite h.setFn.askPme h.writeStatus))

theorem MemWf.publishHealth (h : MemWf s) {w} : MemWf (s.publishHealth w) :=
  .ite (MemWf.ledgerNote (MemWf.postStatus (h.keep (by rfl)))) (h.keep (by rfl))

/-! ### Accesses -/

theorem MemWf.sievePut (h : MemWf s) {a b} : MemWf (s.sievePut a b) := by
  have stored : MemWf { s with hbm := s.hbm.write a b } := ⟨mem_write_wf _ _ _ h.hbm, h.host, h.far⟩
  unfold State.sievePut
  dsimp only
  split
  · split
    · exact h
    · exact .ite (h.keep (by rfl)) (.ite (h.keep (by rfl)) h)
  · split
    · exact stored
    · exact .ite (h.keep (by rfl)) stored

theorem MemWf.dropPieces (h : MemWf s) {n} : MemWf (s.dropPieces n) := by
  unfold State.dropPieces
  extract_lets +onlyGivenNames _ s1
  have h1 : MemWf s1 := by
    refine .foldl (fun _ _ k => ?_) h
    split
    · exact k
    · exact k.keep (by rfl)
  exact h1.modCtx

theorem MemWf.dropAsk (h : MemWf s) {n} : MemWf (s.dropAsk n) := by
  unfold State.dropAsk
  split
  · exact h
  · exact MemWf.modCtx (h.keep (by rfl))

theorem MemWf.supStart (h : MemWf s) {n r} : MemWf (s.supStart n r) := .ite h h.setCtx

theorem MemWf.supStop (h : MemWf s) {n r} : MemWf (s.supStop n r) := by
  unfold State.supStop
  exact MemWf.modCtx (MemWf.dropPieces (MemWf.dropAsk (h.keep (by rfl))))

theorem MemWf.supWrite (h : MemWf s) {n r} : MemWf (s.supWrite n r) := .ite h.supStart (.ite h.supStop (.ite h.setCtx h.setCtx))

theorem MemWf.writeRecordByte (h : MemWf s) {a b} : MemWf (s.writeRecordByte a b) := .ite h.supWrite (.ite h.setCtx h.setCtx)

theorem MemWf.localPut (h : MemWf s) {a b} : MemWf (s.localPut a b) :=
  .ite h.writeRecordByte (.ite h (.ite h.sievePut ⟨mem_write_wf _ _ _ h.hbm, h.host, h.far⟩))

theorem MemWf.localWrite (h : MemWf s) {a bs} : MemWf (s.localWrite a bs) := by
  unfold State.localWrite
  extract_lets s1
  have h1 : MemWf s1 := .ite ⟨mem_writeN_wf _ _ _ h.hbm, h.host, h.far⟩ (.foldl (fun _ _ k => k.localPut) h)
  exact .ite h1 (h1.keep (by rfl))

/-- Bytes written one by one keep the form of a byte map. -/
theorem mem_foldl_write_wf (key : Nat → Nat) (val : Nat → Byte) (l : List Nat) {m : Mem} (h : m.wf = true) :
    (l.foldl (fun (m : Mem) i => m.write (key i) (val i)) m).wf = true := by
  induction l generalizing m with
  | nil => exact h
  | cons i l ih => exact ih (mem_write_wf _ _ _ h)

theorem MemWf.bytesOut (h : MemWf s) {w space a bs} : MemWf (s.bytesOut w space a bs) :=
  .ite ⟨h.hbm, mem_foldl_write_wf _ _ _ h.host, h.far⟩ (.ite h.localWrite ⟨h.hbm, h.host, mem_foldl_write_wf _ _ _ h.far⟩)

theorem MemWf.staleAhead (h : MemWf s) {n w space a k} : MemWf (s.staleAhead n w space a k) := .ite h h.modCtx

theorem MemWf.ctxOut (h : MemWf s) {n w space a bs} : MemWf (s.ctxOut n w space a bs) := h.bytesOut.modCtx.staleAhead

theorem MemWf.writeRange (h : MemWf s) {n w space a bs} : MemWf (s.writeRange n w space a bs).1 := .iteFst h h.ctxOut

/-! ### Commands and their endings -/

theorem MemWf.mixOut (h : MemWf s) {n space w m l} : MemWf (s.mixOut n space w m l) := by
  induction l generalizing n space w m s with
  | nil => exact h
  | cons _ _ ih =>
    rw [State.mixOut]
    exact ih (.ite (MemWf.ctxOut (h.keep (by rfl))) (h.keep (by rfl)))

theorem MemWf.flushBucket (h : MemWf s) {n k} : MemWf (s.flushBucket n k).1 := by
  unfold State.flushBucket
  dsimp only
  split
  · exact h
  · exact .ofFst h.writeRange.modCtx

theorem MemWf.unplace (h : MemWf s) {n r} : MemWf (s.unplace n r) := by
  unfold State.unplace
  extract_lets +onlyGivenNames _ _ s1
  have h1 : MemWf s1 := by
    refine .foldl (fun _ _ k => ?_) h
    extract_lets +onlyGivenNames s1
    have h1 : MemWf s1 := .ite k k.mixOut
    exact h1.modCtx
  exact h1.modCtx

theorem MemWf.foldSettle (h : MemWf s) {n m o} : MemWf (s.foldSettle n m o).2 := by
  induction m generalizing n o s with
  | zero => exact h
  | succ _ ih =>
    simp only [State.foldSettle]
    split
    · split
      · exact h
      · exact h.unplace
    · split
      · next _ _ e2 =>
          refine ih ?_
          refine MemWf.cast ?_ (congrArg (·.1) e2)
          refine MemWf.flushBucket ?_
          split
          · exact h
          · exact h.unplace
      · next _ _ _ e2 =>
          refine ih ?_
          refine MemWf.cast ?_ (congrArg (·.1) e2)
          refine MemWf.flushBucket ?_
          split
          · exact h
          · exact h.unplace

theorem MemWf.foldFlush (h : MemWf s) {n} : MemWf (s.foldFlush n).2 := h.foldSettle

theorem MemWf.foldEntries (h : MemWf s) {n full need m l} : MemWf (s.foldEntries n full need m l).1 := by
  induction l generalizing n full need m s with
  | nil => exact h
  | cons _ _ ih =>
    rw [State.foldEntries]
    split
    · next _ _ e =>
        exact ih (h.writeRange.cast (congrArg (·.1) e))
    · next _ _ _ e =>
        exact h.writeRange.cast (congrArg (·.1) e)

theorem MemWf.foldTable (h : MemWf s) {n full need stop} : MemWf (s.foldTable n full need stop).1 := by
  unfold State.foldTable
  dsimp only
  refine .iteFst h ?_
  split
  · next _ _ _ e =>
      exact h.writeRange.cast (congrArg (·.1) e)
  · next _ _ e =>
      exact (h.writeRange.cast (congrArg (·.1) e)).foldEntries

theorem MemWf.sieveTail (h : MemWf s) {n} : MemWf (s.sieveTail n).1 :=
  .iteFst h (.iteFst (.iteFst h h.writeRange) (.iteFst h.writeRange h))

theorem MemWf.reportHeader (h : MemWf s) {n} : MemWf (s.reportHeader n).1 := by
  unfold State.reportHeader
  dsimp only
  split
  · exact h
  · exact .iteFst h h.writeRange

theorem MemWf.closeChain (h : MemWf s) {n} : MemWf (s.closeChain n) :=
  .ite h (.ite h.foldFlush.foldTable (.ite h.sieveTail (.ite h.sieveTail.reportHeader h)))

theorem MemWf.eachWr {α : Type} {f : State → α → Wr → State} (step : ∀ s a w, MemWf s → MemWf (f s a w)) (h : MemWf s)
    {l : List α} {w : Wr} : MemWf (eachWr f l w s) := by
  induction l generalizing s w with
  | nil => exact h
  | cons a l ih => exact ih (step s a w h)

theorem MemWf.finishCtx (h : MemWf s) {n r w} : MemWf (s.finishCtx n r w).2 := by
  unfold State.finishCtx
  dsimp only
  have h1 : MemWf (s.modCtx n fun _ => (s.ctx n).idle r) := h.modCtx
  refine .iteSnd (h1.keep (by rfl)) ?_
  split
  · exact h1.keep (by rfl)
  · split
    · exact .ofSnd h1.writeCompletion
    · exact .ofSnd h1.writeCompletion
    · exact .ofSnd h1.writeCompletion.modCtx

theorem MemWf.rebuild (h : MemWf s) {n frozen} : MemWf (s.rebuild n frozen) := .ite h.modCtx h.setCtx.error

theorem MemWf.freezeEntries (h : MemWf s) {fn n w} : MemWf (s.freezeEntries fn n w) := .eachWr (fun _ _ _ k => k.writeCompletion) h

theorem MemWf.freezeNow (h : MemWf s) {fn n w} : MemWf (s.freezeNow fn n w) := by
  unfold State.freezeNow
  extract_lets +onlyGivenNames _ _ _ s1 s2 s3 s4 s5
  have h1 : MemWf s1 := h.keep (by rfl)
  have h4 : MemWf s4 := .ite h1.modFn.modCtx h1.finishCtx.modCtx
  have h5 : MemWf s5 := .ite h4.rebuild h4
  exact .ite h5 h5.freezeEntries

theorem MemWf.freezeCtx (h : MemWf s) {fn n w} : MemWf (s.freezeCtx fn n w) := by
  unfold State.freezeCtx
  extract_lets +onlyGivenNames _ _ _ s1 _
  have h1 : MemWf s1 := .ite h.closeChain h
  exact .ite h1.modCtx.freezeNow h1.modCtx.modCtx

theorem MemWf.freeze (h : MemWf s) {fn cause atx code ctx w} : MemWf (s.freeze fn cause atx code ctx w) :=
  .ite h (.foldl (fun _ _ k => k.modFn) (.eachWr (fun _ _ _ k => k.writeCompletion)
    (.foldl (fun _ _ k => k.modCtx) (.eachWr (fun _ _ _ k => k.freezeCtx) h.setFn.error.cic))))

theorem MemWf.ringFail (h : MemWf s) {fn tk w} : MemWf (s.ringFail fn tk w) := h.freeze

theorem MemWf.complete (h : MemWf s) {fn tk body w} : MemWf (s.complete fn tk body w) :=
  .ite h.writeCompletion.ringFail h.writeCompletion

theorem MemWf.completeActing (h : MemWf s) {fn n code w} : MemWf (s.completeActing fn n code w) :=
  .eachWr (fun _ _ _ k => .ite k.complete k) h

theorem MemWf.endProgram (h : MemWf s) {n e w} : MemWf (s.endProgram n e w) := by
  unfold State.endProgram
  dsimp only
  refine .ite (MemWf.freezeCtx (MemWf.modCtx (h.keep (by rfl)))) ?_
  split
  · exact MemWf.ringFail (MemWf.finishCtx (h.keep (by rfl)))
  · exact .ite (MemWf.finishCtx (h.keep (by rfl))) (MemWf.completeActing (MemWf.finishCtx (h.keep (by rfl))))

theorem MemWf.releaseOne (h : MemWf s) {fn hn w} : MemWf (s.releaseOne fn hn w) := by
  unfold State.releaseOne
  split
  · exact .ite h.writeStatus h
  · refine .ite h.writeCompletion.ringFail ?_
    split
    · exact h.writeCompletion
    · exact .ite h.writeCompletion.freezeEntries
        (.ite h.writeCompletion (.ite h.writeCompletion.modCtx.completeActing.rebuild h.writeCompletion.modCtx.completeActing))

theorem MemWf.releaseAll (h : MemWf s) {fn l w} : MemWf (s.releaseAll fn l w) := by
  induction l generalizing fn w s with
  | nil => exact h
  | cons _ _ ih =>
    unfold State.releaseAll
    exact ih h.releaseOne

theorem MemWf.releaseHeld (h : MemWf s) {fn w} : MemWf (s.releaseHeld fn w) := by
  unfold State.releaseHeld
  refine .ite h ?_
  extract_lets +onlyGivenNames s1
  have h1 : MemWf s1 := h.setFn.releaseAll
  exact .foldl (fun _ _ k => .ite k.deliverMsg k) h1

theorem MemWf.recoverEnd (h : MemWf s) {n e w} : MemWf (s.recoverEnd n e w) := .ite h.endProgram.modCtx h.endProgram.rebuild

theorem MemWf.recoverCtx (h : MemWf s) {n w} : MemWf (s.recoverCtx n w) := by
  unfold State.recoverCtx
  refine .ite h.rebuild ?_
  refine .ite h.modCtx ?_
  extract_lets +onlyGivenNames s1 _
  have h1 : MemWf s1 := MemWf.dropPieces (MemWf.dropAsk (h.keep (by rfl)))
  exact .ite h1.modCtx.recoverEnd h1.modCtx.modCtx

theorem MemWf.groupEnding (h : MemWf s) {n e early} : MemWf (s.groupEnding n e early).2 := by
  unfold State.groupEnding
  dsimp only
  split
  · exact h
  · exact .iteSnd h (.iteSnd h (h.keep (by rfl)))

theorem MemWf.postMarkRecord (h : MemWf s) {n i r w} : MemWf (s.postMarkRecord n i r w) := h.postStatus

theorem MemWf.postMark (h : MemWf s) {n i r w} : MemWf (s.postMark n i r w) := h.postMarkRecord.modCtx

theorem MemWf.postMarks (h : MemWf s) {n i progress w l} : MemWf (s.postMarks n i progress w l).2 := by
  induction l generalizing n i progress w s with
  | nil => exact h
  | cons _ _ ih =>
    rw [State.postMarks]
    exact .iteSnd (ih (.ite h.postMark h.postMarkRecord)) h

theorem MemWf.postOwed (h : MemWf s) {n i w} : MemWf (s.postOwed n i w) := by
  unfold State.postOwed
  exact h.postMarks.modCtx

theorem MemWf.queueUp (h : MemWf s) {n} : MemWf (s.queueUp n) := .ite h (h.keep (by rfl))

theorem MemWf.stopProducer (h : MemWf s) {n} : MemWf (s.stopProducer n) := .ite h.modCtx (MemWf.modCtx (h.keep (by rfl)))

theorem MemWf.endArrived (h : MemWf s) {n e w} : MemWf (s.endArrived n e w) := by
  unfold State.endArrived
  extract_lets
  refine .ite h.endProgram ?_
  split
  · exact h.endProgram
  · extract_lets s1
    have h1 : MemWf s1 := h.postOwed
    split
    next left s2 posted =>
      have h2 : MemWf s2 := (MemWf.iteSnd h1.postMarks h1).cast (congrArg (·.2) posted)
      exact .ite h2.endProgram (.ite h2.modCtx.endProgram h2.queueUp.modCtx)

theorem MemWf.finishProgram (h : MemWf s) {n e w} : MemWf (s.finishProgram n e w) := .ite h.endArrived h.modCtx

theorem MemWf.endHeld (h : MemWf s) {n w} : MemWf (s.endHeld n w) := by
  unfold State.endHeld
  extract_lets +onlyGivenNames _ s1 s11
  have h1 : MemWf s1 := .ite h.closeChain h
  have h11 : MemWf s11 := .ite h1.modCtx h1
  exact h11.finishProgram

theorem MemWf.nowHeld (h : MemWf s) {n w} : MemWf (s.nowHeld n w) :=
  .ite h.modCtx.freezeCtx (.ite h.endHeld h.modCtx.completeActing)

theorem MemWf.holdCtx (h : MemWf s) {n qual w} : MemWf (s.holdCtx n qual w) := h.modCtx.nowHeld

theorem MemWf.boundary (h : MemWf s) {n w} : MemWf (s.boundary n w) := by
  unfold State.boundary
  refine .ite h.modCtx.freezeCtx ?_
  split
  · exact h
  · exact h.finishProgram
  · exact h.holdCtx

theorem MemWf.advance (h : MemWf s) {n w} : MemWf (s.advance n w) := by
  unfold State.advance
  dsimp only
  split
  · exact h.finishProgram
  · exact h.modCtx.boundary

theorem MemWf.commandDone (h : MemWf s) {n w} : MemWf (s.commandDone n w) := by
  unfold State.commandDone
  extract_lets +onlyGivenNames _
  split
  · exact h.finishProgram
  · extract_lets +onlyGivenNames _ s1
    have h1 : MemWf s1 := .ite h.modCtx h
    exact h1.advance

theorem MemWf.goOn (h : MemWf s) {n w} : MemWf (s.goOn n w) := .ite h.modCtx (.ite h.modCtx h.commandDone)

theorem MemWf.checkFail (h : MemWf s) {n dev qual operand residual w} : MemWf (s.checkFail n dev qual operand residual w) :=
  (MemWf.ite h.groupEnding.modCtx.closeChain.modCtx h.groupEnding).finishProgram

theorem MemWf.dataFail (h : MemWf s) {n m dev qual operand residual w} : MemWf (s.dataFail n m dev qual operand residual w) := by
  unfold State.dataFail
  extract_lets
  split
  next e s1 ending =>
    have h1 : MemWf s1 := h.groupEnding.cast (congrArg (·.2) ending)
    extract_lets s2
    have h2 : MemWf s2 := .ite h1 h1.closeChain
    exact .ite (.ite h2.modCtx.modCtx h2.modCtx.goOn) h2.finishProgram

theorem MemWf.lengthEnd (h : MemWf s) {n m qual residual w} : MemWf (s.lengthEnd n m qual residual w) := h.dataFail

theorem MemWf.suspendChain (h : MemWf s) {n} : MemWf (s.suspendChain n).1 := by
  unfold State.suspendChain
  refine .iteFst ?_ h
  split
  · next _ _ _ _ e =>
      exact h.foldFlush.cast (congrArg (·.2) e)
  · next _ _ e =>
      exact (h.foldFlush.cast (congrArg (·.2) e)).foldTable

theorem MemWf.suspendAs (h : MemWf s) {n qual mark w} : MemWf (s.suspendAs n qual mark w) := by
  unfold State.suspendAs
  split
  · next _ _ _ _ _ e =>
      exact (h.suspendChain.cast (congrArg (·.1) e)).dataFail
  · next _ _ e =>
      exact (h.suspendChain.cast (congrArg (·.1) e)).modCtx.holdCtx

theorem MemWf.leaveWait (h : MemWf s) {n w} : MemWf (s.leaveWait n w) :=
  .ite (MemWf.modCtx (h.keep (by rfl))) (.ite h.modCtx.endProgram (.ite (.ite h.modCtx.modCtx h.modCtx.goOn) h))

theorem MemWf.haltHere (h : MemWf s) {n w} : MemWf (s.haltHere n w) :=
  .ite h.leaveWait.closeChain.finishProgram
    (.ite h.leaveWait (.ite h.leaveWait.closeChain.finishProgram
    (.ite h.leaveWait.suspendAs (.ite h.leaveWait h.leaveWait.boundary))))

theorem MemWf.waitsHere (h : MemWf s) {n w} : MemWf (s.waitsHere n w) := .ite h.modCtx.freezeCtx (.ite h h.haltHere)

theorem MemWf.barrier (h : MemWf s) {n w} : MemWf (s.barrier n w) := .ite h.modCtx h.goOn

theorem MemWf.marksOut (h : MemWf s) {n w} : MemWf (s.marksOut n w) := by
  unfold State.marksOut
  split
  · exact h.modCtx.barrier
  · exact .ite h.postMarks.modCtx.barrier h.postMarks.modCtx.queueUp.modCtx.waitsHere

theorem MemWf.memberArrived (h : MemWf s) {n progress w} : MemWf (s.memberArrived n progress w) :=
  .ite h.modCtx.barrier (.ite h.modCtx.marksOut h.modCtx.modCtx)

theorem MemWf.memberDone (h : MemWf s) {n progress w} : MemWf (s.memberDone n progress w) :=
  .ite h.modCtx.modCtx h.modCtx.memberArrived

/-! ### Dispatch -/

theorem MemWf.evict (h : MemWf s) {n} : MemWf (s.evict n) := by
  unfold State.evict
  dsimp only
  have drawn : MemWf (if (s.ctx n).unfinished then s.drawBytes 152 else ([], s)).2 := .iteSnd (h.keep (by rfl)) h
  have extended {t : State} (k : MemWf t) : MemWf (if (s.ctx n).extends_ then t.drawBytes 2048 else ([], t)).2 := .iteSnd
    (k.keep (by rfl)) k
  have h1 := extended drawn
  exact .ite h (.ite (h1.keep (by rfl)) ⟨mem_writeN_wf _ _ _ h1.hbm, h1.host, h1.far⟩)

theorem MemWf.makeRoom (h : MemWf s) {b} : MemWf (s.makeRoom b) := by
  unfold State.makeRoom
  refine .ite h ?_
  split
  · exact h
  · exact h.evict

theorem MemWf.giveTurn (h : MemWf s) {b n} : MemWf (s.giveTurn b n) := by
  unfold State.giveTurn
  extract_lets +onlyGivenNames _ s1 _
  have h1 : MemWf s1 := .ite h h.modBlock
  exact .ite (MemWf.modCtx (h1.keep (by rfl))) (MemWf.modCtx (MemWf.makeRoom (h1.keep (by rfl))))

theorem MemWf.execDispatchTurn (h : MemWf s) {blk} : ResWf (execDispatchTurn blk s) := by
  unfold Machine.execDispatchTurn
  split
  · exact h.idleB
  · exact h.whenB h.giveTurn

theorem MemWf.loseCtx (h : MemWf s) {n owned w} : MemWf (s.loseCtx n owned w) := .ite h.freeze h.fatalError

theorem MemWf.execLodgeFillComplete (h : MemWf s) {ctx r w} : ResWf (execLodgeFillComplete ctx r w s) := by
  unfold Machine.execLodgeFillComplete
  refine MemWf.whenB h ?_
  split
  · exact .ite (MemWf.modCtx (h.keep (by rfl))) h
  · exact .ite (MemWf.modCtx (h.keep (by rfl))) h
  · exact h.recoverCtx
  · exact h.loseCtx

theorem MemWf.holdHere (h : MemWf s) {n cmd handle w} : MemWf (s.holdHere n cmd handle w) := h.suspendAs

theorem MemWf.refuse (h : MemWf s) {n cmd dev qual operand w} : MemWf (s.refuse n cmd dev qual operand w) := h.modCtx.checkFail

theorem MemWf.letIn (h : MemWf s) {n cmd handle w} : MemWf (s.letIn n cmd handle w) := by
  unfold State.letIn
  dsimp only
  split
  · exact h.refuse
  · exact .ite h.refuse (.ite h.holdHere h.modCtx)

theorem MemWf.passOver (h : MemWf s) {n cmd w} : MemWf (s.passOver n cmd w) := by
  unfold State.passOver
  extract_lets +onlyGivenNames _ s1
  have h1 : MemWf s1 := .ite h.modCtx h
  refine .ite h1.modCtx ?_
  split
  · exact h1.modCtx.lengthEnd
  · exact h1.modCtx.goOn

theorem MemWf.afterStream (h : MemWf s) {n cmd w} : MemWf (s.afterStream n cmd w) :=
  .ite h.modCtx.letIn (.ite h.modCtx h.modCtx.passOver)

theorem MemWf.reread (h : MemWf s) {n cmd w} : MemWf (s.reread n cmd w) := by
  unfold State.reread
  dsimp only
  split
  · exact h.dataFail
  · exact h.modCtx

theorem MemWf.fetched (h : MemWf s) {n cmd w} : MemWf (s.fetched n cmd w) := by
  unfold State.fetched
  refine .ite ((MemWf.ite h.groupEnding.closeChain h.groupEnding).finishProgram) ?_
  split
  · exact h.refuse
  · split
    · split
      · exact h.refuse
      · exact h.reread
    · split
      · exact h.refuse
      · exact h.afterStream
    · split
      · exact h.refuse
      · exact h.passOver
    · split
      · exact h.refuse
      · exact h.passOver
    · split
      · exact h.refuse
      · exact h.passOver
    · exact .ite h.modCtx h.modCtx.letIn

theorem MemWf.tellFetch (h : MemWf s) {n} : MemWf (s.tellFetch n) := by
  unfold State.tellFetch
  split
  · exact h
  · exact .ite (h.keep (by rfl)) h

theorem MemWf.fetchFailed (h : MemWf s) {n dev qual w} : MemWf (s.fetchFailed n dev qual w) := MemWf.refuse (h.keep (by rfl))

theorem MemWf.execDemandFetchComplete (h : MemWf s) {ctx w} : ResWf (execDemandFetchComplete ctx w s) := by
  unfold Machine.execDemandFetchComplete
  dsimp only
  refine MemWf.whenB h ?_
  split
  · exact h.tellFetch.modCtx.fetched
  · split
    · exact h.tellFetch.fetchFailed
    · exact h.tellFetch.fetched

theorem MemWf.descFail (h : MemWf s) {n space f operand w} : MemWf (s.descFail n space f operand w) := h.checkFail

theorem MemWf.descCheck (h : MemWf s) {n ok qual handle w} : MemWf (s.descCheck n ok qual handle w) :=
  .ite h.modCtx.letIn h.checkFail

theorem MemWf.mapHeader (h : MemWf s) {n desc w} : MemWf (s.mapHeader n desc w) := by
  unfold State.mapHeader
  refine .ite h.checkFail ?_
  refine .ite h ?_
  split
  · exact h.descFail
  · exact h.modCtx.descCheck

theorem MemWf.layoutRead (h : MemWf s) {n desc w} : MemWf (s.layoutRead n desc w) := h.modCtx.descCheck

theorem MemWf.descRest (h : MemWf s) {n space a hdr len w} : MemWf (s.descRest n space a hdr len w) := by
  unfold State.descRest
  dsimp only
  split
  · exact h.descFail
  · exact .ite h.mapHeader h.layoutRead

theorem MemWf.descRef (h : MemWf s) {n w} : MemWf (s.descRef n w) := by
  unfold State.descRef
  dsimp only
  split
  · exact h.descFail
  · split
    · exact h.checkFail
    · exact h.descRest

theorem MemWf.descTable (h : MemWf s) {n w} : MemWf (s.descTable n w) := by
  unfold State.descTable
  dsimp only
  split
  · exact h.descFail
  · exact h.modCtx.descCheck

theorem MemWf.descPass (h : MemWf s) {n w} : MemWf (s.descPass n w) := by
  unfold State.descPass
  dsimp only
  split
  · exact h.descFail
  · refine .ite h.checkFail ?_
    split
    · exact h.checkFail
    · exact .ite h.checkFail h.modCtx.descCheck

/-! ### Data commands -/

theorem MemWf.streamEnds (h : MemWf s) {n residual mis progress w} : MemWf (s.streamEnds n residual mis progress w) := by
  unfold State.streamEnds
  split
  · exact h.modCtx.memberDone
  · exact h.modCtx

theorem MemWf.overlong (h : MemWf s) {n} : MemWf (s.overlong n) := by
  unfold State.overlong
  dsimp only
  split
  · exact h.stopProducer
  · exact .ite (MemWf.modCtx (h.keep (by rfl))) (MemWf.modCtx (MemWf.stopProducer (h.keep (by rfl))))

theorem MemWf.endMember (h : MemWf s) {n residual mis progress w} : MemWf (s.endMember n residual mis progress w) := by
  unfold State.endMember
  refine .ite h.modCtx.streamEnds ?_
  split
  · exact h.modCtx.memberDone
  · extract_lets +onlyGivenNames s1
    have h1 : MemWf s1 := .ite h.modCtx.overlong h.modCtx
    exact .ite h1.modCtx.memberDone h1.lengthEnd

theorem MemWf.accessFail (h : MemWf s) {n o why operand w} : MemWf (s.accessFail n o why operand w) := h.dataFail

theorem MemWf.skipMember (h : MemWf s) {n w} : MemWf (s.skipMember n w) := by
  unfold State.skipMember
  extract_lets +onlyGivenNames _
  split
  · exact h.accessFail
  · extract_lets +onlyGivenNames s1 _
    have h1 : MemWf s1 := .ite h.modCtx h
    exact h1.endMember

theorem MemWf.deliveredTo (h : MemWf s) {down o} : MemWf (s.deliveredTo down o).2 := .iteSnd (h.keep (by rfl)) h

theorem MemWf.copyFailed (h : MemWf s) {n space me a p bs} : MemWf (s.copyFailed n space me a p bs) := by
  unfold State.copyFailed
  extract_lets +onlyGivenNames s1
  have h1 : MemWf s1 := .ite h h.ctxOut
  exact h1.mixOut

theorem MemWf.moveOut (h : MemWf s) {n bs f w} : MemWf (s.moveOut n bs f w) := by
  unfold State.moveOut
  extract_lets _ _ _ _ s1 s2 _
  have h1 : MemWf s1 := h.writeRange
  have h2 : MemWf s2 := .ite h1.modCtx h1
  split
  · split
    next p s3 taken =>
      have h3 : MemWf s3 := h.deliveredTo.cast (congrArg (·.2) taken)
      extract_lets s4 s5 s6
      have h4 : MemWf s4 := h3.copyFailed
      have h5 : MemWf s5 := .ite h4 h4.mixOut
      have h6 : MemWf s6 := .ite h5.modCtx h5
      exact h6.accessFail
  · exact h2.endMember

theorem MemWf.moveStream (h : MemWf s) {n bs f w} : MemWf (s.moveStream n bs f w) := by
  unfold State.moveStream
  extract_lets +onlyGivenNames _ _
  split
  · exact h.modCtx.accessFail
  · extract_lets +onlyGivenNames s1 _
    have h1 : MemWf s1 := .ite h.modCtx.modCtx h.modCtx
    exact h1.endMember

theorem MemWf.execFill (h : MemWf s) {ctx w} : ResWf (execFill ctx w s) := by
  unfold Machine.execFill
  refine MemWf.whenB h ?_
  split
  · exact h.writeRange.mixOut.accessFail
  · exact h.writeRange.endMember

theorem MemWf.compared (h : MemWf s) {n a b fa fb w} : MemWf (s.compared n a b fa fb w) := by
  unfold State.compared
  split
  · exact h.modCtx.modCtx.memberDone
  · split
    · exact .ite h.accessFail h.accessFail
    · exact h.accessFail
    · exact h.accessFail
    · exact h.modCtx.endMember

theorem MemWf.digestEnd (h : MemWf s) {n residual mis progress w} : MemWf (s.digestEnd n residual mis progress w) := by
  unfold State.digestEnd
  refine .ite h.modCtx.endMember ?_
  split
  · next _ _ _ _ e =>
      exact (h.modCtx.writeRange.cast (congrArg (·.1) e)).dataFail
  · next _ _ e =>
      exact (h.modCtx.writeRange.cast (congrArg (·.1) e)).endMember

theorem MemWf.digestCut (h : MemWf s) {n} : MemWf (s.digestCut n) := .ite h h.mixOut

theorem MemWf.execDigest (h : MemWf s) {ctx w} : ResWf (execDigest ctx w s) := by
  unfold Machine.execDigest
  extract_lets
  split
  extract_lets s1 s2
  have h1 : MemWf s1 := .ite h h.modCtx
  have h2 : MemWf s2 := .ite h1.modCtx h1
  refine h.whenB ?_
  split
  · exact h.accessFail
  · exact .ite h2.digestEnd (MemWf.ite h2.digestCut h2).endMember

theorem MemWf.atomic (h : MemWf s) {n new w} : MemWf (s.atomic n new w) := by
  unfold State.atomic
  dsimp only
  split
  · exact h.accessFail
  · split
    · exact h.accessFail
    · split
      · next _ _ _ _ e2 =>
          exact (h.ctxOut.writeRange.cast (congrArg (·.1) e2)).accessFail
      · next _ _ e2 =>
          exact (h.ctxOut.writeRange.cast (congrArg (·.1) e2)).endMember

theorem MemWf.acceptTo (h : MemWf s) {n p} : MemWf (s.acceptTo n p) := .ite h (.ite h.modCtx h.modCtx)

theorem MemWf.unitFail (h : MemWf s) {n p dev qual operand w} : MemWf (s.unitFail n p dev qual operand w) := h.acceptTo.dataFail

theorem MemWf.sourceFail (h : MemWf s) {n p why w} : MemWf (s.sourceFail n p why w) := h.unitFail

theorem MemWf.unitsTaken (h : MemWf s) {n all p got} : MemWf (s.unitsTaken n all p got).1 := by
  unfold State.unitsTaken
  extract_lets +onlyGivenNames _
  extract_lets +onlyGivenNames s1 _ _ _
  have h1 : MemWf s1 := .ite (h.keep (by rfl)) h
  exact .iteFst (h1.keep (by rfl)) (h1.keep (by rfl))

theorem MemWf.skipGathered {close : State → Nat → Option Byte → Bool → State}
    (step : ∀ s k mis p, MemWf s → MemWf (close s k mis p))
    (h : MemWf s) {n w} : MemWf (s.skipGathered n w close) := by
  unfold State.skipGathered
  split
  · exact h.accessFail
  · extract_lets +onlyGivenNames _ s1
    have h1 : MemWf s1 := .ite (h.keep (by rfl)) h
    exact .ite (step _ _ _ _ h1) (step _ _ _ _ h1)

theorem MemWf.sourceBytes (h : MemWf s) {n exact space m l} : MemWf (s.sourceBytes n exact space m l).2 := by
  induction l generalizing n exact space m s with
  | nil => exact h
  | cons _ _ ih =>
    rw [State.sourceBytes]
    refine ih ?_
    split
    · exact h
    · exact .iteSnd h (h.keep (by rfl))

theorem MemWf.unitBytes (h : MemWf s) {n exact p bs} : MemWf (s.unitBytes n exact p bs).2 := .iteSnd h h.sourceBytes

theorem MemWf.recordBytes (h : MemWf s) {n exact format reclen p bs} : MemWf (s.recordBytes n exact format reclen p bs).2 :=
  .iteSnd h (.iteSnd h.unitBytes h.unitBytes.unitBytes)

theorem MemWf.put (h : MemWf s) {n mix space a bs} : MemWf (s.put n mix space a bs).1 := .iteFst h.mixOut h.writeRange

theorem MemWf.shredRow (h : MemWf s) {n mix i row l} : MemWf (s.shredRow n mix i row l).1 := by
  induction l generalizing n mix i row s with
  | nil => exact h
  | cons _ _ ih =>
    rw [State.shredRow]
    split
    · next _ _ _ _ e =>
        exact h.put.cast (congrArg (·.1) e)
    · next _ _ e =>
        exact ih (h.put.cast (congrArg (·.1) e))

theorem MemWf.shredRows (h : MemWf s) {n mix l m i l'} : MemWf (s.shredRows n mix l m i l').2.2 := by
  induction l' generalizing n mix l m i s with
  | nil => exact h
  | cons _ _ ih =>
    rw [State.shredRows]
    dsimp only
    split
    · next _ _ _ e =>
        exact h.unitBytes.shredRow.cast (congrArg (·.1) e)
    · next _ _ e =>
        exact ih (h.unitBytes.shredRow.cast (congrArg (·.1) e))

theorem MemWf.shred (h : MemWf s) {n w} : MemWf (s.shred n w) := by
  unfold State.shred
  dsimp only
  split
  · exact h.shredRows.modCtx.shredRows.unitFail
  · exact h.shredRows.modCtx.sourceFail
  · exact h.shredRows.modCtx.unitsTaken.endMember

theorem MemWf.weaveRow (h : MemWf s) {n i l l'} : MemWf (s.weaveRow n i l l').2.2 := by
  induction l generalizing n i l' s with
  | nil => exact h
  | cons _ _ ih =>
    rw [State.weaveRow]
    split
    · exact h
    · exact ih h.sourceBytes

theorem MemWf.deliver (h : MemWf s) {n mix i len bs} : MemWf (s.deliver n mix i len bs).1 := .iteFst (.ite h h.modCtx) h.put

theorem MemWf.weaveRows (h : MemWf s) {n mix l m i} : MemWf (s.weaveRows n mix l m i).2.2 := by
  induction i generalizing n mix l m s with
  | zero => exact h
  | succ _ ih =>
    rw [State.weaveRows]
    split
    · next _ _ _ _ e =>
        exact h.weaveRow.cast (congrArg (·.2.2) e)
    · next _ _ _ e =>
        split
        · exact ih (h.weaveRow.cast (congrArg (·.2.2) e))
        · split
          · next _ _ _ e1 =>
              exact (h.weaveRow.cast (congrArg (·.2.2) e)).deliver.cast (congrArg (·.1) e1)
          · next _ _ e1 =>
              exact ih ((h.weaveRow.cast (congrArg (·.2.2) e)).deliver.cast (congrArg (·.1) e1))

theorem MemWf.countedEnd (h : MemWf s) {n i f w} : MemWf (s.countedEnd n i f w) := by
  unfold State.countedEnd
  split
  · exact h.dataFail
  · exact h.endMember

theorem MemWf.execWeave (h : MemWf s) {ctx w} : ResWf (execWeave ctx w s) := by
  unfold Machine.execWeave
  exact h.whenB ((MemWf.ite h.weaveRows.weaveRows h.weaveRows).countedEnd)

theorem MemWf.putPlanes (h : MemWf s) {n mix j m l} : MemWf (s.putPlanes n mix j m l).1 := by
  induction l generalizing n mix j m s with
  | nil => exact h
  | cons _ _ ih =>
    rw [State.putPlanes]
    split
    · next _ _ _ _ e =>
        exact h.put.cast (congrArg (·.1) e)
    · next _ _ e =>
        exact ih (h.put.cast (congrArg (·.1) e))

theorem MemWf.sliceInts (h : MemWf s) {n mix m i l} : MemWf (s.sliceInts n mix m i l).2.2 := by
  induction l generalizing n mix m i s with
  | nil => exact h
  | cons _ _ ih =>
    simp only [State.sliceInts]
    split
    · exact h
    · split
      · split
        · next _ _ _ e1 =>
            exact h.unitBytes.modCtx.putPlanes.cast (congrArg (·.1) e1)
        · next _ _ e1 =>
            exact ih (h.unitBytes.modCtx.putPlanes.cast (congrArg (·.1) e1))
      · exact ih h.unitBytes.modCtx

theorem MemWf.sliceFail (h : MemWf s) {n p why w} : MemWf (s.sliceFail n p why w) := h.acceptTo.dataFail

theorem MemWf.slice (h : MemWf s) {n w} : MemWf (s.slice n w) := by
  unfold State.slice
  extract_lets
  split
  extract_lets
  split
  next i why s1 shaped =>
    have h1 : MemWf s1 := h.sliceInts.cast (congrArg (·.2.2) shaped)
    extract_lets s2
    have h2 : MemWf s2 := h1.modCtx
    split
    next s3 tail put =>
      have h3 : MemWf s3 := (MemWf.iteFst h2 h2.putPlanes).cast (congrArg (·.1) put)
      split
      · exact h3.sliceInts.sliceFail
      · exact h3.sliceFail
      · extract_lets s4
        have h4 : MemWf s4 := .ite h3.modCtx h3
        refine .ite h3.unitFail ?_
        split
        · exact h4.sourceFail
        · exact h4.unitsTaken.endMember

theorem MemWf.gatherBits (h : MemWf s) {n i m j l} : MemWf (s.gatherBits n i m j l).2.2 := by
  induction j generalizing n i m l s with
  | zero => exact h
  | succ _ ih =>
    rw [State.gatherBits]
    split
    · exact h
    · exact ih h.sourceBytes

theorem MemWf.unsliceInts (h : MemWf s) {n mix m i} : MemWf (s.unsliceInts n mix m i).2.2 := by
  induction i generalizing n mix m s with
  | zero => exact h
  | succ _ ih =>
    simp only [State.unsliceInts]
    split
    · next _ _ _ _ e =>
        exact h.gatherBits.cast (congrArg (·.2.2) e)
    · next _ _ _ e =>
        split
        · exact ih (h.gatherBits.cast (congrArg (·.2.2) e))
        · split
          · next _ _ _ e1 =>
              exact (h.gatherBits.cast (congrArg (·.2.2) e)).deliver.cast (congrArg (·.1) e1)
          · next _ _ e1 =>
              exact ih ((h.gatherBits.cast (congrArg (·.2.2) e)).deliver.cast (congrArg (·.1) e1))

theorem MemWf.execUnslice (h : MemWf s) {ctx w} : ResWf (execUnslice ctx w s) := by
  unfold Machine.execUnslice
  exact h.whenB ((MemWf.ite h.unsliceInts.unsliceInts h.unsliceInts).countedEnd)

/-! ### SIEVE and SIEVE-MAP -/

theorem MemWf.writeWhole (h : MemWf s) {n space a bs} : MemWf (s.writeWhole n space a bs).1 := by
  unfold State.writeWhole
  dsimp only
  split
  · exact h
  · exact h.writeRange

theorem MemWf.output (h : MemWf s) {n atx out} : MemWf (s.output n atx out).1 := by
  unfold State.output
  dsimp only
  refine .iteFst ?_ ?_
  · refine .ofFst ?_
    refine MemWf.modCtx ?_
    split
    · exact h
    · exact h.modCtx
  · refine .iteFst ?_ ?_
    · refine .iteFst ?_ (.ofFst ((MemWf.ite h.modCtx.modCtx h.modCtx).modCtx))
      split
      · next _ _ _ e =>
          exact .ofFst ((MemWf.ite h.modCtx.modCtx h.modCtx).writeWhole.cast (congrArg (·.1) e))
      · next _ _ e =>
          exact .ofFst (((MemWf.ite h.modCtx.modCtx h.modCtx).writeWhole.cast (congrArg (·.1) e)).modCtx)
    · split
      · exact .ofFst h.modCtx
      · refine .iteFst (.ofFst h.modCtx.modCtx) ?_
        refine .iteFst h ?_
        split
        · next _ _ _ e =>
            exact .ofFst (h.writeWhole.cast (congrArg (·.1) e))
        · next _ _ e =>
            exact .ofFst ((h.writeWhole.cast (congrArg (·.1) e)).modCtx.modCtx)

theorem MemWf.octetFail (h : MemWf s) {n why w} : MemWf (s.octetFail n why w) := by
  unfold State.octetFail
  exact h.modCtx.modCtx.dataFail

theorem MemWf.countFail (h : MemWf s) {n why w} : MemWf (s.countFail n why w) := by
  unfold State.countFail
  exact h.modCtx.modCtx.dataFail

theorem MemWf.closeSieve {go : State → State} (step : ∀ s, MemWf s → MemWf (go s)) (h : MemWf s) {n w} :
    MemWf (s.closeSieve n w go) := by
  unfold State.closeSieve
  split
  · next tail => exact step _ ((h.sieveTail.cast (congrArg (·.1) tail)).keep (by rfl))
  · next tail =>
    have h1 := h.sieveTail.cast (congrArg (·.1) tail)
    exact .ite h1.countFail h1.octetFail

theorem MemWf.recordFail (h : MemWf s) {n mi off dev qual operand w} : MemWf (s.recordFail n mi off dev qual operand w) :=
  .closeSieve (fun _ k => k.dataFail) h

theorem MemWf.recFail (h : MemWf s) {n mi off f w} : MemWf (s.recFail n mi off f w) := by
  unfold State.recFail
  split
  · exact h.recordFail
  · exact h.octetFail
  · exact h.recordFail

theorem MemWf.sieveEnd (h : MemWf s) {n residual mis progress w} : MemWf (s.sieveEnd n residual mis progress w) := by
  unfold State.sieveEnd
  refine .ite h.endMember ?_
  refine .ite (.closeSieve (fun _ k => k.endMember) h) ?_
  refine MemWf.closeSieve (fun _ k => ?_) h
  extract_lets +onlyGivenNames s1
  have h1 : MemWf s1 := .ite k k.modCtx
  exact h1.endMember

theorem MemWf.sieveLoop (h : MemWf s) {n format reclen j m l i} : MemWf (s.sieveLoop n format reclen j m l i).2.2 := by
  induction m generalizing n format reclen j l i s with
  | zero => exact h
  | succ _ ih =>
    simp only [State.sieveLoop]
    split
    · exact h.recordBytes
    · exact h.recordBytes
    · split
      · exact h.recordBytes
      · split
        · next _ _ _ e2 =>
            exact h.recordBytes.output.cast (congrArg (·.1) e2)
        · next _ _ e2 =>
            exact ih (h.recordBytes.output.cast (congrArg (·.1) e2))

theorem MemWf.sieveBegins (h : MemWf s) {n} : MemWf (s.sieveBegins n) := h.modCtx

theorem MemWf.sieveMember (h : MemWf s) {n w} : MemWf (s.sieveMember n w) := by
  unfold State.sieveMember
  dsimp only
  split
  · exact h.sieveBegins.sieveLoop.acceptTo.recFail
  · exact h.sieveBegins.sieveLoop.acceptTo.recordFail
  · exact h.sieveBegins.sieveLoop.unitsTaken.sieveEnd

theorem MemWf.execMapEntryReadComplete (h : MemWf s) {ctx} : ResWf (execMapEntryReadComplete ctx s) := by
  unfold Machine.execMapEntryReadComplete
  refine MemWf.whenB h ?_
  split
  · exact h.modCtx
  · exact h.modCtx

theorem MemWf.judgeRun (h : MemWf s) {n format reclen size base j f m i l} :
    EndWf (s.judgeRun n format reclen size base j f m i l) := by
  induction m generalizing n format reclen size base j f i l s with
  | zero =>
    simp only [State.judgeRun]
    exact .done h
  | succ _ ih =>
    simp only [State.judgeRun]
    split
    · exact .failed h.recordBytes
    · split
      · exact .ite (.ite (.overrun h.recordBytes) (.source h.recordBytes)) (.ite (.overrun h.recordBytes) (.source h.recordBytes))
      · exact .overrun h.recordBytes
    · split
      · exact .failed h.recordBytes
      · split
        · next _ _ _ e2 =>
            exact .failed (h.recordBytes.output.cast (congrArg (·.1) e2))
        · next _ _ e2 =>
            exact ih (h.recordBytes.output.cast (congrArg (·.1) e2))

theorem MemWf.skipBits (h : MemWf s) {n step m i} : MemWf (s.skipBits n step m i).1 := by
  induction m generalizing n step i s with
  | zero => exact h
  | succ _ ih =>
    rw [State.skipBits]
    split
    · next _ _ _ _ e =>
        exact h.output.cast (congrArg (·.1) e)
    · next _ _ _ e =>
        exact h.output.cast (congrArg (·.1) e)
    · next _ _ e =>
        exact ih (h.output.cast (congrArg (·.1) e))

theorem MemWf.skipRows (h : MemWf s) {n step rows atx} : MemWf (s.skipRows n step rows atx).1 :=
  .iteFst h.skipBits (h.keep (by rfl))

theorem MemWf.reportOne (h : MemWf s) {n first run gen d} : MemWf (s.reportOne n first run gen d).1 := by
  unfold State.reportOne
  dsimp only
  split
  · exact h
  · split
    · exact .ofFst h.modCtx
    · refine .iteFst ?_ (.ofFst h.modCtx)
      split
      · next _ _ _ e2 =>
          exact .ofFst (h.modCtx.writeWhole.cast (congrArg (·.1) e2))
      · next _ _ e2 =>
          exact .ofFst ((h.modCtx.writeWhole.cast (congrArg (·.1) e2)).modCtx)

theorem MemWf.reportAll (h : MemWf s) {n first run gen l} : MemWf (s.reportAll n first run gen l).1 := by
  induction l generalizing n first run gen s with
  | nil => exact h
  | cons _ _ ih =>
    rw [State.reportAll]
    split
    · next _ _ _ e =>
        exact .ofFst ((h.reportOne.cast (congrArg (·.1) e)).modCtx)
    · next _ _ e =>
        exact ih (h.reportOne.cast (congrArg (·.1) e))

theorem MemWf.passRun (h : MemWf s) {n i d bs f format reclen} : EndWf (s.passRun n i d bs f format reclen) := by
  unfold State.passRun
  dsimp only
  split
  · refine .ite (.source h.unitBytes) ?_
    split
    · next _ _ _ e2 =>
        exact .failed (h.unitBytes.skipRows.cast (congrArg (·.1) e2))
    · next _ _ e2 =>
        exact .source (h.unitBytes.skipRows.cast (congrArg (·.1) e2))
  · refine .ite (.done h.unitBytes) ?_
    split
    · next _ _ _ e =>
        exact .report (h.unitBytes.reportAll.cast (congrArg (·.1) e))
    · next _ _ e =>
        split
        · next _ _ _ e1 =>
            exact .failed ((h.unitBytes.reportAll.cast (congrArg (·.1) e)).skipRows.cast (congrArg (·.1) e1))
        · next _ _ e1 =>
            exact .done ((h.unitBytes.reportAll.cast (congrArg (·.1) e)).skipRows.cast (congrArg (·.1) e1))

theorem MemWf.mapRun (h : MemWf s) {n i d j} : EndWf (s.mapRun n i d j) := by
  unfold State.mapRun
  refine .ite h.passRun ?_
  refine .ite h.judgeRun ?_
  refine .ite h.passRun ?_
  split
  · next _ _ _ e =>
      exact .failed (h.skipRows.cast (congrArg (·.1) e))
  · next _ _ e =>
      exact .done (h.skipRows.cast (congrArg (·.1) e))

theorem MemWf.mapEnd (h : MemWf s) {n residual mis w} : MemWf (s.mapEnd n residual mis w) := by
  unfold State.mapEnd
  refine MemWf.closeSieve (fun _ k => ?_) h
  refine .ite k.endMember ?_
  split
  · next _ _ _ _ e =>
      exact (k.reportHeader.cast (congrArg (·.1) e)).dataFail
  · next _ _ e =>
      extract_lets +onlyGivenNames s11
      have h1 : MemWf s11 := .ite (k.reportHeader.cast (congrArg (·.1) e)) ((k.reportHeader.cast (congrArg (·.1) e)).modCtx)
      exact h1.endMember

theorem MemWf.mapFailAt (h : MemWf s) {n pos dev qual operand w} : MemWf (s.mapFailAt n pos dev qual operand w) :=
  .closeSieve (fun _ k => k.dataFail) h

theorem MemWf.mapRuns (h : MemWf s) {n j w m l} : MemWf (s.mapRuns n j w m l) := by
  induction l generalizing n j w m s with
  | nil =>
    rw [State.mapRuns]
    split
    · exact h.mapFailAt
    · exact h.mapEnd
  | cons _ _ ih =>
    rw [State.mapRuns]
    split
    · next _ _ e =>
        exact ih (h.mapRun.cast e)
    · next _ _ _ _ e =>
        exact (h.mapRun.cast e).modCtx.mapFailAt
    · next _ _ _ _ e =>
        exact (h.mapRun.cast e).modCtx.octetFail
    · next _ _ _ _ e =>
        exact (h.mapRun.cast e).modCtx.mapFailAt
    · next _ _ _ _ e =>
        exact (h.mapRun.cast e).modCtx.mapFailAt
    · next _ _ _ e =>
        exact (h.mapRun.cast e).modCtx.mapFailAt
    · next _ _ _ e =>
        exact (h.mapRun.cast e).modCtx.mapEnd

theorem MemWf.execSieveMap (h : MemWf s) {ctx w} : ResWf (execSieveMap ctx w s) := by
  unfold Machine.execSieveMap
  extract_lets +onlyGivenNames _ s1
  have h1 : MemWf s1 := .ite h h.modCtx
  exact h.whenB h1.mapRuns

/-! ### FOLD -/

theorem MemWf.foldPlace (h : MemWf s) {n k p recx} : MemWf (s.foldPlace n k p recx).1 := by
  unfold State.foldPlace
  extract_lets
  split
  extract_lets
  split
  next s1 f flushed =>
    have h1 : MemWf s1 := (MemWf.iteFst h.flushBucket h).cast (congrArg (·.1) flushed)
    split
    · exact h1
    · refine .iteFst ?_ (.ofFst h1.modBlock.modCtx)
      split
      · next wrote => exact h1.writeRange.cast (congrArg (·.1) wrote)
      · next wrote => exact .ofFst (h1.writeRange.cast (congrArg (·.1) wrote)).modCtx

theorem MemWf.foldLoop (h : MemWf s) {n m l i} : MemWf (s.foldLoop n m l i).2.2 := by
  induction m generalizing n l i s with
  | zero => exact h
  | succ _ ih =>
    simp only [State.foldLoop]
    split
    · exact h.recordBytes
    · exact h.recordBytes
    · split
      · exact h.recordBytes
      · split
        · next _ _ _ _ e1 =>
            exact h.recordBytes.foldPlace.cast (congrArg (·.1) e1)
        · next _ _ e1 =>
            exact ih (h.recordBytes.foldPlace.cast (congrArg (·.1) e1))

theorem MemWf.foldMix (h : MemWf s) {n m l l'} : MemWf (s.foldMix n m l l') := by
  induction m generalizing n l l' s with
  | zero => exact h
  | succ _ ih =>
    rw [State.foldMix]
    split
    · exact .ite h (ih h.mixOut)
    · exact h

theorem MemWf.foldFail (h : MemWf s) {n x why back rest w} : MemWf (s.foldFail n x why back rest w) := by
  unfold State.foldFail
  dsimp only
  exact (MemWf.ite h.foldMix.foldSettle.modCtx h.foldMix.foldSettle).dataFail

theorem MemWf.dropFrom (h : MemWf s) {n r k b} : MemWf (s.dropFrom n r k b).2 :=
  .iteSnd (h.keep (by rfl)) (.iteSnd (h.keep (by rfl)) (h.keep (by rfl)))

theorem MemWf.dropAll (h : MemWf s) {n r m l} : MemWf (s.dropAll n r m l).2 := by
  induction l generalizing n r m s with
  | nil => exact h
  | cons _ _ ih =>
    rw [State.dropAll]
    exact ih h.dropFrom

theorem MemWf.dropPlaced (h : MemWf s) {n} : MemWf (s.dropPlaced n).2 := by
  unfold State.dropPlaced
  dsimp only
  exact MemWf.modCtx (MemWf.dropAll (h.keep (by rfl)))

theorem MemWf.overflowHeld (h : MemWf s) {n w} : MemWf (s.overflowHeld n w) := by
  unfold State.overflowHeld
  refine MemWf.nowHeld ?_
  split
  · exact h.modCtx
  · exact h.modCtx.queueUp.modCtx.postOwed

theorem MemWf.foldSuspend (h : MemWf s) {n mi off k len placed w} : MemWf (s.foldSuspend n mi off k len placed w) := by
  unfold State.foldSuspend
  extract_lets +onlyGivenNames _ _
  split
  · next _ _ _ _ e =>
      exact (h.foldTable.cast (congrArg (·.1) e)).dataFail
  · next _ _ e =>
      extract_lets +onlyGivenNames s11
      have h1 : MemWf s11 := (h.foldTable.cast (congrArg (·.1) e)).modCtx
      exact .ite h1.overflowHeld h1.modCtx

theorem MemWf.foldEnd (h : MemWf s) {n residual mis progress w} : MemWf (s.foldEnd n residual mis progress w) := by
  unfold State.foldEnd
  extract_lets
  split
  next f s1 flushed =>
    have h1 : MemWf s1 := (MemWf.iteSnd h.foldFlush h).cast (congrArg (·.2) flushed)
    split
    · exact h1.foldFail
    · refine .ite h1.endMember ?_
      split
      · next filled => exact (h1.foldTable.cast (congrArg (·.1) filled)).dataFail
      · next filled => exact (h1.foldTable.cast (congrArg (·.1) filled)).endMember

theorem MemWf.takeCell (h : MemWf s) {n} : MemWf (s.takeCell n) := .ite h h.modCtx

theorem MemWf.foldMember (h : MemWf s) {n w} : MemWf (s.foldMember n w) := by
  unfold State.foldMember
  extract_lets
  split
  extract_lets
  split
  next p why s2 loop =>
    have h2 : MemWf s2 := h.sieveBegins.foldLoop.cast (congrArg (·.2.2) loop)
    split
    extract_lets
    split
    next bad s3 flushed =>
      have h3 : MemWf s3 := by
        split at flushed
        · cases flushed
          exact h2
        · exact (MemWf.iteSnd h2.foldFlush h2).cast (congrArg (·.2) flushed)
      split
      · exact h3.acceptTo.foldFail
      · split
        · exact h3.unitFail
        · split
          · exact h3.acceptTo.foldTable.finishProgram
          · exact h3.acceptTo.foldSuspend
        · split
          · exact h3.sourceFail
          · exact h3.unitsTaken.foldEnd

theorem MemWf.execFold (h : MemWf s) {ctx w} : ResWf (execFold ctx w s) :=
  h.whenB (.ite h.modCtx (.ite (.skipGathered (fun _ _ _ _ k1 => k1.foldEnd) h.takeCell) h.takeCell.foldMember))

/-! ### Commands that stop between units -/

theorem MemWf.execMove (h : MemWf s) {ctx w} : ResWf (execMove ctx w s) := by
  unfold Machine.execMove
  dsimp only
  exact h.whenB (.ite h.skipMember (.ite h.moveStream h.moveOut))

theorem MemWf.execCompare (h : MemWf s) {ctx w} : ResWf (execCompare ctx w s) := by
  unfold Machine.execCompare
  dsimp only
  exact h.whenB h.compared

theorem MemWf.execSieve (h : MemWf s) {ctx w} : ResWf (execSieve ctx w s) :=
  h.whenB (.ite (.skipGathered (fun _ _ _ _ k => k.sieveEnd) h) h.sieveMember)

theorem MemWf.execShred (h : MemWf s) {ctx w} : ResWf (execShred ctx w s) :=
  h.whenB (.ite (.skipGathered (fun _ _ _ _ k => k.endMember) h) h.shred)

theorem MemWf.execSlice (h : MemWf s) {ctx w} : ResWf (execSlice ctx w s) :=
  h.whenB (.ite (.skipGathered (fun _ _ _ _ k => k.endMember) h) h.slice)

theorem MemWf.dataRun (h : MemWf s) {n} : ResWf (s.dataRun n) := by
  unfold State.dataRun
  split
  · exact h.execMove
  · exact h.execFill
  · exact h.execCompare
  · exact h.execDigest
  · exact h.execSieve
  · exact h.execShred
  · exact h.execWeave
  · exact h.execSlice
  · exact h.execUnslice
  · exact h.execFold
  · exact .next h

theorem ResWf.of_next {r : Res} (h : ResWf r) (e : r = .next t) : MemWf t := by
  subst e
  exact h

theorem MemWf.units (h : MemWf s) {n k} (e : s.units n k = some t) : MemWf t := by
  unfold State.units at e
  dsimp only at e
  split at e
  · cases e
  · split at e
    · next ran =>
      split at e
      · cases e
        exact (h.setCtx.dataRun.of_next ran).setCtx
      · cases e
    · cases e

theorem MemWf.blurTo (h : MemWf s) {n} : MemWf (s.blurTo t n) := by
  unfold State.blurTo
  refine MemWf.modCtx ⟨?_, ?_, ?_⟩
  all_goals dsimp only
  · exact mem_blend_wf _ _ _ h.hbm
  · exact mem_blend_wf _ _ _ h.host
  · exact mem_blend_wf _ _ _ h.far

theorem MemWf.getD (h : MemWf s) {o : Option State} (some' : ∀ t, o = some t → MemWf t) : MemWf (o.getD s) := by
  cases o with
  | none => exact h
  | some t => exact some' t rfl

theorem MemWf.clearUnits (h : MemWf s) {n} : MemWf (s.clearUnits n) := by
  unfold State.clearUnits
  dsimp only
  have h1 : MemWf ((s.someUnits n).2.drawWord).2 := h.keep (by rfl)
  exact .ite h (h1.getD fun _ e => h1.units e).blurTo

theorem MemWf.runsDone (h : MemWf s) {n j i l} (e : State.runsDone n j i l s = some t) : MemWf t := by
  induction l generalizing s i with
  | nil => cases e; exact h
  | cons d l ih =>
    rw [State.runsDone] at e
    split at e
    · next run => exact ih (h.mapRun.cast run) e
    · cases e

theorem MemWf.someRuns (h : MemWf s) {n} : MemWf (s.someRuns n) := by
  unfold State.someRuns
  refine .ite (h.keep (by rfl)) ?_
  extract_lets +onlyGivenNames s1
  have h1 : MemWf s1 := .ite (h.keep (by rfl)) (MemWf.modCtx (h.keep (by rfl)))
  split
  · exact h.keep (by rfl)
  · next _ _ e =>
      exact (h1.runsDone e).modCtx

theorem MemWf.migrateUnits (h : MemWf s) {n} : MemWf (s.migrateUnits n) := by
  unfold State.migrateUnits
  refine .ite h ?_
  extract_lets s1
  have h1 : MemWf s1 := h.someRuns
  dsimp only
  split
  · exact h1.keep (by rfl)
  · next t ran =>
    have h2 : MemWf t := MemWf.units (h1.keep (by rfl)) ran
    refine .ite h2 (.ite ?_ (h1.keep (by rfl)))
    exact (MemWf.ite h2.modCtx h2).modCtx

/-! ### Entries -/

theorem MemWf.learnHost (h : MemWf s) {fn q a bs} : MemWf (s.learnHost fn q a bs) :=
  .ite h ⟨h.hbm, mem_writeN_wf _ _ _ h.host, h.far⟩

theorem MemWf.execQueuePoll (h : MemWf s) {fn q tk} : ResWf (execQueuePoll fn q tk s) := by
  unfold Machine.execQueuePoll
  split
  · exact h.idleB
  · split
    · exact h.whenB (MemWf.modFn (h.keep (by rfl)))
    · exact h.idleB

theorem MemWf.ringReadFail (h : MemWf s) {fn q x hdr} : MemWf (s.ringReadFail fn q x hdr) := h.modFn.freeze

theorem MemWf.execPollReadComplete (h : MemWf s) {fn q r} : ResWf (execPollReadComplete fn q r s) := by
  unfold Machine.execPollReadComplete
  split
  · exact h.idleB
  · split
    · refine MemWf.whenB h ?_
      split
      · exact h.ringReadFail
      · exact h.learnHost.modFn
    · exact h.idleB

theorem MemWf.adminDrain (h : MemWf s) {fn w n} : MemWf (s.adminDrain fn w n) := by
  induction n generalizing fn w s with
  | zero => exact h
  | succ _ ih =>
    rw [State.adminDrain]
    split
    · exact h
    · exact .ite (ih h.complete) h

theorem MemWf.execEntryReadComplete (h : MemWf s) {fn q r w} : ResWf (execEntryReadComplete fn q r w s) := by
  unfold Machine.execEntryReadComplete
  split
  · exact h.idleB
  · split
    · refine MemWf.whenB h ?_
      split
      · exact h.ringReadFail
      · split
        · exact h.learnHost.modFn.freeze
        · exact .ite (MemWf.adminDrain (MemWf.cic (h.learnHost.keep (by rfl)))) (h.learnHost.keep (by rfl))
    · exact h.idleB

theorem MemWf.entryFault (h : MemWf s) {fn tk code w} : MemWf (s.entryFault fn tk code w) := h.complete

theorem MemWf.semantic (h : MemWf s) (h' : MemWf t) {fn tk w} : MemWf (s.semantic fn tk w t) :=
  .ite h.entryFault (.ite h.entryFault h')

theorem MemWf.execStart (h : MemWf s) {fn q slot w} : ResWf (execStart fn q slot w s) := by
  unfold Machine.execStart
  split
  · exact h.idleB
  · refine MemWf.whenB h ?_
    refine MemWf.semantic h ?_
    refine .ite h.entryFault ?_
    refine .ite h.entryFault ?_
    extract_lets +onlyGivenNames s1
    have h1 : MemWf s1 := MemWf.modCtx (MemWf.modFn (h.keep (by rfl)))
    exact .ite h1 h1.freezeCtx

theorem MemWf.execResume (h : MemWf s) {fn q slot w} : ResWf (execResume fn q slot w s) := by
  unfold Machine.execResume
  split
  · exact h.idleB
  · exact h.whenB (h.semantic (.ite h.entryFault (MemWf.complete (MemWf.modCtx (h.keep (by rfl))))))

theorem MemWf.haltActive (h : MemWf s) {n suspend w} : MemWf (s.haltActive n suspend w) := .ite h.modCtx h.modCtx.haltHere

theorem MemWf.haltEntry (h : MemWf s) {fn tk suspend w} : MemWf (s.haltEntry fn tk suspend w) :=
  .ite h.complete (.ite (.ite h.complete (MemWf.endHeld (MemWf.modFn (h.keep (by rfl)))))
    (.ite (.ite (MemWf.holdCtx (MemWf.modFn (h.keep (by rfl)))) (MemWf.finishProgram (MemWf.modFn (h.keep (by rfl)))))
    (MemWf.haltActive (MemWf.modFn (h.keep (by rfl))))))

theorem MemWf.haltWith (h : MemWf s) {fn q slot suspend w} : ResWf (s.haltWith fn q slot suspend w) := by
  unfold State.haltWith
  split
  · exact h.idleB
  · exact h.whenB (h.semantic h.haltEntry)

theorem MemWf.clearProgram (h : MemWf s) {n w} : MemWf (s.clearProgram n w) := by
  unfold State.clearProgram
  extract_lets +onlyGivenNames s1 _ _ _ s11 _
  have h1 : MemWf s1 := h.someRuns.clearUnits
  have h11 : MemWf s11 := MemWf.dropPieces (MemWf.dropAsk (h1.keep (by rfl)))
  exact h11.modCtx.finishProgram

theorem MemWf.execClear (h : MemWf s) {fn q slot w} : ResWf (execClear fn q slot w s) := by
  unfold Machine.execClear
  split
  · exact h.idleB
  · exact h.whenB (h.semantic (.ite h.complete (MemWf.clearProgram (MemWf.modFn (h.keep (by rfl))))))

theorem MemWf.execSense (h : MemWf s) {fn q slot w} : ResWf (execSense fn q slot w s) := by
  unfold Machine.execSense
  split
  · exact h.idleB
  · exact h.whenB (h.semantic h.complete)

theorem MemWf.execWrap (h : MemWf s) {fn q slot w} : ResWf (execWrap fn q slot w s) := by
  unfold Machine.execWrap
  split
  · exact h.idleB
  · exact h.whenB h.complete

theorem MemWf.execEntryNop (h : MemWf s) {fn q slot w} : ResWf (execEntryNop fn q slot w s) := by
  unfold Machine.execEntryNop
  split
  · exact h.idleB
  · exact h.whenB h.complete

theorem MemWf.freezeEnd (h : MemWf s) {fn} : MemWf (s.freezeEnd fn) := by
  unfold State.freezeEnd
  extract_lets +onlyGivenNames _ _ s1
  have h1 : MemWf s1 := .ite h.modFn.modFn.deliverMsg h.modFn
  exact h1.modFn

theorem MemWf.execFreezeFinish (h : MemWf s) {fn w} : ResWf (execFreezeFinish fn w s) := by
  unfold Machine.execFreezeFinish
  extract_lets +onlyGivenNames _ _ s1
  have h1 : MemWf s1 := .ite h h.postStatus.modFn
  exact h.whenB (.ite h1.freezeEnd h1)

/-! ### Events -/

theorem MemWf.wakeWait (h : MemWf s) {n w} : MemWf (s.wakeWait n w) := MemWf.memberDone (MemWf.modCtx (h.keep (by rfl)))

theorem MemWf.forwards (h : MemWf s) {c f} : MemWf (s.forwards c f) :=
  .foldl (fun _ _ k => .ite k (.ite (k.keep (by rfl)) (k.keep (by rfl)))) h

theorem MemWf.arriveAt (h : MemWf s) {c f w} : MemWf (s.arriveAt c f w) :=
  .foldl (fun _ _ k => k.wakeWait) (MemWf.forwards ((MemWf.ite h.setEch.setEch h.setEch).keep (by rfl)))

theorem MemWf.signalled (h : MemWf s) {n w} : MemWf (s.signalled n w) := .ite h.memberDone h

theorem MemWf.execEventFiringArrival (h : MemWf s) {c k w} : ResWf (execEventFiringArrival c k w s) := by
  unfold Machine.execEventFiringArrival
  dsimp only
  split
  · exact h.whenB (.foldl (fun _ _ k1 => k1.signalled) (h.keep (by rfl)))
  · exact h.whenB (.foldl (fun _ _ k1 => k1.signalled) (MemWf.arriveAt (h.keep (by rfl))))

theorem MemWf.execVectorFiringArrival (h : MemWf s) {fn v k} : ResWf (execVectorFiringArrival fn v k s) := by
  unfold Machine.execVectorFiringArrival
  dsimp only
  split
  · exact h.idleB
  · refine MemWf.whenB h ?_
    refine .ite ?_ (MemWf.countEvent (h.keep (by rfl)))
    split
    · exact h.keep (by rfl)
    · exact MemWf.setEch (h.keep (by rfl))

theorem MemWf.deliverTo (h : MemWf s) {x} : MemWf (s.deliverTo x).2 := by
  unfold State.deliverTo
  split
  · exact h.keep (by rfl)
  · exact h.keep (by rfl)
  · exact h.keep (by rfl)
  · exact h.keep (by rfl)

theorem MemWf.writeBind (h : MemWf s) {c i v} : MemWf (s.writeBind c i v) := .ite h.accessErrUnlisted (h.keep (by rfl))

/-! ### Control commands -/

theorem MemWf.beginWait (h : MemWf s) {n w} : MemWf (s.beginWait n w) := by
  unfold State.beginWait
  refine MemWf.waitsHere ?_
  refine MemWf.modCtx ?_
  split
  · exact h
  · exact h.keep (by rfl)

theorem MemWf.execWaitTimeout (h : MemWf s) {ctx tk w} : ResWf (execWaitTimeout ctx tk w s) := by
  unfold Machine.execWaitTimeout
  dsimp only
  split
  · exact h.idleB
  · exact h.whenB (.ite (h.keep (by rfl)) (MemWf.wakeWait (h.keep (by rfl))))

theorem MemWf.whenArrived (h : MemWf s) (h' : MemWf t) {n goal} : MemWf (s.whenArrived n goal t) := .ite h' h.modCtx

theorem MemWf.fenceNow (h : MemWf s) {n w} : MemWf (s.fenceNow n w) := h.modCtx.memberDone

theorem MemWf.postNow (h : MemWf s) {n w} : MemWf (s.postNow n w) := by
  unfold State.postNow
  split
  · exact h.memberDone
  · exact .ite h.queueUp.modCtx.waitsHere h.postStatus.memberDone

theorem MemWf.completeNow (h : MemWf s) {n w} : MemWf (s.completeNow n w) := .ite (h.keep (by rfl)) h.fenceNow

theorem MemWf.ringGoesOn (h : MemWf s) {fn i n w} : MemWf (s.ringGoesOn fn i n w) :=
  .ite h (.ite (.ite h.postNow h) (.ite h (.ite h.modCtx.endArrived (.ite h.postOwed h.postOwed.marksOut.modCtx))))

theorem MemWf.ringFreed (h : MemWf s) {fn i w} : MemWf (s.ringFreed fn i w) := by
  unfold State.ringFreed
  extract_lets +onlyGivenNames s1
  have h1 : MemWf s1 := .foldl (fun _ _ k => k.ringGoesOn) h
  exact h1.keep (by rfl)

theorem MemWf.execFinish (h : MemWf s) {ctx w} : ResWf (execFinish ctx w s) := by
  unfold Machine.execFinish
  dsimp only
  split
  · exact h.idleB
  · exact h.whenB (.ite (h.keep (by rfl)) (MemWf.modCtx (h.keep (by rfl))))

theorem MemWf.execFinishComplete (h : MemWf s) {ctx w} : ResWf (execFinishComplete ctx w s) := by
  unfold Machine.execFinishComplete
  dsimp only
  split
  · exact h.idleB
  · split
    · exact h.idleB
    · refine MemWf.whenB h ?_
      split
      · exact MemWf.checkFail (MemWf.modCtx (h.keep (by rfl)))
      · exact MemWf.memberDone (h.keep (by rfl))

/-! ### Movers -/

theorem MemWf.modMover (h : MemWf s) {blk m g} : MemWf (s.modMover blk m g) := h.modBlock

theorem MemWf.modRingCh (h : MemWf s) {blk m c g} : MemWf (s.modRingCh blk m c g) := h.modMover

theorem MemWf.modRegCh (h : MemWf s) {blk m j g} : MemWf (s.modRegCh blk m j g) := h.modMover

theorem MemWf.blockPut (h : MemWf s) {blk a b} : MemWf (s.blockPut blk a b) := by
  unfold State.blockPut
  refine .ite h.modBlock ?_
  split
  · exact h
  · exact h.modCtx

theorem MemWf.blockPuts (h : MemWf s) {blk a bs} : MemWf (s.blockPuts blk a bs) :=
  .ite h.modBlock (.foldl (fun _ _ k => k.blockPut) h)

theorem MemWf.endPut (h : MemWf s) {e a bs} : MemWf (s.endPut e a bs) := by
  cases e with
  | mem w sp => exact h.bytesOut
  | phys fs => exact ⟨h.hbm, h.host, mem_writeN_wf _ _ _ h.far⟩
  | block b => exact h.blockPuts

theorem MemWf.endWrite (h : MemWf s) {e a bs} : MemWf (s.endWrite e a bs).1 := .ite h h.endPut

theorem MemWf.endMix (h : MemWf s) {e n l} : MemWf (s.endMix e n l) := by
  induction l generalizing e n s with
  | nil => exact h
  | cons _ _ ih =>
    rw [State.endMix]
    exact ih (.ite (MemWf.endPut (h.keep (by rfl))) (h.keep (by rfl)))

theorem MemWf.noticeSq (h : MemWf s) {blk m c k reason} : MemWf (s.noticeSq blk m c k reason) := h.keep (by rfl)

theorem MemWf.endSlot (h : MemWf s) {blk m c k reason residual always place} :
    MemWf (s.endSlot blk m c k reason residual always place) := by
  unfold State.endSlot
  extract_lets +onlyGivenNames _ _ _ s1 _ _ s11 s12 _
  have h1 : MemWf s1 := .ite h.modBlock h
  have h11 : MemWf s11 := h1.modBlock.modRingCh
  have h12 : MemWf s12 := .ite h11.noticeSq h11
  exact .ite h12.cellError h12

theorem MemWf.stopBefore (h : MemWf s) {blk m c k} : MemWf (s.stopBefore blk m c k) := by
  unfold State.stopBefore
  extract_lets +onlyGivenNames s1
  have h1 : MemWf s1 := .foldl (fun _ _ k1 => k1.endSlot) h
  exact h1.endSlot.modRingCh

theorem MemWf.endProgramOf (h : MemWf s) {blk m c reason w} : MemWf (s.endProgramOf blk m c reason w) := by
  unfold State.endProgramOf
  dsimp only
  split
  · exact h
  · exact .ite h (MemWf.finishProgram (h.keep (by rfl)))

theorem MemWf.unitOver (h : MemWf s) {blk m c reason residual place w} : MemWf (s.unitOver blk m c reason residual place w) := by
  unfold State.unitOver
  dsimp only
  split
  · exact h
  · refine MemWf.endProgramOf ?_
    split
    · exact h.endSlot.modRingCh.modMover
    · exact h.endSlot.modRingCh.modMover.stopBefore

theorem MemWf.descEnds (h : MemWf s) {blk m c reason residual bar checked place w} :
    MemWf (s.descEnds blk m c reason residual bar checked place w) :=
  .ite h.modRingCh h.unitOver

theorem MemWf.writePieces (h : MemWf s) {e mix l} : MemWf (s.writePieces e mix l).1 := by
  induction l generalizing e mix s with
  | nil => exact h
  | cons _ _ ih =>
    rw [State.writePieces]
    refine .iteFst (ih h.endMix) ?_
    split
    · next _ _ _ _ e1 =>
        exact h.endWrite.cast (congrArg (·.1) e1)
    · next _ _ e1 =>
        exact ih (h.endWrite.cast (congrArg (·.1) e1))

theorem MemWf.groups (h : MemWf s) {src dst fl per len rd wr mix n m} : MemWf (s.groups src dst fl per len rd wr mix n m).2 := by
  induction n generalizing src dst fl per len rd wr mix m s with
  | zero => exact h
  | succ _ ih =>
    rw [State.groups]
    split
    · exact h
    · split
      · next _ _ _ _ e1 =>
          exact h.writePieces.cast (congrArg (·.1) e1)
      · next _ _ e1 =>
          exact ih (h.writePieces.cast (congrArg (·.1) e1))

theorem MemWf.shuffle (h : MemWf s) {d src dst lim} : MemWf (s.shuffle d src dst lim).2 := .ite h.groups.groups h.groups

theorem MemWf.copyBytes (h : MemWf s) {src dst sa da n lim descending} :
    MemWf (s.copyBytes src dst sa da n lim descending).2 := by
  unfold State.copyBytes
  split
  extract_lets
  split
  next p s1 cut =>
    have h1 : MemWf s1 := (MemWf.iteSnd (h.keep (by rfl)) h).cast (congrArg (·.2) cut)
    extract_lets s2 s3
    have h2 : MemWf s2 := .ite h1 h1.endPut
    have h3 : MemWf s3 := .ite h2.endMix h2
    exact h3

theorem MemWf.fillBytes (h : MemWf s) {dst da bs lim} : MemWf (s.fillBytes dst da bs lim).2 := .ite h.endWrite.endMix h.endWrite

theorem MemWf.runDesc (h : MemWf s) {d src dst lim} : MemWf (s.runDesc d src dst lim).2 := by
  unfold State.runDesc
  split
  · exact h.copyBytes
  · exact h.fillBytes
  · exact h
  · exact h.shuffle

theorem MemWf.of_some {α β : Type} {a k : α} {b f : β} (h : MemWf s) (e : some (a, b, s) = some (k, f, t)) : MemWf t := by
  cases e
  exact h

theorem MemWf.streamStep (h : MemWf s) {blk x d k f} (e : s.streamStep blk x d = some (k, f, t)) : MemWf t := by
  unfold State.streamStep at e
  extract_lets +onlyGivenNames _ _ _ _ _ at e
  split at e
  · cases e
  · extract_lets +onlyGivenNames _ at e
    split at e
    extract_lets +onlyGivenNames _ s1 at e
    have h1 : MemWf s1 := .ite h.modBlock h
    split at e
    · exact h1.of_some e
    · split at e
      · exact h1.modBlock.of_some e
      · split at e
        next wrote =>
          have h2 := h1.endWrite.cast (congrArg (·.1) wrote)
          split at e
          · exact h2.of_some e
          · exact h2.of_some e

theorem MemWf.runRing (h : MemWf s) {blk m c lim cut w} : MemWf (s.runRing blk m c lim cut w) := by
  unfold State.runRing
  dsimp only
  split
  · exact h
  · split
    · exact h.descEnds
    · refine .ite ?_ h.runDesc.modRingCh.descEnds
      refine .ite (.ite h.modRingCh.descEnds h.modRingCh) ?_
      split
      · exact h
      · next _ _ _ _ e2 =>
          exact .ite ((h.streamStep e2).modRingCh.descEnds) ((h.streamStep e2).modRingCh)

theorem MemWf.ringRow (h : MemWf s) {blk m c kind} : ResWf (s.ringRow blk m c kind) := by
  unfold State.ringRow
  split
  · exact h.idleB
  · exact h.whenB h.runRing

theorem MemWf.execBindChan (h : MemWf s) {blk m c} : ResWf (execBindChan blk m c s) := by
  unfold Machine.execBindChan
  split
  · exact h.idleB
  · refine MemWf.whenB h ?_
    refine .ite ?_ h.descEnds
    split
    · exact h.modRingCh
    · exact h.modRingCh.endSlot.modRingCh.modMover

theorem MemWf.execDescriptorNotice (h : MemWf s) {blk m c slot} : ResWf (execDescriptorNotice blk m c slot s) := by
  unfold Machine.execDescriptorNotice
  split
  · exact h.idleB
  · exact h.whenB (.ite h.modFifo.cellError (.ite h.modFifo.modRingCh h.modFifo))

theorem MemWf.refuseKind (h : MemWf s) {blk m c} : MemWf (s.refuseKind blk m c) := by
  unfold State.refuseKind
  split
  · exact h
  · refine .ite h.descEnds ?_
    refine .ite ?_ h
    split
    · exact h
    · exact h.descEnds

theorem MemWf.execMoverUnitStart (h : MemWf s) {blk m} : ResWf (execMoverUnitStart blk m s) := by
  unfold Machine.execMoverUnitStart
  split
  · exact h.idleB
  · exact h.whenB (.ite h.modMover.modRegCh h.modMover.modRingCh.refuseKind)

theorem MemWf.cutRunning (h : MemWf s) {blk m c slot reason} : MemWf (s.cutRunning blk m c slot reason) := by
  unfold State.cutRunning
  dsimp only
  split
  · exact h.modRingCh.modRingCh
  · exact .ite h.modRingCh.descEnds (MemWf.runRing (h.keep (by rfl)))

theorem MemWf.rcError (h : MemWf s) {blk m j} : MemWf (s.rcError blk m j) := h.cellError

theorem MemWf.rcEnd (h : MemWf s) {blk m j reason residual fire} : MemWf (s.rcEnd blk m j reason residual fire) := by
  unfold State.rcEnd
  extract_lets _ s1 s2 s3
  have h1 : MemWf s1 := h.modRegCh
  have h2 : MemWf s2 := .ite h1.modMover h1
  have h3 : MemWf s3 := by
    dsimp only [s3]
    split
    · exact .ite (h2.keep (by rfl)) h2
    · exact h2
  exact .ite h3.rcError h3

theorem MemWf.rcRefuse (h : MemWf s) {blk m j} : MemWf (s.rcRefuse blk m j) := h.cellError

theorem MemWf.rcData (h : MemWf s) {blk m j} : MemWf (s.rcData blk m j).2 := by
  unfold State.rcData
  dsimp only
  split
  · exact h.fillBytes
  · exact h
  · exact h.copyBytes

theorem MemWf.rcMoved (h : MemWf s) {blk m j} : MemWf (s.rcMoved blk m j) := by
  unfold State.rcMoved
  exact h.rcData.modRegCh

theorem MemWf.rcUnitOver (h : MemWf s) {blk m j fail} : MemWf (s.rcUnitOver blk m j fail) := by
  unfold State.rcUnitOver
  dsimp only
  split
  · exact h
  · have h1 : MemWf (if fail.isSome then s.drawWord else (0, s)).2 := .iteSnd (h.keep (by rfl)) h
    exact .ite h1.rcEnd (.ite h1.rcEnd (.ite h1.rcEnd h1.modRegCh.modMover))

theorem MemWf.execRcTransferEnd (h : MemWf s) {blk m j fail} : ResWf (execRcTransferEnd blk m j fail s) := by
  unfold Machine.execRcTransferEnd
  extract_lets +onlyGivenNames _ s1
  have h1 : MemWf s1 := .ite h h.rcMoved
  exact h.whenB h1.rcUnitOver

theorem MemWf.learn (h : MemWf s) {e a bs} : MemWf (s.learn e a bs) := by
  unfold State.learn
  split
  · exact h.bytesOut
  · exact .ite h.bytesOut h
  · exact ⟨h.hbm, h.host, mem_writeN_wf _ _ _ h.far⟩
  · exact h

theorem MemWf.lateOver (h : MemWf s) {n bib} : MemWf (s.lateOver n bib) :=
  .ite h (.ite (h.keep (by rfl)) (.ite (MemWf.rebuild (MemWf.modCtx (h.keep (by rfl)))) (MemWf.modCtx (h.keep (by rfl)))))

theorem MemWf.staleResponse (h : MemWf s) {n bib} : MemWf (s.staleResponse n bib) := by
  unfold State.staleResponse
  extract_lets s1
  have h1 : MemWf s1 := h.modCtx
  exact MemWf.lateOver (h1.keep (by rfl))

theorem MemWf.ringResponse (h : MemWf s) {blk m c bib a r} : MemWf (s.ringResponse blk m c bib a r) := by
  unfold State.ringResponse
  extract_lets +onlyGivenNames _ _ _ _ _ live
  have h1 : MemWf (if live && (s.ringCh blk m c).lost.contains bib then s.drawWord else (0, s)).2 := .iteSnd (h.keep (by rfl)) h
  dsimp only
  refine .ite h1.modRingCh (.ite h1.staleResponse ?_)
  split
  · exact h1.learn
  · exact h1.modRingCh

theorem MemWf.regResponse (h : MemWf s) {blk m j a r} : MemWf (s.regResponse blk m j a r) := by
  unfold State.regResponse
  split
  · exact h.learn
  · exact h.modRegCh

theorem MemWf.ctxResponse (h : MemWf s) {n bib a r} : MemWf (s.ctxResponse n bib a r) := by
  unfold State.ctxResponse
  refine .ite h.staleResponse ?_
  refine .ite ?_ h
  split
  · exact h
  · exact h.modCtx

theorem MemWf.execMoverReadResponse (h : MemWf s) {who bib addr r} : ResWf (execMoverReadResponse who bib addr r s) := by
  unfold Machine.execMoverReadResponse
  split
  · exact h.whenB h.ctxResponse
  · exact h.whenB h.ringResponse
  · exact h.whenB h.regResponse

theorem MemWf.farArrived (h : MemWf s) {who} : MemWf (s.farArrived who) := h.keep (by rfl)

theorem MemWf.ctxArrived (h : MemWf s) {n w} : MemWf (s.ctxArrived n w) := by
  unfold State.ctxArrived
  extract_lets +onlyGivenNames s1 _
  have h1 : MemWf s1 := h.modCtx.farArrived
  refine .ite h1 ?_
  split
  · exact h1
  · exact h1.freezeNow
  · split
    · exact h1.recoverEnd
    · exact h1
  · exact h1.memberArrived
  · exact h1.goOn
  · exact h1.marksOut
  · exact h1.postNow
  · exact h1.completeNow
  · exact h1.overflowHeld
  · split
    · exact h1.endArrived
    · exact h1
  · split
    · exact h1.endArrived
    · exact h1

theorem MemWf.unitResidual (h : MemWf s) {n} : MemWf (s.unitResidual n).2 := by
  unfold State.unitResidual
  dsimp only
  split
  · exact h.keep (by rfl)
  · exact h.keep (by rfl)
  · exact h
  · exact h
  · exact h.keep (by rfl)

theorem MemWf.sieveUnarrived (h : MemWf s) {n k dev qual w} : MemWf (s.sieveUnarrived n k dev qual w) :=
  .ite (MemWf.dataFail (h.keep (by rfl))) (.ite (MemWf.dataFail (MemWf.modCtx (MemWf.modCtx (h.keep (by rfl)))))
    (MemWf.dataFail (MemWf.modCtx (h.keep (by rfl)))))

theorem MemWf.foldUnarrived (h : MemWf s) {n k dev qual w} : MemWf (s.foldUnarrived n k dev qual w) := by
  unfold State.foldUnarrived
  dsimp only
  exact h.dropPlaced.foldFlush.foldTable.modCtx.dataFail

theorem MemWf.memberUnarrived (h : MemWf s) {n f w} : MemWf (s.memberUnarrived n f w) := by
  unfold State.memberUnarrived
  dsimp only
  split
  · exact h.unitResidual.sieveUnarrived
  · exact h.unitResidual.sieveUnarrived
  · exact h.unitResidual.foldUnarrived
  · exact h.unitResidual.dataFail

theorem MemWf.ctxReadBackFails (h : MemWf s) {n f w} : MemWf (s.ctxReadBackFails n f w) := by
  unfold State.ctxReadBackFails
  extract_lets +onlyGivenNames s1 _ _
  have h1 : MemWf s1 := h.modCtx.farArrived
  refine .ite h1 ?_
  split
  · exact h1.memberUnarrived
  · exact .ite h1.memberUnarrived h1.endArrived
  · exact .ite h1.memberUnarrived h1.endArrived
  · exact .ite h1.memberUnarrived h1.endArrived
  · exact h1.modCtx.freezeNow
  · exact h1.recoverEnd
  · exact h1.endArrived

theorem MemWf.ringReadBack (h : MemWf s) {blk m c fail w} : MemWf (s.ringReadBack blk m c fail w) := by
  unfold State.ringReadBack
  extract_lets +onlyGivenNames _ s1
  have h1 : MemWf s1 := h.keep (by rfl)
  split
  · split
    · exact h1.unitOver
    · exact h1.unitOver
  · exact h1

theorem MemWf.execReadBackComplete (h : MemWf s) {who fail w} : ResWf (execReadBackComplete who fail w s) := by
  unfold Machine.execReadBackComplete
  split
  · refine MemWf.whenB h ?_
    split
    · exact h.ctxArrived
    · exact h.ctxReadBackFails
  · exact h.whenB h.ringReadBack
  · extract_lets +onlyGivenNames _ s1
    have h1 : MemWf s1 := .ite h h.rcMoved
    refine MemWf.whenB h ?_
    split
    · exact h1.modRegCh
    · exact h1.modRegCh

theorem MemWf.execLocalWriteAcknowledged (h : MemWf s) {who} : ResWf (execLocalWriteAcknowledged who s) := by
  unfold Machine.execLocalWriteAcknowledged
  extract_lets +onlyGivenNames _
  split
  · exact h.whenB h.modCtx
  · exact h.whenB h.modRingCh
  · extract_lets +onlyGivenNames _ s1
    have h1 : MemWf s1 := .ite h h.rcMoved
    exact h.whenB h1.modRegCh

/-! ### FIFOs -/

theorem MemWf.failStreams (h : MemWf s) {blk f w} : MemWf (s.failStreams blk f w) := by
  unfold State.failStreams
  refine .ite h ?_
  refine .foldl (fun _ _ k => ?_) h
  split
  · exact k
  · exact k.descEnds

theorem MemWf.fifoEnds (h : MemWf s) {w n} : MemWf (s.fifoEnds w n) := .ite h.finishProgram h

theorem MemWf.fifoReset (h : MemWf s) {blk f w} : MemWf (s.fifoReset blk f w) := by
  unfold State.fifoReset
  extract_lets +onlyGivenNames _ _ s1
  have h1 : MemWf s1 := h.modFifo.cellError
  exact .foldl (fun _ _ k => k.fifoEnds) h1.failStreams

theorem MemWf.fifoMisuse (h : MemWf s) {blk f} : MemWf (s.fifoMisuse blk f) :=
  MemWf.fifoReset (MemWf.cellUnitError (h.keep (by rfl)))

theorem MemWf.execFifoItemRead (h : MemWf s) {blk f n} : ResWf (execFifoItemRead blk f n s) := by
  unfold Machine.execFifoItemRead
  extract_lets +onlyGivenNames _ _ s1
  have h1 : MemWf s1 := .ite h h.modFifo
  exact h.whenB (.ite h1 h1.modFifo.fifoMisuse)

/-! ### The NVMe host -/

theorem MemWf.linkCic (h : MemWf s) {l k} : MemWf (s.linkCic l k) := h.cic

theorem MemWf.issuePiece (h : MemWf s) {n hn first blocks bytes mk data} :
    MemWf (s.issuePiece n hn first blocks bytes mk data) := by
  unfold State.issuePiece
  split
  · exact h
  · exact MemWf.modCtx (h.keep (by rfl))

theorem MemWf.nvmOver (h : MemWf s) {n mis w} : MemWf (s.nvmOver n mis w) := by
  unfold State.nvmOver
  extract_lets +onlyGivenNames _ _ _ _
  split
  · extract_lets +onlyGivenNames _ s1
    have h1 : MemWf s1 := .ite h.modCtx.modCtx h.modCtx
    exact h1.dataFail
  · extract_lets +onlyGivenNames s1
    have h1 : MemWf s1 := .ite h.modCtx.modCtx h.modCtx
    split
    · exact h1.endMember
    · exact h1.endMember

theorem MemWf.nvmCheck (h : MemWf s) {n w} : MemWf (s.nvmCheck n w) := .ite h.nvmOver h

theorem MemWf.nvmWaits (h : MemWf s) {n w} : MemWf (s.nvmWaits n w) := h.modCtx.nvmCheck

theorem MemWf.nvmUnavailable (h : MemWf s) {n w} : MemWf (s.nvmUnavailable n w) := by
  unfold State.nvmUnavailable
  extract_lets +onlyGivenNames _ s1
  have h1 : MemWf s1 := .ite h.modCtx h
  exact h1.dataFail

theorem MemWf.nvmRow {act : NvmHandle → State} (h : MemWf s) (step : ∀ x, MemWf (act x)) {n is w} :
    ResWf (s.nvmRow n is act w) := by
  unfold State.nvmRow
  dsimp only
  split
  · exact h.idleB
  · exact h.whenB (.ite (step _) h.nvmUnavailable)

theorem MemWf.issueWrites (h : MemWf s) {n hn fua src l} : MemWf (s.issueWrites n hn fua src l) := by
  induction l generalizing n hn fua src s with
  | nil => exact h
  | cons _ _ ih =>
    rw [State.issueWrites]
    split
    · exact h.modCtx
    · exact ih h.issuePiece

theorem MemWf.nvmWriteAct (h : MemWf s) {n hn fua w} : MemWf (s.nvmWriteAct n hn fua w) := by
  unfold State.nvmWriteAct
  refine .ite h.issueWrites.nvmWaits ?_
  refine .ite h.checkFail ?_
  extract_lets +onlyGivenNames _ _ _ s1
  have h1 : MemWf s1 := h.modCtx.modCtx
  exact h1.issueWrites.nvmWaits

theorem MemWf.execNvmPass (h : MemWf s) {ctx w} : ResWf (execNvmPass ctx w s) := by
  unfold Machine.execNvmPass
  refine MemWf.nvmRow h (fun _ => ?_)
  split
  · exact h.dataFail
  · exact h.issuePiece.nvmWaits

theorem MemWf.pieceToB (h : MemWf s) {n p data} : MemWf (s.pieceToB n p data).1 :=
  .iteFst h (.iteFst (h.keep (by rfl)) h.writeRange)

theorem MemWf.passDone (h : MemWf s) {n data ok} : MemWf (s.passDone n data ok).1 := by
  unfold State.passDone
  dsimp only
  split
  · next _ _ _ _ e =>
      exact h.writeRange.cast (congrArg (·.1) e)
  · next _ _ e =>
      exact .iteFst (h.writeRange.cast (congrArg (·.1) e)) ((h.writeRange.cast (congrArg (·.1) e)).writeRange)

theorem MemWf.pieceDone (h : MemWf s) {n p status data w} : MemWf (s.pieceDone n p status data w) :=
  (MemWf.iteFst h.passDone (.iteFst h.pieceToB h)).modCtx.nvmCheck

theorem MemWf.lateOn (h : MemWf s) {l} : MemWf (s.lateOn l) := h.setLink.linkCic

theorem MemWf.execNvmeCompletion (h : MemWf s) {ctrl cid status data w} : ResWf (execNvmeCompletion ctrl cid status data w s) := by
  unfold Machine.execNvmeCompletion
  dsimp only
  split
  · exact h.idleB
  · split
    · split
      · exact h.idleB
      · exact h.whenB h.pieceDone
    · exact .ite (h.whenB (MemWf.lateOn (h.keep (by rfl)))) (.ite (h.whenB (h.keep (by rfl))) h.idleB)

theorem MemWf.piecesLost (h : MemWf s) {k w} : MemWf (s.piecesLost k w) := .foldl (fun _ _ k1 => .ite k1.modCtx.nvmCheck k1) h

theorem MemWf.execNvmeControllerFail (h : MemWf s) {ctrl why w} : ResWf (execNvmeControllerFail ctrl why w s) := by
  unfold Machine.execNvmeControllerFail
  split
  · exact h.idleB
  · exact h.whenB ((MemWf.ite (h.keep (by rfl)) (h.keep (by rfl))).piecesLost)

theorem MemWf.execNvmeControllerReady (h : MemWf s) {ctrl} : ResWf (execNvmeControllerReady ctrl s) := by
  unfold Machine.execNvmeControllerReady
  split
  · exact h.idleB
  · exact h.whenB (h.keep (by rfl))

theorem MemWf.attention (h : MemWf s) {l source rid type data addr w} : MemWf (s.attention l source rid type data addr w) :=
  h.postStatus

theorem MemWf.execNvmeAsyncEvent (h : MemWf s) {ctrl data w} : ResWf (execNvmeAsyncEvent ctrl data w s) := by
  unfold Machine.execNvmeAsyncEvent
  split
  · exact h.idleB
  · exact h.whenB h.attention.linkCic

theorem MemWf.execDownstreamTimeout (h : MemWf s) {who tk w} : ResWf (execDownstreamTimeout who tk w s) := by
  unfold Machine.execDownstreamTimeout
  split
  · refine MemWf.whenB h ?_
    refine .ite (MemWf.lateOver (h.keep (by rfl))) ?_
    refine .ite ?_ (h.keep (by rfl))
    split
    · exact MemWf.modCtx (h.keep (by rfl))
    · exact MemWf.linkCic (MemWf.modCtx (h.keep (by rfl)))
  · split
    · exact h.whenB (MemWf.nvmCheck (MemWf.linkCic (MemWf.modCtx (h.keep (by rfl)))))
    · exact h.idleB

/-! ### Fabric links and the domain -/

theorem MemWf.takeCtrls (h : MemWf s) {l found} : MemWf (s.takeCtrls l found) := by
  induction found generalizing s with
  | nil => exact h
  | cons x rest ih =>
    obtain ⟨rid, mdts, pairs⟩ := x
    rw [State.takeCtrls]
    refine ih ?_
    split
    · exact h.keep (by rfl)
    · split
      · exact h
      · exact h.keep (by rfl)

theorem MemWf.execHostCompletion (h : MemWf s) {tag addr r} : ResWf (execHostCompletion tag addr r s) := by
  unfold Machine.execHostCompletion
  refine MemWf.whenB h ?_
  refine .ite h.staleResponse ?_
  refine .ite ?_ h
  split
  · exact h.learn
  · exact .ite h h.modCtx

theorem MemWf.execFarResponse (h : MemWf s) {tag addr r} : ResWf (execFarResponse tag addr r s) := by
  unfold Machine.execFarResponse
  refine MemWf.whenB h ?_
  refine .ite h.staleResponse ?_
  refine .ite ?_ h
  split
  · exact h.learn
  · exact h.modCtx

theorem MemWf.execLinkUp (h : MemWf s) {l tr} : ResWf (execLinkUp l tr s) := by
  unfold Machine.execLinkUp
  dsimp only
  split
  · exact h.idleB
  · exact h.whenB h.setLink.linkCic.takeCtrls.publishHealth

theorem MemWf.dcNote (h : MemWf s) {e type w} : MemWf (s.dcNote e type w) := h.attention.linkCic

theorem MemWf.dcRelease (h : MemWf s) {e w} : MemWf (s.dcRelease e w) := MemWf.dcNote (h.keep (by rfl))

theorem MemWf.execDcReleaseRequest (h : MemWf s) {l rid base len2m w} : ResWf (execDcReleaseRequest l rid base len2m w s) := by
  unfold Machine.execDcReleaseRequest
  split
  · exact h.idleB
  · exact h.whenB (.ite (MemWf.dcNote (h.keep (by rfl))) h.dcRelease)

theorem MemWf.dcSettle (h : MemWf s) {w} : MemWf (s.dcSettle w) := .foldl (fun _ _ k => k.dcRelease) h

theorem MemWf.execDcForcedRelease (h : MemWf s) {l rid base len2m w} : ResWf (execDcForcedRelease l rid base len2m w s) := by
  unfold Machine.execDcForcedRelease
  split
  · exact h.idleB
  · exact h.whenB (MemWf.dcNote (h.keep (by rfl)))

theorem MemWf.setPresent (h : MemWf s) {m here} : MemWf (s.setPresent m here) := .ite h (MemWf.cic (h.keep (by rfl)))

theorem MemWf.askAgain (h : MemWf s) {m} : MemWf (s.askAgain m) := by
  unfold State.askAgain
  refine .foldl (fun _ _ k => ?_) h
  split
  · exact k
  · exact k.keep (by rfl)

theorem MemWf.heardFrom (h : MemWf s) {m} : MemWf (s.heardFrom m) :=
  .ite (MemWf.setPresent (h.keep (by rfl))) (MemWf.askAgain (MemWf.setPresent (h.keep (by rfl))))

theorem MemWf.receive {act : State → State} (h : MemWf s) (step : ∀ s, MemWf s → MemWf (act s)) {m} : MemWf (s.receive m act) := by
  unfold State.receive
  split
  · exact h
  · exact h.keep (by rfl)
  · exact h.keep (by rfl)
  · exact step _ h

theorem MemWf.execAskReplySend (h : MemWf s) {sender askId} : ResWf (execAskReplySend sender askId s) := by
  unfold Machine.execAskReplySend
  dsimp only
  split
  · exact h.idleB
  · exact h.whenB (h.keep (by rfl))

theorem MemWf.modDomain (h : MemWf s) {g} : MemWf (s.modDomain g) := h.keep (by rfl)

theorem MemWf.execReply (h : MemWf s) {msg} : ResWf (execReply msg s) := by
  unfold Machine.execReply
  refine MemWf.whenB h ?_
  refine MemWf.receive h (fun _ k => ?_)
  extract_lets +onlyGivenNames s1 _
  have h1 : MemWf s1 := k.heardFrom.cic
  split
  · exact h1.modDomain
  · exact .ite h1.modDomain h1.modDomain

/-! ### Error rows -/

theorem MemWf.superStops (h : MemWf s) {id} : MemWf (s.superStops id) :=
  .ite (MemWf.setCore (h.keep (by rfl))) (.ite
    (.ite (MemWf.fatalError (MemWf.setCore (h.keep (by rfl)))) (MemWf.setCore (h.keep (by rfl))))
    (.ite (MemWf.fatalError (MemWf.setCore (h.keep (by rfl)))) (MemWf.setCore (h.keep (by rfl)))))

theorem MemWf.coreDoubleTrap (h : MemWf s) {id} : MemWf (s.coreDoubleTrap id) :=
  .ite (MemWf.superStops (MemWf.error (h.keep (by rfl)))) (.ite h.error.superStops h.cellUnitError)

theorem MemWf.eccEvent (h : MemWf s) {n bad} : MemWf (s.eccEvent n bad) := h.setPch.cic

theorem MemWf.ramError (h : MemWf s) {id} : MemWf (s.ramError id) := .ite (MemWf.setCore (h.keep (by rfl))) (h.keep (by rfl))

theorem MemWf.cellRamError (h : MemWf s) {b k} : MemWf (s.cellRamError b k) := by
  unfold State.cellRamError
  split
  · exact h
  · exact h.ramError

theorem MemWf.stagingError (h : MemWf s) {n} : MemWf (s.stagingError n) := .ite (MemWf.finishProgram (h.keep (by rfl))) h

theorem MemWf.fifoStorageError (h : MemWf s) {b f} : MemWf (s.fifoStorageError b f) :=
  .foldl (fun _ _ k => .ite k.finishProgram k) h

theorem MemWf.blockRamError (h : MemWf s) {b e} : MemWf (s.blockRamError b e) := by
  unfold State.blockRamError
  dsimp only
  split
  · exact .ite (MemWf.recoverCtx (h.keep (by rfl))) (h.keep (by rfl))
  · split
    · exact h.keep (by rfl)
    · exact MemWf.recoverCtx (h.keep (by rfl))
  · exact .ite (MemWf.stagingError (h.keep (by rfl))) (h.keep (by rfl))
  · exact MemWf.modBlock (h.keep (by rfl))

theorem MemWf.cellMemory (h : MemWf s) {b k e} : MemWf (s.cellMemory b k e) :=
  .ite (MemWf.fifoStorageError (h.keep (by rfl))) (MemWf.cellRamError (h.keep (by rfl)))

theorem MemWf.errorIn (h : MemWf s) {l e} : MemWf (s.errorIn l e) := by
  unfold State.errorIn
  split
  · split
    · exact h
    · exact h.cellMemory.sramError
  · split
    · exact h
    · exact .ite h.blockRamError.sramError h.error
  · split
    · exact h
    · exact h.error.retireCell
  · split
    · exact h
    · exact h.error.retireCell
  · split
    · exact h
    · exact h.error.retireCell
  · split
    · exact h
    · exact h.error.retireBlock
  · exact .ite h.error.superStops h.error
  · exact .ite h.error.ramError h.error
  · exact MemWf.ramError (MemWf.error (h.keep (by rfl)))
  · exact (MemWf.ite (h.keep (by rfl)) h).eccEvent.error
  · exact (MemWf.ite h.eccEvent h).error
  · split
    · exact h.freeze
    · exact h.error
  · exact h.error

theorem MemWf.execErrAck (h : MemWf s) {atx} : ResWf (execErrAck atx s) := by
  unfold Machine.execErrAck
  refine MemWf.whenB h ?_
  split
  · exact h.setCap.modCtl
  · exact h.setCap

theorem MemWf.execRowRepair (h : MemWf s) {pch row spare} : ResWf (execRowRepair pch row spare s) := by
  unfold Machine.execRowRepair
  extract_lets +onlyGivenNames _ s1
  have h1 : MemWf s1 := h.setPch.cic
  exact h.whenB (.ite h1.ledgerNote.keepMap h1.keepMap)

theorem MemWf.execPchRetirement (h : MemWf s) {pch} : ResWf (execPchRetirement pch s) := by
  unfold Machine.execPchRetirement
  extract_lets +onlyGivenNames _ _ s1
  have h1 : MemWf s1 := h.setPch.error
  exact h.whenB h1.ledgerNote.keepMap.publishHealth

theorem MemWf.execAgingMeasurement (h : MemWf s) {freqs used mv tk w} : ResWf (execAgingMeasurement freqs used mv tk w s) := by
  unfold Machine.execAgingMeasurement
  extract_lets _ _ _ _ _ _ _ s1 s2 s3 _ s4
  have h1 : MemWf s1 := h.keep (by rfl)
  have h2 : MemWf s2 := .ite h1.cic h1
  have h3 : MemWf s3 := .ite h2.cic h2
  have h4 : MemWf s4 := .ite (h3.keep (by rfl)) (MemWf.refuseStore (h3.keep (by rfl)))
  exact h.whenB h4.publishHealth

theorem MemWf.execLedgerRetry (h : MemWf s) {tk} : ResWf (execLedgerRetry tk s) := by
  unfold Machine.execLedgerRetry
  split
  · exact h.idleB
  · exact h.whenB (.ite (h.keep (by rfl)) (MemWf.refuseStore (h.keep (by rfl))))

theorem MemWf.runJob (h : MemWf s) {j} : MemWf (s.runJob j) := .ite h.keepMap (.ite (h.keep (by rfl)) (h.keep (by rfl)))

theorem MemWf.execStoreRetry (h : MemWf s) {tk} : ResWf (execStoreRetry tk s) := by
  unfold Machine.execStoreRetry
  split
  · exact h.idleB
  · exact h.whenB (.ite (MemWf.runJob (h.keep (by rfl))) (MemWf.refuseStore (h.keep (by rfl))))

/-! ### Power -/

theorem MemWf.evictAll (h : MemWf s) : MemWf s.evictAll := by
  unfold State.evictAll
  extract_lets +onlyGivenNames s1
  have h1 : MemWf s1 := .foldl (fun _ _ k => k.evict) h
  exact h1.keep (by rfl)

theorem MemWf.enterPower (h : MemWf s) {st} : MemWf (s.enterPower st) := by
  unfold State.enterPower
  extract_lets +onlyGivenNames _ s1
  have h1 : MemWf s1 := .ite (.foldl (fun _ _ k => .ite k.setCore k) h.evictAll) h.evictAll
  exact h1.keep (by rfl)

theorem MemWf.restartCell (h : MemWf s) {b k} : MemWf (s.restartCell b k) := by
  unfold State.restartCell
  split
  · exact h
  · exact .ite h h.setCore

theorem MemWf.leaveLowPower (h : MemWf s) : MemWf s.leaveLowPower := by
  unfold State.leaveLowPower
  extract_lets _ _ s1 _ s2
  have h1 : MemWf s1 := h.keep (by rfl)
  have h2 : MemWf s2 := .foldl (fun _ _ k => .foldl (fun _ _ k => k.restartCell) k) h1
  exact .ite h (.ite (.foldl (fun _ _ k => .ite k.setCore k) h2) h2)

/-! ### Management -/

theorem MemWf.at_ (h : MemWf s) {n} : MemWf (s.at_ n) := h.keep (by rfl)

theorem MemWf.answer (h : MemWf s) {code data} : MemWf (s.answer code data) := h.keep (by rfl)

theorem MemWf.mgGate (h : MemWf s) (h' : MemWf t) {carrier ok} : MemWf (s.mgGate carrier ok t) :=
  .ite h.answer (.ite h.answer (.ite h.answer h'))

theorem MemWf.mgStore (h : MemWf s) (h' : MemWf t) : MemWf (s.mgStore t) := .ite h' h.refuseStore.answer

theorem MemWf.lifecycle (h : MemWf s) {dest'} : MemWf (s.lifecycle dest') := MemWf.cic (h.keep (by rfl))

theorem MemWf.execProvision (h : MemWf s) {carrier secret publicKey} : ResWf (execProvision carrier secret publicKey s) :=
  h.whenB (h.mgGate (.ite h.leaveLowPower.answer (h.leaveLowPower.mgStore (MemWf.answer (h.leaveLowPower.keep (by rfl))))))

theorem MemWf.execInstallCert (h : MemWf s) {carrier chain} : ResWf (execInstallCert carrier chain s) :=
  h.whenB (h.mgGate (.ite h.leaveLowPower.answer
    (h.leaveLowPower.mgStore (MemWf.answer (MemWf.lifecycle (h.leaveLowPower.keep (by rfl)))))))

theorem MemWf.execLockDevice (h : MemWf s) {carrier} : ResWf (execLockDevice carrier s) :=
  h.whenB (h.mgGate (.ite h.leaveLowPower.answer
    (h.leaveLowPower.mgStore (MemWf.answer (MemWf.lifecycle (h.leaveLowPower.keep (by rfl)))))))

theorem MemWf.useNonce (h : MemWf s) {id nonce} : MemWf (s.useNonce id nonce) := h.keep (by rfl)

theorem MemWf.badSignature (h : MemWf s) {id} : MemWf (s.badSignature id) := .ite (h.keep (by rfl)) (h.keep (by rfl))

theorem MemWf.execUnlockChallenge (h : MemWf s) {carrier purpose nonce tk} :
    ResWf (execUnlockChallenge carrier purpose nonce tk s) := by
  unfold Machine.execUnlockChallenge
  refine MemWf.whenB h ?_
  split
  · exact h.at_.answer
  · extract_lets +onlyGivenNames s1
    have h1 : MemWf s1 := h.at_.cic
    exact .ite h1.answer (.ite h1.answer (MemWf.answer (MemWf.cic (h1.keep (by rfl)))))

theorem MemWf.beginZeroise (h : MemWf s) {purpose id} : MemWf (s.beginZeroise purpose id) := by
  unfold State.beginZeroise
  extract_lets +onlyGivenNames _ s1
  have h1 : MemWf s1 := .foldl (fun _ _ k => .ite k.freeze k) h.leaveLowPower
  clear_value s1
  exact h1.keep (by rfl)

theorem MemWf.execUnlockResponse (h : MemWf s) {carrier nonce sigGood tk} :
    ResWf (execUnlockResponse carrier nonce sigGood tk s) := by
  unfold Machine.execUnlockResponse
  refine MemWf.whenB h ?_
  split
  · exact h.at_.answer
  · extract_lets +onlyGivenNames s1
    have h1 : MemWf s1 := h.at_.cic
    refine .ite h1.answer (.ite h1.answer ?_)
    split
    · exact h1.answer
    · extract_lets s2
      have h2 : MemWf s2 := h1.useNonce
      exact .ite h2.badSignature (.ite h2.answer
        (.ite h2.answer (.ite (MemWf.answer (h2.leaveLowPower.keep (by rfl))) h2.beginZeroise)))

theorem MemWf.execRetire (h : MemWf s) {carrier nonce sigGood tk} : ResWf (execRetire carrier nonce sigGood tk s) := by
  unfold Machine.execRetire
  refine MemWf.whenB h ?_
  split
  · exact h.at_.answer
  · extract_lets +onlyGivenNames s1
    have h1 : MemWf s1 := h.at_.cic
    refine .ite h1.answer ?_
    refine .ite h1.answer ?_
    split
    · exact h1.answer
    · exact .ite h1.useNonce.badSignature (.ite h1.useNonce.answer h1.useNonce.beginZeroise)

theorem MemWf.erase (h : MemWf s) {id} : MemWf (s.erase id) := ⟨mem_clearRange_wf _ _ _ h.hbm, h.host, h.far⟩

theorem MemWf.execZeroisation (h : MemWf s) : ResWf (execZeroisation s) := by
  unfold Machine.execZeroisation
  split
  · exact h.idleB
  · extract_lets s1 _ s2 _ _ s3
    have h1 : MemWf s1 := h.erase
    have h2 : MemWf s2 := h1.keep (by rfl)
    have h3 : MemWf s3 := MemWf.lifecycle (h2.keep (by rfl))
    exact h.whenB (.ite (.ite (MemWf.answer (h3.keep (by rfl))) h2.refuseStore.answer) (MemWf.answer (h2.keep (by rfl))))

theorem MemWf.execPldmFirmwareUpdate (h : MemWf s) {req} : ResWf (execPldmFirmwareUpdate req s) := by
  unfold Machine.execPldmFirmwareUpdate
  refine MemWf.whenB h ?_
  split
  · exact .ite h.answer (.ite (MemWf.answer (h.keep (by rfl))) h.refuseStore.answer)
  · exact h.answer
  · exact .ite h.answer (.ite (MemWf.answer (h.keep (by rfl))) h.refuseStore.answer)
  · exact .ite (MemWf.answer (h.keep (by rfl))) (.ite (MemWf.answer (h.keep (by rfl))) h.refuseStore.answer)
  · exact MemWf.answer (h.keep (by rfl))
  · exact h.answer

theorem MemWf.pinTest (h : MemWf s) {k} : MemWf (s.pinTest k) := .ite (h.keep (by rfl)) (h.keep (by rfl))

/-! ### Resets -/

theorem MemWf.flrCtx (h : MemWf s) {n} : MemWf (s.flrCtx n) := by
  unfold State.flrCtx
  extract_lets s1
  have h1 : MemWf s1 := MemWf.dropAsk (h.keep (by rfl))
  exact MemWf.farArrived h1.dropPieces.modCtx

theorem MemWf.resetFn (h : MemWf s) {n} : MemWf (s.resetFn n) := MemWf.cic ((MemWf.foldl (fun _ _ k => k.flrCtx) h).keep (by rfl))

theorem MemWf.resetVfs (h : MemWf s) : MemWf s.resetVfs := .foldl (fun _ _ k => .ite k.resetFn k) h

theorem MemWf.beginFlr (h : MemWf s) {n} : MemWf (s.beginFlr n) := by
  have h0 := h.resetVfs
  unfold State.beginFlr
  generalize s.resetVfs = v at h0 ⊢
  extract_lets _ s1
  have h1 : MemWf s1 := MemWf.resetFn (h0.keep (by rfl))
  exact .ite (h1.keep (by rfl)) h.resetFn

theorem MemWf.endReset (h : MemWf s) {n} : MemWf (s.endReset n) := .ite (MemWf.modFn (h.keep (by rfl))) (h.keep (by rfl))

theorem MemWf.endResets (h : MemWf s) : MemWf s.endResets := .foldl (fun _ _ k => k.endReset) h

theorem MemWf.config (h : MemWf s) (h' : MemWf t) {c why} : ResWf (s.config c why t) := .ite (.next (h.keep (by rfl))) (h.whenB h')

theorem MemWf.execDStateChange (h : MemWf s) {fn pm w} : ResWf (execDStateChange fn pm w s) := by
  unfold Machine.execDStateChange
  extract_lets +onlyGivenNames _ _ s1
  have h1 : MemWf s1 := .ite h.modFn h.modFn.cic
  exact h.config (.ite (.ite h1 (MemWf.releaseHeld (h1.keep (by rfl)))) (.ite h1.askPme h1))

theorem MemWf.execBusMasterEnableChange (h : MemWf s) {fn on w} : ResWf (execBusMasterEnableChange fn on w s) := by
  unfold Machine.execBusMasterEnableChange
  extract_lets +onlyGivenNames s1
  have h1 : MemWf s1 := h.modFn.cic
  exact h.config (.ite h1.releaseHeld h1)

theorem MemWf.unmask (h : MemWf s) {fn v} : MemWf (s.unmask fn v) := .ite h.deliverMsg h

theorem MemWf.execMsixMaskClear (h : MemWf s) {fn which} : ResWf (execMsixMaskClear fn which s) := by
  unfold Machine.execMsixMaskClear
  refine MemWf.whenB h ?_
  split
  · exact h.modFn.unmask
  · exact .foldl (fun _ _ k => k.unmask) h.modFn
  · exact .foldl (fun _ _ k => k.unmask) h.modFn

theorem MemWf.execModerationHoldoffExpiry (h : MemWf s) {fn v tk} : ResWf (execModerationHoldoffExpiry fn v tk s) := by
  unfold Machine.execModerationHoldoffExpiry
  dsimp only
  split
  · exact h.idleB
  · exact h.whenB h.at_.dueMsg

theorem MemWf.boot (h : MemWf s) {st} : MemWf (s.boot st) := by
  unfold State.boot
  split
  · exact h.keep (by rfl)
  · exact h.keep (by rfl)

theorem MemWf.zeroLocked (h : MemWf s) : MemWf s.zeroLocked := by
  unfold State.zeroLocked
  refine .foldl (fun _ _ k => ?_) h
  exact .ite ⟨mem_clearRange_wf _ _ _ k.hbm, k.host, k.far⟩ k

theorem MemWf.coldState (h : MemWf s) {why} : MemWf (s.coldState why) := ⟨rfl, h.host, h.far⟩

theorem MemWf.tearStage (h : MemWf s) : MemWf s.tearStage := by
  unfold State.tearStage
  split
  · exact h
  · next t _ =>
    have h1 {n a} : MemWf (if t.pf 0 0 2 = 0 then s.drawWord.2.drawBytes n else (a, s.drawWord.2)).2 := .iteSnd (h.keep (by rfl))
      (h.keep (by rfl))
    exact .ite (.ite h1 (h1.keep (by rfl))) h

theorem MemWf.warmState (h : MemWf s) : MemWf s.warmState := by
  unfold State.warmState
  extract_lets +onlyGivenNames s1
  have h1 : MemWf s1 := h.tearStage.zeroLocked
  exact h1.keep (by rfl)

theorem MemWf.checkLedger (h : MemWf s) {st} : MemWf (s.checkLedger st) := by
  unfold State.checkLedger
  extract_lets _ _ s1 s2 _ s3
  have h1 : MemWf s1 := h.keep (by rfl)
  have h2 : MemWf s2 := .ite (h1.keep (by rfl)) h1
  have h3 : MemWf s3 := h2.keep (by rfl)
  exact .foldl (fun _ _ k => k.ledgerNote) h3

theorem MemWf.applyMap (h : MemWf s) {st} : MemWf (s.applyMap st) := h.keep (by rfl)

theorem MemWf.execColdResetRelease (h : MemWf s) {st} : ResWf (execColdResetRelease st s) := by
  unfold Machine.execColdResetRelease
  extract_lets _ board _ sec
  have h1 : MemWf { s with board := board, sec := sec } := h.keep (by rfl)
  exact h.whenB h1.checkLedger.applyMap.boot.publishHealth

/-! ### Sensors -/

theorem MemWf.emit (h : MemWf s) {o} : MemWf (s.emit o) := h.keep (by rfl)

theorem MemWf.avsRequest (h : MemWf s) {mv tk} : MemWf (s.avsRequest mv tk) := h.keep (by rfl)

theorem MemWf.avsFails (h : MemWf s) {seen tk} : MemWf (s.avsFails seen tk) := MemWf.avsRequest (MemWf.cic (h.keep (by rfl)))

theorem MemWf.execAvsReadback (h : MemWf s) {r tk} : ResWf (execAvsReadback r tk s) := by
  unfold Machine.execAvsReadback
  split
  · exact h.idleB
  · refine MemWf.whenB h ?_
    split
    · exact .ite (h.keep (by rfl)) h.at_.avsFails
    · exact h.at_.avsFails
    · exact h.at_.avsFails

/-! ### Admin commands -/

theorem MemWf.adminEnd (h : MemWf s) {fn tk code arg q w} : MemWf (s.adminEnd fn tk code arg q w) := h.complete.adminDrain

theorem MemWf.admin {act : Taken → AdmRes} (h : MemWf s) (step : ∀ t, AdmWf (act t)) {fn slot w sp} :
    ResWf (s.admin fn slot w sp act) := by
  unfold State.admin
  split
  · exact h.idleB
  · next t _ =>
    refine .ite ?_ h.idleB
    split
    · exact h.adminEnd
    · have acts := step t
      generalize act t = r at acts ⊢
      cases acts with
      | done k => exact k.adminEnd
      | reject => exact h.adminEnd
      | failed k => exact k.adminEnd
      | later k => exact k.keep (by rfl)
      | wait => exact h.idleB

theorem MemWf.of_ite {c : Prop} [Decidable c] (h : MemWf s) (e : (if c then some s else none) = some t) : MemWf t := by
  split at e
  · cases e
    exact h
  · cases e

theorem MemWf.adminLate {act : Taken → Option State} (h : MemWf s) (step : ∀ t u, act t = some u → MemWf u) {fn slot acode w} :
    ResWf (s.adminLate fn slot acode w act) := by
  unfold State.adminLate
  split
  · exact h.idleB
  · refine .ite ?_ h.idleB
    split
    · next ends => exact (step _ _ ends).adminEnd
    · exact h.idleB

theorem MemWf.createQueueAct (h : MemWf s) {fn tk} : AdmWf (createQueueAct fn s tk) := by
  unfold Machine.createQueueAct
  refine AdmWf.admWhen ?_
  split
  · exact .done h.setFn
  · exact .reject

theorem MemWf.setQueueIntervalAct (h : MemWf s) {fn tk} : AdmWf (setQueueIntervalAct fn s tk) := by
  unfold Machine.setQueueIntervalAct
  refine AdmWf.admWhen ?_
  split
  · exact .reject
  · exact .ite .reject (.done h.modFn)

theorem MemWf.destroyQueueAct (h : MemWf s) {fn tk} : AdmWf (destroyQueueAct fn s tk) := .admWhen (.done h.setFn)

theorem MemWf.createStatusRingAct (h : MemWf s) {fn tk} : AdmWf (createStatusRingAct fn s tk) := by
  unfold Machine.createStatusRingAct
  refine AdmWf.admWhen ?_
  split
  · exact .done h.setFn
  · exact .reject

theorem MemWf.destroyStatusRingAct (h : MemWf s) {fn tk} : AdmWf (destroyStatusRingAct fn s tk) := .admWhen (.done h.setFn)

theorem MemWf.allotContextsAct (h : MemWf s) {tk} : AdmWf (allotContextsAct s tk) :=
  .admWhen (.done (.foldl (fun _ _ k => k.modCtx) h))

theorem MemWf.releaseContextsAct (h : MemWf s) {tk} : AdmWf (releaseContextsAct s tk) :=
  .admWhen (.done (.foldl (fun _ _ k => k.modCtx) h))

theorem MemWf.pinContextAct (h : MemWf s) {tk} : AdmWf (pinContextAct s tk) := .admWhen (.done h.evict.modCtx)

theorem MemWf.unpinContextAct (h : MemWf s) {tk} : AdmWf (unpinContextAct s tk) := .admWhen (.done h.modCtx)

theorem MemWf.setBudgetAct (h : MemWf s) {tk} : AdmWf (setBudgetAct s tk) := .admWhen (.done h.modCtx)

theorem MemWf.setKeysAct (h : MemWf s) {tk} : AdmWf (setKeysAct s tk) := .admWhen (.done h.modCtx)

theorem MemWf.queryContextAct (h : MemWf s) {fn tk} : AdmWf (queryContextAct fn s tk) := .admWhen (.done h)

theorem MemWf.writeHost (h : MemWf s) {a bs} : MemWf { s with hostMem := s.hostMem.writeN a bs } :=
  ⟨h.hbm, mem_writeN_wf _ _ _ h.host, h.far⟩

theorem MemWf.sawHost (h : MemWf s) {fn space a bs} : MemWf (s.sawHost fn space a bs) := .ite h.writeHost h

theorem MemWf.loadSieveAct (h : MemWf s) {fn r tk} : AdmWf (loadSieveAct fn r s tk) := by
  unfold Machine.loadSieveAct
  dsimp only
  refine AdmWf.admWhen ?_
  split
  · exact .wait
  · exact .reject
  · split
    · exact .reject
    · exact .reject
    · exact .done (h.sawHost.keep (by rfl))

theorem MemWf.unloadSieveAct (h : MemWf s) {fn tk} : AdmWf (unloadSieveAct fn s tk) := by
  unfold Machine.unloadSieveAct
  dsimp only
  split
  · exact .reject
  · exact .later (h.keep (by rfl))

theorem MemWf.execUnloadSieveComplete (h : MemWf s) {fn slot w} : ResWf (execUnloadSieveComplete fn slot w s) :=
  h.adminLate fun _ _ e => MemWf.of_ite (h.keep (by rfl)) e

theorem MemWf.setExtentAct (h : MemWf s) {tk} : AdmWf (setExtentAct s tk) := .admWhen (.done h.modFn)

theorem MemWf.writeFttAct (h : MemWf s) {fn r w tk} : AdmWf (writeFttAct fn r w s tk) := by
  unfold Machine.writeFttAct
  refine AdmWf.admWhen ?_
  split
  · exact .wait
  · exact .reject
  · extract_lets +onlyGivenNames _ s1
    have h1 : MemWf s1 := h.sawHost.modFn
    exact .admWhen (.ite (.later (MemWf.dcSettle (h1.keep (by rfl)))) (.done (MemWf.dcSettle (h1.keep (by rfl)))))

theorem MemWf.setInterleaveAct (h : MemWf s) {tk} : AdmWf (setInterleaveAct s tk) :=
  .ite (.admWhen (.done (h.keep (by rfl)))) (.admWhen (.done (h.keep (by rfl))))

theorem MemWf.setFarTimeoutAct (h : MemWf s) {tk} : AdmWf (setFarTimeoutAct s tk) := .admWhen (.done (h.keep (by rfl)))

theorem MemWf.grantEventsAct (h : MemWf s) {tk} : AdmWf (grantEventsAct s tk) := .admWhen (.done (.foldl (fun _ _ k => k.setEch) h))

theorem MemWf.revokeEventsAct (h : MemWf s) {tk} : AdmWf (revokeEventsAct s tk) :=
  .admWhen (.done (.foldl (fun _ _ k => k.setEch) h))

theorem MemWf.bindEventAct (h : MemWf s) {fn tk} : AdmWf (bindEventAct fn s tk) := .admWhen (.done (h.keep (by rfl)))

theorem MemWf.unbindEventAct (h : MemWf s) {fn tk} : AdmWf (unbindEventAct fn s tk) := by
  unfold Machine.unbindEventAct
  refine AdmWf.admWhen ?_
  split
  · exact .reject
  · exact .done (h.keep (by rfl))

theorem MemWf.setMod (h : MemWf s) {fn v holdoff thresh} : MemWf (s.setMod fn v holdoff thresh) := .ite h.modFn.dueMsg h.modFn

theorem MemWf.setModerationAct (h : MemWf s) {fn tk} : AdmWf (setModerationAct fn s tk) := .admWhen (.done h.setMod)

theorem MemWf.setVfVectorsAct (h : MemWf s) {tk} : AdmWf (setVfVectorsAct s tk) := .admWhen (.done h.modFn)

theorem MemWf.resetVfAct (h : MemWf s) {tk} : AdmWf (resetVfAct s tk) := .later h.beginFlr

theorem MemWf.attachNamespaceAct (h : MemWf s) {r tk} : AdmWf (attachNamespaceAct r s tk) := by
  unfold Machine.attachNamespaceAct
  refine AdmWf.admWhen ?_
  split
  · exact .ite .reject (.admWhen (.done (h.keep (by rfl))))
  · exact .ite .reject .reject
  · exact .reject
  · exact .reject
  · exact .reject

theorem MemWf.detachNamespaceAct (h : MemWf s) {tk} : AdmWf (detachNamespaceAct s tk) := by
  unfold Machine.detachNamespaceAct
  dsimp only
  split
  · exact .reject
  · exact .ite (.later (h.keep (by rfl))) .reject

theorem MemWf.execDetachNamespaceComplete (h : MemWf s) {fn slot w} : ResWf (execDetachNamespaceComplete fn slot w s) := by
  refine h.adminLate fun _ _ e => ?_
  dsimp only at e
  split at e
  · cases e
  · cases e
    exact h.keep (by rfl)

theorem MemWf.setNvmPolicyAct (h : MemWf s) {tk} : AdmWf (setNvmPolicyAct s tk) := .done h.modFn

theorem MemWf.sayLeave (h : MemWf s) : MemWf s.sayLeave := .ite h.emit h

theorem MemWf.setDomainAct (h : MemWf s) {tk} : AdmWf (setDomainAct s tk) :=
  .ite (.admWhen (.ite (.done (h.keep (by rfl))) (.done (MemWf.emit (h.sayLeave.keep (by rfl))))))
    (.admWhen (.done (h.sayLeave.keep (by rfl))))

theorem MemWf.identifyAct (h : MemWf s) {fn r tk} : AdmWf (identifyAct fn r s tk) := by
  unfold Machine.identifyAct
  exact .admWhen (.ite .wait (.ite .reject (.ite (.done h.writeHost) (.done h.localWrite))))

theorem MemWf.getHealthAct (h : MemWf s) {x} : AdmWf (getHealthAct s x) := .done h

theorem MemWf.fwStageAct (h : MemWf s) {fn r tk} : AdmWf (fwStageAct fn r s tk) := by
  unfold Machine.fwStageAct
  refine AdmWf.admWhen ?_
  refine .ite (.failed h.refuseStore) ?_
  split
  · exact .wait
  · exact .failed (h.keep (by rfl))
  · exact .done (MemWf.sawHost (MemWf.cic (h.keep (by rfl))))

theorem MemWf.fwCommitAct (h : MemWf s) {authentic version tk} : AdmWf (fwCommitAct authentic version s tk) :=
  .admWhen (.ite (.failed h.refuseStore) (.ite .reject (.done (MemWf.cic (h.keep (by rfl))))))

theorem MemWf.adminDue (h : MemWf s) : MemWf s.adminDue := by
  unfold State.adminDue
  split
  · exact h
  · exact .ite h (.ite h.adminEnd h)

/-! ### Registers -/

theorem MemWf.startCore (h : MemWf s) {id start} (e : s.startCore id start = some t) : MemWf t := by
  unfold State.startCore at e
  exact MemWf.of_ite h.setCore e

theorem MemWf.startBound (h : MemWf s) {o : Option Nat} {start} (e : (o.bind fun id => s.startCore id start) = some t) :
    MemWf t := by
  obtain ⟨_, _, starts⟩ := Option.bind_eq_some_iff.mp e
  exact h.startCore starts

theorem MemWf.execRcStart (h : MemWf s) {blk m j v} : ResWf (execRcStart blk m j v s) := by
  unfold Machine.execRcStart
  exact h.whenB (.ite h.rcRefuse (.ite (MemWf.rcEnd (MemWf.modRegCh (h.keep (by rfl))))
    (MemWf.modRegCh (MemWf.modRegCh (h.keep (by rfl))))))

theorem MemWf.execRcStop (h : MemWf s) {blk m j} : ResWf (execRcStop blk m j s) := by
  unfold Machine.execRcStop
  exact h.whenB (.ite h (.ite h.rcEnd h.modRegCh))

theorem MemWf.regCleared (h : MemWf s) {r m} : MemWf (s.regCleared r m) := by
  unfold State.regCleared
  split
  · exact h.modRingCh
  · exact h.modFifo
  · exact h.setCap
  · exact h.keep (by rfl)
  · exact h.setEch
  · exact h.keep (by rfl)
  · exact h.modCtl
  · exact h.modCtl
  · exact h.setLink
  · exact h.setLink
  · exact h.keep (by rfl)
  · exact h.setPch
  · exact h.keep (by rfl)
  · exact h.keep (by rfl)
  · exact h.keep (by rfl)
  · exact h

theorem MemWf.accessErrRegion (h : MemWf s) {r source} : MemWf (s.accessErrRegion r source) := h.error

theorem MemWf.accessErrCtl (h : MemWf s) {k} : MemWf (s.accessErrCtl k) := .ite h.accessErrRegion h.accessErrUnlisted

theorem MemWf.rcWrite (h : MemWf s) {b m j w new v mask} : MemWf (s.rcWrite b m j w new v mask) := by
  unfold State.rcWrite
  split
  · exact .ite h.rcRefuse h.modRegCh
  · exact .ite h.rcRefuse h.modRegCh
  · exact .ite h.rcRefuse h.modRegCh
  · refine .ite (.ite (h.orElse h.execRcStop) h.rcRefuse) ?_
    refine .ite ?_ (.ite h.rcRefuse h.modRegCh)
    extract_lets +onlyGivenNames s1
    have h1 : MemWf s1 := h.orElse h.execRcStart
    exact .ite (h1.orElse h1.execRcStop) h1
  · exact h.modRegCh

theorem MemWf.fhWrite (h : MemWf s) {b f new v m} : MemWf (s.fhWrite b f new v m) := .ite h.cellError h.modFifo

theorem MemWf.echWrite (h : MemWf s) {c new v m} : MemWf (s.echWrite c new v m) := .ite h.accessErrUnlisted h.setEch

theorem MemWf.regPut (h : MemWf s) {r v m} : MemWf (s.regPut r v m) := by
  unfold State.regPut
  split
  · refine .ite ?_ h.modBlock
    split
    · next _ _ e =>
        exact (h.startBound e).modBlock
    · exact h.blockError
  · refine .ite ?_ (h.keep (by rfl))
    split
    · next _ _ e =>
        exact (h.startCore e).keep (by rfl)
    · exact h.accessErrRegion
  · refine .ite ?_ (h.keep (by rfl))
    split
    · next _ _ e =>
        exact (h.startCore e).keep (by rfl)
    · exact h.accessErrUnlisted
  · exact h.rcWrite
  · exact h.fhWrite
  · exact .ite h (h.orElse (h.whenB (h.keep (by rfl))))
  · exact h.modBlock
  · exact h.modBlock
  · exact h.setCap
  · exact .ite h (h.keep (by rfl))
  · exact h.keep (by rfl)
  · exact .ite h (h.keep (by rfl))
  · exact h.keep (by rfl)
  · exact h.echWrite
  · exact .ite h.accessErrUnlisted (h.keep (by rfl))
  · exact h.orElse (h.whenB h.writeBind)
  · exact .ite h.accessErrCtl h.modCtl
  · exact h.orElse (h.whenB h.modCtl)
  · exact h.orElse (h.whenB h.modCtl)
  · exact h.orElse (h.whenB h.modCtl)
  · exact h.orElse (h.whenB h.modCtl)
  · exact h.modCtl
  · exact .ite h (h.orElse (h.whenB h.doneWrite))
  · exact h.modCtl
  · exact .ite (h.orElse (h.whenB h.modCtl)) h
  · exact .ite h.accessErrChip h.setLink
  · exact h.keep (by rfl)
  · exact h

theorem MemWf.getRegs (h : MemWf s) {l} : MemWf (s.getRegs l).2 := .foldlSnd (fun _ _ k => .iteSnd k k.regCleared) h

theorem MemWf.wordGet (h : MemWf s) {q m} : MemWf (s.wordGet q m).2 := h.getRegs

theorem MemWf.portGet (h : MemWf s) {a} : MemWf (s.portGet a).2 := h.getRegs

theorem MemWf.wordPut (h : MemWf s) {q v m} : MemWf (s.wordPut q v m) := .foldl (fun _ _ k => .ite k k.regPut) h

theorem MemWf.regLoad (h : MemWf s) {a n} : MemWf (s.regLoad a n).2 := by
  unfold State.regLoad
  extract_lets
  split
  next x s1 first =>
    have h1 : MemWf s1 := h.wordGet.cast (congrArg (·.2) first)
    split
    next second => exact .ofSnd ((MemWf.iteSnd h1.wordGet h1).cast (congrArg (·.2) second))

theorem MemWf.regStore (h : MemWf s) {a n v} : MemWf (s.regStore a n v) := .ite h.wordPut.wordPut h.wordPut

/-! ### The buses of the cores -/

theorem MemWf.coreRefused (h : MemWf s) {id} : MemWf (coreRefused id s) :=
  .ite h.accessErrUnlisted (.ite h.accessErrRegion (.ite (MemWf.cellError (h.keep (by rfl))) h.cellError))

theorem MemWf.busLoad (h : MemWf s) {id a n c} : MemWf (busLoad id a n s c).2.2.1 := by
  have regs (a) : MemWf ((leBytes n (s.regLoad a n).1, false, (s.regLoad a n).2, c) : List Byte × Bool × State × Core).2.2.1 :=
    h.regLoad
  unfold Machine.busLoad
  extract_lets r
  split
  · split
    · exact h
    · split
      · exact regs _
      · exact h
  · split
    · exact regs _
    · split
      · exact h
      · exact h

theorem MemWf.busStore (h : MemWf s) {id a bs c} : MemWf (busStore id a bs s c).1 :=
  .iteFst (.iteFst h (.iteFst h.regStore h.localWrite)) (.iteFst h (.iteFst h h.blockPuts))

theorem MemWf.sqRead (h : MemWf s) {id p c} : ReadWf (sqRead id p s c) := by
  unfold Machine.sqRead
  refine .ite h (.ite ?_ (.ite h (.ite h h)))
  split
  · trivial
  · exact h.keep (by rfl)

theorem MemWf.sqDecode (h : MemWf s) {id n c} : MemWf (sqDecode id n s c).1 := by
  unfold Machine.sqDecode
  split
  · exact h
  · exact h.keep (by rfl)

theorem MemWf.askFetch (h : MemWf s) {b slot} : MemWf (s.askFetch b slot) := by
  unfold State.askFetch
  split
  · exact h
  · exact .ite h.modBlock.modCtx h.modBlock

theorem MemWf.postDesc (h : MemWf s) {b m r bs} : MemWf (s.postDesc b m r bs) := by
  unfold State.postDesc
  exact h.modBlock.modRingCh.modFifo

theorem MemWf.sqWrite (h : MemWf s) {id p v c} : MemWf (sqWrite id p v s c).1 := by
  unfold Machine.sqWrite
  exact .iteFst h (.iteFst (.ofFst h.blockPuts) (.iteFst h.sqDecode (.iteFst (.ofFst h.askFetch) (.iteFst (.ofFst h.postDesc)
    (.iteFst (.ofFst (h.keep (by rfl))) h)))))

theorem MemWf.fhSel (h : MemWf s) {c} : MemWf (Core.fhSel c s).2 := .iteSnd h (h.keep (by rfl))

theorem MemWf.gtRead (h : MemWf s) {id p c} : ReadWf (gtRead id p s c) := .ite h (.ite (h.fhSel : MemWf _) (.ite h h))

theorem MemWf.gtWrite (h : MemWf s) {id p v c} : MemWf (gtWrite id p v s c).1 :=
  .iteFst (h.keep (by rfl)) (.iteFst (h.keep (by rfl))
    (.iteFst (h.keep (by rfl)) (.iteFst (h.keep (by rfl)) (.iteFst (h.keep (by rfl)) (.iteFst (h.fhSel.keep (by rfl)) h)))))

theorem MemWf.supRead (h : MemWf s) {id p c} : ReadWf (supRead id p s c) := by
  unfold Machine.supRead
  refine .ite (h.keep (by rfl) : MemWf _) (.ite ?_ (.ite h (.ite h h)))
  split
  · trivial
  · exact h

theorem MemWf.sendMail (h : MemWf s) {c id dest v} : MemWf (s.sendMail c id dest v).1 := .iteFst h h.setCore

theorem MemWf.supCoreWrite (h : MemWf s) {id p v c} : MemWf (Machine.supWrite id p v s c).1 := by
  unfold Machine.supWrite
  exact .iteFst (.ofFst h.doneWrite) (.iteFst h.sendMail
    (.iteFst (.ofFst (.ite (h.keep (by rfl)) h)) (.iteFst (h.keep (by rfl)) h)))

theorem busWf_coreBus (id : Nat) : BusWf (coreBus id) := by
  unfold coreBus
  dsimp only
  split
  · exact ⟨fun h => h.svLoad, fun h => h.svStore, fun h => h.svRead, fun h => h.svWrite, fun h => h.coreRefused, fun h => h⟩
  · cases coreKind id with
    | sq => exact ⟨fun h => h.busLoad, fun h => h.busStore, fun h => h.sqRead, fun h => h.sqWrite, fun h => h.coreRefused,
      fun h => h⟩
    | gt => exact ⟨fun h => h.busLoad, fun h => h.busStore, fun h => h.gtRead, fun h => h.gtWrite, fun h => h.coreRefused,
      fun h => h⟩
    | sup => exact ⟨fun h => h.busLoad, fun h => h.busStore, fun h => h.supRead, fun h => h.supCoreWrite, fun h => h.coreRefused,
      fun h => h⟩
    | sv => exact ⟨fun h => h.busLoad, fun h => h.busStore, fun h => h.supRead, fun h => h.supCoreWrite, fun h => h.coreRefused,
      fun h => h⟩

/-! ### The debug access port and the host link -/

theorem MemWf.dapNothing (h : MemWf s) {read} : MemWf (s.dapNothing read) := by
  unfold State.dapNothing
  dsimp only
  split
  · exact MemWf.emit (h.keep (by rfl))
  · exact MemWf.emit (h.keep (by rfl))
  · exact MemWf.emit (h.keep (by rfl))

theorem MemWf.dapGet (h : MemWf s) {a} : MemWf (s.dapGet a) := by
  unfold State.dapGet
  split
  · exact h.portGet.emit
  · exact .ite (MemWf.emit (h.keep (by rfl))) h.emit
  · exact .ite (MemWf.emit (h.keep (by rfl))) (MemWf.emit (h.keep (by rfl)))
  · exact h.dapNothing

theorem MemWf.dapPut (h : MemWf s) {a v} : MemWf (s.dapPut a v) := by
  unfold State.dapPut
  split
  · exact h.regStore.emit
  · exact h.localWrite.emit
  · exact MemWf.emit (MemWf.setCore (h.keep (by rfl)))
  · exact h.dapNothing

theorem MemWf.fnRefuse (h : MemWf s) {n} : MemWf (s.fnRefuse n) := h.accessErrChip

theorem MemWf.aqCreate (h : MemWf s) {n} : MemWf (s.aqCreate n) := .ite h (.ite h.setFn h.setFn)

theorem MemWf.headWrite (h : MemWf s) {n i v} : MemWf (s.headWrite n i v) := by
  unfold State.headWrite
  split
  · exact h
  · exact .ite h.modFn.ringFreed h.fnRefuse

theorem MemWf.hostPut (h : MemWf s) {n q v m} : MemWf (s.hostPut n q v m) :=
  .ite (.ite h (.ite h.fnRefuse h.setFn)) (.ite (.ite h (.ite h.fnRefuse h.setFn))
    (.ite (.ite h.fnRefuse h.setFn) (.ite (.ite h.fnRefuse h.setFn)
    (.ite (.ite h (.ite h.fnRefuse h.setFn)) (.ite (.ite h.aqCreate h)
    (.ite (.ite h h.headWrite) (.ite (.ite h (.ite h.setFn (.ite h.setFn.unmask h.setFn))) (.ite (.ite h h.setMod) h))))))))

theorem MemWf.hostLoad (h : MemWf s) {n off width} : MemWf (s.hostLoad n off width).2 :=
  .iteSnd (.iteSnd h (.ite h.modFn h)) h.fnRefuse

theorem MemWf.hostStore (h : MemWf s) {n off width v} : MemWf (s.hostStore n off width v) := .ite (.ite h h.hostPut) h.fnRefuse

theorem MemWf.barAccess (h : MemWf s) (h' : MemWf t) {c why} : ResWf (s.barAccess c why t) := .ite (.next h.emit) (h.whenB h')

theorem MemWf.execRegisterWrite (h : MemWf s) {a} : ResWf (execRegisterWrite a s) := by
  unfold Machine.execRegisterWrite
  split
  · exact h.barAccess h.hostStore
  · exact h.whenB h.regStore

theorem MemWf.execCellBootGo (h : MemWf s) {a} : ResWf (execCellBootGo a s) := by
  unfold Machine.execCellBootGo
  split
  · exact h.idleB
  · exact h.whenB h.regStore

theorem MemWf.lmwCount (h : MemWf s) {a n} : MemWf (s.lmwCount a n) := .ite h.modFn h

theorem MemWf.lmwStore (h : MemWf s) {a bs} : MemWf (s.lmwStore a bs) := .foldl (fun _ _ k => k.localWrite) h

theorem MemWf.execLmwAccess (h : MemWf s) {off op} : ResWf (execLmwAccess off op s) := by
  unfold Machine.execLmwAccess
  refine MemWf.barAccess h ?_
  split
  · exact h.lmwCount.emit
  · exact h.lmwCount.lmwStore
  · extract_lets +onlyGivenNames s1
    have h1 : MemWf s1 := h.lmwCount.emit
    refine .ite h1 ?_
    split
    · exact h1.lmwStore
    · exact h1

/-! ### Migration -/

theorem MemWf.migrateFold (h : MemWf s) {n} : MemWf (s.migrateFold n) := by
  unfold State.migrateFold
  refine .ite ?_ h.modCtx
  split
  · next _ _ e =>
      exact (h.foldFlush.cast (congrArg (·.2) e)).modCtx
  · exact h

theorem MemWf.execMigrationPoint (h : MemWf s) {ctx region slot why} : ResWf (execMigrationPoint ctx region slot why s) := by
  unfold Machine.execMigrationPoint
  extract_lets +onlyGivenNames _ s1 s11 _
  have h1 : MemWf s1 := .ite h h.migrateUnits
  have h11 : MemWf s11 := h1.migrateFold.evict
  exact h.whenB (MemWf.modCtx (h11.keep (by rfl)))

theorem MemWf.waitAgain (h : MemWf s) {n w} : MemWf (s.waitAgain n w) := by
  unfold State.waitAgain
  dsimp only
  split
  · exact h.modCtx
  · exact .ite ((MemWf.ite h.modCtx.setEch h.modCtx).wakeWait) (h.keep (by rfl))

theorem MemWf.ringAgain (h : MemWf s) {n w} : MemWf (s.ringAgain n w) := by
  unfold State.ringAgain
  dsimp only
  split
  · exact h.modCtx
  · exact .ite h.modCtx.ringFreed h.modCtx

theorem MemWf.lodgeAgain (h : MemWf s) {n b p} : MemWf (s.lodgeAgain n b p) := by
  unfold State.lodgeAgain
  exact MemWf.modCtx (h.makeRoom.keep (by rfl))

theorem MemWf.settle (h : MemWf s) {n w} : MemWf (s.settle n w) := by
  unfold State.settle
  dsimp only
  split
  · exact h.lodgeAgain
  · exact h.lodgeAgain
  · exact h.modCtx
  · exact h.modCtx
  · exact h.modCtx
  · exact h.waitAgain
  · exact h.ringAgain
  · exact h.modCtx

theorem MemWf.moveSome (h : MemWf s) {r d k l} : MemWf (State.moveSome r d k l s) := by
  induction l generalizing s k with
  | nil => cases k <;> exact h
  | cons n l ih =>
    cases k with
    | zero => exact h
    | succ k =>
      rw [State.moveSome]
      exact .ite (ih (h.keep (by rfl))) (.ite (ih (h.keep (by rfl))) (ih (MemWf.evict (h.keep (by rfl))).modCtx))

theorem MemWf.execLoadBalanceSample (h : MemWf s) {region tk} : ResWf (execLoadBalanceSample region tk s) := by
  unfold Machine.execLoadBalanceSample
  refine MemWf.whenB h ?_
  refine .foldl (fun _ _ k => ?_) (h.keep (by rfl))
  split
  · exact k.moveSome
  · exact k

theorem MemWf.execSubstitutionTimeout (h : MemWf s) {region tk} : ResWf (execSubstitutionTimeout region tk s) := by
  unfold Machine.execSubstitutionTimeout
  dsimp only
  split
  · exact h.idleB
  · exact h.whenB (h.keep (by rfl))

theorem MemWf.execSubstitutionEnd (h : MemWf s) {region} : ResWf (execSubstitutionEnd region s) := by
  unfold Machine.execSubstitutionEnd
  extract_lets +onlyGivenNames _
  split
  · exact h.idleB
  · extract_lets +onlyGivenNames _ s1 s2 _
    have h1 : MemWf s1 := h.keep (by rfl)
    have h2 : MemWf s2 := MemWf.cic (h1.keep (by rfl))
    exact h.whenB ((MemWf.foldl (fun _ _ k => k.replaceBlock) h2).keepMap.publishHealth)

/-! ### Words of the cores -/

theorem MemWf.putCore (h : MemWf s) {id before after} : MemWf (s.putCore id before after) := .ite h.setCore.coreDoubleTrap h.setCore

theorem MemWf.runWord (h : MemWf s) {id i} : MemWf (s.runWord id i) := by
  unfold State.runWord
  extract_lets c r
  have ran : MemWf r.1 := .iteFst (h.svWord (busWf_coreBus id)) (h.coreRun (busWf_coreBus id))
  exact ran.putCore

theorem MemWf.wordRow (h : MemWf s) {id i holds} : ResWf (s.wordRow id i holds) := h.whenB h.runWord

theorem MemWf.kindRow (h : MemWf s) {id i k p} : ResWf (s.kindRow id i k p) := h.wordRow

theorem MemWf.execInterruptEntry (h : MemWf s) {core late} : ResWf (execInterruptEntry core late s) := by
  unfold Machine.execInterruptEntry
  dsimp only
  split
  · exact h.idleB
  · exact h.whenB h.interrupt.setCore

theorem MemWf.loadSlot (h : MemWf s) {c} : MemWf (s.loadSlot c).2 := by
  unfold State.loadSlot
  dsimp only
  split
  · exact h
  · exact h.keep (by rfl)

theorem MemWf.execImageLoadComplete (h : MemWf s) {core handle} : ResWf (execImageLoadComplete core handle s) := by
  unfold Machine.execImageLoadComplete
  split
  · exact h.idleB
  · exact h.whenB h.loadSlot.setCore

theorem MemWf.execSieveInit (h : MemWf s) {core handle param} : ResWf (execSieveInit core handle param s) := by
  unfold Machine.execSieveInit
  dsimp only
  split
  · exact h.whenB h.setCore
  · exact h.idleB

theorem MemWf.execRecordPresent (h : MemWf s) {core ordinal budget data} :
    ResWf (execRecordPresent core ordinal budget data s) := by
  unfold Machine.execRecordPresent
  dsimp only
  split
  · exact h.whenB h.setCore
  · exact h.idleB

theorem MemWf.execSvBudgetTrap (h : MemWf s) {core} : ResWf (execSvBudgetTrap core s) := by
  unfold Machine.execSvBudgetTrap
  exact h.whenB (h.coreLost (busWf_coreBus core)).putCore

/-! ### The commands and a step -/

theorem MemWf.execReadAheadComplete (h : MemWf s) {ctx n} : ResWf (execReadAheadComplete ctx n s) := by
  unfold Machine.execReadAheadComplete
  exact h.whenB (.ite h h.modCtx)

theorem MemWf.execDescriptorReadComplete (h : MemWf s) {ctx w} : ResWf (execDescriptorReadComplete ctx w s) := by
  unfold Machine.execDescriptorReadComplete
  exact h.whenB (.ite h.descTable (.ite h.descPass h.descRef))

theorem MemWf.execAtomicCas (h : MemWf s) {ctx w} : ResWf (execAtomicCas ctx w s) := h.whenB h.atomic

theorem MemWf.execAtomicFetchAdd (h : MemWf s) {ctx w} : ResWf (execAtomicFetchAdd ctx w s) := h.whenB h.atomic

theorem MemWf.execAtomicSwap (h : MemWf s) {ctx w} : ResWf (execAtomicSwap ctx w s) := h.whenB h.atomic

theorem MemWf.execJump (h : MemWf s) {ctx w} : ResWf (execJump ctx w s) := h.whenB ((MemWf.ite h.modCtx h).memberDone)

theorem MemWf.execCall (h : MemWf s) {ctx w} : ResWf (execCall ctx w s) := h.whenB h.modCtx.memberDone

theorem MemWf.execRet (h : MemWf s) {ctx w} : ResWf (execRet ctx w s) := h.whenB h.modCtx.memberDone

theorem MemWf.execWait (h : MemWf s) {ctx w} : ResWf (execWait ctx w s) := by
  unfold Machine.execWait
  exact h.whenB (.ite ((MemWf.ite h.setEch h).memberDone) (.ite h.memberDone h.beginWait))

theorem MemWf.execSignal (h : MemWf s) {ctx w} : ResWf (execSignal ctx w s) := by
  unfold Machine.execSignal
  exact h.whenB (h.whenArrived (h.keep (by rfl)))

theorem MemWf.execPost (h : MemWf s) {ctx w} : ResWf (execPost ctx w s) := h.whenB (h.whenArrived h.postNow)

theorem MemWf.execFence (h : MemWf s) {ctx w} : ResWf (execFence ctx w s) := h.whenB (h.whenArrived h.fenceNow)

theorem MemWf.execEpoch (h : MemWf s) {ctx w} : ResWf (execEpoch ctx w s) := h.whenB h.modCtx.memberDone

theorem MemWf.execNop (h : MemWf s) {ctx w} : ResWf (execNop ctx w s) := h.whenB h.memberDone

theorem MemWf.execGetHealth (h : MemWf s) {fn slot w} : ResWf (execGetHealth fn slot w s) := h.admin (fun _ => h.getHealthAct)

theorem MemWf.execAqCreate (h : MemWf s) {fn v} : ResWf (execAqCreate fn v s) := h.whenB (.ite h.aqCreate h)

theorem MemWf.execSrHeadWrite (h : MemWf s) {fn n v} : ResWf (execSrHeadWrite fn n v s) := h.whenB h.headWrite

theorem MemWf.execPmeTimeout (h : MemWf s) {fn} : ResWf (execPmeTimeout fn s) := h.whenB h.emit

theorem MemWf.execHostCompletionTimeout (h : MemWf s) {tag addr len} : ResWf (execHostCompletionTimeout tag addr len s) := by
  unfold Machine.execHostCompletionTimeout
  exact h.whenB (.ite h.lateOver (.ite h.modCtx h))

theorem MemWf.execAtsInvalidate (h : MemWf s) {fn} : ResWf (execAtsInvalidate fn s) := h.whenB h.answer

theorem MemWf.execTdispLockInterface (h : MemWf s) {fn} : ResWf (execTdispLockInterface fn s) :=
  h.whenB (.ite h.cic.answer (.ite h.cic.answer h.cic.modFn.answer))

theorem MemWf.execTdispStopInterface (h : MemWf s) {fn} : ResWf (execTdispStopInterface fn s) :=
  h.whenB (.ite h.cic h.cic.beginFlr.answer)

theorem MemWf.execTdiError (h : MemWf s) {fn} : ResWf (execTdiError fn s) := h.whenB h.modFn.freeze

theorem MemWf.execStopChan (h : MemWf s) {blk m c slot} : ResWf (execStopChan blk m c slot s) := h.whenB h.stopBefore

theorem MemWf.execCutChan (h : MemWf s) {blk m c slot} : ResWf (execCutChan blk m c slot s) := by
  unfold Machine.execCutChan
  exact h.whenB (.ite h.stopBefore h.cutRunning)

theorem MemWf.execAbortChan (h : MemWf s) {blk m c slot} : ResWf (execAbortChan blk m c slot s) := by
  unfold Machine.execAbortChan
  exact h.whenB (.ite h.stopBefore (.ite h.cutRunning (MemWf.cutRunning (MemWf.modRingCh (h.keep (by rfl))))))

theorem MemWf.execRchStatRead (h : MemWf s) {blk m c} : ResWf (execRchStatRead blk m c s) := h.whenB h.emit.modRingCh

theorem MemWf.execFifoItemWrite (h : MemWf s) {blk f data last} : ResWf (execFifoItemWrite blk f data last s) := by
  unfold Machine.execFifoItemWrite
  exact h.whenB (.ite h.modFifo (.ite h.modFifo.fifoMisuse h.modFifo))

theorem MemWf.execFifoPointerMismatch (h : MemWf s) {blk f w} : ResWf (execFifoPointerMismatch blk f w s) := h.whenB h.fifoReset

theorem MemWf.execFhStatRead (h : MemWf s) {blk f} : ResWf (execFhStatRead blk f s) := h.whenB h.emit.modFifo

theorem MemWf.execFttWalkComplete (h : MemWf s) {region fn page1g page r} :
    ResWf (execFttWalkComplete region fn page1g page r s) := by
  unfold Machine.execFttWalkComplete
  exact h.whenB (.ite h.setFn.cic.error (h.keep (by rfl)))

theorem MemWf.execMigrationArrival (h : MemWf s) {ctx w} : ResWf (execMigrationArrival ctx w s) := by
  unfold Machine.execMigrationArrival
  exact h.whenB (.ite h.modCtx.freezeCtx (.ite h.modCtx.haltHere h.settle.modCtx))

theorem MemWf.execResultLand (h : MemWf s) {core} : ResWf (execResultLand core s) := by
  unfold Machine.execResultLand
  exact h.whenB h.setCore

theorem MemWf.execSleepDeadline (h : MemWf s) {core tk} : ResWf (execSleepDeadline core tk s) := by
  unfold Machine.execSleepDeadline
  exact h.whenB h.at_.setCore

theorem MemWf.execCoreWake (h : MemWf s) {core} : ResWf (execCoreWake core s) := by
  unfold Machine.execCoreWake
  exact h.whenB h.setCore

theorem MemWf.execConsumerDelivery (h : MemWf s) {c who} : ResWf (execConsumerDelivery c who s) := by
  unfold Machine.execConsumerDelivery
  exact h.whenB (.ite (MemWf.setEch (MemWf.deliverTo (h.keep (by rfl)))) (MemWf.deliverTo (h.keep (by rfl))))

theorem MemWf.execBlkEvtFire (h : MemWf s) {blk v} : ResWf (execBlkEvtFire blk v s) := h.whenB (h.keep (by rfl))

theorem MemWf.execGtTimerExpiry (h : MemWf s) {blk k tk} : ResWf (execGtTimerExpiry blk k tk s) := by
  unfold Machine.execGtTimerExpiry
  exact h.whenB (h.keep (by rfl))

theorem MemWf.execFlagClear (h : MemWf s) {c} : ResWf (execFlagClear c s) := h.whenB h.setEch

theorem MemWf.execEvtBindWrite (h : MemWf s) {c i v} : ResWf (execEvtBindWrite c i v s) := h.whenB h.writeBind

theorem MemWf.execEvtChRead (h : MemWf s) {c} : ResWf (execEvtChRead c s) := h.whenB h.emit.setEch

theorem MemWf.execEvtCtlRead (h : MemWf s) : ResWf (execEvtCtlRead s) := h.whenB (h.keep (by rfl))

theorem MemWf.execSourceEdge (h : MemWf s) {ctl i level samples tk} : ResWf (execSourceEdge ctl i level samples tk s) :=
  h.whenB h.at_.modCtl

theorem MemWf.execGroupHoldoffExpiry (h : MemWf s) {ctl g tk} : ResWf (execGroupHoldoffExpiry ctl g tk s) := by
  unfold Machine.execGroupHoldoffExpiry
  exact h.whenB h.at_.modCtl

theorem MemWf.execStuckSource (h : MemWf s) {ctl i tk} : ResWf (execStuckSource ctl i tk s) := by
  unfold Machine.execStuckSource
  exact h.whenB h.at_.modCtl.error

theorem MemWf.execClaimRead (h : MemWf s) {ctl tgt} : ResWf (execClaimRead ctl tgt s) := by
  unfold Machine.execClaimRead
  exact h.whenB h.emit.modCtl

theorem MemWf.execDoneWrite (h : MemWf s) {ctl tgt v} : ResWf (execDoneWrite ctl tgt v s) := h.whenB h.doneWrite

theorem MemWf.execPendSet (h : MemWf s) {ctl word v} : ResWf (execPendSet ctl word v s) := h.whenB h.modCtl

theorem MemWf.execPendClr (h : MemWf s) {ctl word v} : ResWf (execPendClr ctl word v s) := h.whenB h.modCtl

theorem MemWf.execEnableSet (h : MemWf s) {ctl word v} : ResWf (execEnableSet ctl word v s) := h.whenB h.modCtl

theorem MemWf.execEnableClr (h : MemWf s) {ctl word v} : ResWf (execEnableClr ctl word v s) := h.whenB h.modCtl

theorem MemWf.execStackFaultClear (h : MemWf s) {ctl tgt} : ResWf (execStackFaultClear ctl tgt s) := h.whenB h.modCtl

theorem MemWf.execSrcCfgRead (h : MemWf s) {ctl i} : ResWf (execSrcCfgRead ctl i s) := h.whenB h.emit.modCtl

theorem MemWf.execLinkDown (h : MemWf s) {l} : ResWf (execLinkDown l s) := by
  unfold Machine.execLinkDown
  exact h.whenB (.foldl (fun _ _ k => k.piecesLost) h.setLink.linkCic)

theorem MemWf.execLinkRetrainTimer (h : MemWf s) {l tk} : ResWf (execLinkRetrainTimer l tk s) := by
  unfold Machine.execLinkRetrainTimer
  exact h.whenB h.at_.setLink.linkCic

theorem MemWf.execPresenceChange (h : MemWf s) {l present} : ResWf (execPresenceChange l present s) := h.whenB h.setLink.linkCic

theorem MemWf.execFlStatRead (h : MemWf s) {l} : ResWf (execFlStatRead l s) := h.whenB h.emit.setLink

theorem MemWf.execFlLaneRead (h : MemWf s) {l i} : ResWf (execFlLaneRead l i s) := by
  unfold Machine.execFlLaneRead
  exact h.whenB h.emit.setLink

theorem MemWf.execFabricError (h : MemWf s) {l k} : ResWf (execFabricError l k s) := by
  unfold Machine.execFabricError
  exact h.whenB h.linkCic.error

theorem MemWf.execCxlEventLog (h : MemWf s) {l rid log data addr w} : ResWf (execCxlEventLog l rid log data addr w s) :=
  h.whenB h.attention.emit.linkCic

theorem MemWf.execDcAdd (h : MemWf s) {l rid base len2m w} : ResWf (execDcAdd l rid base len2m w s) := by
  unfold Machine.execDcAdd
  exact h.whenB (MemWf.dcNote (MemWf.emit (h.keep (by rfl))))

theorem MemWf.execLateResponse (h : MemWf s) {l} : ResWf (execLateResponse l s) := h.whenB h.lateOn

theorem MemWf.execHelloTimer (h : MemWf s) {tk} : ResWf (execHelloTimer tk s) := by
  unfold Machine.execHelloTimer
  exact h.whenB (MemWf.emit (h.keep (by rfl)))

theorem MemWf.execHello (h : MemWf s) {msg} : ResWf (execHello msg s) := h.whenB (h.receive (fun _ k => k.heardFrom))

theorem MemWf.execAsk (h : MemWf s) {msg} : ResWf (execAsk msg s) :=
  h.whenB (h.receive (fun _ k => MemWf.cic (k.heardFrom.keep (by rfl))))

theorem MemWf.execLeave (h : MemWf s) {msg} : ResWf (execLeave msg s) := h.whenB (h.receive (fun _ k => k.setPresent))

theorem MemWf.execDomainTimeout (h : MemWf s) {member tk} : ResWf (execDomainTimeout member tk s) := by
  unfold Machine.execDomainTimeout
  extract_lets +onlyGivenNames _ _ _ _ _ s1
  have h1 : MemWf s1 := h.keep (by rfl)
  exact h.whenB h1.setPresent

theorem MemWf.execDomCntRead (h : MemWf s) : ResWf (execDomCntRead s) := h.whenB (h.keep (by rfl))

theorem MemWf.execErrorArrival (h : MemWf s) {atx errs} : ResWf (execErrorArrival atx errs s) :=
  h.whenB (.foldl (fun _ _ k => k.errorIn) h)

theorem MemWf.execErrCntRead (h : MemWf s) {atx} : ResWf (execErrCntRead atx s) := h.whenB h.emit.setCap

theorem MemWf.execPchStatRead (h : MemWf s) {pch} : ResWf (execPchStatRead pch s) := h.whenB h.emit.setPch

theorem MemWf.execRegStaleRead (h : MemWf s) {region} : ResWf (execRegStaleRead region s) := h.whenB (h.keep (by rfl))

theorem MemWf.execPatrolScrub (h : MemWf s) {corrected uncorrectable} : ResWf (execPatrolScrub corrected uncorrectable s) := by
  unfold Machine.execPatrolScrub
  exact h.whenB (.foldl (fun _ _ k => k.errorIn) (.foldl (fun _ _ k => k.errorIn) h))

theorem MemWf.execLodgeScrub (h : MemWf s) {blk} : ResWf (execLodgeScrub blk s) := h.whenB h

theorem MemWf.execStoreComplete (h : MemWf s) : ResWf (execStoreComplete s) := h.whenB h.cic

theorem MemWf.execGetState (h : MemWf s) {carrier} : ResWf (execGetState carrier s) := h.whenB (.ite h.answer h.answer)

theorem MemWf.execSetDebug (h : MemWf s) {carrier level} : ResWf (execSetDebug carrier level s) :=
  h.whenB (h.mgGate (.ite h.leaveLowPower.answer (MemWf.answer (h.leaveLowPower.keep (by rfl)))))

theorem MemWf.execReadLedger (h : MemWf s) {carrier slot n} : ResWf (execReadLedger carrier slot n s) :=
  h.whenB (.ite h.answer h.answer)

theorem MemWf.execNonceExpiry (h : MemWf s) {nonce tk} : ResWf (execNonceExpiry nonce tk s) := h.whenB (h.keep (by rfl))

theorem MemWf.execPldmSensorRead (h : MemWf s) {id} : ResWf (execPldmSensorRead id s) := by
  unfold Machine.execPldmSensorRead
  exact h.whenB h.answer

theorem MemWf.execMctpReassemblyTimeout (h : MemWf s) {tk} : ResWf (execMctpReassemblyTimeout tk s) := h.whenB h.at_.emit

theorem MemWf.execSmbusClockTimeout (h : MemWf s) {tk} : ResWf (execSmbusClockTimeout tk s) := h.whenB h.at_.emit

theorem MemWf.execDapRead (h : MemWf s) {f} : ResWf (execDapRead f s) := h.whenB (.ite h.emit (.ite h.emit h.dapGet))

theorem MemWf.execDapWrite (h : MemWf s) {f} : ResWf (execDapWrite f s) := h.whenB (.ite h.emit (.ite h.emit h.dapPut))

theorem MemWf.execDapStatus (h : MemWf s) {f} : ResWf (execDapStatus f s) := h.whenB (.ite h.emit h.emit)

theorem MemWf.execDapFrameTimeout (h : MemWf s) {tk} : ResWf (execDapFrameTimeout tk s) := h.whenB h.at_.emit

theorem MemWf.execGlideEntry (h : MemWf s) {island tk} : ResWf (execGlideEntry island tk s) := h.whenB (h.keep (by rfl))

theorem MemWf.execGlideExit (h : MemWf s) {island} : ResWf (execGlideExit island s) := h.whenB (h.keep (by rfl))

theorem MemWf.execCoastEntry (h : MemWf s) {tk} : ResWf (execCoastEntry tk s) := by
  unfold Machine.execCoastEntry
  exact h.whenB (.ite (h.keep (by rfl)) h.at_.enterPower)

theorem MemWf.execParkEntry (h : MemWf s) {tk} : ResWf (execParkEntry tk s) := by
  unfold Machine.execParkEntry
  exact h.whenB (.ite (h.keep (by rfl)) h.at_.enterPower)

theorem MemWf.execCoastParkExit (h : MemWf s) {why} : ResWf (execCoastParkExit why s) := h.whenB h.leaveLowPower

theorem MemWf.execPwrStatRead (h : MemWf s) : ResWf (execPwrStatRead s) := h.whenB (h.keep (by rfl))

theorem MemWf.execColdReset (h : MemWf s) {why} : ResWf (execColdReset why s) := h.whenB h.tearStage.coldState

theorem MemWf.execWarmResetRelease (h : MemWf s) {st} : ResWf (execWarmResetRelease st s) :=
  h.whenB (MemWf.publishHealth (MemWf.boot (h.keep (by rfl))))

theorem MemWf.execPowerOrderBreach (h : MemWf s) {rail} : ResWf (execPowerOrderBreach rail s) := h.whenB (h.keep (by rfl))

theorem MemWf.execRailSample (h : MemWf s) {rail mv} : ResWf (execRailSample rail mv s) := by
  unfold Machine.execRailSample
  exact h.whenB (.ite (MemWf.cic (h.keep (by rfl))) (h.keep (by rfl)))

theorem MemWf.execRailUndervoltage (h : MemWf s) {rail} : ResWf (execRailUndervoltage rail s) := h.whenB h.error

theorem MemWf.execRailMonRead (h : MemWf s) {rail} : ResWf (execRailMonRead rail s) := h.whenB (h.keep (by rfl))

theorem MemWf.execAvsRetry (h : MemWf s) {tk} : ResWf (execAvsRetry tk s) := by
  unfold Machine.execAvsRetry
  exact h.whenB h.at_.avsRequest

theorem MemWf.execRefclkLoss (h : MemWf s) : ResWf (execRefclkLoss s) := h.whenB (MemWf.error (h.keep (by rfl)))

theorem MemWf.execMclkLoss (h : MemWf s) : ResWf (execMclkLoss s) := h.whenB (h.keep (by rfl))

theorem MemWf.execMclkRestore (h : MemWf s) : ResWf (execMclkRestore s) := h.whenB (h.keep (by rfl))

theorem MemWf.execTempWarning (h : MemWf s) {i eighths} : ResWf (execTempWarning i eighths s) := by
  unfold Machine.execTempWarning
  exact h.whenB (.ite (h.keep (by rfl)) (MemWf.cic (h.keep (by rfl))))

theorem MemWf.execTempHard (h : MemWf s) {i eighths} : ResWf (execTempHard i eighths s) := h.whenB (h.keep (by rfl))

theorem MemWf.execThermtrip (h : MemWf s) {i eighths} : ResWf (execThermtrip i eighths s) := by
  unfold Machine.execThermtrip
  exact h.whenB (MemWf.error (MemWf.emit (h.keep (by rfl))))

theorem MemWf.execTempRead (h : MemWf s) {i} : ResWf (execTempRead i s) := h.whenB (h.keep (by rfl))

theorem MemWf.execTempThresholdClear (h : MemWf s) {i hard eighths} : ResWf (execTempThresholdClear i hard eighths s) := by
  unfold Machine.execTempThresholdClear
  exact h.whenB (.ite (h.keep (by rfl)) (h.keep (by rfl)))

theorem MemWf.execTdispStartInterface (h : MemWf s) {fn} : ResWf (execTdispStartInterface fn s) :=
  h.whenB (.ite h.cic.answer h.cic.modFn.answer)

theorem MemWf.execSpdmSessionEnd (h : MemWf s) {session} : ResWf (execSpdmSessionEnd session s) := h.whenB (h.keep (by rfl))

theorem MemWf.execVfEnableClear (h : MemWf s) : ResWf (execVfEnableClear s) := by
  unfold Machine.execVfEnableClear
  have h1 := h.resetVfs
  generalize s.resetVfs = v at h1 ⊢
  exact h.config (h1.keep (by rfl))

theorem MemWf.execGetMeasurements (h : MemWf s) {session signed} : ResWf (execGetMeasurements session signed s) := by
  unfold Machine.execGetMeasurements
  extract_lets s1
  have h1 : MemWf s1 := h.cic
  exact h.whenB (.ite h1.answer (.ite (MemWf.answer (h1.keep (by rfl))) h1.answer))

theorem MemWf.execGetCertificate (h : MemWf s) {session slot} : ResWf (execGetCertificate session slot s) := by
  unfold Machine.execGetCertificate
  extract_lets s1
  have h1 : MemWf s1 := h.cic
  exact h.whenB (.ite h1.answer (.ite h1.answer (MemWf.answer (h1.keep (by rfl)))))

theorem MemWf.execChallenge (h : MemWf s) {session slot} : ResWf (execChallenge session slot s) := by
  unfold Machine.execChallenge
  extract_lets s1
  have h1 : MemWf s1 := h.cic
  exact h.whenB (.ite h1.answer (.ite h1.answer (MemWf.answer (h1.keep (by rfl)))))

theorem MemWf.execKeyExchange (h : MemWf s) {session mgmt} : ResWf (execKeyExchange session mgmt s) := by
  unfold Machine.execKeyExchange
  extract_lets s1
  have h1 : MemWf s1 := h.cic
  exact h.whenB (.ite h1.answer (.ite h1.answer (MemWf.answer (h1.keep (by rfl)))))

theorem MemWf.exec (h : MemWf s) {i} : ResWf (exec i s) := by
  cases i with
  | start => exact h.execStart
  | resume => exact h.execResume
  | halt => exact h.haltWith
  | haltSuspend => exact h.haltWith
  | clear => exact h.execClear
  | sense => exact h.execSense
  | wrap => exact h.execWrap
  | entryNop => exact h.execEntryNop
  | queuePoll => exact h.execQueuePoll
  | pollReadComplete => exact h.execPollReadComplete
  | entryReadComplete => exact h.execEntryReadComplete
  | freezeFinish => exact h.execFreezeFinish
  | dispatchTurn => exact h.execDispatchTurn
  | lodgeFillComplete => exact h.execLodgeFillComplete
  | demandFetchComplete => exact h.execDemandFetchComplete
  | readAheadComplete => exact h.execReadAheadComplete
  | descriptorReadComplete => exact h.execDescriptorReadComplete
  | move => exact h.execMove
  | fill => exact h.execFill
  | compare => exact h.execCompare
  | digest => exact h.execDigest
  | sieve => exact h.execSieve
  | sieveMap => exact h.execSieveMap
  | shred => exact h.execShred
  | weave => exact h.execWeave
  | slice => exact h.execSlice
  | unslice => exact h.execUnslice
  | fold => exact h.execFold
  | atomicCas => exact h.execAtomicCas
  | atomicFetchAdd => exact h.execAtomicFetchAdd
  | atomicSwap => exact h.execAtomicSwap
  | nvmRead => exact h.nvmRow (fun _ => (MemWf.foldl (fun _ _ k => k.issuePiece) h).nvmWaits)
  | nvmWrite => exact h.nvmRow (fun _ => h.nvmWriteAct)
  | nvmWriteFua => exact h.nvmRow (fun _ => h.nvmWriteAct)
  | nvmFlush => exact h.nvmRow (fun _ => h.issuePiece.nvmWaits)
  | nvmDeallocate => exact h.nvmRow (fun _ => (MemWf.foldl (fun _ _ k => k.issuePiece) h).nvmWaits)
  | nvmPass => exact h.execNvmPass
  | jump => exact h.execJump
  | call => exact h.execCall
  | ret => exact h.execRet
  | wait => exact h.execWait
  | waitTimeout => exact h.execWaitTimeout
  | signal _ w => exact h.execSignal (w := w)
  | post => exact h.execPost
  | fence => exact h.execFence
  | finish _ w => exact h.execFinish (w := w)
  | finishComplete => exact h.execFinishComplete
  | epoch => exact h.execEpoch
  | nop => exact h.execNop
  | createQueue => exact h.admin (fun _ => h.createQueueAct)
  | setQueueInterval => exact h.admin (fun _ => h.setQueueIntervalAct)
  | destroyQueue => exact h.admin (fun _ => h.destroyQueueAct)
  | createStatusRing => exact h.admin (fun _ => h.createStatusRingAct)
  | destroyStatusRing => exact h.admin (fun _ => h.destroyStatusRingAct)
  | allotContexts => exact h.admin (fun _ => h.allotContextsAct)
  | releaseContexts => exact h.admin (fun _ => h.releaseContextsAct)
  | pinContext => exact h.admin (fun _ => h.pinContextAct)
  | unpinContext => exact h.admin (fun _ => h.unpinContextAct)
  | setBudget => exact h.admin (fun _ => h.setBudgetAct)
  | setKeys => exact h.admin (fun _ => h.setKeysAct)
  | queryContext => exact h.admin (fun _ => h.queryContextAct)
  | loadSieve => exact h.admin (fun _ => h.loadSieveAct)
  | unloadSieve => exact h.admin (fun _ => h.unloadSieveAct)
  | unloadSieveComplete => exact h.execUnloadSieveComplete
  | setExtent => exact h.admin (fun _ => h.setExtentAct)
  | writeFtt => exact h.admin (fun _ => h.writeFttAct)
  | setInterleave => exact h.admin (fun _ => h.setInterleaveAct)
  | setFarTimeout => exact h.admin (fun _ => h.setFarTimeoutAct)
  | grantEvents => exact h.admin (fun _ => h.grantEventsAct)
  | revokeEvents => exact h.admin (fun _ => h.revokeEventsAct)
  | bindEvent => exact h.admin (fun _ => h.bindEventAct)
  | unbindEvent => exact h.admin (fun _ => h.unbindEventAct)
  | setModeration => exact h.admin (fun _ => h.setModerationAct)
  | setVfVectors => exact h.admin (fun _ => h.setVfVectorsAct)
  | resetVf => exact h.admin (fun _ => h.resetVfAct)
  | attachNamespace => exact h.admin (fun _ => h.attachNamespaceAct)
  | detachNamespace => exact h.admin (fun _ => h.detachNamespaceAct)
  | detachNamespaceComplete => exact h.execDetachNamespaceComplete
  | setNvmPolicy => exact h.admin (fun _ => h.setNvmPolicyAct)
  | setDomain => exact h.admin (fun _ => h.setDomainAct)
  | identify => exact h.admin (fun _ => h.identifyAct)
  | getHealth => exact h.execGetHealth
  | fwStage => exact h.admin (fun _ => h.fwStageAct)
  | fwCommit => exact h.admin (fun _ => h.fwCommitAct)
  | aqCreate => exact h.execAqCreate
  | srHeadWrite => exact h.execSrHeadWrite
  | registerWrite => exact h.execRegisterWrite
  | lmwAccess => exact h.execLmwAccess
  | lmwDeniedRead => exact h.barAccess h.hostLoad.emit
  | barResize => exact h.config h.modFn
  | flr => exact h.config (.ite h h.beginFlr)
  | vfEnableClear => exact h.execVfEnableClear
  | vfEnableSet => exact h.config (h.keep (by rfl))
  | dStateChange => exact h.execDStateChange
  | busMasterEnableChange => exact h.execBusMasterEnableChange
  | msixMaskClear => exact h.execMsixMaskClear
  | pmeStatusClear => exact h.config (.ite h.emit h.setFn)
  | pmeTimeout => exact h.execPmeTimeout
  | moderationHoldoffExpiry => exact h.execModerationHoldoffExpiry
  | hostCompletionTimeout => exact h.execHostCompletionTimeout
  | hostCompletion => exact h.execHostCompletion
  | atsInvalidate => exact h.execAtsInvalidate
  | tdispLockInterface => exact h.execTdispLockInterface
  | tdispStopInterface => exact h.execTdispStopInterface
  | tdiError => exact h.execTdiError
  | getMeasurements => exact h.execGetMeasurements
  | getCertificate => exact h.execGetCertificate
  | challenge => exact h.execChallenge
  | keyExchange => exact h.execKeyExchange
  | descriptorNotice => exact h.execDescriptorNotice
  | moverUnitStart => exact h.execMoverUnitStart
  | copy | deal | merge | planes | unplanes | descFill | descRead => exact h.ringRow
  | bindChan => exact h.execBindChan
  | stopChan => exact h.execStopChan
  | cutChan => exact h.execCutChan
  | abortChan => exact h.execAbortChan
  | moverReadResponse => exact h.execMoverReadResponse
  | readBackComplete => exact h.execReadBackComplete
  | rcStart => exact h.execRcStart
  | rcStop => exact h.execRcStop
  | rcTransferEnd => exact h.execRcTransferEnd
  | rchStatRead => exact h.execRchStatRead
  | fifoItemWrite => exact h.execFifoItemWrite
  | fifoItemRead => exact h.execFifoItemRead
  | fifoPointerMismatch => exact h.execFifoPointerMismatch
  | fhStatRead => exact h.execFhStatRead
  | sieveInit => exact h.execSieveInit
  | recordPresent => exact h.execRecordPresent
  | svBudgetTrap => exact h.execSvBudgetTrap
  | imageLoadComplete => exact h.execImageLoadComplete
  | mapEntryReadComplete => exact h.execMapEntryReadComplete
  | fttWalkComplete => exact h.execFttWalkComplete
  | loadBalanceSample => exact h.execLoadBalanceSample
  | migrationPoint => exact h.execMigrationPoint
  | migrationArrival => exact h.execMigrationArrival
  | substitutionTimeout => exact h.execSubstitutionTimeout
  | substitutionEnd => exact h.execSubstitutionEnd
  | pcJump | pcCall | pcRet | pcRti | flgNzcv | flgTest | trapSoft | ctlWait | tagGet | tagSet | lsuLoad | lsuStore | bndCheck
  | dsPush | dsPop | retPush | retPop | retBottom | retTFill | winOpen | winClose | aluAdd | aluSub | aluCmp | aluNeg | aluAnd
  | aluOr | aluXor | aluNot | aluShl | aluShr | aluSar | aluRol | aluRor | aluMulu | aluMuls | aluDivu | aluDivs | aluSeq
  | aluSltu | aluSlts | yqPortWrite | evqPop | irqClaimPort | mbxPop | emtPut => exact h.wordRow
  | resultLand => exact h.execResultLand
  | interruptEntry => exact h.execInterruptEntry
  | sleepDeadline => exact h.execSleepDeadline
  | coreWake => exact h.execCoreWake
  | cellBootGo => exact h.execCellBootGo
  | ctxRead | ctxWrite | cmdDecode | fchFetch | dscPost | bevFire | evrSubscribe | evrClear | evrFire | tmrArm | tmrCancel
  | fhFlush | irqDonePort | mbxSend | lockAcquire | lockRelease | recWord | wcmpEq | rngU | rngS | hshMix | hshFin | emtCopy
  | vrdVerdict | vrdReady | a7Fetch | a7Keep | a7Drop | a7Crc => exact h.kindRow
  | eventFiringArrival => exact h.execEventFiringArrival
  | vectorFiringArrival => exact h.execVectorFiringArrival
  | consumerDelivery => exact h.execConsumerDelivery
  | blkEvtFire => exact h.execBlkEvtFire
  | gtTimerExpiry => exact h.execGtTimerExpiry
  | flagClear => exact h.execFlagClear
  | evtBindWrite => exact h.execEvtBindWrite
  | evtChRead => exact h.execEvtChRead
  | evtCtlRead => exact h.execEvtCtlRead
  | sourceEdge => exact h.execSourceEdge
  | groupHoldoffExpiry => exact h.execGroupHoldoffExpiry
  | stuckSource => exact h.execStuckSource
  | claimRead => exact h.execClaimRead
  | doneWrite => exact h.execDoneWrite
  | pendSet => exact h.execPendSet
  | pendClr => exact h.execPendClr
  | enableSet => exact h.execEnableSet
  | enableClr => exact h.execEnableClr
  | stackFaultClear => exact h.execStackFaultClear
  | srcCfgRead => exact h.execSrcCfgRead
  | linkUp => exact h.execLinkUp
  | linkDown => exact h.execLinkDown
  | linkRetrainTimer => exact h.execLinkRetrainTimer
  | presenceChange => exact h.execPresenceChange
  | flStatRead => exact h.execFlStatRead
  | flLaneRead => exact h.execFlLaneRead
  | fabricError => exact h.execFabricError
  | farResponse => exact h.execFarResponse
  | cxlEventLog => exact h.execCxlEventLog
  | dcAdd => exact h.execDcAdd
  | dcReleaseRequest => exact h.execDcReleaseRequest
  | dcForcedRelease => exact h.execDcForcedRelease
  | nvmeAsyncEvent => exact h.execNvmeAsyncEvent
  | nvmeCompletion => exact h.execNvmeCompletion
  | nvmeControllerFail => exact h.execNvmeControllerFail
  | downstreamTimeout => exact h.execDownstreamTimeout
  | lateResponse => exact h.execLateResponse
  | helloTimer => exact h.execHelloTimer
  | hello => exact h.execHello
  | ask => exact h.execAsk
  | askReplySend => exact h.execAskReplySend
  | reply => exact h.execReply
  | leave => exact h.execLeave
  | domainTimeout => exact h.execDomainTimeout
  | domCntRead => exact h.execDomCntRead
  | errorArrival => exact h.execErrorArrival
  | errAck => exact h.execErrAck
  | errCntRead => exact h.execErrCntRead
  | rowRepair => exact h.execRowRepair
  | pchRetirement => exact h.execPchRetirement
  | pchStatRead => exact h.execPchStatRead
  | regStaleRead => exact h.execRegStaleRead
  | patrolScrub => exact h.execPatrolScrub
  | lodgeScrub => exact h.execLodgeScrub
  | agingMeasurement => exact h.execAgingMeasurement
  | ledgerRetry => exact h.execLedgerRetry
  | storeComplete => exact h.execStoreComplete
  | storeRetry => exact h.execStoreRetry
  | getState => exact h.execGetState
  | setDebug => exact h.execSetDebug
  | provision => exact h.execProvision
  | installCert => exact h.execInstallCert
  | lockDevice => exact h.execLockDevice
  | readLedger => exact h.execReadLedger
  | unlockChallenge => exact h.execUnlockChallenge
  | unlockResponse => exact h.execUnlockResponse
  | retire => exact h.execRetire
  | zeroisation => exact h.execZeroisation
  | nonceExpiry => exact h.execNonceExpiry
  | pldmFirmwareUpdate => exact h.execPldmFirmwareUpdate
  | pldmSensorRead => exact h.execPldmSensorRead
  | mctpReassemblyTimeout => exact h.execMctpReassemblyTimeout
  | smbusClockTimeout => exact h.execSmbusClockTimeout
  | dapRead => exact h.execDapRead
  | dapWrite => exact h.execDapWrite
  | dapStatus => exact h.execDapStatus
  | dapFrameTimeout => exact h.execDapFrameTimeout
  | idcode => exact .next (MemWf.emit (h.keep (by rfl)))
  | bypass | samplePreload | internalScan | memoryBist | testLogicReset => exact .next (h.keep (by rfl))
  | extest => exact .next h.pinTest
  | clamp => exact .next h.pinTest
  | highz => exact .next h.pinTest
  | glideEntry => exact h.execGlideEntry
  | glideExit => exact h.execGlideExit
  | coastEntry => exact h.execCoastEntry
  | parkEntry => exact h.execParkEntry
  | coastParkExit => exact h.execCoastParkExit
  | pwrStatRead => exact h.execPwrStatRead
  | coldReset => exact h.execColdReset
  | coldResetRelease => exact h.execColdResetRelease
  | warmReset => exact .next (.ite h h.warmState)
  | warmResetRelease => exact h.execWarmResetRelease
  | powerOrderBreach => exact h.execPowerOrderBreach
  | railSample => exact h.execRailSample
  | railUndervoltage => exact h.execRailUndervoltage
  | railMonRead => exact h.execRailMonRead
  | avsReadback => exact h.execAvsReadback
  | avsRetry => exact h.execAvsRetry
  | refclkLoss => exact h.execRefclkLoss
  | mclkLoss => exact h.execMclkLoss
  | mclkRestore => exact h.execMclkRestore
  | tempWarning => exact h.execTempWarning
  | tempHard => exact h.execTempHard
  | thermtrip => exact h.execThermtrip
  | tempRead => exact h.execTempRead
  | tempThresholdClear => exact h.execTempThresholdClear
  | tdispStartInterface => exact h.execTdispStartInterface
  | spdmSessionEnd => exact h.execSpdmSessionEnd
  | nvmeControllerReady => exact h.execNvmeControllerReady
  | localWriteAcknowledged => exact h.execLocalWriteAcknowledged

theorem MemWf.tick (h : MemWf s) : MemWf s.tick := h.at_.endResets.adminDue

theorem MemWf.step (h : MemWf s) : ResWf (step s) := by
  unfold Machine.step
  split
  · exact .next h.tick
  · exact MemWf.exec (h.keep (by rfl))

/-- Settles O5: each operation of the state keeps the canonical form, so each command does, and so does a tick. -/
theorem stepKeepsByteMapsCanonical : Obligations.StepKeepsByteMapsCanonical := by
  unfold Obligations.StepKeepsByteMapsCanonical
  intro s t hs ran
  exact memWf_iff.mpr ((memWf_iff.mp hs).step.of_next ran)

end

end Sys2Proof.Laws
end
